-- ==== Sys2Proof/Word.lean ====
section
/-! DEFINITION. The word types of the block: bytes, register words, lines of 64 bytes, tags and keys. -/

namespace Sys2Proof

/-- One byte. -/
abbrev Byte := BitVec 8

/-- A 64-byte line (00_scope.md, fixed terms; little-endian: byte `i` is bits `8i+7 : 8i`). -/
abbrev Line := BitVec 512

/-- The 56-bit line tag (R190). -/
abbrev Tag := BitVec 56

/-- One AES block or a 16-byte nonce, handle response or CMAC value (R190, R276). -/
abbrev Block128 := BitVec 128

/-- A 256-bit key, or a 32-byte passphrase or password (R186, R282, R402). -/
abbrev Key := BitVec 256

end Sys2Proof
end

