-- ==== Sys2Proof/Syntax.lean ====
section
/-! DEFINITION. The syntax of the block's commands: one constructor per row of the opcode table, with the operands the
chapters give it. A row that is an internal happening carries the facts the device meets there (log 8). -/

namespace Sys2Proof

/-- How a request names its line: by device physical address, or by a host address that the LD's HDM decoders map
(R243, R245). -/
inductive Addr where
  | dpa (a : Nat)
  | hpa (a : Nat)
  deriving DecidableEq, Repr

/-- Mailbox instances (Table 11-1): the primary mailbox of an LD, the fabric manager's switch path 0x0100 and its I3C
path 0x0101. -/
inductive Inst where
  | ld (n : Fin 16)
  | fm
  | i3c
  deriving DecidableEq, Repr

/-- What every mailbox command carries besides its fields: the instance it comes by and the length of its input payload
in bytes (R281). -/
structure Req where
  inst : Inst
  len : Nat
  deriving DecidableEq, Repr

/-- What sensing and decoding a slot gave, recovery of R83 included. `good bits`: correction passed with that many bit
errors. `otherCopy`: the other Shallows copy at its predicted references. `stepped k`: a stepped retry at `k` reference
steps. `reconstructed`: from the row (R82, R217). `altered`: correction passed, but the media returned other content
(Table 08-1). `mismatch`: LINE or SEQ_LO differ from the index record (R78). `tree`: the
counter line of the line's page fails its node tag at that level (R200). `lost`: every attempt failed (R85). -/
inductive Sense where
  | good (bits : Nat)
  | otherCopy
  | stepped (k : Int)
  | reconstructed
  | altered (data : Line) (tag : Tag)
  | mismatch
  | tree (level : Nat)
  | lost
  deriving DecidableEq, Repr

/-- One access to package DRAM (R325, R326): correct at once, decoded with one stack located, or its content lost. -/
inductive DramAccess where
  | ok
  | located (stack : Fin 5)
  | lost
  deriving DecidableEq, Repr

/-- A Peat segment: stripe set, lane and segment number (R97). -/
structure SegKey where
  set : Fin 4
  lane : Fin 16
  seg : Nat
  deriving DecidableEq, Repr

/-- A band of a segment, 0 to 6 (R97). -/
structure BandKey where
  seg : SegKey
  band : Nat
  deriving DecidableEq, Repr

/-- The block of a segment at one channel position of the set (R97). -/
structure BlockKey where
  seg : SegKey
  pos : Fin 16
  deriving DecidableEq, Repr

/-- A media die: channel and die index, which is its lane (R428). -/
structure DieKey where
  chan : Fin 64
  die : Fin 16
  deriving DecidableEq, Repr

/-- A pilot report (R139): whether the first and the repeated read passed their CRC, and the best position measured for each of the seven
references, in 1/16 of the level spacing, for the oldest and for the newest programmed group. -/
structure PilotReport where
  crcOk : Bool
  repeatOk : Bool
  oldest : List Int
  newest : List Int
  deriving DecidableEq, Repr

/-- What a slot's sense gave for a line. -/
structure LineSense where
  line : Nat
  sense : Sense
  deriving DecidableEq, Repr

/-- What the reads of a fold found: gathered lines that were lost (R113), and slots of the granule's own frame that failed correction (R83). -/
structure FoldSense where
  lost : List Nat
  found : List LineSense
  deriving DecidableEq, Repr

/-- Bits corrected and bits read in the slots of one band's unit of a block (R145). -/
structure BandBits where
  band : Nat
  corrected : Nat
  read : Nat
  deriving DecidableEq, Repr

/-- What the patrol found in one block of the segment it visits (R145): its pilot report, the bits of each band, the lines that failed
correction at predicted references and how they were recovered, those that failed their tag check, and those that could not be
recovered. -/
structure VisitResult where
  pos : Fin 16
  pilot : PilotReport
  bits : List BandBits
  recovered : List LineSense
  tagFail : List Nat
  lost : List Nat
  deriving DecidableEq, Repr

/-- What a scrub read of a line (R153): corrected bits of each Shallows copy where its newest version lies there, else the sense of its Peat
slot. -/
structure LineFound where
  line : Nat
  bits0 : Option Nat
  bits1 : Option Nat
  slot : Sense
  deriving DecidableEq, Repr

/-- The patrol's read of one Shallows entry (R148): corrected bits of each copy, `none` where correction failed. -/
structure CopyRead where
  pair : Nat
  slot : Nat
  bits0 : Option Nat
  bits1 : Option Nat
  deriving DecidableEq, Repr

/-- Counts of a scrub (R153, Table 06-10); whether lines were skipped. -/
structure ScrubCounts where
  checked : Nat
  corrected : Nat
  refreshed : Nat
  reconstructed : Nat
  uncorrectable : Nat
  prior : Nat
  skipped : Bool
  deriving DecidableEq, Repr

/-- A range of device physical addresses in bytes. -/
structure Range where
  base : Nat
  len : Nat
  deriving DecidableEq, Repr

/-- What a fault indication names (Table 09-1). -/
inductive FUnit where
  | channel (c : Fin 64)
  | die (d : DieKey)
  | tile (d : DieKey) (t : Fin 8)
  | stack (k : Fin 5)
  deriving DecidableEq, Repr

/-- The rows of Table 09-2, counted from 1. -/
inductive FaultRow where
  | phyLock
  | fatal
  | timeout
  | dram
  deriving DecidableEq, Repr

/-- How a port's training ended (R239 to R241): CXL at a width, behind a switch or on a root port; PCIe only, with its
highest rate in GT/s; or no link. -/
inductive TrainResult where
  | cxl (toSwitch : Bool) (width : Nat)
  | pcieOnly (rate : Nat)
  | failed
  deriving DecidableEq, Repr

/-- What the host programs into an HDM decoder before its commit bit (R245). -/
structure DecoderCfg where
  base : Nat
  size : Nat
  ways : Nat
  gran : Nat
  skip : Nat
  deriving DecidableEq, Repr

/-- A firmware image as the checks of R336 see it: the header fields and which of the checks on its header, key,
signature and code hold. -/
structure Image where
  version : BitVec 64
  svn : Nat
  proto : Nat
  fmtLvl : Nat
  keyIndex : Fin 4
  headerOk : Bool
  keyOk : Bool
  sigOk : Bool
  hashOk : Bool
  deriving DecidableEq, Repr

/-- Whether the two computations of a MAC request agree (R340) and, if not, whether the known-answer test passes. -/
inductive MacFault where
  | agree
  | mismatch (katOk : Bool)
  deriving DecidableEq, Repr

/-- The patrol parameters of Set Patrol Parameters but for the bus share (Table 11-7, 0xC710). -/
structure PatrolInput where
  t0 : Nat
  t1 : Nat
  t2 : Nat
  t3 : Nat
  threshold : Nat
  ageLog : Nat
  disturbLog : Nat
  deriving DecidableEq, Repr

/-- The patrol parameters (Table 06-5). -/
structure PatrolParams extends PatrolInput where
  busShare : Nat
  deriving DecidableEq, Repr

/-- The fields of one sample (Table 12-10). -/
structure Sample where
  dpa : Nat
  ld : Fin 16
  op : Nat
  path : Nat
  win : Bool
  pilot : Bool
  fence : Bool
  retries : Nat
  lat : Nat
  seq : Nat
  chan : Nat
  tarr : Nat
  deriving DecidableEq, Repr

/-- Where a data-die SRAM parity error lies (Tables 13-8 and 13-9). -/
inductive Parity where
  | coreSram (core : Fin 12)
  | secureBank (entry : Nat)
  | scratchpad (bank : Fin 17)
  | validBitmap
  | predictor
  | hwRing
  | notif (ring : Option (Fin 17))
  | pmonCounter (n : Fin 64)
  | sampleBank (bank : Fin 2) (rec : Nat)
  | writeData (seq : Nat)
  | readData (id : Nat)
  | other
  deriving DecidableEq, Repr

/-- The header of a received lode message (Table 15-3) with the port it came by and whether its tag holds (R214). -/
structure LodeHdr where
  port : Fin 4
  tether : Fin 8
  seq : Nat
  level : Nat
  tagOk : Bool
  deriving DecidableEq, Repr

/-- A tether entry of HELLO (Table 15-4). -/
structure TetherEntry where
  partner : Nat
  epoch : Nat
  configured : Bool
  replica : Bool
  hasData : Bool
  full : Bool
  part : Bool
  units : Nat
  deriving DecidableEq, Repr

/-- The payload of HELLO (Table 15-4); `keysMatch`: whether the first message under the derived keys passes its tag
(R357). -/
structure HelloMsg where
  pool : BitVec 64
  member : Nat
  proto : Nat
  fmt : Nat
  nonce : Block128
  entries : List TetherEntry
  keysMatch : Bool
  deriving DecidableEq, Repr

/-- One entry of LEVEL (Table 15-4). -/
structure MemberLevel where
  member : Nat
  proto : Nat
  fmt : Nat
  deriving DecidableEq, Repr

/-- The security counters of Table 16-15. -/
inductive SecCounter where
  | antiRollback
  | macUsage (slot : Fin 16)
  | sealEpoch
  | sealNumber
  | seqEpoch
  | eventBlock
  deriving DecidableEq, Repr

/-- A bad record that mount finds in the counter partition (R400, R401): the security counter its header names, or
`none` where the header names another item; `decodes`: whether the header decodes. -/
structure BadRecord where
  counter : Option SecCounter
  decodes : Bool
  deriving DecidableEq, Repr

/-- A package found by training (R437, R438): its place, whether every check but the grade's holds, part, revision and
serial number. -/
structure PackageFound where
  chan : Fin 64
  cs : Fin 4
  valid : Bool
  part : Nat
  rev : Nat
  serial : Nat
  deriving DecidableEq, Repr

/-- A sensor: controller class by its index of Table 18-1, 0 to 22, or a media die; `rest` is every sensor of the class that the same
measurement does not name. -/
inductive SensorId where
  | ctl (i : Fin 23)
  | media (d : DieKey)
  | rest (media : Bool)
  deriving DecidableEq, Repr

/-- One measurement: tenths of a degree Celsius, or no valid reading. -/
structure Reading where
  sensor : SensorId
  temp : Option Int
  deriving DecidableEq, Repr

/-- What replay reads of one Shallows entry after a power loss (R36, Table 02-5): which copies verify, whether the second
was ever programmed, which header fields decode with confidence, and the counter that its tag matches (R202). -/
structure ReplayEntry where
  set : Fin 4
  pair : Nat
  slot : Nat
  ok0 : Bool
  ok1 : Bool
  programmed1 : Bool
  dpaV : Bool
  seqV : Bool
  ldV : Bool
  counterFound : Bool
  deriving DecidableEq, Repr

/-- What replay finds (R410): the entries whose copies it could not take as they stand, the groups whose commit record has at least one
verified copy (R179), the groups whose partner holds a verified commit record (R183), tethers whose partner could not be reached, and its duration. -/
structure ReplayResult where
  entries : List ReplayEntry
  commitHas : List (Fin 16 × Fin 64)
  partnerHas : List (Fin 16 × Fin 64)
  unreached : List (Fin 8)
  ticks : Nat
  deriving DecidableEq, Repr

/-- The commands of the block: one constructor per row of spec/opcode_table.json, in the table's order, with UNSUPPORTED_OPCODE beside the
other mailbox commands. -/
inductive Instr where
  /-- SET_OPERATING_POINT (R16). -/
  | setOperatingPoint (r : Req) (point : Nat)
  /-- OPERATING_POINT_REACHED (R16). -/
  | operatingPointReached
  /-- AUTONOMOUS_FOLD (R18). -/
  | autonomousFold (set : Fin 4)
  /-- MEM_WR (R45). -/
  | memWr (ld : Fin 16) (addr : Addr) (data : Line) (poison : Bool)
  /-- MEM_WR_PTL (R50). -/
  | memWrPtl (ld : Fin 16) (addr : Addr) (be : BitVec 64) (data : Line) (poison : Bool)
  /-- WRITE_ADMISSION (R48). -/
  | writeAdmission
  /-- MERGE_READ_COMPLETE (R50). -/
  | mergeReadComplete (seq : Nat) (sense : Sense)
  /-- SEQUENCE_COUNTER_WRAP (R189). -/
  | sequenceCounterWrap
  /-- SEQ_AGE_FOLD (R46). -/
  | seqAgeFold
  /-- SLOT_ALLOCATION (R54). -/
  | slotAllocation
  /-- SHALLOWS_PLACEMENT_VERIFIED (R57). -/
  | shallowsPlacementVerified (seq : Nat) (ok0 : Bool) (ok1 : Bool)
  /-- INDEX_UPDATE (R58). -/
  | indexUpdate
  /-- NDR_RETURN (R67). -/
  | ndrReturn
  /-- MEM_RD (R70). -/
  | memRd (ld : Fin 16) (addr : Addr)
  /-- MEM_RD_DATA (R70). -/
  | memRdData (ld : Fin 16) (addr : Addr)
  /-- MEM_SPEC_RD (R242). -/
  | memSpecRd (ld : Fin 16) (addr : Addr)
  /-- MEM_INV (R466). -/
  | memInv (ld : Fin 16) (addr : Addr)
  /-- MEM_INV_NT (R466). -/
  | memInvNt (ld : Fin 16) (addr : Addr)
  /-- DETECTOR_TIMEOUT (R90). -/
  | detectorTimeout (ld : Fin 16) (line : Nat)
  /-- LOOKUP_SETTLED (R73). -/
  | lookupSettled (id : Nat) (dram : DramAccess)
  /-- SLOT_SENSE_COMPLETE (R82). -/
  | slotSenseComplete (id : Nat) (sense : Sense) (crcFails : Nat)
  /-- READ_CUTOFF (R86). -/
  | readCutoff (id : Nat)
  /-- SLOW_SENSE_RECONSTRUCT (R219). -/
  | slowSenseReconstruct (id : Nat)
  /-- FOLD_ORDER (R115). -/
  | foldOrder (set : Fin 4) (granule : Nat) (lane : Fin 16)
  /-- FOLD_GATHER (R110). -/
  | foldGather (set : Fin 4)
  /-- FOLD_READS_COMPLETE (R110). -/
  | foldReadsComplete (id : Nat) (lost : FoldSense)
  /-- BAND_FILL_TIMEOUT (R114). -/
  | bandFillTimeout (band : BandKey)
  /-- OPEN_SEGMENT_FORCE_CLOSE (R136). -/
  | openSegmentForceClose (seg : SegKey)
  /-- BAND_PROGRAM_COMPLETE (R110). -/
  | bandProgramComplete (band : BandKey) (failed : List Nat) (retried : Bool)
  /-- BAND_COMMIT_VERIFIED (R110). -/
  | bandCommitVerified (band : BandKey)
  /-- SLOT_RELEASE (R195). -/
  | slotRelease
  /-- CHECKPOINT_PIECE_WRITE (R109). -/
  | checkpointPieceWrite (piece : Nat)
  /-- COPY_ORDER (R119). -/
  | copyOrder (seg : SegKey)
  /-- WEAR_LEVEL_COPY (R121). -/
  | wearLevelCopy (set : Fin 4) (lane : Fin 16)
  /-- SEGMENT_RESET (R80). -/
  | segmentReset (seg : SegKey)
  /-- SEGMENT_RESET_COMPLETE (R117). -/
  | segmentResetComplete (seg : SegKey) (failed : List Nat)
  /-- HOTSPOT_DETECT (R127). -/
  | hotspotDetect (chan : Fin 64) (ticksOver : Nat) (progQ : Nat) (readQ : Nat)
  /-- DRIFT_EPOCH_END (R133). -/
  | driftEpochEnd
  /-- PILOT_READ_COMPLETE (R140). -/
  | pilotReadComplete (blk : BlockKey) (report : PilotReport)
  /-- GAP_ESTIMATE (R143). -/
  | gapEstimate (die : DieKey)
  /-- PATROL_VISIT (R145). -/
  | patrolVisit (seg : SegKey) (visit : List VisitResult)
  /-- SHALLOWS_PATROL (R148). -/
  | shallowsPatrol (set : Fin 4) (reads : List CopyRead)
  /-- READ_DISTURB_VISIT (R149). -/
  | readDisturbVisit (seg : SegKey)
  /-- WARM_UP_SWEEP_END (R150). -/
  | warmUpSweepEnd
  /-- SCRUB_START (R153). -/
  | scrubStart (ld : Fin 16)
  /-- SCRUB_ABORT (R155). -/
  | scrubAbort (ld : Fin 16)
  /-- SCRUB_END (R155): what was found at the lines checked since the last record, then at those that could not be recovered. -/
  | scrubEnd (ld : Fin 16) (found : List LineFound) (lost : List LineFound)
  /-- SCRUB_PROGRESS_RECORD (R156), with lines as SCRUB_END names them. -/
  | scrubProgressRecord (ld : Fin 16) (found : List LineFound) (lost : List LineFound)
  /-- COMMIT_DOORBELL (R161). -/
  | commitDoorbell (ld : Fin 16) (win : Fin 64) (width : Nat) (value : BitVec 64)
  /-- ABORT_DOORBELL (R161). -/
  | abortDoorbell (ld : Fin 16) (win : Fin 64) (width : Nat) (value : BitVec 64)
  /-- COMMIT_TIMER_EXPIRY (R162). -/
  | commitTimerExpiry (ld : Fin 16) (win : Fin 64)
  /-- COMMIT_POINT (R163). -/
  | commitPoint (ld : Fin 16) (win : Fin 64)
  /-- OUTCOME_RECORD_DURABLE (R177). -/
  | outcomeRecordDurable (ld : Fin 16) (win : Fin 64)
  /-- REGION_ENABLE (R158). -/
  | regionEnable (ld : Fin 16)
  /-- REGION_DISABLE (R169). -/
  | regionDisable (ld : Fin 16)
  /-- REKEY_PAGE_STEP (R206). -/
  | rekeyPageStep (region : Fin 256)
  /-- REKEY_COMPLETE (R210). -/
  | rekeyComplete (region : Fin 256)
  /-- ROOT_SEAL (R199). -/
  | rootSeal
  /-- IDE_INTEGRITY_FAILURE (R213). -/
  | ideIntegrityFailure (port : Fin 2)
  /-- LODE_KEY_REDERIVE (R214). -/
  | lodeKeyRederive (port : Fin 4)
  /-- FAULT_INDICATION (R219). -/
  | faultIndication (row : FaultRow) (unit : FUnit)
  /-- STATUS_PROBE_ANSWER (R222). -/
  | statusProbeAnswer (unit : FUnit) (ticks : Nat)
  /-- PROBE_SILENCE_CONFIRMED (R220). -/
  | probeSilenceConfirmed (unit : FUnit)
  /-- FAULT_WINDOW_CLOSE (R220). -/
  | faultWindowClose (win : Fin 5)
  /-- SHALLOWS_RESTORATION_COMPLETE (R224). -/
  | shallowsRestorationComplete (set : Fin 4)
  /-- REBUILD_SEGMENT_COMPLETE (R226). -/
  | rebuildSegmentComplete (seg : SegKey) (pos : Fin 16)
  /-- CHANNEL_SUSPECT (R230). -/
  | channelSuspect (chan : Fin 64) (retries : Nat) (alerts : Nat)
  /-- CHANNEL_SUSPECT_CLEAR (R230). -/
  | channelSuspectClear (chan : Fin 64)
  /-- SECOND_STACK_LOSS (R235). -/
  | secondStackLoss (stack : Fin 5)
  /-- WATCHDOG_EXPIRY (R236). -/
  | watchdogExpiry (core : Fin 12)
  /-- CXL_LANE_FAILURE (R237). -/
  | cxlLaneFailure (port : Fin 2) (lane : Fin 16)
  /-- LODE_LANE_FAILURE (R238). -/
  | lodeLaneFailure (port : Fin 4) (lane : Fin 2)
  /-- LINK_TRAINING_RESULT (R241). -/
  | linkTrainingResult (port : Fin 2) (result : TrainResult)
  /-- CONVENTIONAL_RESET (R258). -/
  | conventionalReset (port : Fin 2)
  /-- HOT_RESET (R258). -/
  | hotReset (port : Fin 2)
  /-- FLR (R258). -/
  | flr (ld : Fin 16)
  /-- CXL_RESET (R258). -/
  | cxlReset (ld : Fin 16) (memClr : Bool)
  /-- GPF_PHASE1_REQUEST (R39). -/
  | gpfPhase1Request (port : Fin 2)
  /-- GPF_PHASE2_REQUEST (R39). -/
  | gpfPhase2Request (port : Fin 2)
  /-- HDM_DECODER_COMMIT (R245). -/
  | hdmDecoderCommit (ld : Fin 16) (dec : Fin 4) (cfg : DecoderCfg)
  /-- REGISTER_WRITE (R3). -/
  | registerWrite (ld : Fin 16) (bar : Nat) (off : Nat) (width : Nat) (value : Nat)
  /-- IDENTIFY (R272). -/
  | identify (r : Req)
  /-- BACKGROUND_OPERATION_STATUS (R272). -/
  | backgroundOperationStatus (r : Req)
  /-- REQUEST_ABORT_BACKGROUND_OPERATION (R272). -/
  | requestAbortBackgroundOperation (r : Req)
  /-- GET_EVENT_RECORDS (R260). -/
  | getEventRecords (r : Req) (log : Fin 4)
  /-- CLEAR_EVENT_RECORDS (R260). -/
  | clearEventRecords (r : Req) (log : Fin 4) (all : Bool) (handles : List Nat)
  /-- GET_EVENT_INTERRUPT_POLICY (R260). -/
  | getEventInterruptPolicy (r : Req)
  /-- SET_EVENT_INTERRUPT_POLICY (R260). -/
  | setEventInterruptPolicy (r : Req) (info : Byte) (warning : Byte) (failure : Byte) (fatal : Byte)
  /-- GET_FW_INFO (R272). -/
  | getFwInfo (r : Req)
  /-- TRANSFER_FW (R373). -/
  | transferFw (r : Req) (action : Nat) (slot : Nat) (image : Image)
  /-- ACTIVATE_FW (R374). -/
  | activateFw (r : Req) (action : Nat) (slot : Nat)
  /-- GET_TIMESTAMP (R272). -/
  | getTimestamp (r : Req)
  /-- SET_TIMESTAMP (R272). -/
  | setTimestamp (r : Req) (time : BitVec 64)
  /-- GET_SUPPORTED_LOGS (R272). -/
  | getSupportedLogs (r : Req)
  /-- GET_LOG (R272). -/
  | getLog (r : Req) (cel : Bool) (offset : Nat) (length : Nat)
  /-- IDENTIFY_MEMORY_DEVICE (R272). -/
  | identifyMemoryDevice (r : Req)
  /-- GET_PARTITION_INFO (R272). -/
  | getPartitionInfo (r : Req)
  /-- SET_PARTITION_INFO (R272). -/
  | setPartitionInfo (r : Req)
  /-- GET_LSA (R272). -/
  | getLsa (r : Req) (offset : Nat) (length : Nat)
  /-- SET_LSA (R272). -/
  | setLsa (r : Req) (offset : Nat) (data : List Byte)
  /-- GET_HEALTH_INFO (R272). -/
  | getHealthInfo (r : Req)
  /-- GET_ALERT_CONFIGURATION (R272). -/
  | getAlertConfiguration (r : Req)
  /-- SET_ALERT_CONFIGURATION (R272). -/
  | setAlertConfiguration (r : Req) (life : Nat) (hot : Int) (cold : Int)
  /-- GET_SHUTDOWN_STATE (R41). -/
  | getShutdownState (r : Req)
  /-- SET_SHUTDOWN_STATE (R41). -/
  | setShutdownState (r : Req) (state : Byte)
  /-- GET_POISON_LIST (R252). -/
  | getPoisonList (r : Req) (dpa : Nat) (lines : Nat)
  /-- INJECT_POISON (R253). -/
  | injectPoison (r : Req) (dpa : Nat)
  /-- CLEAR_POISON (R253). -/
  | clearPoison (r : Req) (dpa : Nat) (data : Line)
  /-- GET_SCAN_MEDIA_CAPABILITIES (R254). -/
  | getScanMediaCapabilities (r : Req) (dpa : Nat) (lines : Nat)
  /-- SCAN_MEDIA (R254). -/
  | scanMedia (r : Req) (dpa : Nat) (lines : Nat)
  /-- GET_SCAN_MEDIA_RESULTS (R254). -/
  | getScanMediaResults (r : Req)
  /-- SANITIZE (R272). -/
  | sanitize (r : Req)
  /-- SECURE_ERASE (R272). -/
  | secureErase (r : Req)
  /-- BACKGROUND_COMMAND_COMPLETE (R269); of a scan, with lines as SCRUB_END names them. -/
  | backgroundCommandComplete (inst : Inst) (found : List LineFound) (lost : List LineFound)
  /-- GET_SECURITY_STATE (R282). -/
  | getSecurityState (r : Req)
  /-- SET_PASSPHRASE (R282). -/
  | setPassphrase (r : Req) (master : Bool) (old : Key) (new : Key)
  /-- DISABLE_PASSPHRASE (R282). -/
  | disablePassphrase (r : Req) (master : Bool) (pass : Key)
  /-- UNLOCK (R282). -/
  | unlock (r : Req) (pass : Key)
  /-- FREEZE_SECURITY_STATE (R282). -/
  | freezeSecurityState (r : Req)
  /-- PASSPHRASE_SECURE_ERASE (R283). -/
  | passphraseSecureErase (r : Req) (master : Bool) (pass : Key)
  /-- SECURITY_SEND (R272). -/
  | securitySend (r : Req)
  /-- SECURITY_RECEIVE (R272). -/
  | securityReceive (r : Req)
  /-- GET_DC_CONFIG (R246). -/
  | getDcConfig (r : Req)
  /-- GET_DC_EXTENT_LIST (R246). -/
  | getDcExtentList (r : Req) (start : Nat) (count : Nat)
  /-- ADD_DC_RESPONSE (R247). -/
  | addDcResponse (r : Req) (accept : List Range)
  /-- RELEASE_DC (R248). -/
  | releaseDc (r : Req) (ranges : List Range)
  /-- GET_LD_INFO (R273). -/
  | getLdInfo (r : Req)
  /-- GET_LD_ALLOCATIONS (R273). -/
  | getLdAllocations (r : Req)
  /-- SET_LD_ALLOCATIONS (R244). -/
  | setLdAllocations (r : Req) (start : Nat) (units : List Nat)
  /-- GET_QOS_CONTROL (R273). -/
  | getQosControl (r : Req)
  /-- SET_QOS_CONTROL (R273). -/
  | setQosControl (r : Req) (epc : Bool) (ttr : Bool) (value : Nat)
  /-- GET_QOS_STATUS (R273). -/
  | getQosStatus (r : Req)
  /-- GET_QOS_ALLOCATED_BW (R256). -/
  | getQosAllocatedBw (r : Req)
  /-- SET_QOS_ALLOCATED_BW (R256). -/
  | setQosAllocatedBw (r : Req) (start : Nat) (fractions : List Byte)
  /-- GET_QOS_BW_LIMIT (R256). -/
  | getQosBwLimit (r : Req)
  /-- SET_QOS_BW_LIMIT (R256). -/
  | setQosBwLimit (r : Req) (start : Nat) (fractions : List Byte)
  /-- GET_DCD_INFO (R273). -/
  | getDcdInfo (r : Req)
  /-- GET_HOST_DC_REGION_CONFIG (R273). -/
  | getHostDcRegionConfig (r : Req) (ld : Nat)
  /-- SET_DC_REGION_CONFIG (R244). -/
  | setDcRegionConfig (r : Req) (region : Nat) (units : Nat) (sharable : Bool)
  /-- GET_DC_REGION_EXTENT_LISTS (R273). -/
  | getDcRegionExtentLists (r : Req) (ld : Nat)
  /-- INITIATE_DC_ADD (R246). -/
  | initiateDcAdd (r : Req) (ld : Nat) (range : Range)
  /-- INITIATE_DC_RELEASE (R248). -/
  | initiateDcRelease (r : Req) (ld : Nat) (range : Range) (force : Bool)
  /-- OPEN_SESSION (R276). -/
  | openSession (r : Req) (slot : Nat) (hn : BitVec 128)
  /-- AUTHENTICATE_SESSION (R276). -/
  | authenticateSession (r : Req) (handle : BitVec 32) (resp : BitVec 128) (mac : MacFault)
  /-- HANDLE_TIMEOUT (R276). -/
  | handleTimeout (inst : Inst)
  /-- CLOSE_SESSION (R278). -/
  | closeSession (r : Req)
  /-- SESSION_IDLE_TIMEOUT (R278). -/
  | sessionIdleTimeout (inst : Inst)
  /-- GET_SESSION_STATUS (R280). -/
  | getSessionStatus (r : Req)
  /-- GET_LAST_FAILURE (R271). -/
  | getLastFailure (r : Req)
  /-- PROVISION_SESSION_KEY (R275). -/
  | provisionSessionKey (r : Req) (slot : Nat) (role : Nat) (key : BitVec 320)
  /-- REVOKE_SESSION_KEY (R275). -/
  | revokeSessionKey (r : Req) (slot : Nat)
  /-- GRANT_DEVICE_CONTROL (R265). -/
  | grantDeviceControl (r : Req) (ld : Nat)
  /-- GET_DEVICE_IDENTITY (R6). -/
  | getDeviceIdentity (r : Req)
  /-- GET_CHANNEL_STATUS (R281). -/
  | getChannelStatus (r : Req) (first : Nat) (count : Nat)
  /-- GET_RECOVERY_REPORT (R42). -/
  | getRecoveryReport (r : Req) (first : Nat)
  /-- GET_STRIPE_SET_STATUS (R227). -/
  | getStripeSetStatus (r : Req) (set : Nat)
  /-- RETIRE_CHANNEL (R229). -/
  | retireChannel (r : Req) (chan : Nat)
  /-- SET_REBUILD_CONTROL (R227). -/
  | setRebuildControl (r : Req) (set : Nat) (auto : Bool) (start : Bool) (prio : Nat)
  /-- SET_GROUP_QUOTA (R281). -/
  | setGroupQuota (r : Req) (ld : Nat) (quota : Nat)
  /-- GET_GROUP_OUTCOMES (R180). -/
  | getGroupOutcomes (r : Req)
  /-- CONFIGURE_REGION (R187). -/
  | configureRegion (r : Req) (region : Nat) (base : Nat) (size : Nat)
  /-- REMOVE_REGION (R187). -/
  | removeRegion (r : Req) (region : Nat)
  /-- SET_NEXT_KEY (R187). -/
  | setNextKey (r : Req) (region : Nat) (mode : Nat) (key : BitVec 320)
  /-- START_REKEY (R207). -/
  | startRekey (r : Req) (region : Nat)
  /-- GET_REGION_STATUS (R187). -/
  | getRegionStatus (r : Req) (region : Nat)
  /-- GET_POOL_STATUS (R363). -/
  | getPoolStatus (r : Req)
  /-- SET_POOL_IDENTITY (R359). -/
  | setPoolIdentity (r : Req) (pool : BitVec 64) (member : Nat)
  /-- CONFIGURE_TETHER (R360). -/
  | configureTether (r : Req) (tether : Nat) (region : Nat) (partner : Nat) (ports : Nat) (key : BitVec 320)
  /-- REMOVE_TETHER (R370). -/
  | removeTether (r : Req) (tether : Nat)
  /-- DECLARE_PARTNER_ABSENT (R366). -/
  | declarePartnerAbsent (r : Req) (tether : Nat)
  /-- FAILOVER (R369). -/
  | failover (r : Req) (tether : Nat) (role : Nat)
  /-- RAISE_FORMAT_LEVEL (R373). -/
  | raiseFormatLevel (r : Req) (level : Nat)
  /-- GET_POWER_STATUS (R381). -/
  | getPowerStatus (r : Req)
  /-- POWER_REQUEST (R382). -/
  | powerRequest (r : Req) (op : Nat)
  /-- SET_RAIL_PARAMETERS (R380). -/
  | setRailParameters (r : Req) (rail : Nat) (filter : Nat) (low : Nat) (high : Nat) (dwell : Nat) (timeout : Nat) (retries : Nat)
  /-- GET_THERMAL_STATUS (R422). -/
  | getThermalStatus (r : Req)
  /-- SET_THERMAL_PARAMETERS (R421). -/
  | setThermalParameters (r : Req) (grace : Nat)
  /-- READ_PERSISTENT_LOG (R306). -/
  | readPersistentLog (r : Req) (area : Nat) (first : Nat) (max : Nat)
  /-- GET_VIOLATION_COUNTERS (R284). -/
  | getViolationCounters (r : Req) (clear : Bool)
  /-- SET_EVENT_RATE_LIMIT (R307). -/
  | setEventRateLimit (r : Req) (code : Nat) (limit : Nat)
  /-- READ_HARDWARE_RING (R306). -/
  | readHardwareRing (r : Req) (area : Nat) (first : Nat) (max : Nat)
  /-- READ_CUSTOMER_PARTITION (R402). -/
  | readCustomerPartition (r : Req) (offset : Nat) (length : Nat) (pass : Key)
  /-- WRITE_CUSTOMER_PARTITION (R402). -/
  | writeCustomerPartition (r : Req) (offset : Nat) (length : Nat) (pass : Key) (data : List Byte)
  /-- SET_CUSTOMER_PASSWORDS (R402). -/
  | setCustomerPasswords (r : Req) (readPw : Key) (writePw : Key)
  /-- READ_DEVICE_REGISTERS (R285). -/
  | readDeviceRegisters (r : Req) (block : Nat) (width : Nat) (count : Nat) (offset : Nat)
  /-- WRITE_DEVICE_REGISTERS (R285). -/
  | writeDeviceRegisters (r : Req) (block : Nat) (width : Nat) (count : Nat) (offset : Nat) (data : List Nat)
  /-- SET_CACHE_POLICY (R324). -/
  | setCachePolicy (r : Req) (ld : Nat) (flags : Byte)
  /-- GET_CACHE_STATUS (R281). -/
  | getCacheStatus (r : Req)
  /-- SET_PATROL_PARAMETERS (R147). -/
  | setPatrolParameters (r : Req) (p : PatrolInput) (busShare : Nat)
  /-- GET_PATROL_STATUS (R281). -/
  | getPatrolStatus (r : Req)
  /-- GET_LIFE_CYCLE_STATE (R349). -/
  | getLifeCycleState (r : Req)
  /-- SET_LIFE_CYCLE_STATE (R350). -/
  | setLifeCycleState (r : Req) (target : Nat)
  /-- GET_BOOT_STATUS (R336). -/
  | getBootStatus (r : Req)
  /-- SET_BOOT_IMAGE_PREFERENCE (R336). -/
  | setBootImagePreference (r : Req) (image : Nat)
  /-- UNSUPPORTED_OPCODE (R280). -/
  | unsupportedOpcode (r : Req) (opcode : Nat)
  /-- NOTIF_DELIVER (R293). -/
  | notifDeliver (corrupt : Option (Fin 17))
  /-- NOTIF_CLAIM (R288). -/
  | notifClaim (who : Fin 17) (width : Nat)
  /-- NOTIF_EOI (R291). -/
  | notifEoi (who : Fin 17) (src : Nat)
  /-- NOTIF_QCONS_WRITE (R295). -/
  | notifQconsWrite (ld : Fin 16) (value : Nat)
  /-- FM_CONS_WRITE (R298). -/
  | fmConsWrite (value : Nat)
  /-- NOTIF_QUEUE_ENABLE (R294). -/
  | notifQueueEnable (ld : Fin 16)
  /-- CLRLOST (R299). -/
  | clrlost (ld : Fin 16)
  /-- UNWIND (R292). -/
  | unwind (who : Fin 17)
  /-- NOTIF_SWSET (R286). -/
  | notifSwset (value : BitVec 16)
  /-- PMON_SNAPSHOT (R310). -/
  | pmonSnapshot (who : Fin 17)
  /-- PMON_CLEAR (R312). -/
  | pmonClear (who : Fin 17)
  /-- PMON_COUNTER_WRAP (R308). -/
  | pmonCounterWrap (n : Fin 64)
  /-- PMON_SAMPLE (R311). -/
  | pmonSample (rec : Sample)
  /-- SAMPLE_BANK_RELEASE (R311). -/
  | sampleBankRelease (who : Fin 17) (bits : BitVec 2)
  /-- SAMPLING_ENABLE (R312). -/
  | samplingEnable (who : Fin 17)
  /-- CLEAN_BY_ADDRESS (R318). -/
  | cleanByAddress (who : Fin 17) (dpa : Nat)
  /-- INVALIDATE_BY_ADDRESS (R318). -/
  | invalidateByAddress (who : Fin 17) (dpa : Nat)
  /-- CLEAN_INVALIDATE_BY_ADDRESS (R318). -/
  | cleanInvalidateByAddress (who : Fin 17) (dpa : Nat)
  /-- CLEAN_BY_SET_WAY (R318). -/
  | cleanBySetWay (who : Fin 17) (set : Nat) (way : Fin 16)
  /-- INVALIDATE_BY_SET_WAY (R318). -/
  | invalidateBySetWay (who : Fin 17) (set : Nat) (way : Fin 16)
  /-- CLEAN_INVALIDATE_BY_SET_WAY (R318). -/
  | cleanInvalidateBySetWay (who : Fin 17) (set : Nat) (way : Fin 16)
  /-- MAINTENANCE_OP_EXECUTE (R319). -/
  | maintenanceOpExecute
  /-- CLEAN_COMPLETE (R318). -/
  | cleanComplete
  /-- CACHE_SYNC (R320). -/
  | cacheSync (who : Fin 17) (width : Nat)
  /-- RANGE_START (R321). -/
  | rangeStart (who : Fin 17)
  /-- RANGE_ABORT (R321). -/
  | rangeAbort (who : Fin 17)
  /-- RANGE_COMPLETE (R321). -/
  | rangeComplete
  /-- SPAD_ADD_WRITE (R329). -/
  | spadAddWrite (who : Fin 17) (off : Nat) (width : Nat) (value : Nat)
  /-- SPAD_SWAP_WRITE (R329). -/
  | spadSwapWrite (who : Fin 17) (off : Nat) (width : Nat) (value : Nat)
  /-- ATOMIC_FETCH_ADD (R329). -/
  | atomicFetchAdd (ld : Fin 16) (off : Nat) (width : Nat) (value : Nat)
  /-- ATOMIC_SWAP (R329). -/
  | atomicSwap (ld : Fin 16) (off : Nat) (width : Nat) (value : Nat)
  /-- ATOMIC_COMPARE_AND_SWAP (R329). -/
  | atomicCompareAndSwap (ld : Fin 16) (off : Nat) (width : Nat)
  /-- SRAM_PARITY_ERROR (R332). -/
  | sramParityError (mem : Parity) (addr : Nat)
  /-- BOOT_ROM_IMAGE_CHECK (R336). -/
  | bootRomImageCheck
  /-- ANTI_ROLLBACK_RAISE (R337). -/
  | antiRollbackRaise
  /-- SPDM_GET_VERSION (R347). -/
  | spdmGetVersion (via : Inst)
  /-- SPDM_GET_CAPABILITIES (R347). -/
  | spdmGetCapabilities (via : Inst)
  /-- SPDM_NEGOTIATE_ALGORITHMS (R347). -/
  | spdmNegotiateAlgorithms (via : Inst)
  /-- SPDM_GET_DIGESTS (R347). -/
  | spdmGetDigests (via : Inst)
  /-- SPDM_GET_CERTIFICATE (R347). -/
  | spdmGetCertificate (via : Inst)
  /-- SPDM_CHALLENGE (R347). -/
  | spdmChallenge (via : Inst) (nonce : Key)
  /-- SPDM_GET_MEASUREMENTS (R348). -/
  | spdmGetMeasurements (via : Inst) (nonce : Key)
  /-- SPDM_KEY_EXCHANGE (R347). -/
  | spdmKeyExchange (via : Inst)
  /-- SPDM_FINISH (R347). -/
  | spdmFinish (via : Inst) (session : Fin 4)
  /-- SPDM_HEARTBEAT (R347). -/
  | spdmHeartbeat (via : Inst) (session : Fin 4)
  /-- SPDM_KEY_UPDATE (R347). -/
  | spdmKeyUpdate (via : Inst) (session : Fin 4)
  /-- SPDM_END_SESSION (R347). -/
  | spdmEndSession (via : Inst) (session : Fin 4)
  /-- IDE_KM_KEY_PROG (R213). -/
  | ideKmKeyProg (session : Fin 4) (port : Fin 2) (tx : Bool) (key : Key)
  /-- IDE_KM_K_SET_GO (R213). -/
  | ideKmKSetGo (session : Fin 4) (port : Fin 2)
  /-- IDE_KM_K_SET_STOP (R213). -/
  | ideKmKSetStop (session : Fin 4) (port : Fin 2)
  /-- TAMPER_INPUT_ACTIVE (R353). -/
  | tamperInputActive (input : Fin 4)
  /-- LODE_TRAINING_RESULT (R357). -/
  | lodeTrainingResult (port : Fin 4) (ok : Bool) (lanes : Nat)
  /-- HELLO (R357). -/
  | hello (h : LodeHdr) (msg : HelloMsg)
  /-- HELLO_REPEAT (R357). -/
  | helloRepeat (port : Fin 4)
  /-- KEEPALIVE_SEND (R357). -/
  | keepaliveSend (port : Fin 4)
  /-- KEEPALIVE (R357). -/
  | keepalive (h : LodeHdr)
  /-- LODE_SILENCE_TIMEOUT (R357). -/
  | lodeSilenceTimeout (port : Fin 4)
  /-- LEVEL (R372). -/
  | level (h : LodeHdr) (entries : List MemberLevel)
  /-- SWITCH (R372). -/
  | switch (h : LodeHdr) (level : Nat)
  /-- TWRITE (R364). -/
  | twrite (h : LodeHdr) (off : Nat) (win : Option (Fin 64)) (psn : Bool) (data : Line)
  /-- TCONF (R68). -/
  | tconf (h : LodeHdr) (seqs : List Nat)
  /-- TCOMMIT (R181). -/
  | tcommit (h : LodeHdr) (win : Fin 64) (gseq : Nat) (first : Nat) (last : Nat) (count : Nat)
  /-- TPOINT (R181). -/
  | tpoint (h : LodeHdr) (win : Fin 64) (gseq : Nat)
  /-- TABORT (R181). -/
  | tabort (h : LodeHdr) (win : Fin 64) (outcome : Nat) (gseq : Nat)
  /-- TQUERY (R183). -/
  | tquery (h : LodeHdr) (win : Fin 64) (gseq : Nat)
  /-- TQANS (R183). -/
  | tqans (h : LodeHdr) (win : Fin 64) (answer : Bool) (gseq : Nat)
  /-- RSLINE (R364). -/
  | rsline (h : LodeHdr) (off : Nat) (psn : Bool) (data : Line)
  /-- RSMARK (R368). -/
  | rsmark (h : LodeHdr) (granule : Nat) (poisoned : Bool)
  /-- BITMAP (R361). -/
  | bitmap (h : LodeHdr) (first : Nat) (bits : List Bool)
  /-- ROLE (R369). -/
  | role (h : LodeHdr) (replica : Bool) (epoch : Nat)
  /-- REMOVED (R366). -/
  | removed (h : LodeHdr)
  /-- PARTNER_ABSENT_TIMEOUT (R366). -/
  | partnerAbsentTimeout (t : Fin 8)
  /-- ABSENT_RETRY (R363). -/
  | absentRetry (t : Fin 8)
  /-- CONFIRMED_MARK (R367). -/
  | confirmedMark
  /-- RESYNC_GRANULE (R368). -/
  | resyncGranule (t : Fin 8)
  /-- KEEPER_ALIVE (R377). -/
  | keeperAlive (vsup : Nat) (straps : BitVec 4) (bad : List BadRecord)
  /-- VIN_DWELL_COMPLETE (R379). -/
  | vinDwellComplete (vin : Nat)
  /-- RAIL_DWELL_COMPLETE (R379). -/
  | railDwellComplete (rail : Nat)
  /-- PSC_TRANSACTION_RETRY (R441). -/
  | pscTransactionRetry (rail : Nat) (ok : Bool)
  /-- RAIL_SEQUENCE_TIMEOUT (R379). -/
  | railSequenceTimeout (rail : Nat)
  /-- CHANNEL_TRAINING_COMPLETE (R436). -/
  | channelTrainingComplete (found : List PackageFound) (failed : List Nat) (readings : List Reading)
  /-- NORMAL_BOOT_COMPLETE (R407). -/
  | normalBootComplete
  /-- REPLAY_COMPLETE (R410). -/
  | replayComplete (res : ReplayResult)
  /-- FIRST_FORMAT_COMPLETE (R412). -/
  | firstFormatComplete (badBlocks : List BlockKey)
  /-- RUNNING_RAIL_FAULT (R385). -/
  | runningRailFault (rail : Nat) (mv : Nat)
  /-- FAULT_RESTART (R383). -/
  | faultRestart
  /-- KEEPER_SRAM_ERROR (R386). -/
  | keeperSramError
  /-- VIN_COLLAPSE (R387). -/
  | vinCollapse (mv : Nat)
  /-- PFAIL_N_LOW (R371). -/
  | pfailNLow
  /-- PFAIL_N_HIGH_RESTART (R371). -/
  | pfailNHighRestart
  /-- HARDWARE_FLUSH_COMPLETE (R388). -/
  | hardwareFlushComplete
  /-- VHOLD_EXHAUSTED (R389). -/
  | vholdExhausted (mv : Nat) (bytes : Nat)
  /-- ORDERLY_POWER_DOWN_COMPLETE (R384). -/
  | orderlyPowerDownComplete
  /-- RAIL_FALL_TIMEOUT (R382). -/
  | railFallTimeout (rail : Nat)
  /-- OFF_MINIMUM_ELAPSED (R382). -/
  | offMinimumElapsed
  /-- HOLDUP_READY_ASSERTED (R392). -/
  | holdupReadyAsserted (mv : Nat)
  /-- HOLDUP_READY_LOST (R392). -/
  | holdupReadyLost (mv : Nat)
  /-- VHOLD_OVERVOLTAGE (R392). -/
  | vholdOvervoltage (mv : Nat)
  /-- CHARGE_TIMEOUT (R392). -/
  | chargeTimeout (mv : Nat)
  /-- VSUP_COLLAPSE (R395). -/
  | vsupCollapse (mv : Nat)
  /-- THERMAL_MEASUREMENT (R418). -/
  | thermalMeasurement (media : Bool) (readings : List Reading)
  /-- THROTTLE_GRACE_EXPIRY (R422). -/
  | throttleGraceExpiry
  /-- COOLING_RESTART (R425). -/
  | coolingRestart
  /-- MEDIA_HOLD_TIMEOUT (R425). -/
  | mediaHoldTimeout
  /-- RDY_N_FALL (R433). -/
  | rdyNFall (chan : Fin 64) (die : Fin 16) (tile : Fin 8) (status : Byte)
  /-- ALERT_N_FALL (R433). -/
  | alertNFall (chan : Fin 64) (die : Fin 16) (tile : Fin 8) (status : Byte)
  /-- CDAT_TABLE_ACCESS (R262). -/
  | cdatTableAccess (ld : Fin 16)
  /-- SETDASA (R452). -/
  | setdasa (addr : BitVec 7) (dyn : BitVec 7)
  /-- ENTDAA (R452). -/
  | entdaa (dyn : BitVec 7)
  /-- DRS_RETURN (R88). -/
  | drsReturn
  /-- FIRMWARE_ACTIVATION_COMPLETE (R374). -/
  | firmwareActivationComplete (started : Bool)
  /-- CXL_RESET_COMPLETE (R258). -/
  | cxlResetComplete (ld : Fin 16)
  /-- BOOST_RESTART (R392). -/
  | boostRestart (mv : Nat)
  /-- UNKNOWN_LODE_MESSAGE_TYPE (R358). -/
  | unknownLodeMessageType (h : LodeHdr) (type : Byte)
  deriving DecidableEq, Repr

end Sys2Proof
end

