-- ==== Sys2Proof/Decode.lean ====
section
/-! DEFINITION. Words that spell commands. The commands of the block arrive through registers, mailboxes, links and pins; the table gives
no row of them any bits, so no word spells one. -/

namespace Sys2Proof

/-- The command that a word of the table's bits spells. -/
def decodeTableWord (_nbits _w : Nat) : Option Instr := none

end Sys2Proof
end

