-- ==== Sys2Proof/Config.lean ====
section
/-! DEFINITION. What the model leaves uninterpreted: the free values the device draws, the ciphers and keyed hashes
that the manual names and does not define. None has a body, so no proof can lean on a value of one. -/

namespace Sys2Proof.Config

/-- A key drawn by the data die's random source (R344), the `n`-th draw. DESIGN CHOICE: a free value, log 5. Safe. -/
opaque freeKey : Nat → Key

/-- A 16-byte device nonce (R276) or lode bring-up nonce (R357), the `n`-th draw. DESIGN CHOICE: a free value, log 5. Safe. -/
opaque freeNonce : Nat → Block128

/-- A 4-byte session handle (R276), the `n`-th draw. DESIGN CHOICE: a free value, log 5. Safe. -/
opaque freeHandle : Nat → BitVec 32

/-- Uniform random bits of the sampler's gap (R311), the `n`-th draw. DESIGN CHOICE: a free value, log 5. Safe. -/
opaque freeGap : Nat → BitVec 8

/-- A temperature reported before its first measurement (R419, Table 11-7), the `n`-th draw. DESIGN CHOICE: a free value, log 5. Safe. -/
opaque freeTemp : Nat → Byte

/-- What a keyed rotation picks (R54: ties between open pairs, the channels of a new pair), the `n`-th draw, read modulo
the number of candidates. DESIGN CHOICE: a free value, log 7. Safe. -/
opaque freePick : Nat → Nat

/-- A signature of the responder (R347, R348), the `n`-th one: uninterpreted, log 6. Safe. -/
opaque freeSig : Nat → Key

/-- SHA-384 of a message (R336, R348): uninterpreted, log 6. Safe. -/
opaque sha384 : List Byte → BitVec 384

/-- SHA-384 of the boot ROM (Table 14-6), which the manual does not state: log 6. Safe. -/
opaque romHash : BitVec 384

/-- CODE_HASH of an image, by its version and SVN (Table 14-2, Table 14-6): log 6. Safe. -/
opaque codeHash : BitVec 64 → Nat → BitVec 384

/-- Svawald's vendor ID (R272), a number the manual does not give. DESIGN CHOICE: a free value, log 5. Safe. -/
opaque vendorId : BitVec 16

/-- The effects that the Command Effects Log lists for an opcode (R272), which CXL 3.1 codes: a free value, log 5. Safe. -/
opaque cmdEffect : Nat → BitVec 16

/-- SHA-384 of the certificate chain of a device, by its serial number (R347): log 6. Safe. -/
opaque certDigest : BitVec 64 → BitVec 384

/-- AES-256 of one block (R190). The cipher itself is a standard the manual names: uninterpreted, log 6. Safe. -/
opaque aes256 : Key → Block128 → Block128

/-- GHASH over a line's four ciphertext blocks and the length block (R190): uninterpreted, log 6. Safe. -/
opaque ghash : Block128 → Line → Block128 → Block128

/-- AES-256-CMAC of a message (R276, R339): uninterpreted, log 6. Safe. -/
opaque cmac : Key → List Byte → Block128

/-- AES-256-CMAC in counter mode (R214, R345): the `n`-th 256 bits derived under a key over a message: uninterpreted, log 6. Safe. -/
opaque cmacCounter : Key → List Byte → Nat → Key

/-- The device root key of the fuse block (R333), which nothing but two derivations reads: log 6. Safe. -/
opaque deviceRootKey : Key

/-- AES-256 key unwrap of 40 bytes (R275, R339); `none` where the wrap's own check fails: uninterpreted, log 6. Safe. -/
opaque kwUnwrap : Key → BitVec 320 → Option Key

/-- BASE of R138: the base level of a reference 1 to 7 for the temperature band of the program, in 1/16 of the level spacing. It comes from the
media descriptor, which the manual does not state. DESIGN CHOICE: a free value, log 5. Safe. -/
opaque refBase : Nat → Nat → Int

/-- SLOPE of R138 for one step of L: by reference and temperature band of the read. DESIGN CHOICE: a free value, log 5. Safe. -/
opaque refSlope : Nat → Nat → Int

/-- L of R138: the base-2 logarithm of a number in steps of 1/16, whose rounding the manual does not state. DESIGN CHOICE: a free value,
log 5. Safe. -/
opaque log16 : Nat → Nat

/-- The age that a pilot report's positions imply (R143), by band of the program, band of the read, and the positions of the oldest and of the
newest group: the inverse of the model of R138. DESIGN CHOICE: a free value, log 5. Safe. -/
opaque impliedAge : Nat → Nat → List Int → List Int → Int

/-- The growth factor of the bit error ratio between two ages (R145), times 10^6, by band of the program and the two ages: the model's, whose
coefficients the manual does not state. DESIGN CHOICE: a free value, log 5. Safe. -/
opaque growth : Nat → Nat → Nat → Nat

/-- The tile on which a block of a die lies, read modulo 8: the manual does not say how segments and Shallows blocks are laid over
a die's tiles; by die number and block number (a segment's, or 2^32 and a pair's). DESIGN CHOICE: a free value, log 34. Safe. -/
opaque blockTile : Nat → Nat → Nat

/-- BLOCK of a block in its tile (Table 19-4), read modulo 49,152, in the same way. DESIGN CHOICE: a free value, log 34. Safe. -/
opaque blockNo : Nat → Nat → Nat

/-- Whether a squashed run-ahead read had reached its die and was sensing (R74, R75), the `n`-th draw: the manual fixes no time at which a queued
read reaches its die. DESIGN CHOICE: a free value, log 18. Safe. -/
opaque freeSensing : Nat → Bool

/-- The keyed hash of a granule number behind SET(g) (R99), under the placement key: uninterpreted, log 7. Safe. -/
opaque setHash : Key → Nat → Nat

/-- The keyed hash of a granule number behind ROT(g) (R99): uninterpreted, log 7. Safe. -/
opaque rotHash : Key → Nat → Nat

/-- The 39-bit permutation H of a line's address under the placement key (R58): uninterpreted, log 7. Safe. -/
opaque lineHash : Key → Nat → BitVec 39

/-- The 39-bit permutation H of a line's address under the cache index key (R314): uninterpreted, log 7. Safe. -/
opaque cacheHash : Key → Nat → BitVec 39

/-- The 26-bit keyed hash of H[38:26] under the placement key (R58): uninterpreted, log 7. Safe. -/
opaque bucketHash : Key → Nat → BitVec 26

/-- The BCH code of a Shallows slot over its bytes 79:0 (Table 03-4), whose field polynomial the manual does not state: uninterpreted, log 6.
Safe. -/
opaque bchShallows : List Byte → Block128

/-- The inner BCH code of a Peat slot over its bytes 71:0 (Table 05-2), in the same way: log 6. Safe. -/
opaque bchInner : List Byte → BitVec 190

/-- A byte of a record of R367 that the manual does not lay out, by MKIND and byte. DESIGN CHOICE: a free value, log 5. Safe. -/
opaque freeMetaByte : Nat → Nat → Byte

end Sys2Proof.Config
end

