-- ==== Sys2Proof/Machine/State.lean ====
section
/-! DEFINITION. The state of the block: every register, queue, table, counter, mode and pin the spec gives the GN964, as
plain data, and the state after reset: the device as shipped, not yet powered (log 4). Register values of `State.reset`
that the spec does not state carry their log entry in INVENTORY.md. -/

namespace Sys2Proof.Machine

/-- A table by number in one canonical form: keys strictly rising, and no entry equal to what an unlisted key reads as.
The reader names that default (Ops.lean). -/
abbrev Tbl (β : Type) := List (Nat × β)

/-- Bytes of an addressed RAM, in the same canonical form; an unlisted address reads 0x00. -/
abbrev Mem := List Host.Cell

/-! ### Build and power -/

/-- Bins (00_scope.md R6). -/
inductive Bin where
  | s
  | p
  deriving DecidableEq, Repr

/-- Temperature grades (00_scope.md R7). -/
inductive Grade where
  | c
  | x
  deriving DecidableEq, Repr

/-- What the device was built as (00_scope.md R6, R7; 19_media_channels.md R428): bin, grade, populated channels, dies per
channel, serial number. -/
structure Hw where
  bin : Bin
  grade : Grade
  channels : Nat
  dies : Nat
  serial : BitVec 64
  deriving DecidableEq, Repr

/-- Power states (16_power_and_holdup.md R381, Table 16-4), in code order. -/
inductive PowerState where
  | off
  | poweringUp
  | running
  | poweringDown
  | flushing
  | cooling
  | lockout
  | tamperHold
  deriving DecidableEq, Repr

/-- Operating points (01_architecture.md R12). -/
inductive Point where
  | e
  | n
  | p
  deriving DecidableEq, Repr

/-- Window parameters of a rail (Table 16-2, R379, R380): thresholds in steps of 5 mV, filter code, dwell and timeout in
microseconds. -/
structure Rail where
  low : Nat
  high : Nat
  filter : Nat
  dwell : Nat
  timeout : Nat
  deriving DecidableEq, Repr

/-- A power request latched while powering down or flushing (Table 16-5). -/
inductive Latched where
  | none
  | on
  | restart
  deriving DecidableEq, Repr

/-- Causes of a hardware flush (16_power_and_holdup.md R387, R388). -/
inductive FlushCause where
  | none
  | vin
  | pfail
  | trip
  deriving DecidableEq, Repr

/-- An event record (Table 12-6). -/
structure EventRec where
  seq : Nat
  code : Nat
  sev : Nat
  origin : Nat
  p0 : Nat
  p1 : Nat
  p2 : Nat
  p3 : Nat
  count : Nat
  flags : Nat
  deriving DecidableEq, Repr

/-- Power, supervision and hold-up (16_power_and_holdup.md; 01_architecture.md R12 to R16; 19_media_channels.md R440,
R441; 20_electrical_and_package.md R450, R452). -/
structure Pw where
  st : PowerState
  alive : Bool
  vin : Nat
  vhold : Nat
  vsup : Nat
  vinGood : Bool
  offLatch : Bool
  offMinDone : Bool
  step : Nat
  railsUp : Nat
  rails : Vector Rail 12
  retries : Nat
  retriesLeft : Nat
  latched : Latched
  pfailWait : Bool
  tripAfter : Bool
  flushCause : FlushCause
  flushFromVin : Bool
  flushPre : Bool
  flushRec : Option EventRec
  faultWait : Bool
  faultRestartAt : Option Nat
  lastFaultAt : Option Nat
  holdupReady : Bool
  armed : Bool
  boostOn : Bool
  charging : Bool
  chargeWarned : Bool
  pfailOut : Bool
  thermtripOut : Bool
  pfailIn : Bool
  meden : Bool
  straps : BitVec 4
  i3cStatic : BitVec 7
  i3cDyn : Option (BitVec 7)
  selected : Point
  present : Point
  target : Option Point
  nextPoint : Option Point
  pointWaiters : List (Inst × Point)
  wideWindow : Bool
  dieUp : Bool
  dataPath : Bool
  mediaHold : Option Nat
  mediaCool : Option Nat
  coolingSince : Option Nat
  deriving DecidableEq, Repr

/-! ### Keeper store -/

/-- The newest run or shutdown record (16_power_and_holdup.md R391). -/
inductive EndRec where
  | none
  | run
  | shutdown (code : Nat)
  deriving DecidableEq, Repr

/-- A torn-entry record (Table 02-5). -/
structure TornRec where
  line : Nat
  seq : Nat
  ld : Fin 16
  dpaV : Bool
  seqV : Bool
  ldV : Bool
  win : Option (Fin 64)
  reason : Nat
  deriving DecidableEq, Repr

/-- The recovery report (02_persistence_contract.md R42, Table 02-4). -/
structure RecoveryReport where
  bootType : Nat
  lastShutdown : Nat
  dsc : Nat
  replayed : Nat
  reduplicated : Nat
  tornTotal : Nat
  flags : Nat
  poisoned : Nat
  replayTicks : Nat
  highSeq : Nat
  torn : List TornRec
  deriving DecidableEq, Repr

/-- One record of Get Group Outcomes (Table 07-16). -/
structure GroupRec where
  lastGseq : Nat
  lastOutcome : Nat
  lastCount : Nat
  enabled : Bool
  infGseq : Nat
  infOutcome : Nat
  infCount : Nat
  deriving DecidableEq, Repr

/-- Channel states (09_redundancy_and_degraded.md R230, Table 09-5). -/
inductive ChanState where
  | inService
  | suspect
  | failing
  | draining
  | out
  | replaced
  deriving DecidableEq, Repr

/-- A record of the keeper store as its partitions see it (16_power_and_holdup.md R396 to R398): an item number and its
size in bytes. -/
structure StoreRec where
  item : Nat
  size : Nat
  deriving DecidableEq, Repr

/-- A sector in use: its SSEQ and its records, oldest first. -/
structure Sector where
  sseq : Nat
  recs : List StoreRec
  deriving DecidableEq, Repr

/-- A partition of the keeper store (Table 16-9): sectors in use, oldest first, and free ones. -/
structure Partition where
  used : List Sector
  free : Nat
  nextSseq : Nat
  compactions : Nat
  deriving DecidableEq, Repr

/-- The keeper store's contents and the state the keeper holds for good (16_power_and_holdup.md; the rules named in
INVENTORY.md). -/
structure Kp where
  dsc : Nat
  endRec : EndRec
  lastShutdown : Nat
  formatDone : Bool
  replayOwed : Bool
  report : RecoveryReport
  groupBoot : Nat
  groupReport : Vector (Vector GroupRec 64) 16
  shutdownState : Byte
  chanRec : Vector ChanState 64
  chanSerials : Tbl Nat
  lostStacks : List (Fin 5)
  eolSets : List (Fin 4)
  poolId : BitVec 64
  memberId : BitVec 14
  formatLevel : Nat
  cacheEn : Bool
  rateLimits : Tbl Nat
  customer : Mem
  readPw : Key
  writePw : Key
  pwWrong : Nat
  pwUntil : Option Nat
  parts : Vector Partition 6
  logTokens : Nat
  logTick : Nat
  deriving DecidableEq, Repr

/-! ### Security -/

/-- Life-cycle states (14_security_and_lifecycle.md R349, Table 14-7), in order. -/
inductive LifeCycle where
  | blank
  | provisioned
  | deployed
  | returned
  | decommissioned
  deriving DecidableEq, Repr

/-- The usage count of a MAC key slot (14_security_and_lifecycle.md R339, R342): requests counted, the top of the last reserved block
and the limit. The keys have their homes in `sessKeys`, `keyPass`, `keyCust`, `keyWrap` and the tethers. -/
structure MacSlot where
  uses : Nat
  reserved : Nat
  limit : Nat
  deriving DecidableEq, Repr

/-- An unfinished CMAC request of the MAC engine (14_security_and_lifecycle.md R341, R343): its slot, its length limit in bytes, and the
message bytes absorbed so far. -/
structure MacCtx where
  slot : Fin 16
  limit : Nat
  msg : List Byte
  deriving DecidableEq, Repr

/-- A context that a control core saved (R343): in the clear while it had absorbed nothing, else wrapped under the key slot 6 then held. -/
inductive SavedMac where
  | clear (slot : Fin 16) (limit : Nat)
  | wrapped (c : MacCtx) (key : Option Key)
  deriving DecidableEq, Repr

/-- A sealed key and its copy in the secure bank (14_security_and_lifecycle.md R344, R346): what the keeper store holds,
and whether the bank entry is loaded. -/
structure SealedKey where
  key : Option Key
  loaded : Bool
  deriving DecidableEq, Repr

/-- A session key slot of R275: its role (0 Operator, 1 Owner) and its key. -/
structure SessKey where
  role : Nat
  key : Key
  deriving DecidableEq, Repr

/-- Mode, polarity and filter of a tamper input (Table 14-9). -/
structure TamperCfg where
  mode : Nat
  pol : Bool
  filter : Nat
  deriving DecidableEq, Repr

/-- How far SPDM has come (14_security_and_lifecycle.md R347). -/
inductive SpdmPhase where
  | start
  | version
  | capabilities
  | algorithms
  deriving DecidableEq, Repr

/-- An SPDM secure session: in its handshake or established. -/
inductive SpdmSess where
  | free
  | handshake
  | established
  deriving DecidableEq, Repr

/-- Security state (14_security_and_lifecycle.md; 16_power_and_holdup.md Table 16-15; 11_mailbox_and_sessions.md R275,
R277). -/
structure Sec where
  fuseLC : LifeCycle
  keepLC : LifeCycle
  pendingLC : Option LifeCycle
  revoked : BitVec 4
  antiRollback : Nat
  raiseAt : Option Nat
  imgA : Option Image
  imgB : Option Image
  prefB : Bool
  runningB : Bool
  runImg : Option Image
  refA : Nat
  refB : Nat
  romOnly : Bool
  macSlots : Vector MacSlot 16
  mac : Option MacCtx
  savedMacs : List SavedMac
  katFailed : Bool
  sealEpoch : Nat
  sealNumber : Nat
  seqEpoch : Nat
  evReserve : Nat
  keyTree : SealedKey
  keyPlace : SealedKey
  keyCacheIx : Option Key
  keyWrap : SealedKey
  keyPass : SealedKey
  keyCust : SealedKey
  spdmPhase : Vector SpdmPhase 18
  spdm : Vector SpdmSess 4
  tamper : Vector TamperCfg 4
  tamperActive : BitVec 4
  flashTamper : Vector TamperCfg 4
  frozenTamper : Option (Vector TamperCfg 4)
  sessKeys : Vector (Option SessKey) 4
  authFails : Vector Nat 4
  backoffSecs : Vector Nat 4
  backoffUntil : Vector (Option Nat) 4
  deriving DecidableEq, Repr

/-! ### Thermal and media channels -/

/-- One temperature sensor (18_thermal.md R417 to R419), in tenths of a degree Celsius: the valid reading of its last measurement,
whether it is broken, and at which reading it stuck; `same`: since when it has kept that reading, and the lowest and highest median of
the other data-die sensors since; `recent`: up to ten valid readings since it stuck, newest last, each with that median. -/
structure Sensor where
  temp : Option Int
  broken : Bool
  stuck : Option Int
  missing : Nat
  validRun : Nat
  same : Option (Nat × Int × Int)
  recent : List (Int × Int)
  deriving DecidableEq, Repr

/-- Thermal state (18_thermal.md). `trend`: the condition of Table 18-3 that holds, rising or falling, and since when; `due`: when each
class is measured next, the controller's first; `tripped`: this start follows cooling (R425). -/
structure Th where
  ctl : Vector Sensor 23
  media : Tbl Sensor
  level : Nat
  grace : Nat
  trend : Option (Bool × Nat)
  refresh : Vector Nat 5
  dueCtl : Nat
  dueMedia : Nat
  tripped : Bool
  deriving DecidableEq, Repr

/-- Media channel state (19_media_channels.md). `retries`, `alerts`: the bus retries and ALERT_N reports of the last second, by channel and
tick (Table 09-5). -/
structure Md where
  packages : Tbl PackageFound
  retries : List (Fin 64 × Nat)
  alerts : List (Fin 64 × Nat)
  crcRun : Vector Nat 64
  trained : Vector Bool 64
  status : Tbl Byte
  lostDies : List DieKey
  lostTiles : List (DieKey × Fin 8)
  deriving DecidableEq, Repr

/-! ### Link, ports and capacity -/

/-- What a port is (10_cxl_interface.md R239 to R241). -/
inductive PortMode where
  | down
  | training
  | mld
  | sld
  | pcieOnly
  deriving DecidableEq, Repr

/-- One IDE stream key set (08_inline_encryption.md R213). -/
structure IdeKeys where
  pendTx : Option Key
  pendRx : Option Key
  tx : Option Key
  rx : Option Key
  deriving DecidableEq, Repr

/-- A CXL port. -/
structure Port where
  mode : PortMode
  width : Nat
  lost : BitVec 16
  perst : Bool
  withheld : Bool
  ide : IdeKeys
  deriving DecidableEq, Repr

/-- Media Status (10_cxl_interface.md R250). -/
inductive MediaStatus where
  | notReady
  | ready
  | error
  deriving DecidableEq, Repr

/-- A DC region (10_cxl_interface.md R244, R246), in bytes. -/
structure DcRegion where
  base : Nat
  len : Nat
  sharable : Bool
  deriving DecidableEq, Repr

/-- A DC extent (10_cxl_interface.md R246 to R248): its range, and the LDs that hold it, are offered it, or have an accepted release of it
under way. -/
structure Extent where
  base : Nat
  len : Nat
  region : Nat
  holders : List (Fin 16)
  offered : List (Fin 16)
  releasing : List (Fin 16)
  deriving DecidableEq, Repr

/-- Sources of a poison record (10_cxl_interface.md R252). -/
inductive PoisonSrc where
  | internal
  | external
  | injected
  | vendor
  deriving DecidableEq, Repr

/-- A poison list record: first line, lines, source. -/
structure PoisonRec where
  line : Nat
  lines : Nat
  src : PoisonSrc
  deriving DecidableEq, Repr

/-- A GPF Phase 2 whose completion is not reported yet (02_persistence_contract.md R39): its port, and the writes and the groups with a
commit record issued that it still waits for. -/
structure GpfWait where
  port : Fin 2
  seqs : List Nat
  recs : List (Fin 16 × Fin 64 × Nat)
  deriving DecidableEq, Repr

/-- The fabric side of the device (10_cxl_interface.md). -/
structure Lk where
  ports : Vector Port 2
  mediaReady : Bool
  mediaStatus : MediaStatus
  memActive : Bool
  readOnly : Bool
  fatal : Bool
  aerNonfatal : Bool
  aerCorr : Bool
  dcRegions : Vector DcRegion 8
  extents : List Extent
  poison : List PoisonRec
  poisonOverflow : Option Nat
  grant : Option (Fin 16)
  epcEn : Bool
  ttrEn : Bool
  qosValue : Nat
  gpf : List GpfWait
  deriving DecidableEq, Repr

/-- An HDM decoder (10_cxl_interface.md R245). -/
structure Decoder where
  cfg : DecoderCfg
  committed : Bool
  error : Bool
  deriving DecidableEq, Repr

/-- A placement in the Shallows: stripe set, pair, slot (R54). -/
structure Place where
  set : Fin 4
  pair : Nat
  slot : Nat
  deriving DecidableEq, Repr

/-- Window states (Table 07-12). -/
inductive WinState where
  | idle
  | opened
  | committing
  | committed
  | aborted
  | timedOut
  deriving DecidableEq, Repr

/-- A commit window (07_commit_groups.md R161 to R175). `recIssued`: the commit record has been issued; `recLocal`: both
local copies verified; `recPartner`: the partner confirmed (R181); `closing`: outcome whose record is not yet durable;
`teth`: the tether of the region the group
lies in; `recPlace`: the slot of the outcome record under way (R171, log 72); `dbWait`: a commit doorbell that waits for that record (log 29);
`dur…`: highest GSEQ with a durable outcome record, its outcome and count (R174); `pre`: the same as they stood when a shutdown began
(R180). -/
structure Win where
  state : WinState
  dbrej : Bool
  dbcause : Nat
  outcome : Nat
  arrived : Nat
  gseq : Nat
  count : Nat
  openedAt : Nat
  paused : Nat
  acked : Nat
  first : Nat
  last : Nat
  recIssued : Bool
  recSeq : Nat
  recLocal : Bool
  recPartner : Bool
  recPlace : Option Place
  teth : Option (Fin 8)
  closing : Option Nat
  dbWait : Option Nat
  durGseq : Nat
  durOutcome : Nat
  durCount : Nat
  pre : Option (Nat × Nat × Nat)
  deriving DecidableEq, Repr

/-- The commit-window block of an LD (Tables 07-7 to 07-10). -/
structure Cw where
  base : Nat
  en : Bool
  size : Nat
  tmo : Nat
  notify : Bool
  cfgerr : Bool
  quota : Nat
  deriving DecidableEq, Repr

/-- What SCRUB_SUMMARY holds (Table 06-10). -/
structure ScrubSum where
  flags : Nat
  snum : Nat
  counts : ScrubCounts
  ticks : Nat
  deriving DecidableEq, Repr

/-- The scrub block of an LD (06_drift_and_scrub.md Tables 06-7 to 06-10): its registers, the running scrub with its range, counts, last
durable counts and the tick of its last record, and the summary of the last one ended. -/
structure Scrub where
  repair : Bool
  notify : Bool
  base : Nat
  len : Nat
  busy : Bool
  done : Bool
  rej : Bool
  cause : Nat
  progress : Nat
  aborting : Bool
  snum : Nat
  counts : ScrubCounts
  durable : ScrubCounts
  startTick : Nat
  recTick : Nat
  scan : Bool
  incomplete : Bool
  sumBase : Nat
  sumLen : Nat
  last : Option ScrubSum
  deriving DecidableEq, Repr

/-- A record of a CXL event log (10_cxl_interface.md R260). -/
structure LogRec where
  handle : Nat
  stamp : Nat
  ev : EventRec
  deriving DecidableEq, Repr

/-- One CXL event log of 256 records. -/
structure EvLog where
  recs : List LogRec
  next : Nat
  overflow : Nat
  deriving DecidableEq, Repr

/-- Where a write came from (03_write_path.md R47, R253; a marking names the version it marks, R35; 08_inline_encryption.md R196; 15_lode_links_and_pools.md R364). -/
inductive WSrc where
  | host
  | marking (ver : Nat)
  | inject (inst : Inst)
  | clear (inst : Inst)
  | partner (tether : Fin 8) (seq : Nat)
  | resync (tether : Fin 8) (seq : Nat)
  deriving DecidableEq, Repr

/-- The nonce fields of Table 08-3 and the key of a line version: whether it is in the sequence domain, the counter
(MAJOR and MINOR, or SEQ and EPOCH), the region, and whether the region's key position B was used. -/
structure Nonce where
  seqDom : Bool
  major : Nat
  minor : Nat
  region : Nat
  posB : Bool
  deriving DecidableEq, Repr

/-- A CXL.mem request in a receive buffer, not past stage 1 (03_write_path.md R49, 04_read_path.md R88): `kind` is OP of
Table 12-10; `paused` the ticks for which cutoffs had been paused at its arrival (R86). -/
structure RxReq where
  id : Nat
  kind : Nat
  ld : Fin 16
  addr : Addr
  be : BitVec 64
  data : Line
  poison : Bool
  tick : Nat
  paused : Nat
  deriving DecidableEq, Repr

/-- A write in the pipeline (03_write_path.md R45 to R52). `be` all ones is a whole line; `psn` carries poison (R52); `data`
is the plaintext as received or merged, `ct` and `tag` what stage 4 gives; `partnerAck` that the partner has confirmed or
is not asked (R68); `intern` that its poison is the device's own (13_cache_and_on_chip_memory.md Table 13-8). -/
structure Write where
  seq : Nat
  ld : Fin 16
  line : Nat
  win : Option (Fin 64)
  be : BitVec 64
  data : Line
  psn : Bool
  src : WSrc
  gseq : Nat
  ct : Line
  tag : Tag
  nonce : Nonce
  place : Place
  failed : List (Fin 64)
  tries : Nat
  localOk : Bool
  partnerAck : Bool
  discard : Bool
  intern : Bool
  deriving DecidableEq, Repr

/-- A completion in the completion queue. -/
structure Completion where
  seq : Nat
  ld : Fin 16
  line : Nat
  win : Option (Fin 64)
  gseq : Nat
  src : WSrc
  deriving DecidableEq, Repr

/-- An LD's passphrase state (11_mailbox_and_sessions.md R282): check values under MAC slot 4, the records sealed under R345, wrong
attempts and flags. -/
structure Pass where
  user : Option Block128
  master : Option Block128
  userPw : Option Key
  masterPw : Option Key
  userTries : Nat
  masterTries : Nat
  locked : Bool
  frozen : Bool
  deriving DecidableEq, Repr

/-- One logical device. -/
structure LD where
  enabled : Bool
  partBase : Nat
  partSize : Nat
  decoders : Vector Decoder 4
  weightF : Nat
  limitN : Nat
  prefetch : Bool
  adm : List Write
  evLogs : Vector EvLog 4
  evPolicy : Vector Byte 4
  lifeWarn : Nat
  hotWarn : Int
  coldWarn : Int
  tsBase : Nat
  tsTick : Nat
  lsa : Mem
  vecMasked : Vector Bool 4
  vecPending : Vector Bool 4
  pass : Pass
  resetting : Option Bool
  scanResults : List (Nat × Nat)
  cw : Cw
  wins : Vector Win 64
  scrub : Scrub
  bar0 : Tbl Nat
  deriving DecidableEq, Repr

/-! ### Write path and the Shallows -/

/-- An interlock entry (03_write_path.md R47; 08 R191): the line, the sequence number that holds it, whether the holder is an internal write, the nonce of the version
the index or the map names, and the writes that wait. -/
structure ILock where
  line : Nat
  holder : Nat
  intern : Bool
  nonce : Nonce
  waiting : List Write
  deriving DecidableEq, Repr

/-- Metadata records of the Shallows (05_folding_and_wear.md Table 05-7; 06 R156; 07 R172; 08 R207; 09 R225; 15 R367). -/
inductive MetaRec where
  | segOpened (seg : SegKey) (bseq : Nat)
  | bandCommit (band : BandKey) (bseq : Nat)
  | granuleSet (granule : Nat) (poisoned : Bool)
  | piece (n : Nat) (cseq : Nat)
  | scrub (ld : Fin 16) (snum flags base len : Nat) (counts : ScrubCounts)
  | watermark (region : Nat) (page : Nat) (exhausted : Bool)
  | standIn (seg : SegKey) (lost : Fin 16) (into : Fin 16)
  | outcome (ld : Fin 16) (win : Fin 64) (gseq first last count code flags : Nat)
  | bitmap (tether : Fin 8) (granule : Nat)
  | confirmed (tether : Fin 8) (seq : Nat)
  | bitClear (tether : Fin 8) (granule : Nat)
  deriving DecidableEq, Repr

/-- An entry of TYPE 0b01 or 0b10 (Table 03-4; 07_commit_groups.md R172): its own sequence number, its DATA, and its place: the
slot of a pair that holds both copies, `none` while it has none (log 72); the sequence counter when it became durable (R174). -/
structure MetaEnt where
  seq : Nat
  item : MetaRec
  place : Option Place
  durAt : Nat
  deriving DecidableEq, Repr

/-- A segment mark, TYPE 0b11 (03_write_path.md R55, R56): its own sequence number and SEQ_BASE; each block of the pair holds one in the
same slot, with its own channel number. -/
structure SegMark where
  seq : Nat
  base : Nat
  deriving DecidableEq, Repr

/-- A line entry of the Shallows (Table 03-4): its header, DATA and TAG, whether each copy is whole, the key position of a
sequence-domain entry (R191), the number `ord` with which its version is applied (R164), and whether it is dead or released (R54). -/
structure Entry where
  seq : Nat
  ord : Nat
  ld : Fin 16
  line : Nat
  win : Option (Fin 64)
  psn : Bool
  data : Line
  tag : Tag
  ok0 : Bool
  ok1 : Bool
  written : Bool
  posB : Bool
  dead : Bool
  released : Bool
  deriving DecidableEq, Repr

/-- A pair of Shallows blocks (03_write_path.md R54, R56; 06 R148): channel positions in the set, next free slot, last
SEQ_BASE, WCLK of its first block's die when it was opened, and whether it is of the running part of the reserve (R53). -/
structure Pair where
  set : Fin 4
  num : Nat
  ch0 : Fin 16
  ch1 : Fin 16
  head : Nat
  seqBase : Nat
  isOpen : Bool
  openedAt : Nat
  running : Bool
  deriving DecidableEq, Repr

/-- A record of the Shallows index (Table 03-10). -/
structure IndexRec where
  pair : Nat
  slot : Nat
  schk : Nat
  psn : Bool
  deriving DecidableEq, Repr

/-- A tentative record (Table 03-11; 08 R191). `lost`: every copy was lost after its group's commit record was issued (R168). -/
structure TentRec where
  ld : Fin 16
  win : Fin 64
  gseq : Nat
  line : Nat
  seq : Nat
  place : Place
  psn : Bool
  nonce : Nonce
  data : Line
  intern : Bool
  lost : Bool
  deriving DecidableEq, Repr

/-- The write pipeline and the Shallows (03_write_path.md). -/
structure Wp where
  seq : Nat
  rx : List RxReq
  ilocks : List ILock
  mergeQ : List Write
  encQ : List Write
  allocQ : List Write
  progs : List Write
  idxQ : List Write
  cplQ : List Completion
  marks : Vector Bool 6
  relNow : Nat
  relPrev : Nat
  relMs : Nat
  admitted : Nat
  rrAt : Nat
  rrLeft : Nat
  bytesMs : Nat
  bytesTick : Nat
  pairs : List Pair
  entries : Tbl Entry
  index : Tbl IndexRec
  tents : List TentRec
  progQ : Vector Nat 64
  failBlocks : Tbl Nat
  updates : List (Nat × Nat)
  hot : Vector Bool 64
  marksAt : Tbl SegMark
  reserve : List MetaEnt
  deriving DecidableEq, Repr

/-! ### Read path -/

/-- Who a read is for: a host, the merge read of the write with that sequence number, a prefetch, the patrol. -/
inductive RSrc where
  | host
  | merge (seq : Nat)
  | prefetch
  | patrol
  deriving DecidableEq, Repr

/-- Where a read stands and which path R73 chose. -/
inductive RPath where
  | lookup
  | cache
  | zero
  | poison
  | tentative (p : Place)
  | shallows (p : Place) (schk : Nat)
  | peat (lane : Fin 16) (frame : Nat)
  | finished
  deriving DecidableEq, Repr

/-- An operation under way on a tile, which a read can suspend (Table 04-5): the program of a copy of a Shallows entry, a unit of a band, the
reset of a block. -/
inductive MediaOp where
  | slotProgram (p : Place) (second : Bool)
  | pageProgram (band : BandKey) (pos : Fin 16)
  | reset (b : BlockKey)
  deriving DecidableEq, Repr

/-- A read tracker entry (04_read_path.md R70 to R86). `nonce`: the nonce of the version chosen (R191); `fillOk`: no
tentative record at the lookup point (R77); `chan`: the channel whose queue holds the read (R81, R88); `paused`: the ticks for which cutoffs
had been paused at its arrival (R86); `data`, `poison`: a finished read's line. -/
structure Read where
  id : Nat
  ld : Fin 16
  line : Nat
  win : Option (Fin 64)
  src : RSrc
  arrived : Nat
  path : RPath
  nonce : Nonce
  lookupTick : Nat
  fillOk : Bool
  runAhead : Option (Fin 16 × Nat)
  chan : Option (Fin 64)
  paused : Nat
  recovering : Bool
  data : Line
  poison : Bool
  deriving DecidableEq, Repr

/-- A response in the response buffer. -/
structure Response where
  ld : Fin 16
  line : Nat
  data : Line
  poison : Bool
  deriving DecidableEq, Repr

/-- A stream detector (04_read_path.md R90). -/
structure Detector where
  ld : Fin 16
  line : Nat
  stride : Option Int
  confirms : Nat
  lastTick : Nat
  deriving DecidableEq, Repr

/-- The read pipeline (04_read_path.md R88 to R92). `squashed`: squashed reads that were sensing, by segment and tick (R74); `susp`:
suspensions of the operations under way (R87); `paused`: ticks for which cutoffs have been paused (R86). -/
structure Rp where
  rx : List RxReq
  tracker : List Read
  rsp : List Response
  pfQ : List Nat
  rcn : Nat
  readQ : Vector Nat 64
  predictor : Tbl (Fin 16 × Nat)
  detectors : List Detector
  patrolQ : List (Nat × Bool)
  squashed : List (SegKey × Nat)
  susp : List (MediaOp × Nat)
  paused : Nat
  leftNow : Tbl Nat
  bytesMs : Nat
  bytesTick : Nat
  deriving DecidableEq, Repr

/-! ### Folding, map and wear -/

/-- Granule states (Table 05-5). -/
inductive GranState where
  | unwritten
  | live
  | poisoned
  | moving
  deriving DecidableEq, Repr

/-- A granule map entry (Table 05-5). -/
structure MapEnt where
  state : GranState
  lane : Fin 16
  frame : Nat
  heat : Nat
  rfsh : Bool
  deriving DecidableEq, Repr

/-- A written Peat data slot (Table 05-2). Slots not listed in a frame are blank. -/
structure PeatSlot where
  data : Line
  tag : Tag
  psn : Bool
  deriving DecidableEq, Repr

/-- A frame (Table 05-1): the granule it holds and its written slots by line 0 to 255. -/
structure Frame where
  granule : Nat
  slots : Tbl PeatSlot
  live : Bool
  deriving DecidableEq, Repr

/-- Segment states (Table 05-10). -/
inductive SegState where
  | free
  | opened
  | full
  | victim
  | resetting
  | retired
  deriving DecidableEq, Repr

/-- A Peat segment (05_folding_and_wear.md R117): state, bands committed, hot or cold, resets, the band count of the lane
when it closed, positions whose block is lost, and the epoch in which its band 0 was written. -/
structure Segment where
  state : SegState
  bands : Nat
  hot : Bool
  resets : Nat
  closedAt : Nat
  lost : List (Fin 16)
  openedEpoch : Nat
  deriving DecidableEq, Repr

/-- A line as a fold gathered it (R110, R112): its index record and, once read, its new slot. -/
structure Gathered where
  line : Nat
  ix : IndexRec
  deriving DecidableEq, Repr

/-- A fold in progress (Table 05-8). -/
structure Fold where
  id : Nat
  set : Fin 4
  granule : Nat
  lane : Fin 16
  full : Bool
  gathered : List Gathered
  deriving DecidableEq, Repr

/-- A frame assembled in a band: the new slots, the lines the fold takes, or a copy's source. -/
structure Placed where
  granule : Nat
  slots : Tbl PeatSlot
  gathered : List Gathered
  copyOf : Option Nat
  deriving DecidableEq, Repr

/-- Where a band stands (R114; Table 05-8). -/
inductive BandPhase where
  | assembling
  | programming
  | committing
  deriving DecidableEq, Repr

/-- A band being written. `grans`, `wclk`, `tband`: the granules of its summary, and the clock and temperature band of its segment's die,
when its program was issued (R102, R132, R135). -/
structure Band where
  key : BandKey
  phase : BandPhase
  copy : Bool
  bseq : Nat
  frames : List Placed
  since : Nat
  grans : List Nat
  wclk : Nat
  tband : Nat
  deriving DecidableEq, Repr

/-- A band summary (Table 05-3): BSEQ, LANE, KIND, FMT and the granule of each frame, 0xFFFF_FFFF for an unused one. -/
structure Summary where
  bseq : Nat
  lane : Fin 16
  kind : Nat
  fmt : Nat
  grans : List Nat
  deriving DecidableEq, Repr

/-- Spare blocks of a set (R123, R128). -/
structure Spare where
  initial : Nat
  usable : Nat
  consumed : Nat
  deriving DecidableEq, Repr

/-- The fold and copy engines, the map and wear (05_folding_and_wear.md). `dieUsed`: spare blocks of a die used (R123); `blkBase`: the
resets of a block's segment when a spare block took the block's place (R128); `sums`: the summary of each band programmed; `wearTo`: the
segment into which a wear-levelling copy moves a victim (R121). -/
structure Fo where
  map : Tbl MapEnt
  frames : Tbl Frame
  segs : Tbl Segment
  bands : List Band
  folds : List Fold
  moves : Tbl Nat
  orderQ : Vector (List (Nat × Option (Fin 16))) 4
  copyQ : Vector (List SegKey) 4
  lastOrder : Vector Nat 4
  autonomous : Vector Bool 4
  level : Vector Nat 64
  queued : Vector Nat 64
  laneBands : Tbl Nat
  journal : List MetaEnt
  pieces : Tbl Nat
  relQ : List Nat
  spare : Vector Spare 4
  dieUsed : Tbl Nat
  blkBase : Tbl Nat
  sums : Tbl Summary
  wearTo : List (SegKey × SegKey)
  retired : List BlockKey
  retiring : List (BlockKey × Nat)
  hold : Vector Nat 4
  recon : Tbl (List Nat)
  exhausted : Vector Bool 4
  redirect : List (Fin 4 × Fin 16)
  deriving DecidableEq, Repr

/-! ### Drift, patrol -/

/-- What the drift tracker keeps of a die (06_drift_and_scrub.md R131 to R133, R143). -/
structure DriftDie where
  band : Nat
  hotNow : Nat
  hotPrev : Nat
  wclk : Nat
  pilots : Nat
  gaps : List Int
  done : Bool
  deriving DecidableEq, Repr

/-- The drift record of a segment (R135). -/
structure DriftSeg where
  wclk0 : Nat
  dw : Tbl Nat
  pb : Tbl Nat
  rdc : Nat
  visited : Bool
  deriving DecidableEq, Repr

/-- Margin classes (R146). -/
inductive Margin where
  | good
  | watch
  | refresh
  | failing
  deriving DecidableEq, Repr

/-- The drift entry of a block (R137). -/
structure DriftBlk where
  ofs : Int
  est : Bool
  pend : Bool
  mcls : Margin
  step : Nat
  deriving DecidableEq, Repr

/-- Patrol progress of a set (R145, R146, R149): segments visited this pass, segments in the pass, and segments to visit ahead of the others
once a tick is reached. -/
structure PatrolSet where
  visited : Nat
  total : Nat
  next : List (SegKey × Nat)
  deriving DecidableEq, Repr

/-- Drift, patrol and scrub state of the device (06_drift_and_scrub.md). `shAt`: when the patrol last went round a set's Shallows (R148). -/
structure Dr where
  dies : Tbl DriftDie
  segs : Tbl DriftSeg
  blocks : Tbl DriftBlk
  params : PatrolParams
  patrol : Vector PatrolSet 4
  sweep : Bool
  shAt : Vector Nat 4
  epoch : Nat
  shEpoch : Tbl Nat
  durDies : Tbl DriftDie
  durSegs : Tbl DriftSeg
  durBlocks : Tbl DriftBlk
  deriving DecidableEq, Repr

/-! ### Encryption -/

/-- Region states (Table 08-2). -/
inductive RegState where
  | free
  | active
  | rekeying
  deriving DecidableEq, Repr

/-- A region (08_inline_encryption.md R186, R187): range in bytes, CUR, sealed keys of positions A and B, watermark page,
pages early, whether exhaustion started the rekey, last durable watermark, and rekeys owed. -/
structure Region where
  state : RegState
  base : Nat
  size : Nat
  cur : Bool
  keyA : SealedKey
  keyB : SealedKey
  w : Nat
  early : Nat
  byExhaust : Bool
  durW : Option Nat
  owed : Bool
  deriving DecidableEq, Repr

/-- A counter block (Table 08-4), unlisted MINORs 0. -/
structure CBlock where
  major : Nat
  minors : Tbl Nat
  early : Bool
  deriving DecidableEq, Repr

/-- Encryption state (08_inline_encryption.md). `dirty`: counter lines (level, unit) dirty in the node cache. -/
structure Cr where
  regions : Vector Region 256
  blocks : Tbl CBlock
  durBlocks : Tbl CBlock
  nodes : Tbl CBlock
  dirty : List (Nat × Nat)
  sealedRoots : Tbl CBlock
  held : List Nat
  deriving DecidableEq, Repr

/-! ### Redundancy -/

/-- Stripe set states (Table 09-6). -/
inductive SetState where
  | optimal
  | restoring
  | degraded
  | rebuilt
  | exposed
  deriving DecidableEq, Repr

/-- A stripe set (09_redundancy_and_degraded.md R227, R231). `asked`: START came while the set was restoring. -/
structure StripeSet where
  state : SetState
  auto : Bool
  prio : Nat
  rebuilding : Bool
  asked : Bool
  paused : Bool
  rebuilt : Nat
  toRebuild : Nat
  deriving DecidableEq, Repr

/-- A unit under a fault window (R219 to R222): whether the fault is hard, whether silence is confirmed, and the channel's state
before it. -/
structure FaultItem where
  unit : FUnit
  hard : Bool
  confirmed : Bool
  prior : ChanState
  deriving DecidableEq, Repr

/-- An open fault window: windows 0 to 3 are the sets', 4 the package DRAM's. -/
structure FaultWin where
  items : List FaultItem
  openedAt : Nat
  deriving DecidableEq, Repr

/-- A control core (Table 01-6; R236): whose role it runs, whether it is in service, recent restarts. -/
structure Core where
  role : Option (Fin 12)
  inService : Bool
  restarts : List Nat
  deriving DecidableEq, Repr

/-- Redundancy (09_redundancy_and_degraded.md). `standIns`: segment, lost position, stand-in position; `pool`: blocks of dissolved
segments not yet used, by lane and position. -/
structure Rd where
  chans : Vector ChanState 64
  sets : Vector StripeSet 4
  windows : Vector (Option FaultWin) 5
  standIns : List (SegKey × Fin 16 × Fin 16)
  pool : Tbl Nat
  located : Vector Nat 5
  suspectSince : Vector (Option Nat) 64
  cores : Vector Core 12
  deriving DecidableEq, Repr

/-! ### Mailboxes and violations -/

/-- A background command (R268, R269): opcode, percent, return code once ended; `discard`: its result is discarded after an FLR
(R258). -/
structure Background where
  opcode : Nat
  percent : Nat
  running : Bool
  code : Nat
  discard : Bool
  deriving DecidableEq, Repr

/-- An open session (R276, R278): key slot, role (0 Operator, 1 Owner) and the completion of the last command of its instance. -/
structure Session where
  slot : Fin 4
  role : Nat
  lastTick : Nat
  deriving DecidableEq, Repr

/-- A handle waiting to be authenticated (R276). -/
structure Handle where
  handle : BitVec 32
  slot : Fin 4
  hn : BitVec 128
  dn : BitVec 128
  voidAt : Nat
  deriving DecidableEq, Repr

/-- The last failure record of an instance (R271). -/
structure Failure where
  opcode : Nat
  code : Nat
  reason : Nat
  param : Nat
  deriving DecidableEq, Repr

/-- A mailbox instance. -/
structure Mailbox where
  bg : Option Background
  session : Option Session
  handle : Option Handle
  failure : Failure
  deriving DecidableEq, Repr

/-- A violation counter (R284, Table 11-9). -/
structure Violation where
  total : Nat
  kinds : BitVec 8
  lastKind : Nat
  lastAddr : Nat
  deriving DecidableEq, Repr

/-- Mailboxes (11_mailbox_and_sessions.md). -/
structure Mb where
  inst : Vector Mailbox 18
  keeperSess : Option Session
  keeperHandle : Option Handle
  outage : Bool
  activate : Option (Inst × Bool)
  transfer : Option Inst
  viol : Vector Violation 17
  sanitize : Option (Inst × Nat)
  deriving DecidableEq, Repr

/-! ### Notifications, events, counters -/

/-- A notification source (12_notifications_events_counters.md R286 to R292). -/
structure Source where
  prio : Nat
  target : BitVec 17
  pend : Bool
  act : Bool
  owner : Nat
  written : Bool
  evseq : Nat
  detail : Nat
  deriving DecidableEq, Repr

/-- A claimant (R288 to R290): running priority (16 idle), stack of claimed sources with the priority before, mask. -/
structure Claimant where
  prio : Nat
  stack : List (Nat × Nat)
  mask : BitVec 256
  deriving DecidableEq, Repr

/-- A notification record (Table 12-4). -/
structure NRec where
  source : Nat
  prio : Nat
  targets : BitVec 17
  refire : Bool
  evseq : Nat
  detail : Nat
  deriving DecidableEq, Repr

/-- A ring (Tables 12-5): host memory base, enable, size, flags and pointers; `stopped` after a pointer mismatch (R297). -/
structure Ring where
  base : Nat
  en : Bool
  size : Nat
  armed : Bool
  qrst : Bool
  eoierr : Bool
  stopped : Bool
  prod : Nat
  phase : Bool
  cons : Nat
  lost : Nat
  qseq : Nat
  deriving DecidableEq, Repr

/-- Notifications. `fm` is the fabric manager's ring (R298). -/
structure Nt where
  src : Vector Source 256
  cl : Vector Claimant 17
  q : Vector Ring 16
  fm : Ring
  fill : List NRec
  drain : List NRec
  wait : List NRec
  deriving DecidableEq, Repr

/-- Events (12_notifications_events_counters.md R300 to R307). -/
structure Ev where
  fmPolicy : Vector Byte 4
  seq : Nat
  blockEnd : Nat
  ring : List EventRec
  dropped : Nat
  log : List EventRec
  first : List EventRec
  bud : Bool
  rate : Tbl (Nat × Nat)
  supp : Tbl Nat
  deriving DecidableEq, Repr

/-- The performance monitor (R308 to R312). -/
structure Pm where
  en : Bool
  ovf : BitVec 64
  ovfen : BitVec 64
  cfg : Vector (BitVec 64) 64
  cnt : Vector (BitVec 48) 64
  snap : Vector (BitVec 48) 64
  sen : Bool
  cls : Nat
  ldf : Nat
  ldfe : Bool
  rand : Nat
  n : Nat
  bank0 : List Sample
  bank1 : List Sample
  full : BitVec 2
  active : Nat
  sdrop : Nat
  gap : Nat
  deriving DecidableEq, Repr

/-! ### Cache and scratchpads -/

/-- A valid way of the line cache (13_cache_and_on_chip_memory.md R313 to R317). -/
structure CLine where
  line : Nat
  set : Nat
  way : Nat
  dirty : Bool
  age : Nat
  data : Line
  deriving DecidableEq, Repr

/-- Maintenance operations (R318): the operation, by address or by way. -/
inductive MOp where
  | clean
  | invalidate
  | cleanInvalidate
  deriving DecidableEq, Repr

/-- A queued maintenance operation: on a line, or on a set and way. -/
structure MReq where
  op : MOp
  byWay : Bool
  line : Nat
  set : Nat
  way : Nat
  deriving DecidableEq, Repr

/-- The line cache and its maintenance (13_cache_and_on_chip_memory.md). `waitClean`: cleans whose fold has not ended, and whether the
line is then invalidated; `rwait`: lines whose folds the range operation waits for, once it has walked. -/
structure Ca where
  lines : List CLine
  en : Bool
  stale : Bool
  lock : Bool
  opq : List MReq
  waitClean : List (Nat × Bool)
  synced : Nat
  rop : Nat
  rall : Bool
  rbusy : Bool
  rdone : Bool
  rrej : Bool
  rcause : Nat
  rabt : Bool
  rbase : Nat
  rlen : Nat
  rprog : Nat
  startedStale : Bool
  rwait : Option (List Nat)
  valid : List Nat
  deriving DecidableEq, Repr

/-- The scratchpad banks (R328 to R332): banks 0 to 15 of the LDs, 16 of the device; bytes with bad parity. -/
structure Sp where
  banks : Vector Mem 17
  bad : List (Nat × Nat)
  deriving DecidableEq, Repr

/-! ### Lode links and pools -/

/-- Lode port states (15_lode_links_and_pools.md Table 15-1). -/
inductive LodeState where
  | down
  | discovery
  | up
  deriving DecidableEq, Repr

/-- A lode port (R214, R357): lanes trained and lost, the bring-up nonce, whether keys are derived, messages sent and received under them,
bring-ups in a row that failed their first tag, the partner's member ID, when keys were derived and a message last arrived. -/
structure LodePort where
  state : LodeState
  lanes : Nat
  lost : BitVec 2
  nonce : Block128
  peerNonce : Block128
  keyed : Bool
  derived : Nat
  txKey : Key
  rxKey : Key
  msgCtr : Nat
  rxCtr : Nat
  firstTagFails : Nat
  stuck : Bool
  level : Nat
  partner : Nat
  lastRx : Nat
  deriving DecidableEq, Repr

/-- Tether states (Table 15-5 and 15-6). -/
inductive TetherState where
  | free
  | pairing
  | syncing
  | inSync
  | absent
  | refused
  deriving DecidableEq, Repr

/-- A tether end (15_lode_links_and_pools.md R360 to R370). `sent`: writes that await TCONF with the tick they were sent; `confirmed`: the
confirmed mark; `rxq`: the replica's receive queue; `recs`: commit records received and not yet verified, by window and primary SEQ; resync:
the granule under copy `pos`, whether every granule is walked, lines not yet sent, lines that await TCONF; `partnerReplica`: the role the
partner last reported; `removed`: the partner has sent REMOVED. -/
structure Tether where
  state : TetherState
  replica : Bool
  epoch : Nat
  full : Bool
  part : Bool
  region : Nat
  partner : Nat
  ports : BitVec 4
  key : SealedKey
  bitmap : List Nat
  sent : List (Nat × Nat)
  confirmed : Nat
  rxq : List Write
  recs : List (Fin 64 × Nat)
  pos : Nat
  walkAll : Bool
  unsent : List Nat
  rs : List (Nat × Nat)
  partnerReplica : Bool
  removed : Bool
  deriving DecidableEq, Repr

/-- Lode links and the pool. -/
structure Lo where
  ports : Vector LodePort 4
  tethers : Vector Tether 8
  levels : List MemberLevel
  proto : Nat
  deriving DecidableEq, Repr

/-! ### Start-up -/

/-- Kinds of start (17_startup_and_recovery.md R404). -/
inductive BootKind where
  | firmwareOnly
  | format
  | recovery
  | normal
  deriving DecidableEq, Repr

/-- How far a start has come. -/
inductive BootPhase where
  | off
  | dieUp
  | trained
  | enabled
  | done
  deriving DecidableEq, Repr

/-- Start-up (17_startup_and_recovery.md). -/
structure Bt where
  kind : BootKind
  phase : BootPhase
  deriving DecidableEq, Repr

/-! ### What leaves the device -/

/-- The content of a reply: nothing, bytes, or named fields (log 16). -/
inductive Payload where
  | none
  | bytes (l : List Byte)
  | fields (l : List (String × Nat))
  deriving DecidableEq, Repr

/-- Messages a lode port sends (Table 15-4), with the fields that matter to the partner. -/
inductive LodeMsg where
  | hello (pool : BitVec 64) (member proto fmt : Nat) (nonce : Block128) (entries : List TetherEntry)
  | keepalive
  | level (table : List MemberLevel)
  | switch (level : Nat)
  | twrite (line : Nat) (win : Option (Fin 64)) (psn : Bool) (data : Line) (seq : Nat)
  | tconf (seqs : List Nat)
  | tcommit (win : Fin 64) (gseq first last count : Nat) (seq : Nat)
  | tpoint (win : Fin 64) (gseq : Nat)
  | tabort (win : Fin 64) (outcome gseq : Nat)
  | tquery (win : Fin 64) (gseq : Nat)
  | tqans (win : Fin 64) (answer : Bool) (gseq : Nat)
  | rsline (line : Nat) (psn : Bool) (data : Line) (seq : Nat)
  | rsmark (granule : Nat) (poisoned : Bool)
  | bitmap (first : Nat) (bits : List Bool)
  | role (replica : Bool) (epoch : Nat)
  | removed
  deriving DecidableEq, Repr

/-- What leaves the device, newest first in `State.out` (log 1). -/
inductive Output where
  /-- A read's data with its DevLoad (R255). -/
  | drs (ld : Fin 16) (line : Nat) (data : Line) (poison : Bool) (load : Nat)
  /-- A write's completion with its DevLoad. -/
  | ndr (ld : Fin 16) (seq : Nat) (load : Nat)
  /-- Cmp of MemInv and MemInvNT. -/
  | cmp (ld : Fin 16)
  /-- A mailbox reply: instance, opcode, return code, payload. -/
  | mbx (inst : Inst) (opcode : Nat) (code : Nat) (payload : Payload)
  /-- Data of a register or scratchpad read, or of an AtomicOp, by claimant. -/
  | reg (who : Fin 17) (value : Nat)
  /-- An AtomicOp completed with Unsupported Request (R329). -/
  | unsupported (ld : Fin 16)
  /-- MSI-X vector of an LD (R266). -/
  | msix (ld : Fin 16) (vec : Fin 4)
  /-- An I3C In-Band Interrupt (R298). -/
  | ibi
  /-- A record written to an LD's ring in host memory: its address and its 16 bytes (Table 12-3). -/
  | ringRec (ld : Fin 16) (addr : Nat) (word : Nat)
  /-- A lode message by port. -/
  | lode (port : Fin 4) (tether : Fin 8) (msg : LodeMsg)
  /-- An SPDM response over DOE or MCTP. -/
  | spdm (via : Inst) (code : Nat) (payload : Payload)
  /-- A CDAT table read by DOE (R262). -/
  | doe (ld : Fin 16) (payload : Payload)
  /-- A GPF phase reported complete (R39). -/
  | gpf (port : Fin 2) (phase : Nat)
  /-- A CXL error report: poison, containment, AER severity (R259). -/
  | err (ld : Option (Fin 16)) (severity : Nat)
  /-- A command packet on a media channel, with its chip select and its extension (R430). -/
  | vyvon (chan : Fin 64) (cs : Nat) (packet : BitVec 48) (ext : Option (BitVec 48))
  /-- A transaction to a media stage on the PSC bus: its address, its PMBus command and the value written; a read writes none (R441). -/
  | psc (addr command : Nat) (value : Option Nat)
  /-- An I3C answer to SETDASA or ENTDAA (R452). -/
  | i3c (accepted : Bool)
  deriving DecidableEq, Repr

/-- The state of the block. -/
structure State where
  pending : List Instr
  held : List Instr
  now : Nat
  freeIx : Nat
  nextId : Nat
  out : List Output
  hw : Hw
  pw : Pw
  kp : Kp
  sec : Sec
  th : Th
  md : Md
  lk : Lk
  lds : Vector LD 16
  wp : Wp
  rp : Rp
  fo : Fo
  dr : Dr
  cr : Cr
  rd : Rd
  mb : Mb
  nt : Nt
  ev : Ev
  pm : Pm
  ca : Ca
  sp : Sp
  lo : Lo
  bt : Bt
  deriving DecidableEq, Repr

/-! ### After reset

The device as shipped and not yet powered: the keeper is not alive, every rail is down, the life cycle is Blank. Registers
of the data die hold their power-up values, which `Ops` takes again at each power-up of the data die. -/

/-- Window thresholds of Table 16-2 in steps of 5 mV, with the defaults of R379. -/
def railDefaults : Vector Rail 12 :=
  #v[⟨330, 740, 1, 200, 5000⟩, ⟨349, 378, 3, 200, 5000⟩, ⟨139, 151, 3, 200, 5000⟩, ⟨155, 168, 3, 200, 5000⟩,
     ⟨165, 179, 3, 200, 5000⟩, ⟨233, 252, 3, 200, 5000⟩, ⟨349, 378, 3, 200, 5000⟩, ⟨204, 221, 3, 200, 5000⟩,
     ⟨96, 106, 3, 200, 5000⟩, ⟨233, 252, 3, 200, 5000⟩, ⟨485, 525, 3, 200, 5000⟩, ⟨873, 945, 3, 200, 5000⟩]

/-- Pw with no supply. -/
def Pw.init : Pw :=
  { st := .off, alive := false, vin := 0, vhold := 0, vsup := 0, vinGood := false, offLatch := false, offMinDone := true,
    step := 1, railsUp := 0, rails := railDefaults, retries := 3, retriesLeft := 3, latched := .none,
    pfailWait := false, tripAfter := false, flushCause := .none, flushFromVin := false, flushPre := false,
    flushRec := none, faultWait := false, faultRestartAt := none, lastFaultAt := none,
    holdupReady := false, armed := false, boostOn := false, charging := false, chargeWarned := false, pfailOut := false,
    thermtripOut := false, pfailIn := false, meden := false, straps := 0,
    i3cStatic := 0, i3cDyn := none, selected := .n, present := .n, target := none, nextPoint := none,
    pointWaiters := [], wideWindow := false, dieUp := false, dataPath := false, mediaHold := none, mediaCool := none, coolingSince := none }

/-- A recovery report of zeros. -/
def RecoveryReport.init : RecoveryReport := ⟨0, 0, 0, 0, 0, 0, 0, 0, 0, 0, []⟩

/-- A group record of zeros. -/
def GroupRec.init : GroupRec := ⟨0, 0, 0, false, 0, 0, 0⟩

/-- An empty partition of `n` sectors (Table 16-14). -/
def Partition.init (n : Nat) : Partition := ⟨[], n, 0, 0⟩

/-- The keeper store of a device never started. -/
def Kp.init : Kp :=
  { dsc := 0, endRec := .none, lastShutdown := 0, formatDone := false, replayOwed := false, report := .init,
    groupBoot := 0, groupReport := .replicate 16 (.replicate 64 .init), shutdownState := 0,
    chanRec := .replicate 64 .inService, chanSerials := [], lostStacks := [], eolSets := [], poolId := 0, memberId := 0,
    formatLevel := 1, cacheEn := true, rateLimits := [], customer := [], readPw := 0, writePw := 0, pwWrong := 0,
    pwUntil := none, parts := #v[.init 256, .init 256, .init 192, .init 1152, .init 64, .init 128], logTokens := 1024,
    logTick := 0 }

/-- A firmware image of log 4, every check of R336 holding. -/
def imageDefault : Image := ⟨0x11, 0, 1, 1, 0, true, true, true, true⟩

/-- A tamper input with MODE 0 (Table 14-9). -/
def TamperCfg.init : TamperCfg := ⟨0, false, 0⟩

/-- No key sealed. -/
def SealedKey.init : SealedKey := ⟨none, false⟩

/-- Security state of a Blank device. -/
def Sec.init : Sec :=
  { fuseLC := .blank, keepLC := .blank, pendingLC := none, revoked := 0, antiRollback := 0, raiseAt := none,
    imgA := some imageDefault, imgB := some imageDefault, prefB := false, runningB := false, runImg := none, refA := 0, refB := 0,
    romOnly := false, macSlots := .replicate 16 ⟨0, 0, 2 ^ 32⟩, mac := none, savedMacs := [], katFailed := false, sealEpoch := 0,
    sealNumber := 0, seqEpoch := 0, evReserve := 0, keyTree := .init, keyPlace := .init,
    keyCacheIx := none, keyWrap := .init, keyPass := .init, keyCust := .init, spdmPhase := .replicate 18 .start,
    spdm := .replicate 4 .free, tamper := .replicate 4 .init, tamperActive := 0, flashTamper := .replicate 4 .init,
    frozenTamper := none, sessKeys := .replicate 4 none, authFails := .replicate 4 0, backoffSecs := .replicate 4 0,
    backoffUntil := .replicate 4 none }

/-- A sensor with no reading yet. -/
def Sensor.init : Sensor := ⟨none, false, none, 0, 0, none, []⟩

/-- No temperature known. -/
def Th.init : Th :=
  { ctl := .replicate 23 .init, media := [], level := 0, grace := 100, trend := none, refresh := .replicate 5 1,
    dueCtl := 0, dueMedia := 0, tripped := false }

/-- Channels untrained, packages as fitted (log 4). -/
def Md.init : Md :=
  { packages := [], retries := [], alerts := [], crcRun := .replicate 64 0,
    trained := .replicate 64 false, status := [], lostDies := [], lostTiles := [] }

/-- A port that is down. -/
def Port.init : Port := ⟨.down, 16, 0, true, false, ⟨none, none, none, none⟩⟩

/-- No link, no capacity handed out. -/
def Lk.init : Lk :=
  { ports := .replicate 2 .init, mediaReady := false, mediaStatus := .notReady, memActive := false, readOnly := false,
    fatal := false, aerNonfatal := false, aerCorr := false,
    dcRegions := .replicate 8 ⟨0, 0, false⟩, extents := [], poison := [], poisonOverflow := none, grant := none,
    epcEn := false, ttrEn := false, qosValue := 0, gpf := [] }

/-- An uncommitted decoder. -/
def Decoder.init : Decoder := ⟨⟨0, 0, 0, 0, 0⟩, false, false⟩

/-- A window that has closed no group. -/
def Win.init : Win :=
  { state := .idle, dbrej := false, dbcause := 0, outcome := 0, arrived := 0, gseq := 0, count := 0, openedAt := 0,
    paused := 0, acked := 0, first := 0, last := 0, recIssued := false, recSeq := 0, recLocal := false,
    recPartner := false, recPlace := none, teth := none, closing := none, dbWait := none, durGseq := 0, durOutcome := 0, durCount := 0, pre := none }

/-- The commit-window block at its reset values (Tables 07-7 to 07-10). -/
def Cw.init : Cw := ⟨0, false, 0, 10, true, false, 0x100000⟩

/-- Scrub counts of zero. -/
def scrubZero : ScrubCounts := ⟨0, 0, 0, 0, 0, 0, false⟩

/-- The scrub block at its reset values (Tables 06-7 to 06-10). -/
def Scrub.init : Scrub :=
  { repair := true, notify := true, base := 0, len := 0, busy := false, done := false, rej := false, cause := 0,
    progress := 0, aborting := false, snum := 0, counts := scrubZero, durable := scrubZero, startTick := 0, recTick := 0,
    scan := false, incomplete := false, sumBase := 0, sumLen := 0, last := none }

/-- An empty CXL event log. -/
def EvLog.init : EvLog := ⟨[], 1, 0⟩

/-- An LD not enabled. -/
def LD.init : LD :=
  { enabled := false, partBase := 0, partSize := 0, decoders := .replicate 4 .init, weightF := 0, limitN := 255,
    prefetch := true, adm := [], evLogs := .replicate 4 .init, evPolicy := .replicate 4 0, lifeWarn := 100,
    hotWarn := 32767, coldWarn := -32768, tsBase := 0, tsTick := 0, lsa := [], vecMasked := .replicate 4 true,
    vecPending := .replicate 4 false, pass := ⟨none, none, none, none, 0, 0, false, false⟩, resetting := none, scanResults := [],
    cw := .init, wins := .replicate 64 .init, scrub := .init, bar0 := [] }

/-- The write pipeline empty. -/
def Wp.init : Wp :=
  { seq := 0, rx := [], ilocks := [], mergeQ := [], encQ := [], allocQ := [], progs := [], idxQ := [], cplQ := [],
    marks := .replicate 6 false, relNow := 0, relPrev := 0, relMs := 0, admitted := 0, rrAt := 0, rrLeft := 0,
    bytesMs := 0, bytesTick := 0, pairs := [], entries := [], index := [], tents := [], progQ := .replicate 64 0,
    failBlocks := [], updates := [], hot := .replicate 64 false, marksAt := [], reserve := [] }

/-- The read pipeline empty. -/
def Rp.init : Rp :=
  { rx := [], tracker := [], rsp := [], pfQ := [], rcn := 0, readQ := .replicate 64 0, predictor := [], detectors := [],
    patrolQ := [], squashed := [], susp := [], paused := 0, leftNow := [], bytesMs := 0, bytesTick := 0 }

/-- Nothing folded yet; spare of log 21 for 16 dies per channel. -/
def Fo.init : Fo :=
  { map := [], frames := [], segs := [], bands := [], folds := [], moves := [], orderQ := .replicate 4 [],
    copyQ := .replicate 4 [], lastOrder := .replicate 4 0, autonomous := .replicate 4 false, level := .replicate 64 0,
    queued := .replicate 64 0, laneBands := [], journal := [], pieces := [], relQ := [],
    spare := .replicate 4 ⟨5033216, 5033216, 0⟩, dieUsed := [], blkBase := [], sums := [], wearTo := [], retired := [], retiring := [], hold := .replicate 4 0, recon := [], exhausted := .replicate 4 false,
    redirect := [] }

/-- The patrol parameters at the defaults of Table 06-5: minutes, refresh threshold in 10^-6, base-2 logarithms of the
limits, per cent. -/
def patrolDefaults : PatrolParams := ⟨⟨10080, 4320, 1440, 480, 3000, 11, 20⟩, 3⟩

/-- Drift tables cleared. -/
def Dr.init : Dr :=
  { dies := [], segs := [], blocks := [], params := patrolDefaults, patrol := .replicate 4 ⟨0, 0, []⟩, sweep := false,
    shAt := .replicate 4 0,
    epoch := 0, shEpoch := [], durDies := [], durSegs := [], durBlocks := [] }

/-- A free region. -/
def Region.init : Region := ⟨.free, 0, 0, false, .init, .init, 0, 0, false, none, false⟩

/-- No region, every counter block zero. -/
def Cr.init : Cr :=
  { regions := .replicate 256 .init, blocks := [], durBlocks := [], nodes := [], dirty := [], sealedRoots := [], held := [] }

/-- A set with every channel in service. -/
def StripeSet.init : StripeSet := ⟨.optimal, true, 1, false, false, false, 0, 0⟩

/-- The cores in the roles of Table 01-6: core 11 stands by. -/
def coresInit : Vector Core 12 :=
  #v[⟨some 0, true, []⟩, ⟨some 1, true, []⟩, ⟨some 2, true, []⟩, ⟨some 3, true, []⟩, ⟨some 4, true, []⟩, ⟨some 5, true, []⟩,
     ⟨some 6, true, []⟩, ⟨some 7, true, []⟩, ⟨some 8, true, []⟩, ⟨some 9, true, []⟩, ⟨some 10, true, []⟩, ⟨none, true, []⟩]

/-- Nothing lost. -/
def Rd.init : Rd :=
  { chans := .replicate 64 .inService, sets := .replicate 4 .init, windows := .replicate 5 none, standIns := [], pool := [],
    located := .replicate 5 0, suspectSince := .replicate 64 none, cores := coresInit }

/-- A last failure record of zeros. -/
def Failure.init : Failure := ⟨0, 0, 0, 0⟩

/-- An idle mailbox. -/
def Mailbox.init : Mailbox := ⟨none, none, none, .init⟩

/-- A violation counter of zeros. -/
def Violation.init : Violation := ⟨0, 0, 0, 0⟩

/-- Mailboxes idle. -/
def Mb.init : Mb :=
  { inst := .replicate 18 .init, keeperSess := none, keeperHandle := none, outage := false, activate := none, transfer := none,
    viol := .replicate 17 .init, sanitize := none }

/-- The reset priority of a source (Table 12-1). -/
def srcPrio (n : Nat) : Nat :=
  if n < 0x10 then 4 else if n < 0x20 then 3 else if 0x21 ≤ n ∧ n ≤ 0x28 then 10 else if n = 0x29 then 14
  else if n = 0x30 then 8 else if n = 0x31 then 12 else if n = 0x32 then 11 else if n = 0x33 then 9
  else if n = 0x34 then 5 else if n = 0x35 then 6 else if n = 0x36 then 9 else if n = 0x37 then 7
  else if n = 0x40 ∨ n = 0x41 then 2 else if 0xF0 ≤ n then 1 else 0

/-- The reset target mask of a source (Table 12-1); sources 0x029 and 0x031 also take every enabled LD (R287). -/
def srcTarget (n : Nat) : BitVec 17 :=
  if n < 0x10 then BitVec.ofNat 17 (2 ^ n) else if n < 0x20 then BitVec.ofNat 17 (2 ^ (n - 0x10))
  else if (0x21 ≤ n ∧ n ≤ 0x29) ∨ (0x30 ≤ n ∧ n ≤ 0x37) ∨ n = 0x40 ∨ n = 0x41 ∨ 0xF0 ≤ n then BitVec.ofNat 17 0x10000
  else 0

/-- A ring at its reset values (Table 12-5). -/
def Ring.init : Ring := ⟨0, false, 6, false, false, false, false, 0, true, 0, 0, 0⟩

/-- Notifications at power-up (R287, R298, Table 12-5). -/
def Nt.init : Nt :=
  { src := .ofFn fun n => ⟨srcPrio n, srcTarget n, false, false, 31, false, 0, 0⟩,
    cl := .replicate 17 ⟨16, [], BitVec.allOnes 256⟩, q := .replicate 16 .init,
    fm := { Ring.init with en := true, armed := true }, fill := [], drain := [], wait := [] }

/-- No event recorded. -/
def Ev.init : Ev := ⟨.replicate 4 0, 0, 0, [], 0, [], [], false, [], []⟩

/-- The performance monitor at its reset values (Tables 12-11, 12-12). -/
def Pm.init : Pm :=
  { en := false, ovf := 0, ovfen := 0, cfg := .replicate 64 0, cnt := .replicate 64 0, snap := .replicate 64 0,
    sen := false, cls := 0, ldf := 0, ldfe := false, rand := 0, n := 0x400, bank0 := [], bank1 := [], full := 0,
    active := 0, sdrop := 0, gap := 0 }

/-- The line cache empty (R324, Table 13-5). -/
def Ca.init : Ca :=
  { lines := [], en := true, stale := false, lock := false, opq := [], waitClean := [], synced := 0, rop := 0,
    rall := false, rbusy := false, rdone := false, rrej := false, rcause := 0, rabt := false, rbase := 0, rlen := 0,
    rprog := 0, startedStale := false, rwait := none, valid := [] }

/-- Scratchpads of zeros (R330). -/
def Sp.init : Sp := ⟨.replicate 17 [], []⟩

/-- A lode port that is down. -/
def LodePort.init : LodePort :=
  { state := .down, lanes := 2, lost := 0, nonce := 0, peerNonce := 0, keyed := false, derived := 0, txKey := 0, rxKey := 0, msgCtr := 0, rxCtr := 0, firstTagFails := 0, stuck := false, level := 0,
    partner := 0, lastRx := 0 }

/-- A free tether end. -/
def Tether.init : Tether :=
  { state := .free, replica := false, epoch := 0, full := false, part := false, region := 0, partner := 0, ports := 0, key := .init,
    bitmap := [], sent := [], confirmed := 0, rxq := [], recs := [], pos := 0, walkAll := false, unsent := [], rs := [],
    partnerReplica := false, removed := false }

/-- Lode ports down, tethers free (R356, R360). -/
def Lo.init : Lo :=
  { ports := .replicate 4 LodePort.init,
    tethers := .replicate 8 .init, levels := [], proto := 1 }

/-- The block right after reset. -/
def State.reset : State :=
  { pending := [], held := [], now := 0, freeIx := 0, nextId := 0, out := [], hw := ⟨.s, .c, 64, 16, 0⟩, pw := .init,
    kp := .init, sec := .init, th := .init, md := .init, lk := .init, lds := .replicate 16 .init, wp := .init, rp := .init,
    fo := .init, dr := .init, cr := .init, rd := .init, mb := .init, nt := .init, ev := .init, pm := .init, ca := .init,
    sp := .init, lo := .init, bt := ⟨.firmwareOnly, .off⟩ }

/-! ### How a command can stop -/

/-- Stops with a fault. -/
inductive Fault where
  /-- A supply voltage beyond the absolute maximum ratings of Table 20-1: 20_electrical_and_package.md R443 gives the part
  no behaviour there. Raised by the commands that carry a supply voltage (log 25). Safe: the model stops where nothing is
  promised. -/
  | beyondRatings
  deriving DecidableEq, Repr

/-- Stops with a refusal. -/
inductive Refusal where
  /-- A command whose meaning this model does not hold yet, by its mnemonic: raised by an arm of `exec` alone. Safe. -/
  | notModelled (mnemonic : String)
  deriving DecidableEq, Repr

end Sys2Proof.Machine
end

