-- ==== Sys2Proof/Machine/Ops.lean ====
section
/-! DEFINITION. The named operations over the state that every family shares: tables and byte memory in canonical form,
updates of one LD, window, port or slot, free values, time, performance-monitor counting and outputs. -/

namespace Sys2Proof.Machine

/-! ### Tables in canonical form -/

/-- What a table holds at a key, `d` where it lists none. -/
def tget {β : Type} (d : β) : Tbl β → Nat → β
  | [], _ => d
  | (k', v) :: m, k => if k' = k then v else tget d m k

/-- What a table without a default lists at a key. -/
def tfind {β : Type} : Tbl β → Nat → Option β
  | [], _ => none
  | (k', v) :: m, k => if k' = k then some v else tfind m k

/-- A table without a default with a key set. -/
def tins {β : Type} (k : Nat) (v : β) : Tbl β → Tbl β
  | [] => [(k, v)]
  | (k', v') :: m =>
    if k < k' then (k, v) :: (k', v') :: m else if k = k' then (k, v) :: m else (k', v') :: tins k v m

/-- A table without a key. -/
def tdel {β : Type} (k : Nat) (m : Tbl β) : Tbl β := m.filter fun p => !(p.1 == k)

/-- A table with a key set; a value equal to the default `d` is not listed, and keys stay strictly rising. -/
def tput {β : Type} [DecidableEq β] (d : β) (k : Nat) (v : β) (m : Tbl β) : Tbl β := if v = d then tdel k m else tins k v m

/-- The canonical form of a table whose unlisted keys read `d`. -/
abbrev Tbl.wf {β : Type} (d : β) (m : Tbl β) : Prop :=
  List.Pairwise (fun a b => a.1 < b.1) m ∧ ∀ p ∈ m, p.2 ≠ d

/-! ### Byte memory -/

/-- One byte of an addressed RAM; unlisted bytes read 0x00. -/
def Mem.read (m : Mem) (a : Nat) : Byte := tget 0 m a

/-- A RAM with one byte written. -/
def Mem.write (m : Mem) (a : Nat) (b : Byte) : Mem := tput 0 a b m

/-- The canonical form of a RAM. -/
abbrev Memory.wf (m : Mem) : Prop := Tbl.wf (0 : Byte) m

/-- `n` bytes from address `a`, little-endian (00_scope.md, Table 00-4). -/
def Mem.readLE (m : Mem) (a : Nat) : Nat → Nat
  | 0 => 0
  | n + 1 => (m.read a).toNat + 256 * Mem.readLE m (a + 1) n

/-- The low `n` bytes of `v` written from address `a`, little-endian. -/
def Mem.writeLE (m : Mem) (a : Nat) : Nat → Nat → Mem
  | 0, _ => m
  | n + 1, v => Mem.writeLE (m.write a (BitVec.ofNat 8 v)) (a + 1) n (v / 256)

/-- A list of bytes written from address `a`. -/
def Mem.writeBytes (m : Mem) (a : Nat) : List Byte → Mem
  | [] => m
  | b :: bs => Mem.writeBytes (m.write a b) (a + 1) bs

/-- `n` bytes from address `a` as a list. -/
def Mem.readBytes (m : Mem) (a n : Nat) : List Byte := (List.range n).map fun i => m.read (a + i)

/-! ### Updating one of many -/

/-- A vector with the element at an index changed by `f`. -/
def vmod {α : Type} {n : Nat} (v : Vector α n) (i : Fin n) (f : α → α) : Vector α n := v.set i (f v[i])

/-- One LD. -/
def State.ld (s : State) (n : Fin 16) : LD := s.lds[n]

/-- The state with one LD changed. -/
def State.modLd (s : State) (n : Fin 16) (f : LD → LD) : State := { s with lds := vmod s.lds n f }

/-- Every LD changed. -/
def State.mapLds (s : State) (f : LD → LD) : State := { s with lds := s.lds.map f }

/-- One commit window. -/
def State.win (s : State) (n : Fin 16) (w : Fin 64) : Win := (s.ld n).wins[w]

/-- The state with one commit window changed. -/
def State.modWin (s : State) (n : Fin 16) (w : Fin 64) (f : Win → Win) : State :=
  s.modLd n fun l => { l with wins := vmod l.wins w f }

/-- The state with one LD's commit-window block changed. -/
def State.modCw (s : State) (n : Fin 16) (f : Cw → Cw) : State := s.modLd n fun l => { l with cw := f l.cw }

/-- The state with one LD's scrub block changed. -/
def State.modScrub (s : State) (n : Fin 16) (f : Scrub → Scrub) : State := s.modLd n fun l => { l with scrub := f l.scrub }

/-- The state with one CXL port changed. -/
def State.modPort (s : State) (p : Fin 2) (f : Port → Port) : State :=
  { s with lk := { s.lk with ports := vmod s.lk.ports p f } }

/-- The state with one lode port changed. -/
def State.modLode (s : State) (p : Fin 4) (f : LodePort → LodePort) : State :=
  { s with lo := { s.lo with ports := vmod s.lo.ports p f } }

/-- The state with one tether changed. -/
def State.modTether (s : State) (t : Fin 8) (f : Tether → Tether) : State :=
  { s with lo := { s.lo with tethers := vmod s.lo.tethers t f } }

/-- The state with one region changed. -/
def State.modRegion (s : State) (r : Fin 256) (f : Region → Region) : State :=
  { s with cr := { s.cr with regions := vmod s.cr.regions r f } }

/-- The state with one stripe set changed. -/
def State.modSet (s : State) (k : Fin 4) (f : StripeSet → StripeSet) : State :=
  { s with rd := { s.rd with sets := vmod s.rd.sets k f } }

/-- The state with one notification source changed. -/
def State.modSrc (s : State) (n : Fin 256) (f : Source → Source) : State :=
  { s with nt := { s.nt with src := vmod s.nt.src n f } }

/-- The state with one claimant changed. -/
def State.modCl (s : State) (c : Fin 17) (f : Claimant → Claimant) : State :=
  { s with nt := { s.nt with cl := vmod s.nt.cl c f } }

/-- The state with one scratchpad bank changed. -/
def State.modBank (s : State) (b : Fin 17) (f : Mem → Mem) : State :=
  { s with sp := { s.sp with banks := vmod s.sp.banks b f } }

/-- The index of a mailbox (Table 11-1): LD n, 16 for 0x0100, 17 for 0x0101. -/
def Inst.ix : Inst → Fin 18
  | .ld n => ⟨n.val, by omega⟩
  | .fm => 16
  | .i3c => 17

/-- The claimant or violation counter of an access by a mailbox: LD n, or 16 for the fabric manager. -/
def Inst.who : Inst → Fin 17
  | .ld n => ⟨n.val, by omega⟩
  | .fm => 16
  | .i3c => 16

/-- The state with one mailbox changed. -/
def State.modMb (s : State) (i : Inst) (f : Mailbox → Mailbox) : State :=
  { s with mb := { s.mb with inst := vmod s.mb.inst (Inst.ix i) f } }

/-- The LD of a claimant below 16. -/
def ldOf (n : Nat) : Fin 16 := ⟨n % 16, by omega⟩

/-- The claimant of an LD. -/
def whoOf (n : Fin 16) : Fin 17 := ⟨n.val, by omega⟩

/-- All indices below `n`. -/
def allFin (n : Nat) : List (Fin n) := List.finRange n

/-! ### Outputs, free values, identifiers -/

/-- Something leaves the device (log 1). -/
def State.emit (s : State) (o : Output) : State := { s with out := o :: s.out }

/-- The number of the next free value, and the state with it drawn (log 5). -/
def State.draw (s : State) : Nat × State := (s.freeIx, { s with freeIx := s.freeIx + 1 })

/-- A new identifier of a tracker entry or a fold (log 24). -/
def State.newId (s : State) : Nat × State := (s.nextId, { s with nextId := s.nextId + 1 })

/-! ### Time (Table 01-2, Table 00-4): one tick is 1.25 ns -/

/-- Ticks in a microsecond. -/
def usTicks (n : Nat) : Nat := n * 800

/-- Ticks in a millisecond. -/
def msTicks (n : Nat) : Nat := n * 800000

/-- Ticks in a second. -/
def secTicks (n : Nat) : Nat := n * 800000000

/-- What a channel did in the last second, by channel and tick (Table 09-5). -/
def lastSec (now : Nat) (l : List (Fin 64 × Nat)) : List (Fin 64 × Nat) := l.filter fun x => decide (now - x.2 < secTicks 1)

/-- `n` more of them now. -/
def noteAt (now : Nat) (c : Fin 64) (n : Nat) (l : List (Fin 64 × Nat)) : List (Fin 64 × Nat) := List.replicate n (c, now) ++ lastSec now l

/-- A value held at a ceiling. -/
def sat (top n : Nat) : Nat := min top n

/-- Serial comparison of two 48-bit numbers (03_write_path.md R46). -/
def newer (a b : Nat) : Bool :=
  let d := (2 ^ 48 - b % 2 ^ 48 + a % 2 ^ 48) % 2 ^ 48
  1 ≤ d && d ≤ 2 ^ 47 - 1

/-- The low bits of a number, as a register field: bits [hi:lo]. -/
def field (v hi lo : Nat) : Nat := v / 2 ^ lo % 2 ^ (hi + 1 - lo)

/-- One bit of a number. -/
def bit (v i : Nat) : Bool := v / 2 ^ i % 2 == 1

/-- A bit as a number. -/
def b2n (b : Bool) : Nat := if b then 1 else 0

end Sys2Proof.Machine
end

