-- ==== Sys2Proof/Machine/Events.lean ====
section
/-! DEFINITION. What every family raises: keeper-store appends, MSI-X vectors, notification sources and rings, event
records, CXL event logs, violation counters and performance-monitor counts
(12_notifications_events_counters.md; 16_power_and_holdup.md R396 to R403; 10_cxl_interface.md R260, R266; 11 R284). -/

namespace Sys2Proof.Machine

/-! ### Keeper store (R397, R398) -/

/-- Bytes used in a sector: its header and records. -/
def Sector.bytes (x : Sector) : Nat := x.recs.foldl (fun n r => n + r.size) 16

/-- A record put at the head of a partition, in a new sector where it does not fit (R397). -/
def Partition.push (p : Partition) (r : StoreRec) : Partition :=
  match p.used.getLast? with
  | some h =>
    if h.bytes + r.size ≤ 4096 then { p with used := p.used.dropLast ++ [{ h with recs := h.recs ++ [r] }] }
    else { p with used := p.used ++ [⟨p.nextSseq, [r]⟩], free := p.free - 1, nextSseq := p.nextSseq + 1 }
  | none => { p with used := [⟨p.nextSseq, [r]⟩], free := p.free - 1, nextSseq := p.nextSseq + 1 }

/-- Compaction (R398): the oldest sector's live records go to the head, then it is erased. A record is live when no later
one bears its item. -/
def Partition.compact (p : Partition) : Partition :=
  match p.used with
  | [] => p
  | old :: rest =>
    let later := rest.flatMap (·.recs)
    let live := old.recs.filter fun r => later.all fun r' => r'.item ≠ r.item
    let q := live.foldl Partition.push { p with used := rest }
    { q with free := q.free + 1, compactions := q.compactions + 1 }

/-- A record appended, with compaction before the free sectors fall below two. -/
def Partition.append (p : Partition) (r : StoreRec) : Partition :=
  (if p.free ≤ 2 then p.compact else p).push r

/-- Appends a record of `size` payload bytes to a partition of the keeper store (R397): header and trailer take 16. -/
def State.store (s : State) (part : Fin 6) (item size : Nat) : State :=
  { s with kp := { s.kp with parts := vmod s.kp.parts part fun p => p.append ⟨item, 16 + (size + 7) / 8 * 8⟩ } }

/-- A boot parameter becomes durable (Table 16-14, partition 0). Item numbers are the model's own (log 20). -/
def State.save (s : State) (item : Nat) : State := s.store 0 item 8

/-- A counter record becomes durable (R401). -/
def State.saveCounter (s : State) (item : Nat) : State := s.store 2 item 8

/-! ### MSI-X (10_cxl_interface.md R266) -/

/-- Signals an MSI-X vector of an LD; a masked vector keeps its pending bit. -/
def State.signal (s : State) (n : Fin 16) (v : Fin 4) : State :=
  if (s.ld n).vecMasked[v] then s.modLd n fun l => { l with vecPending := l.vecPending.set v true }
  else s.emit (.msix n v)

/-! ### Notification sources (R286, R287, R292, R293) -/

/-- The LDs the fabric manager has enabled, as target bits. -/
def State.enabledMask (s : State) : BitVec 17 :=
  (allFin 16).foldl (fun m n => if (s.ld n).enabled then m ||| BitVec.ofNat 17 (2 ^ n.val) else m) 0

/-- The target mask in effect: sources 0x029 and 0x031 follow the enabled LDs until written (R287). -/
def State.targets (s : State) (n : Fin 256) : BitVec 17 :=
  let x := s.nt.src[n]
  if x.written = false ∧ (n.val = 0x29 ∨ n.val = 0x31) then x.target ||| s.enabledMask else x.target

/-- The claimants whose mask lets a source be queued for them (Table 12-5, MASK). -/
def State.maskedFor (s : State) (n : Fin 256) : BitVec 17 :=
  (allFin 17).foldl (fun m c => if s.nt.cl[c].mask.getLsbD n.val then m ||| BitVec.ofNat 17 (2 ^ c.val) else m) 0

/-- The record of a source with the priority and the targets that it has now (R293). -/
def State.recNow (s : State) (n : Fin 256) (refire : Bool) (evseq detail : Nat) : NRec :=
  ⟨n.val, s.nt.src[n].prio, s.targets n &&& s.maskedFor n, refire, evseq, detail⟩

/-- A source's record enters the filling bank, or waits while that holds 64 (R293). -/
def State.queueRec (s : State) (n : Fin 256) (refire : Bool) (evseq detail : Nat) : State :=
  let r := s.recNow n refire evseq detail
  if s.nt.fill.length < 64 then { s with nt := { s.nt with fill := s.nt.fill ++ [r] } }
  else { s with nt := { s.nt with wait := s.nt.wait ++ [r] } }

/-- A rising edge of a source (Table 12-2). -/
def State.raise (s : State) (n : Fin 256) (evseq detail : Nat) : State :=
  let x := s.nt.src[n]
  if x.pend then s
  else if x.act then s.modSrc n fun x => { x with pend := true, evseq := evseq, detail := detail }
  else (s.modSrc n fun x => { x with pend := true, evseq := evseq, detail := detail }).queueRec n false evseq detail

/-- Waiting records enter the filling bank while it has room, with the priority and the targets of that moment (R293). -/
def State.fillWaiting (s : State) : State :=
  let n := 64 - s.nt.fill.length
  let now (r : NRec) : NRec := s.recNow ⟨r.source % 256, Nat.mod_lt _ (by omega)⟩ r.refire r.evseq r.detail
  { s with nt := { s.nt with fill := s.nt.fill ++ (s.nt.wait.take n).map now, wait := s.nt.wait.drop n } }

/-- The banks swap when the draining one is empty and the filling one is not: before the tick ends, or at a delivery. -/
def State.swapBanks (s : State) : State :=
  if s.nt.drain.isEmpty then ({ s with nt := { s.nt with drain := s.nt.fill, fill := [] } }).fillWaiting else s

/-! ### Performance monitor (R308, R309) -/

/-- Filters of one occurrence: LD, channel, stripe set; `none` where the event has none. -/
structure PmTag where
  ld : Option Nat
  ch : Option Nat
  set : Option Nat
  deriving DecidableEq, Repr

/-- No filter applies. -/
def noTag : PmTag := ⟨none, none, none⟩

/-- The event of a PMON_CFG. -/
def cfgEvent (c : BitVec 64) : Nat := field c.toNat 9 0

/-- The mode of a PMON_CFG. -/
def cfgMode (c : BitVec 64) : Nat := field c.toNat 11 10

/-- Whether a PMON_CFG counts an occurrence of `ev` under `g`. -/
def cfgTakes (c : BitVec 64) (ev : Nat) (g : PmTag) : Bool :=
  let c' := c.toNat
  cfgEvent c == ev && bit c' 12 && cfgMode c == 0 &&
  (!bit c' 36 || g.ld.all (· == field c' 35 32)) && (!bit c' 43 || g.ch.all (· == field c' 42 37)) &&
  (!bit c' 46 || g.set.all (· == field c' 45 44))

/-- Adds to a counter; a wrap sets its PMON_OVF bit and, when enabled, fires source 0x040 (R308). -/
def State.pmAdd (s : State) (n : Fin 64) (d : Nat) : State :=
  let v := s.pm.cnt[n].toNat + d
  let s := { s with pm := { s.pm with cnt := s.pm.cnt.set n (BitVec.ofNat 48 v) } }
  if v < 2 ^ 48 then s
  else
    let s := { s with pm := { s.pm with ovf := s.pm.ovf ||| BitVec.ofNat 64 (2 ^ n.val) } }
    if s.pm.ovfen.getLsbD n.val then s.raise 0x40 0 0 else s

/-- Counts one occurrence of an event. -/
def State.pmCount (s : State) (ev : Nat) (g : PmTag) : State :=
  if s.pm.en then (allFin 64).foldl (fun s n => if cfgTakes s.pm.cfg[n] ev g then s.pmAdd n 1 else s) s else s

/-! ### Rings (R294 to R298) -/

/-- The number of record slots of a ring. -/
def Ring.slots (r : Ring) : Nat := 2 ^ (r.size + 4)

/-- Unread records of a ring. -/
def Ring.unread (r : Ring) : Nat := (r.prod + r.slots - r.cons) % r.slots

/-- A ring after one record is written: a full ring first drops its oldest unread record (R295). -/
def Ring.push (r : Ring) : Ring :=
  let r := if r.unread + 1 = r.slots then { r with cons := (r.cons + 1) % r.slots, lost := sat 0xFFFFFFFF (r.lost + 1) } else r
  { r with prod := (r.prod + 1) % r.slots, phase := if r.prod + 1 = r.slots then !r.phase else r.phase,
           qseq := (r.qseq + 1) % 65536 }

/-- The 16 bytes of a notification record (Table 12-3) as a number. -/
def NRec.word (r : NRec) (phase : Bool) (qseq : Nat) : Nat :=
  r.source + r.prio * 2 ^ 10 + b2n r.refire * 2 ^ 14 + b2n phase * 2 ^ 15 + r.evseq % 2 ^ 48 * 2 ^ 16
    + r.detail % 2 ^ 32 * 2 ^ 64 + qseq % 2 ^ 16 * 2 ^ 96

/-- Signals vector 2 of an LD when its queue is armed and not empty, or was just stopped (R296). -/
def State.ringSignal (s : State) (n : Fin 16) (justStopped : Bool) : State :=
  let q := s.nt.q[n]
  if q.armed ∧ (q.prod ≠ q.cons ∨ justStopped) then
    ({ s with nt := { s.nt with q := vmod s.nt.q n fun q => { q with armed := false } } }).signal n 2
  else s

/-- A record written to an LD's ring (R294 to R296). -/
def State.ringWrite (s : State) (n : Fin 16) (r : NRec) : State :=
  let q := s.nt.q[n]
  if q.en ∧ q.stopped = false then
    let s := if q.unread + 1 = q.slots then s.pmCount 0x012 ⟨some n.val, none, none⟩ else s
    let s := s.emit (.ringRec n (q.base + 16 * q.prod) (r.word q.phase q.qseq))
    ({ s with nt := { s.nt with q := vmod s.nt.q n Ring.push } }).ringSignal n false
  else s

/-- Raises the In-Band Interrupt of the fabric manager's ring when it is armed and not empty (R298). -/
def State.fmSignal (s : State) : State :=
  if s.nt.fm.armed ∧ s.nt.fm.prod ≠ s.nt.fm.cons then
    ({ s with nt := { s.nt with fm := { s.nt.fm with armed := false } } }).emit .ibi
  else s

/-- Shows the fabric manager's ring pointers in its bank (R298): PROD, CONS and the lost count. -/
def State.fmShow (s : State) : State :=
  s.modBank 16 fun m =>
    ((m.writeLE 0x3BF08 4 s.nt.fm.prod).writeLE 0x3BF0C 4 s.nt.fm.cons).writeLE 0x3BF10 4 s.nt.fm.lost

/-- A record written to the fabric manager's ring of 1,024 records (R298). -/
def State.fmWrite (s : State) (r : NRec) : State :=
  let q := s.nt.fm
  let s := s.modBank 16 fun m => m.writeLE (0x3C000 + 16 * q.prod) 16 (r.word q.phase q.qseq)
  (({ s with nt := { s.nt with fm := q.push } }).fmShow).fmSignal

/-! ### Violation counters, and the event recorder -/

/-- The 14 bytes and more of ORIGIN kinds (Table 12-7). -/
def origin (kind low : Nat) : Nat := kind * 2 ^ 13 + low

/-- Origin of the device. -/
def oDev : Nat := 0

/-- Origin of a die. -/
def oDie (d : DieKey) : Nat := origin 2 (d.die.val * 64 + d.chan.val)

/-- Origin of a tile. -/
def oTile (d : DieKey) (t : Nat) : Nat := origin 1 (t * 1024 + d.die.val * 64 + d.chan.val)

/-- Origin of a channel. -/
def oChan (c : Fin 64) : Nat := origin 3 c.val

/-- Origin of a stripe set. -/
def oSet (k : Fin 4) : Nat := origin 4 k.val

/-- Origin of an LD. -/
def oLd (n : Fin 16) : Nat := origin 5 n.val

/-- Origin of a control core. -/
def oCore (c : Fin 12) : Nat := origin 6 c.val

/-- Origin of another unit: 0 DRAM stack, 1 CXL port, 2 lode port, 3 rail, 4 sensor, 5 region. -/
def oUnit (cls ix : Nat) : Nat := origin 7 (cls * 256 + ix)

/-- The window of 2^20 ticks of R307. -/
def State.rateWindow (s : State) : Nat := s.now / 2 ^ 20

/-- The rate limit of a code (R307). -/
def State.rateLimit (s : State) (code : Nat) : Nat := tget 32 s.kp.rateLimits code

/-- Records of a code stored in the present window. -/
def State.rateCount (s : State) (code : Nat) : Nat :=
  let p := tget (0, 0) s.ev.rate code
  if p.1 = s.rateWindow then p.2 else 0

/-- Reserves a block of 2^16 event sequence numbers durably when the present one is used up (R301). -/
def State.evBlock (s : State) : State :=
  if s.ev.seq < s.ev.blockEnd then s
  else
    ({ s with sec := { s.sec with evReserve := s.sec.evReserve + 65536 },
              ev := { s.ev with seq := s.sec.evReserve, blockEnd := s.sec.evReserve + 65536 } }).saveCounter 5

/-- A full log takes a record in place of the oldest of the lowest severity present, if that is no higher (R304). The list
is newest first; `none` when the record is dropped. -/
def logInsert (cap : Nat) (l : List EventRec) (r : EventRec) : Option (List EventRec) :=
  if l.length < cap then some (r :: l)
  else
    let low := l.foldl (fun m x => min m x.sev) 3
    if low ≤ r.sev then
      match l.reverse.find? fun x => x.sev = low with
      | some x => some (r :: l.filter fun y => y.seq ≠ x.seq)
      | none => none
    else none

/-- The append budget refilled to the present tick: 16 a second, at most 1,024 (R403). -/
def State.logRefill (s : State) : State :=
  let n := (s.now - s.kp.logTick) / 50000000
  { s with kp := { s.kp with logTokens := sat 1024 (s.kp.logTokens + n), logTick := s.kp.logTick + n * 50000000 } }

/-- Appends a record to the persistent log (R303 step 4, R305, R403) and the first-fault area. -/
def State.logAppend (s : State) (r : EventRec) : State :=
  let s := s.logRefill
  let s := if 2 ≤ r.sev ∧ s.ev.first.length < 64 then
      ({ s with ev := { s.ev with first := { r with flags := r.flags + 4 } :: s.ev.first } }).store 3 (r.seq + 2 ^ 48) 32
    else s
  if r.sev < 3 ∧ s.kp.logTokens = 0 then { s with ev := { s.ev with bud := true } }
  else
    let r := if s.ev.bud then { r with flags := r.flags + 32 } else r
    let s := if r.sev < 3 then { s with kp := { s.kp with logTokens := s.kp.logTokens - 1 } } else s
    ({ s with ev := { s.ev with log := (logInsert 16384 s.ev.log r).getD s.ev.log, bud := false } }).store 3 r.seq 32

/-- Writes the REPEAT of the ring's newest record to the persistent log when the next one is stored (R305). -/
def State.logRepeat (s : State) : State :=
  match s.ev.ring with
  | r :: _ =>
    if 1 < r.count ∧ s.ev.log.any (fun x : EventRec => x.seq == r.seq && decide (x.count < r.count)) then
      ({ s with ev := { s.ev with log := s.ev.log.map fun x : EventRec => if x.seq = r.seq then { x with count := r.count } else x } }).store 3
        r.seq 32
    else s
  | [] => s

/-- The event timestamp of an LD (R272, Set Timestamp): its base plus the time since, in nanoseconds. -/
def State.stamp (s : State) (n : Fin 16) : Nat :=
  if (s.ld n).tsBase = 0 then 0 else (s.ld n).tsBase + (s.now - (s.ld n).tsTick) * 5 / 4

/-- A record put to one CXL event log of 256 records; a full log counts an overflow (R260, CXL 3.1). -/
def EvLog.push (l : EvLog) (stamp : Nat) (e : EventRec) : EvLog :=
  if l.recs.length < 256 then { l with recs := l.recs ++ [⟨l.next, stamp, e⟩], next := l.next % 65535 + 1 }
  else { l with overflow := sat 0xFFFF (l.overflow + 1) }

/-- The CXL log of a native record: Informational, Warning, Failure, or Fatal for the event of R235 (R260). -/
def evLogOf (e : EventRec) : Fin 4 :=
  if e.code = 0x2005 then 3 else if e.sev = 3 then 2 else if e.sev = 2 then 1 else 0

/-- Puts a native record into an LD's CXL log, with the interrupt its policy asks (R260). -/
def State.cxlLog (s : State) (n : Fin 16) (e : EventRec) : State :=
  let k := evLogOf e
  let was := (s.ld n).evLogs[k].recs.isEmpty
  let s := s.modLd n fun l => { l with evLogs := vmod l.evLogs k fun g => g.push (s.stamp n) e }
  if was ∧ ((s.ld n).evPolicy[k]).toNat % 4 = 1 then s.signal n 1 else s

/-- Whether a user DPA lies in an LD's static partition or an extent it holds (10_cxl_interface.md R243). -/
def State.holds (s : State) (n : Fin 16) (dpa : Nat) : Bool :=
  ((s.ld n).partBase ≤ dpa && dpa < (s.ld n).partBase + (s.ld n).partSize) ||
  s.lk.extents.any fun e => e.holders.contains n && e.base ≤ dpa && dpa < e.base + e.len

/-- Whether the parameters P0 and P1 of a code carry a DPA (Table 12-8). -/
def evHasDpa (code : Nat) : Bool := code == 0x1001 || code == 0x1002 || code == 0x3001 || code == 0x3002

/-- Firmware forwards a record to the LDs of R260. -/
def State.forward (s : State) (e : EventRec) : State :=
  (allFin 16).foldl (fun s n =>
    let take := if evHasDpa e.code then s.holds n (e.p0 + 2 ^ 32 * e.p1) else (s.ld n).enabled
    if take then s.cxlLog n e else s) s

/-- A record over the rate limit of its code is left out, and the next one stored says so (R307). -/
def State.suppress (s : State) (code : Nat) : State := { s with ev := { s.ev with supp := tput 0 code 1 s.ev.supp } }

/-- A record of a code takes the next number, and counts in the code's window (R301, R307). -/
def State.numbered (s : State) (code : Nat) : State :=
  { s with ev := { s.ev with seq := s.ev.seq + 1, supp := tput 0 code 0 s.ev.supp,
                             rate := tput (0, 0) code (s.rateWindow, s.rateCount code + 1) s.ev.rate } }

/-- The keeper's own record while the data die is off (R301, R303, R307): with KPR, to the persistent log alone. -/
def State.keeperEvent (s : State) (code sev org p0 p1 p2 p3 : Nat) : State :=
  if s.rateLimit code ≤ s.rateCount code then s.suppress code
  else
    let s := s.evBlock
    let r : EventRec := ⟨s.ev.seq, code, sev, org, p0, p1, p2, p3, 1, 16 + tget 0 s.ev.supp code * 8⟩
    let s := s.numbered code
    if 1 ≤ sev then s.logAppend r else s

/-- Steps 2 to 6 of R303. -/
def State.eventStore (s : State) (code sev org p0 p1 p2 p3 : Nat) : State :=
  if s.rateLimit code ≤ s.rateCount code then s.suppress code
  else
    let s := s.logRepeat.evBlock
    let supp := tget 0 s.ev.supp code
    let r : EventRec := ⟨s.ev.seq, code, sev, org, p0, p1, p2, p3, 1, if supp = 1 then 8 else 0⟩
    let s := s.numbered code
    let s := match logInsert 4096 s.ev.ring r with
      | some l => { s with ev := { s.ev with ring := l } }
      | none => ({ s with ev := { s.ev with dropped := s.ev.dropped + 1 } }).pmCount 0x011 noTag
    let s := if 1 ≤ sev then s.logAppend r else s
    let s := if 2 ≤ sev then s.raise (0x20 + ⟨code / 4096 % 16, by omega⟩) r.seq 0 else s
    let s := if sev = 3 then s.raise 0x29 r.seq 0 else s
    s.forward r

/-- The recorder of R303: repeat, rate limit, hardware ring, persistent log, notification and CXL records. While the data
die is off the keeper records alone, with KPR (R301, Table 12-6). -/
def State.event (s : State) (code sev org p0 p1 p2 p3 : Nat) : State :=
  if s.pw.dieUp = false then s.keeperEvent code sev org p0 p1 p2 p3
  else
    match s.ev.ring with
    | r :: rest =>
      if r.code = code ∧ r.origin = org ∧ r.p0 = p0 ∧ r.p1 = p1 ∧ r.p2 = p2 ∧ r.p3 = p3 then
        { s with ev := { s.ev with ring := { r with count := sat 255 (r.count + 1) } :: rest } }
      else s.eventStore code sev org p0 p1 p2 p3
    | [] => s.eventStore code sev org p0 p1 p2 p3

/-- The low 32 bits of a DPA, as P0 carries it (R302). -/
def lo32 (a : Nat) : Nat := a % 2 ^ 32

/-- The high bits of a DPA, as P1 carries it (R302). -/
def hi32 (a : Nat) : Nat := a / 2 ^ 32 % 2 ^ 32

/-- A violation of R5 counted for a claimant (R284): kind, address or opcode. -/
def State.violate (s : State) (who : Fin 17) (kind addr : Nat) : State :=
  let v := s.mb.viol[who]
  let t := sat 0xFFFFFFFF (v.total + 1)
  let s := { s with mb := { s.mb with viol := s.mb.viol.set who ⟨t, v.kinds ||| BitVec.ofNat 8 (2 ^ kind), kind, addr⟩ } }
  if t ≠ v.total ∧ t % 65536 = 0 then
    s.event 0x8001 1 (if who.val = 16 then oDev else oLd (ldOf who.val)) t kind 0 0
  else s

end Sys2Proof.Machine
end

