-- ==== Sys2Proof/Machine/Operands.lean ====
section
/-! DEFINITION. Every form in which a command names something: lines, granules, pages, stripe sets, channels, segments,
host addresses through HDM decoders, commit-window apertures, and what capacity is allocated to an LD
(05_folding_and_wear.md R97 to R99, R125; 07_commit_groups.md R159; 10_cxl_interface.md R243 to R249). -/

namespace Sys2Proof.Machine

/-! ### Lines, granules, pages -/

/-- The granule of a line. -/
def granOf (line : Nat) : Nat := line / 256

/-- The page of a line. -/
def pageOf (line : Nat) : Nat := line / 64

/-- The lines of a granule. -/
def granLines (g : Nat) : List Nat := (List.range 256).map fun i => g * 256 + i

/-- Stripe sets populated (19_media_channels.md R428): one for each 16 channels. -/
def State.numSets (s : State) : Nat := s.hw.channels / 16

/-- Which sets are populated. -/
def State.setList (s : State) : List (Fin 4) := (allFin 4).filter fun k => k.val < s.numSets

/-- The key a sealed key holds; zero where none is held. -/
def SealedKey.get (k : SealedKey) : Key := k.key.getD 0

/-- SET(g): the stripe set of a granule (R99). -/
def State.setOf (s : State) (g : Nat) : Fin 4 :=
  ⟨Config.setHash s.sec.keyPlace.get g % (max 1 (min 4 s.numSets)), by
    have : max 1 (min 4 s.numSets) ≤ 4 := by omega
    exact lt_of_lt_of_le (Nat.mod_lt _ (by omega)) this⟩

/-- ROT(g), 0 to 15 (R99). -/
def State.rotOf (s : State) (g : Nat) : Fin 16 := ⟨Config.rotHash s.sec.keyPlace.get g % 16, by omega⟩

/-- The channel at a position of a set. -/
def chanOf (k : Fin 4) (pos : Fin 16) : Fin 64 := ⟨k.val * 16 + pos.val, by omega⟩

/-- The set of a channel. -/
def setOfChan (c : Fin 64) : Fin 4 := ⟨c.val / 16, by omega⟩

/-- The position of a channel in its set. -/
def posOfChan (c : Fin 64) : Fin 16 := ⟨c.val % 16, by omega⟩

/-- The channel position of data slot `i` of granule `g` (R98). -/
def State.slotPos (s : State) (g i : Nat) : Fin 16 :=
  ⟨((s.rotOf g).val + i / 14 + 2 + i % 14) % 16, by omega⟩

/-- Number of a segment in a table. -/
def segCode (k : SegKey) : Nat := (k.set.val * 16 + k.lane.val) * 2 ^ 32 + k.seg

/-- The segment of a number. -/
def segOfCode (c : Nat) : SegKey := ⟨⟨c / 2 ^ 36 % 4, Nat.mod_lt _ (by omega)⟩, ⟨c / 2 ^ 32 % 16, Nat.mod_lt _ (by omega)⟩, c % 2 ^ 32⟩

/-- Number of a lane in a table. -/
def laneCode (k : Fin 4) (lane : Fin 16) : Nat := k.val * 16 + lane.val

/-- Index of a lane among the 64. -/
def laneIx (k : Fin 4) (lane : Fin 16) : Fin 64 := ⟨k.val * 16 + lane.val, by omega⟩

/-- Number of a block in a table. -/
def blockCode (b : BlockKey) : Nat := segCode b.seg * 16 + b.pos.val

/-- Number of a band in a table. -/
def bandCode (b : BandKey) : Nat := segCode b.seg * 8 + b.band

/-- Number of a die in a table. -/
def dieCode (d : DieKey) : Nat := d.chan.val * 16 + d.die.val

/-- The die of a block (R97: lane `d` is die `d` of each channel). -/
def blockDie (b : BlockKey) : DieKey := ⟨chanOf b.seg.set b.pos, b.seg.lane⟩

/-- Number of a frame in a table: its lane and FRAME (Table 05-5). -/
def frameCode (k : Fin 4) (lane : Fin 16) (frame : Nat) : Nat := laneCode k lane * 2 ^ 32 + frame

/-- The segment of a frame: FRAME is segment × 70 + band × 10 + frame in band (Table 05-5). -/
def segOfFrame (k : Fin 4) (lane : Fin 16) (frame : Nat) : SegKey := ⟨k, lane, frame / 70⟩

/-- The FRAME number of a frame of a band. -/
def frameNo (b : BandKey) (i : Nat) : Nat := b.seg.seg * 70 + b.band * 10 + i

/-- Number of a Shallows slot in a table: set, pair 0 to 262,143, slot 0 to 511 (R54). -/
def Place.code (p : Place) : Nat := (p.set.val * 262144 + p.pair) * 512 + p.slot

/-- Number of a pair. -/
def pairCode (k : Fin 4) (n : Nat) : Nat := k.val * 262144 + n

/-- Number of a Shallows block: pair and which of its two blocks. -/
def blkCode (k : Fin 4) (n : Nat) (second : Bool) : Nat := pairCode k n * 2 + b2n second

/-- Channel states that serve allocation (R54, R230): in service or suspect. -/
def ChanState.serves (c : ChanState) : Bool := c == .inService || c == .suspect

/-- The channel positions of a set that serve. -/
def State.servingPos (s : State) (k : Fin 4) : List (Fin 16) := (allFin 16).filter fun p => s.rd.chans[chanOf k p].serves

/-- What the tracker keeps of a die before its first measurement. -/
def DriftDie.init : DriftDie := ⟨0, 0, 0, 0, 0, [], false⟩

/-- A die's drift state. -/
def State.drDie (s : State) (d : DieKey) : DriftDie := tget DriftDie.init s.dr.dies (dieCode d)

/-- The die of a Shallows block: successive blocks of a channel rotate across its dies (R54, log 30). -/
def State.shDie (s : State) (k : Fin 4) (pos : Fin 16) (num : Nat) : DieKey :=
  ⟨chanOf k pos, ⟨num % max 1 (min 16 s.hw.dies), lt_of_lt_of_le (Nat.mod_lt _ (by omega)) (by omega)⟩⟩

/-! ### Granules, segments and lanes -/

/-- The map entry of a granule never written (R106). -/
def MapEnt.unwritten : MapEnt := ⟨.unwritten, 0, 0, 0, false⟩

/-- The map entry of a granule. -/
def State.mapEnt (s : State) (g : Nat) : MapEnt := tget MapEnt.unwritten s.fo.map g

/-- A segment never used. -/
def Segment.free : Segment := ⟨.free, 0, false, 0, 0, [], 0⟩

/-- A segment of a set. -/
def State.seg (s : State) (k : SegKey) : Segment := tget Segment.free s.fo.segs (segCode k)

/-- The lanes of a set. -/
def State.lanes (s : State) : List (Fin 16) := (allFin 16).filter fun l => l.val < s.hw.dies

/-- Resets of a lane's segments, summed: its mean times the segments of a lane. -/
def State.laneResets (s : State) (k : Fin 4) (l : Fin 16) : Nat :=
  s.fo.segs.foldl (fun n p => if p.1 / 2 ^ 32 = laneCode k l then n + p.2.resets else n) 0

/-- Resets of a set's segments, summed. -/
def State.setResets (s : State) (k : Fin 4) : Nat := s.lanes.foldl (fun n l => n + s.laneResets k l) 0

/-- The least-worn lane of a set. -/
def State.leastWorn (s : State) (k : Fin 4) : Fin 16 :=
  s.lanes.foldl (fun b l => if s.laneResets k l < s.laneResets k b then l else b) 0

/-- The lane a granule's frame lies in, else the least-worn lane of its set (log 79). -/
def State.homeLane (s : State) (k : Fin 4) (g : Nat) : Fin 16 :=
  let m := s.mapEnt g
  if m.state = .live ∨ m.state = .moving then m.lane else s.leastWorn k

/-- The lane a fold goes to: the one ordered or the granule's own; the least worn while either is worn (R122, log 79). -/
def State.foldLane (s : State) (k : Fin 4) (g : Nat) (lane : Option (Fin 16)) : Fin 16 :=
  let own := s.homeLane k g
  let l := lane.getD own
  if s.fo.redirect.contains (k, own) ∨ s.fo.redirect.contains (k, l) then s.leastWorn k else l

/-- Whether a lane's band assembly has no place for a frame of a kind: the one band it assembles is of another kind or holds ten frames
(Table 05-9, R118). -/
def State.bandsFull (s : State) (k : Fin 4) (l : Fin 16) (copy hot : Bool) : Bool :=
  s.fo.bands.any fun (b : Band) => b.key.seg.set == k && b.key.seg.lane == l && b.phase == .assembling &&
    !(b.copy == copy && (s.seg b.key.seg).hot == hot && decide (b.frames.length < 10))

/-- Whether folds of a granule go to the hot open segment (R118). -/
def State.hotGran (s : State) (g : Nat) : Bool := decide (4 ≤ (s.mapEnt g).heat)

/-- Whether a set's gathers wait for the band assembly of the lane of the granule next in order (Table 05-9). -/
def State.gatherWaits (s : State) (k : Fin 4) : Bool :=
  match s.fo.orderQ[k] with
  | [] => false
  | (g, lane) :: _ => s.bandsFull k (s.foldLane k g lane) false (s.hotGran g)

/-- The moves of a set in the move table. -/
def State.movesOf (s : State) (k : Fin 4) : Nat := (s.fo.moves.filter fun p => s.setOf p.1 = k).length

/-! ### Capacity (Table 05-12) -/

/-- User capacity in bytes, in the rows and columns of Table 05-12. -/
def State.capacity (s : State) : Nat :=
  let perSet := if s.hw.dies = 16 then 6144 else if s.hw.dies = 8 then 3048 else 1504
  (match s.hw.channels, s.hw.dies with
   | 64, 16 => 24576 | 64, 8 => 12192 | 64, 4 => 6016
   | 32, 16 => 12288 | 32, 8 => 6096 | 32, 4 => 3008
   | _, _ => perSet * s.numSets) * 2 ^ 30

/-- The granules of user capacity that a byte range covers. -/
def rangeGrans (base len : Nat) : List Nat := (List.range (len / 16384)).map fun i => base / 16384 + i

/-- Whether a line is of user capacity. -/
def State.userLine (s : State) (line : Nat) : Bool := line * 64 < s.capacity

/-! ### HDM decoders (R245; the pairing of HPA and DPA inside a decoder: log 14) -/

/-- Bytes of DPA a decoder covers: its size shared over its interleave ways. -/
def Decoder.span (d : Decoder) : Nat := d.cfg.size / max 1 d.cfg.ways

/-- DPA base of each of the decoders from `base` on: the end of the previous decoder's range plus its own skip. -/
def decBases (base : Nat) : List Decoder → List Nat
  | [] => []
  | d :: ds => (base + d.cfg.skip) :: decBases (if d.committed then base + d.cfg.skip + d.span else base) ds

/-- The DPA a committed decoder gives a host address. -/
def Decoder.dpa (d : Decoder) (base hpa : Nat) : Option Nat :=
  if d.committed ∧ d.cfg.base ≤ hpa ∧ hpa < d.cfg.base + d.cfg.size then
    let off := hpa - d.cfg.base
    let g := max 1 d.cfg.gran
    some (base + off / (g * max 1 d.cfg.ways) * g + off % g)
  else none

/-- The DPA of a host address through an LD's decoders. -/
def LD.dpaOf (l : LD) (hpa : Nat) : Option Nat :=
  ((l.decoders.toList.zip (decBases 0 l.decoders.toList)).filterMap fun p => p.1.dpa p.2 hpa).head?

/-- The DPA a request names. -/
def State.dpaOf (s : State) (n : Fin 16) : Addr → Option Nat
  | .dpa a => some a
  | .hpa a => (s.ld n).dpaOf a

/-! ### Allocation (R243, R249, R282; 15_lode_links_and_pools.md R362) -/

/-- The region that covers a line: the one of 1 to 255 whose range holds it, else region 0 (R186). -/
def State.regionOf (s : State) (line : Nat) : Fin 256 :=
  ((allFin 256).find? fun r =>
    r.val ≠ 0 && s.cr.regions[r].state ≠ .free && s.cr.regions[r].base ≤ line * 64 &&
    line * 64 < s.cr.regions[r].base + s.cr.regions[r].size).getD 0

/-- The tether of a region, if any. -/
def State.tetherOf (s : State) (r : Nat) : Option (Fin 8) :=
  (allFin 8).find? fun t => s.lo.tethers[t].state ≠ .free && s.lo.tethers[t].region == r

/-- Whether the region holds a granule that is not unwritten (DATA of R361). -/
def State.hasData (s : State) (base size : Nat) : Bool :=
  s.fo.map.any (fun p => base ≤ p.1 * 16384 && p.1 * 16384 < base + size && p.2.state ≠ .unwritten) ||
  s.wp.index.any fun p => base ≤ p.1 * 64 && p.1 * 64 < base + size

/-- Whether a tethered region is withheld from hosts: a replica's, or an epoch-0 end's without DATA that has not yet
paired (R362). -/
def State.tetherBars (s : State) (line : Nat) : Bool :=
  s.lo.tethers.any fun t =>
    t.state ≠ .free &&
    (let r := s.cr.regions[(⟨t.region % 256, by omega⟩ : Fin 256)]
     r.base ≤ line * 64 && line * 64 < r.base + r.size &&
     (t.replica || (t.epoch == 0 && t.state == .pairing && !s.hasData r.base r.size)))

/-- Whether a byte range holds a line of a tethered region that is withheld from hosts (R362). -/
def State.tetherBarsIn (s : State) (base len : Nat) : Bool :=
  s.lo.tethers.any fun t =>
    t.state ≠ .free &&
    (let r := s.cr.regions[(⟨t.region % 256, by omega⟩ : Fin 256)]
     r.base < base + len && base < r.base + r.size &&
     (t.replica || (t.epoch == 0 && t.state == .pairing && !s.hasData r.base r.size)))

/-- Whether a line of user capacity is allocated to an LD: held, not locked (R282), not withheld by a tether (R362). -/
def State.allocated (s : State) (n : Fin 16) (line : Nat) : Bool :=
  s.userLine line && s.holds n (line * 64) && !(s.ld n).pass.locked && !s.tetherBars line

/-- Where the commit-window apertures start (R159). -/
def apertureBase : Nat := 0x400000000000

/-- The bytes of an LD's transactional region (R157). -/
def Cw.bytes (c : Cw) : Nat := 2 ^ (28 + c.size)

/-- What an allocated DPA names for an LD: a line of its capacity, or a line of its transactional region through a window
(R159, R243); `none` where it is not allocated to it. -/
def State.target (s : State) (n : Fin 16) (dpa : Nat) : Option (Nat × Option (Fin 64)) :=
  if dpa < apertureBase then
    if s.allocated n (dpa / 64) then some (dpa / 64, none) else none
  else
    let c := (s.ld n).cw
    let w := (dpa - apertureBase) / c.bytes
    let line := (c.base + (dpa - apertureBase) % c.bytes) / 64
    if h : w < 64 then
      if c.en ∧ (s.ld n).pass.locked = false ∧ dpa < 0xC00000000000 then some (line, some ⟨w, h⟩) else none
    else none

/-- What a request's address names for an LD. -/
def State.resolve (s : State) (n : Fin 16) (a : Addr) : Option (Nat × Option (Fin 64)) :=
  (s.dpaOf n a).bind (s.target n)

/-- Whether a whole byte range is allocated to an LD, judged by 256 MiB blocks and its last line. -/
def State.rangeHeld (s : State) (n : Fin 16) (base len : Nat) : Bool :=
  (List.range (len / 2 ^ 28)).all fun i => s.holds n (base + i * 2 ^ 28) && s.holds n (base + i * 2 ^ 28 + 2 ^ 28 - 64)

/-- The port that carries an LD (R240): with the bifurcation strap, LDs 8 to 15 are port 1's. -/
def State.portOf (s : State) (n : Fin 16) : Fin 2 := if s.pw.straps.getLsbD 0 ∧ 8 ≤ n.val then 1 else 0

/-- The LDs of a port. -/
def State.portLds (s : State) (p : Fin 2) : List (Fin 16) := (allFin 16).filter fun n => s.portOf n = p

/-! ### CXL.io requests while a port's posted credits are withheld (13_cache_and_on_chip_memory.md R319) -/

/-- Whether a claimant's CXL.io requests wait: its port's posted-request credits are withheld. -/
def State.ioHeld (s : State) (who : Fin 17) : Bool := decide (who.val < 16) && s.lk.ports[s.portOf (ldOf who.val)].withheld

/-- A CXL.io request of a claimant takes effect, or waits, in order, until its port's credits return (log 35). -/
def State.io (s : State) (who : Fin 17) (c : Instr) (f : State → State) : State :=
  if s.ioHeld who then { s with held := s.held ++ [c] } else f s

/-- Signals vector 0 for a mailbox completion where the host enabled it in the mailbox control register (R266, R268; log 14): bit 1 for
the doorbell, bit 2 for background commands. -/
def State.mbxSignal (s : State) (i : Inst) (b : Nat) : State := match i with
  | .ld n => if bit (tget 0 (s.ld n).bar0 0x11004) b then s.signal n 0 else s
  | _ => s

/-- A background command has ended with a return code (R268, R269); after an FLR its result is discarded (R258). -/
def State.bgEnd (s : State) (i : Inst) (code : Nat) : State :=
  match s.mb.inst[Inst.ix i].bg with
  | some b =>
    if b.discard then s.modMb i fun m => { m with bg := none }
    else (s.modMb i fun m => { m with bg := some { b with running := false, percent := 100, code := code } }).mbxSignal i 2
  | none => s

end Sys2Proof.Machine
end

