-- ==== Sys2Proof/Machine/Flags.lean ====
section
/-! DEFINITION. Every flag the device computes from what it holds: the Shallows fill and its marks (R61 to R65), DevLoad
(R63, R255), the throttle's caps (R421, R423), timer pauses (R162), occupancies and full flags of the performance
monitor (Table 12-9) and the passing of time. -/

namespace Sys2Proof.Machine

/-! ### Fill (R61, R62) -/

/-- Host-line slots from tail to head of a set: two blocks for each pair of the host area, up to its head, dead slots included. -/
def State.usedSlots (s : State) (k : Fin 4) : Nat :=
  s.wp.pairs.foldl (fun n p => if p.set = k ∧ p.running = false then n + 2 * p.head else n) 0

/-- Host-line slots of a set at 100 % fill, times 100 (R53, R232: 2^24 slots for each channel in service, 4 % reserved). -/
def State.setSlots100 (s : State) (k : Fin 4) : Nat := (s.servingPos k).length * 2 ^ 24 * 96

/-- The fill level of a set in whole percent. -/
def State.setFill (s : State) (k : Fin 4) : Nat := s.usedSlots k * 10000 / s.setSlots100 k

/-- The device fill level in whole percent: the highest set's. -/
def State.fillPct (s : State) : Nat := s.setList.foldl (fun m k => max m (s.setFill k)) 0

/-- Whether the device fill level is at or above a percentage. -/
def State.fillAtLeast (s : State) (pct : Nat) : Bool := s.setList.any fun k => pct * s.setSlots100 k ≤ s.usedSlots k * 10000

/-- Where each mark of Table 03-7 is reached and below what it clears. -/
def markLevels : Vector (Nat × Nat) 6 := #v[(20, 20), (40, 35), (60, 55), (75, 70), (85, 80), (95, 93)]

/-- The marks after the present fill level is judged. -/
def State.marksNow (s : State) : Vector Bool 6 :=
  .ofFn fun i => if s.wp.marks[i] then s.fillAtLeast (markLevels[i]).2 else s.fillAtLeast (markLevels[i]).1

/-- The mark in effect: 0 none, 1 low to 6 stop (Table 12-3, DETAIL of source 0x030). -/
def markNo (m : Vector Bool 6) : Nat :=
  if m[5] then 6 else if m[4] then 5 else if m[3] then 4 else if m[2] then 3 else if m[1] then 2 else if m[0] then 1 else 0

/-- Applies or removes the marks, with the events of Table 03-7 and source 0x030 (R62). -/
def State.judgeMarks (s : State) : State :=
  let m := s.marksNow
  if m = s.wp.marks then s
  else
    let old := s.wp.marks
    let pct := s.fillPct
    let s := { s with wp := { s.wp with marks := m } }
    let s := if m[3] ∧ old[3] = false then s.event 0x2001 2 oDev pct 0 0 0 else s
    let s := if m[5] ∧ old[5] = false then s.event 0x2002 2 oDev pct 0 0 0 else s
    if markNo m = markNo old then s else s.raise 0x30 0 (markNo m)

/-! ### DevLoad (Table 03-8, Table 10-5) -/

/-- The contribution of the fill level. -/
def State.fillLoad (s : State) : Nat :=
  if s.wp.marks[3] then 3 else if s.wp.marks[2] then 2 else if s.wp.marks[1] then 1 else 0

/-- The contribution of an admission queue. -/
def admLoad (n : Nat) : Nat := if n < 64 then 0 else if n < 192 then 1 else if n < 256 then 2 else 3

/-- DevLoad of an LD: the highest of its contributions (R63). -/
def State.devLoad (s : State) (n : Fin 16) : Nat :=
  max (max s.fillLoad (admLoad (s.ld n).adm.length))
    (max (if s.pw.holdupReady then 0 else 3)
      (max (if s.th.level = 0 then 0 else 3) (if s.wp.hot.any (· == true) then 2 else 0)))

/-! ### Caps and pauses -/

/-- Whether the write cap is in force (Table 18-2). -/
def State.writeCap (s : State) : Bool := decide (2 ≤ s.th.level)

/-- Whether the read cap is in force. -/
def State.readCap (s : State) : Bool := decide (3 ≤ s.th.level)

/-- Whether a set's fault window, or the package DRAM's, is open. -/
def State.setFrozen (s : State) (k : Fin 4) : Bool :=
  (s.rd.windows[(⟨k.val, by omega⟩ : Fin 5)]).isSome || s.rd.windows[4].isSome

/-- Whether any fault window is open. -/
def State.anyWindow (s : State) : Bool := s.rd.windows.any (·.isSome)

/-- Whether commit timers are paused (R162). -/
def State.timerPaused (s : State) : Bool := s.anyWindow || s.wp.marks[5] || !s.pw.holdupReady || s.writeCap

/-! ### Occupancies and full flags of Table 12-9 -/

/-- Whether a write is one of the internal line writes of R47. -/
def WSrc.intern : WSrc → Bool
  | .marking _ => true
  | .inject _ => true
  | .clear _ => true
  | _ => false

/-- Whether only internal writes hold an interlock entry: one of the 512 beyond the table's 8,192 (R47). -/
def ILock.internOnly (l : ILock) : Bool := l.intern && l.waiting.all (·.src.intern)

/-- The entries of the 8,192 that are taken: those of host writes, and those of internal writes beyond the 512 (R47). -/
def State.hostLocks (s : State) : Nat :=
  (s.wp.ilocks.filter fun (l : ILock) => !l.internOnly).length + ((s.wp.ilocks.filter fun (l : ILock) => l.internOnly).length - 512)

/-- The occupancy or flag of an event of kind O or F under its filters; `none` for kind C. -/
def State.pmLevel (s : State) (c : BitVec 64) : Option Nat :=
  let v := c.toNat
  let onLd := bit v 36
  let ldF : Fin 16 := ⟨field v 35 32 % 16, by omega⟩
  let onCh := bit v 43
  let chF : Fin 64 := ⟨field v 42 37 % 64, by omega⟩
  let onSet := bit v 46
  let setF : Fin 4 := ⟨field v 45 44 % 4, by omega⟩
  match cfgEvent c with
  | 0x000 => some 1
  | 0x014 => some (b2n s.wp.marks[4])
  | 0x020 => some (b2n (decide (1024 ≤ s.wp.rx.length)))
  | 0x021 => some (if onLd then (s.ld ldF).adm.length else s.lds.foldl (fun n l => n + l.adm.length) 0)
  | 0x022 => some (b2n (decide (8192 ≤ s.hostLocks)))
  | 0x023 => some (min 128 s.wp.mergeQ.length)
  | 0x024 => some (b2n (if onCh then decide (32 ≤ s.wp.progQ[chF]) else s.wp.progQ.any (32 ≤ ·)))
  | 0x025 => some s.wp.idxQ.length
  | 0x026 => some (b2n (decide (1024 ≤ s.wp.cplQ.length)))
  | 0x030 => some (b2n (decide (1024 ≤ s.rp.rx.length)))
  | 0x031 => some s.rp.tracker.length
  | 0x032 => some (if onCh then min 64 s.rp.readQ[chF] else s.rp.readQ.foldl (fun n x => n + min 64 x) 0)
  | 0x033 => some s.rp.rcn
  | 0x035 => some (b2n (decide (1024 ≤ s.rp.rsp.length)))
  | 0x040 => some (if onSet then s.fo.orderQ[setF].length else s.fo.orderQ.foldl (fun n l => n + l.length) 0)
  | 0x041 => some (b2n ((allFin 4).any fun k => s.gatherWaits k && (!onSet || k == setF)))
  | 0x042 => some (if onSet then s.fo.copyQ[setF].length else s.fo.copyQ.foldl (fun n l => n + l.length) 0)
  | 0x043 => some (b2n ((allFin 4).any fun k => decide (4096 ≤ s.movesOf k) && (!onSet || k == setF)))
  | 0x044 => some (b2n ((allFin 64).any fun i =>
      s.fo.queued[i] < s.fo.level[i] && (!onSet || i.val / 16 == setF.val)))
  | 0x050 => some (if onSet then s.setFill setF else s.fillPct)
  | _ => none

/-- Ticks counted by one counter over `d` ticks in modes 1 to 3 (R308). -/
def State.pmTickCount (s : State) (c : BitVec 64) (d : Nat) : Nat :=
  match s.pmLevel c with
  | none => 0
  | some x =>
    if bit c.toNat 12 = false then 0
    else if cfgMode c = 1 then (if 0 < x then d else 0)
    else if cfgMode c = 2 then (if field c.toNat 31 16 < x then d else 0)
    else if cfgMode c = 3 then x * d
    else 0

/-- The performance monitor over `d` ticks. -/
def State.pmTicks (s : State) (d : Nat) : State :=
  if s.pm.en then
    (allFin 64).foldl (fun s n => let k := s.pmTickCount s.pm.cfg[n] d; if k = 0 then s else s.pmAdd n k) s
  else s

/-- Rising edges of the flags of kind F between two states, for counters in mode 0 (R308). -/
def State.pmEdges (before after : State) : State :=
  if after.pm.en then
    (allFin 64).foldl (fun s n =>
      let c := s.pm.cfg[n]
      let isF := [0x000, 0x014, 0x020, 0x022, 0x024, 0x026, 0x030, 0x035, 0x041, 0x043, 0x044].contains (cfgEvent c)
      if isF ∧ bit c.toNat 12 ∧ cfgMode c = 0 ∧ before.pmLevel c = some 0 ∧ after.pmLevel c = some 1 then s.pmAdd n 1
      else s) after
  else after

/-! ### Time -/

/-- The timebase, the paused commit timers and cutoffs, and the counters of ticks after `d` more ticks (R86, R162, R308); the records that entered an
empty queue in the tick that ends are one bank (R293). -/
def State.ticked (s : State) (d : Nat) : State :=
  if d = 0 then s
  else
    let s := s.swapBanks.pmTicks d
    let s := if s.timerPaused then
        s.mapLds fun l => { l with wins := l.wins.map fun w =>
          if w.state = .opened ∨ w.state = .committing then { w with paused := w.paused + d } else w }
      else s
    let s := if s.anyWindow || s.readCap then { s with rp := { s.rp with paused := s.rp.paused + d } } else s
    { s with now := s.now + d }

/-- `d` ticks pass; nothing else changes. -/
def State.pass (s : State) (d : Nat) : State :=
  let r := s.ticked d
  { s with now := r.now, pm := r.pm, nt := r.nt, lds := r.lds, rp := r.rp }

/-- The timebase reaches tick `t`, unless it is there already. -/
def State.advance (s : State) (t : Nat) : State := s.pass (t - s.now)

/-- A time-driven row says that `d` ticks have passed since `t0`: those of them that have not passed yet do (log 2). -/
def State.since (s : State) (t0 d : Nat) : State := s.pass (d - (s.now - t0))

end Sys2Proof.Machine
end

