-- ==== Sys2Proof/Machine/Crypto.lean ====
section
/-! DEFINITION. Encryption of a line, its tag, nonces, counters and the key a page is under
(08_inline_encryption.md R189 to R194, R205). AES-256 and GHASH are uninterpreted (log 6). -/

namespace Sys2Proof.Machine

/-- The nonce block of Table 08-3. In the sequence domain `major` is EPOCH and `minor` is SEQ. -/
def nonceBlock (n : Nonce) (line blk : Nat) (mask : Bool) : Block128 :=
  BitVec.ofNat 128 (blk % 4 + b2n n.seqDom * 2 ^ 2 + b2n mask * 2 ^ 3 + line % 2 ^ 39 * 2 ^ 4 +
    (if n.seqDom then n.minor % 2 ^ 48 * 2 ^ 43 + n.major % 2 ^ 32 * 2 ^ 91
     else n.minor % 2 ^ 7 * 2 ^ 43 + n.major % 2 ^ 32 * 2 ^ 50))

/-- The keystream of a line: AES of the four nonce blocks with MASK 0, block 0 in the low bytes (R190). -/
def keystream (k : Key) (n : Nonce) (line : Nat) : Line :=
  BitVec.ofNat 512 ((Config.aes256 k (nonceBlock n line 0 false)).toNat +
    (Config.aes256 k (nonceBlock n line 1 false)).toNat * 2 ^ 128 +
    (Config.aes256 k (nonceBlock n line 2 false)).toNat * 2 ^ 256 +
    (Config.aes256 k (nonceBlock n line 3 false)).toNat * 2 ^ 384)

/-- Counter mode: encrypting and decrypting are one operation (R190). -/
def cryptLine (k : Key) (n : Nonce) (line : Nat) (x : Line) : Line := x ^^^ keystream k n line

/-- The 56-bit line tag of a ciphertext (R190). -/
def tagOf (k : Key) (n : Nonce) (line : Nat) (ct : Line) : Tag :=
  (Config.ghash (Config.aes256 k 0) ct 512 ^^^ Config.aes256 k (nonceBlock n line 0 true)).setWidth 56

/-- A counter block never written (R193). -/
def CBlock.zero : CBlock := ⟨0, [], false⟩

/-- The counter block of a page. -/
def State.block (s : State) (page : Nat) : CBlock := tget CBlock.zero s.cr.blocks page

/-- MINOR of a line of a page. -/
def CBlock.minor (b : CBlock) (line : Nat) : Nat := tget 0 b.minors (line % 64)

/-- The key of a region's position (false A, true B); a key not held reads zero. -/
def State.regionKey (s : State) (r : Fin 256) (posB : Bool) : Key :=
  if posB then s.cr.regions[r].keyB.get else s.cr.regions[r].keyA.get

/-- The key position of a page (R205): the next key while rekeying below the watermark or EARLY, else the current key. -/
def State.keyPos (s : State) (line : Nat) : Bool :=
  let r := s.cr.regions[s.regionOf line]
  if r.state = .rekeying ∧ (pageOf line < r.w ∨ (s.block (pageOf line)).early) then !r.cur else r.cur

/-- The nonce of the newest counter-domain version issued for a line, from its counter block (R191). -/
def State.blockNonce (s : State) (line : Nat) : Nonce :=
  ⟨false, (s.block (pageOf line)).major, (s.block (pageOf line)).minor line, (s.regionOf line).val, s.keyPos line⟩

/-- The nonce under which the version that the index or the map names is read: the interlock entry's while a write holds
the line, else the counter block's (R191). -/
def State.lineNonce (s : State) (line : Nat) : Nonce :=
  match s.wp.ilocks.find? fun (l : ILock) => l.line == line with
  | some l => l.nonce
  | none => s.blockNonce line

/-- The sequence epoch of an entry (R189): the present one when its SEQ is not above the counter, else the one before. -/
def State.epochOf (s : State) (seq : Nat) : Nat := if seq ≤ s.wp.seq then s.sec.seqEpoch else s.sec.seqEpoch - 1

/-- The nonce of a sequence-domain version. -/
def State.seqNonce (s : State) (line seq : Nat) (posB : Bool) : Nonce :=
  ⟨true, s.epochOf seq, seq, (s.regionOf line).val, posB⟩

/-- The region number of a nonce as an index. -/
def regIx (n : Nat) : Fin 256 := ⟨n % 256, by omega⟩

/-- The key a nonce names. -/
def State.nonceKey (s : State) (n : Nonce) : Key := s.regionKey (regIx n.region) n.posB

/-- Ciphertext of a plaintext under a nonce. -/
def State.enc (s : State) (n : Nonce) (line : Nat) (x : Line) : Line := cryptLine (s.nonceKey n) n line x

/-- Plaintext of a ciphertext under a nonce. -/
def State.dec (s : State) (n : Nonce) (line : Nat) (x : Line) : Line := cryptLine (s.nonceKey n) n line x

/-- The tag of a ciphertext under a nonce. -/
def State.tag (s : State) (n : Nonce) (line : Nat) (ct : Line) : Tag := tagOf (s.nonceKey n) n line ct

/-- Sets the counter block of a page and marks it dirty in the node cache (R198). -/
def State.setBlock (s : State) (page : Nat) (b : CBlock) : State :=
  { s with cr := { s.cr with blocks := tput CBlock.zero page b s.cr.blocks,
                             dirty := if s.cr.dirty.contains (1, page) then s.cr.dirty else (1, page) :: s.cr.dirty } }

/-- The next counter of a line is issued: MINOR + 1 (R194). -/
def State.bump (s : State) (line : Nat) : State :=
  let b := s.block (pageOf line)
  s.setBlock (pageOf line) { b with minors := tput 0 (line % 64) (b.minor line + 1) b.minors }

/-- The next value of the sequence counter; a wrap to 0 raises the sequence epoch (R46, R189). -/
def State.nextSeq (s : State) : Nat × State :=
  let n := (s.wp.seq + 1) % 2 ^ 48
  let s := { s with wp := { s.wp with seq := n } }
  (n, if n = 0 then ({ s with sec := { s.sec with seqEpoch := s.sec.seqEpoch + 1 } }).saveCounter 4 else s)

end Sys2Proof.Machine
end

