-- ==== Sys2Proof/Machine/Vyvon.lean ====
section
/-! DEFINITION. The command packets of the Vyvon protocol (19_media_channels.md R427 to R432): every command of Table 19-5 with its
extension, and the packets that the controllers send (log 85). -/

namespace Sys2Proof.Machine

/-- The tile of a block of a segment (log 34). -/
def blockTileOf (b : BlockKey) : Nat := Config.blockTile (dieCode (blockDie b)) b.seg.seg % 8

/-- The tile of a Shallows block (log 34). -/
def shTile (d : DieKey) (num : Nat) : Nat := Config.blockTile (dieCode d) (2 ^ 32 + num) % 8

/-- A block as a packet names it: die, tile, BLOCK, and MODE 1 for a 1-bit block (Table 19-4). -/
structure VyBlock where
  die : DieKey
  tile : Nat
  block : Nat
  oneBit : Bool
  deriving DecidableEq, Repr

/-- The commands of Table 19-5. `refs`: seven offsets in 1/16 of the nominal spacing; `source`: the block and first slot of an in-die copy. -/
inductive VyCmd where
  | sense1 (slot : Nat)
  | sense3 (slot : Nat) (refs : List Int)
  | xferOut
  | pilot
  | synd (slot count : Nat) (refs : List Int)
  | prog1 (slot : Nat)
  | load (pos count src : Nat) (source : Option (VyBlock × Nat))
  | prog3 (band unit : Nat)
  | reset
  | suspend
  | resume
  | status
  | temp
  | readDesc
  | train
  | nop
  deriving DecidableEq, Repr

/-- OP (Table 19-5). -/
def VyCmd.op : VyCmd → Nat
  | .sense1 _ => 0x01
  | .sense3 .. => 0x02
  | .xferOut => 0x03
  | .pilot => 0x04
  | .synd .. => 0x05
  | .prog1 _ => 0x10
  | .load .. => 0x11
  | .prog3 .. => 0x12
  | .reset => 0x13
  | .suspend => 0x20
  | .resume => 0x21
  | .status => 0x30
  | .temp => 0x31
  | .readDesc => 0x32
  | .train => 0x38
  | .nop => 0x3F

/-- SLOT (Table 19-4); 0 for a command that names none. -/
def VyCmd.slot : VyCmd → Nat
  | .sense1 n => n
  | .sense3 n _ => n
  | .synd n _ _ => n
  | .prog1 n => n
  | .load n .. => n
  | _ => 0

/-- ARG (Table 19-4). -/
def VyCmd.arg : VyCmd → Nat
  | .load _ count src _ => src % 4 + (count - 1) % 128 * 4
  | .synd _ count _ => (count - 1) % 128 * 4
  | .prog3 band unit => band % 4 + unit % 8 * 4
  | _ => 0

/-- The package of a die on its channel: the chip select (R428). -/
def dieCs (d : DieKey) : Nat := d.die.val / 4

/-- The 48 bits of a command packet (Table 19-4). -/
def vyPacket (a : VyBlock) (c : VyCmd) : BitVec 48 :=
  .ofNat 48 (c.op + a.die.die.val % 4 * 2 ^ 6 + a.tile % 8 * 2 ^ 8 + b2n a.oneBit * 2 ^ 11 + a.block % 2 ^ 16 * 2 ^ 12 +
    c.slot % 2 ^ 11 * 2 ^ 28 + c.arg * 2 ^ 39)

/-- The REF extension: seven signed offsets of 6 bits, reference 1 first (R430). -/
def refPacket (refs : List Int) : BitVec 48 :=
  .ofNat 48 ((List.range 7).foldl (fun n k => n + (refs.getD k 0 % 64).toNat * 2 ^ (6 * k)) 0)

/-- The SOURCE extension (R430). -/
def sourcePacket (a : VyBlock) (slot : Nat) : BitVec 48 := .ofNat 48 (a.tile % 8 + a.block % 2 ^ 16 * 2 ^ 3 + slot % 2 ^ 11 * 2 ^ 19)

/-- The second packet of a command marked with an extension (R430). -/
def VyCmd.ext : VyCmd → Option (BitVec 48)
  | .sense3 _ refs => some (refPacket refs)
  | .synd _ _ refs => some (refPacket refs)
  | .load _ _ src (some (a, slot)) => if 2 ≤ src % 4 then some (sourcePacket a slot) else none
  | _ => none

/-- A command goes out on its die's channel. -/
def State.vyvon (s : State) (a : VyBlock) (c : VyCmd) : State := s.emit (.vyvon a.die.chan (dieCs a.die) (vyPacket a c) c.ext)

/-- A Peat block as a packet names it (log 34). -/
def vyPeat (b : BlockKey) : VyBlock :=
  ⟨blockDie b, blockTileOf b, Config.blockNo (dieCode (blockDie b)) b.seg.seg % 49152, false⟩

/-- A Shallows block as a packet names it (log 34). -/
def vyShallows (d : DieKey) (num : Nat) : VyBlock := ⟨d, shTile d num, Config.blockNo (dieCode d) (2 ^ 32 + num) % 49152, true⟩

/-- The slot in its block of a line of a frame: 191 slots a unit, 19 rows a frame (R97, R98; log 85). -/
def peatSlotNo (frame line : Nat) : Nat := frame % 70 / 10 * 191 + frame % 10 * 19 + line % 256 / 14

end Sys2Proof.Machine
end

