-- ==== Sys2Proof/Machine/Media.lean ====
section
/-! DEFINITION. Shared operations on what holds lines: the line cache (13_cache_and_on_chip_memory.md R313 to R317), the
Shallows log and its index (03_write_path.md R54 to R58), the granule map and its frames (05_folding_and_wear.md R100 to
R107), the poison list (10_cxl_interface.md R252), page re-encryption (08_inline_encryption.md R196) and the tether's
messages (15_lode_links_and_pools.md R364 to R367). -/

namespace Sys2Proof.Machine

/-! ### Line cache -/

/-- Sets of the line cache (R313). -/
def cacheSets : Nat := 13631488

/-- The set of a line (R314). -/
def State.cacheSet (s : State) (line : Nat) : Nat := (Config.cacheHash (s.sec.keyCacheIx.getD 0) line).toNat % cacheSets

/-- The way that holds a line. -/
def State.cacheFind (s : State) (line : Nat) : Option CLine := s.ca.lines.find? fun (c : CLine) => c.line == line

/-- A use of a way: AGE 0 for it, one more for the valid ways of its set that were younger (R317, hit). -/
def cacheUse (ls : List CLine) (c : CLine) : List CLine :=
  ls.map fun (x : CLine) => if x.line = c.line then { x with age := 0 }
    else if x.set = c.set ∧ x.age < c.age then { x with age := x.age + 1 } else x

/-- A way becomes invalid: the older valid ways of its set subtract one (R317). -/
def cacheRemove (ls : List CLine) (c : CLine) : List CLine :=
  (ls.filter fun (x : CLine) => x.line ≠ c.line).map fun (x : CLine) =>
    if x.set = c.set ∧ c.age < x.age then { x with age := x.age - 1 } else x

/-- A line becomes absent from the cache. -/
def State.cacheDrop (s : State) (line : Nat) : State :=
  match s.cacheFind line with
  | some c => { s with ca := { s.ca with lines := cacheRemove s.ca.lines c } }
  | none => s

/-- The first write to a DRAM page sets its valid bit (R327); pages are counted by set. -/
def State.dramPage (s : State) (set : Nat) : State :=
  let p := set * 1088 / 4096
  if s.ca.valid.contains p then s else { s with ca := { s.ca with valid := p :: s.ca.valid } }

/-- A line enters the cache, or its way takes new data (R315, R317): the lowest invalid way, else the way with AGE 15. -/
def State.cacheEnter (s : State) (line : Nat) (data : Line) (dirty : Bool) : State :=
  match s.cacheFind line with
  | some c =>
    { s with ca := { s.ca with lines := (cacheUse s.ca.lines c).map fun (x : CLine) =>
        if x.line = line then { x with data := data, dirty := dirty } else x } }
  | none =>
    let set := s.cacheSet line
    let here := s.ca.lines.filter fun (x : CLine) => x.set = set
    let way := ((List.range 16).find? fun w => here.all fun (x : CLine) => x.way ≠ w).getD
      ((here.find? fun (x : CLine) => x.age = 15).elim 0 (·.way))
    let old := here.find? fun (x : CLine) => x.way = way
    let rest := match old with
      | some o => s.ca.lines.filter fun (x : CLine) => x.line ≠ o.line
      | none => s.ca.lines
    let aged := rest.map fun (x : CLine) =>
      if x.set = set ∧ old.all (fun o => decide (x.age < o.age)) then { x with age := x.age + 1 } else x
    ({ s with ca := { s.ca with lines := ⟨line, set, way, dirty, 0, data⟩ :: aged } }).dramPage set

/-- D of a cached line (R316). -/
def State.cacheDirty (s : State) (line : Nat) (d : Bool) : State :=
  { s with ca := { s.ca with lines := s.ca.lines.map fun (x : CLine) => if x.line = line then { x with dirty := d } else x } }

/-! ### Poison list (R252) -/

/-- A record enters the poison list, unless the list is full: then the overflow is noted with its time. -/
def State.poisonAdd (s : State) (line lines : Nat) (src : PoisonSrc) : State :=
  if s.lk.poison.any fun p => p.line == line && p.lines == lines then s
  else if s.lk.poison.length < 32768 then { s with lk := { s.lk with poison := s.lk.poison ++ [⟨line, lines, src⟩] } }
  else { s with lk := { s.lk with poisonOverflow := s.lk.poisonOverflow <|> some s.now } }

/-- The record of a line leaves the poison list. -/
def State.poisonDrop (s : State) (line lines : Nat) : State :=
  { s with lk := { s.lk with poison := s.lk.poison.filter fun p => !(p.line == line && p.lines == lines) } }

/-! ### Granule map and frames -/

/-- Sets the map entry of a granule. -/
def State.setMap (s : State) (g : Nat) (m : MapEnt) : State :=
  { s with fo := { s.fo with map := tput MapEnt.unwritten g m s.fo.map } }

/-- The frame a granule's entry names, if it is live or moving. -/
def State.frameOf (s : State) (g : Nat) : Option Frame :=
  let m := s.mapEnt g
  if m.state = .live ∨ m.state = .moving then tfind s.fo.frames (frameCode (s.setOf g) m.lane m.frame) else none

/-- A frame is dead: a fold, a copy, a release or an erase left it (R107). -/
def State.killFrame (s : State) (k : Fin 4) (lane : Fin 16) (frame : Nat) : State :=
  match tfind s.fo.frames (frameCode k lane frame) with
  | some f => { s with fo := { s.fo with frames := tins (frameCode k lane frame) { f with live := false } s.fo.frames } }
  | none => s

/-! ### Units in service (09_redundancy_and_degraded.md R217, R225) -/

/-- Whether a die, or the tile of it that a block number lies on, is lost. -/
def State.dieGone (s : State) (d : DieKey) (block : Nat) : Bool :=
  s.md.lostDies.contains d || s.md.lostTiles.any fun x => x.1 == d && x.2.val == Config.blockTile (dieCode d) block % 8

/-- Channel states out of service for good (Table 09-5). -/
def ChanState.gone (c : ChanState) : Bool := c == .out || c == .replaced

/-- Whether a block lies on a unit out of service (R217). -/
def State.unitLost (s : State) (b : BlockKey) : Bool :=
  s.rd.chans[chanOf b.seg.set b.pos].gone || s.dieGone (blockDie b) b.seg.seg

/-- The stand-in position of a segment's lost position. -/
def State.standInOf (s : State) (seg : SegKey) (pos : Fin 16) : Option (Fin 16) :=
  (s.rd.standIns.find? fun x => x.1 == seg && x.2.1 == pos).map fun x => x.2.2

/-- Whether a block can be read: it lies on no unit out of service and waits for no rebuild, or it has a verified stand-in (R217,
R223). -/
def State.blockUp (s : State) (b : BlockKey) : Bool :=
  (!s.unitLost b || (s.standInOf b.seg b.pos).isSome) && !(s.seg b.seg).lost.contains b.pos

/-- The pair of a place. -/
def State.pairOf (s : State) (p : Place) : Option Pair := s.wp.pairs.find? fun (x : Pair) => x.set = p.set && x.num = p.pair

/-! ### Tiles and the operations on them (04_read_path.md R81, R87) -/

/-- The block of a pair's copy and its slot, as a packet names it. -/
def State.vyCopy (s : State) (p : Place) (second : Bool) : VyBlock :=
  match s.pairOf p with
  | some x => vyShallows (s.shDie p.set (if second then x.ch1 else x.ch0) p.pair) p.pair
  | none => vyShallows ⟨chanOf p.set 0, 0⟩ p.pair

/-- A tile: its die and its number. -/
abbrev Tile := DieKey × Nat

/-- The tile of a block. -/
def VyBlock.at_ (b : VyBlock) : Tile := (b.die, b.tile)

/-- The operations under way on a tile (Table 04-5). -/
def State.tileOps (s : State) (t : Tile) : List MediaOp :=
  (s.wp.progs.flatMap fun (w : Write) => if w.localOk then [] else
    [false, true].filterMap fun c => if (s.vyCopy w.place c).at_ = t then some (.slotProgram w.place c) else none) ++
  (s.fo.bands.filterMap fun (b : Band) =>
    if b.phase = .programming ∧ (vyPeat ⟨b.key.seg, posOfChan t.1.chan⟩).at_ = t then some (.pageProgram b.key (posOfChan t.1.chan)) else none) ++
  s.fo.segs.filterMap fun e =>
    if e.2.state = .resetting ∧ (vyPeat ⟨segOfCode e.1, posOfChan t.1.chan⟩).at_ = t then some (.reset ⟨segOfCode e.1, posOfChan t.1.chan⟩)
    else none

/-- Whether an operation is still under way. -/
def State.opRuns (s : State) : MediaOp → Bool
  | .slotProgram p _ => s.wp.progs.any fun (w : Write) => w.place == p && !w.localOk
  | .pageProgram b _ => s.fo.bands.any fun (x : Band) => x.key == b && x.phase == .programming
  | .reset b => (s.seg b.seg).state == .resetting

/-- How often an operation may be suspended (Table 04-5). -/
def MediaOp.allowance : MediaOp → Nat
  | .slotProgram .. => 1
  | .pageProgram .. => 8
  | .reset _ => 32

/-- How often an operation has been suspended. -/
def State.suspOf (s : State) (o : MediaOp) : Nat := ((s.rp.susp.find? fun x => x.1 == o).map (·.2)).getD 0

/-- Whether a tile runs an operation whose allowance is used up (R87). -/
def State.tileBlocked (s : State) (t : Tile) : Bool := (s.tileOps t).any fun o => decide (o.allowance ≤ s.suspOf o)

/-! ### Drift entries and pilot reads (06_drift_and_scrub.md R135 to R144) -/

/-- Changes a die's drift state. -/
def State.modDrDie (s : State) (d : DieKey) (f : DriftDie → DriftDie) : State :=
  { s with dr := { s.dr with dies := tput DriftDie.init (dieCode d) (f (s.drDie d)) s.dr.dies } }

/-- The drift entry of a block at power-up: EST and PEND 0, MCLS 0b00, STEP 0b001 (R137). -/
def DriftBlk.init : DriftBlk := ⟨0, false, false, .good, 1⟩

/-- The drift entry of a block. -/
def State.drBlk (s : State) (b : BlockKey) : DriftBlk := tget DriftBlk.init s.dr.blocks (blockCode b)

/-- Changes the drift entry of a block. -/
def State.modDrBlk (s : State) (b : BlockKey) (f : DriftBlk → DriftBlk) : State :=
  { s with dr := { s.dr with blocks := tput DriftBlk.init (blockCode b) (f (s.drBlk b)) s.dr.blocks } }

/-- The drift record of a segment never programmed: WCLK0 unknown (Table 06-2). -/
def DriftSeg.init : DriftSeg := ⟨0xFFFFFFFF, [], [], 0, false⟩

/-- The drift record of a segment. -/
def State.drSeg (s : State) (k : SegKey) : DriftSeg := tget DriftSeg.init s.dr.segs (segCode k)

/-- Changes the drift record of a segment. -/
def State.modDrSeg (s : State) (k : SegKey) (f : DriftSeg → DriftSeg) : State :=
  { s with dr := { s.dr with segs := tput DriftSeg.init (segCode k) (f (s.drSeg k)) s.dr.segs } }

/-- The die whose clock a segment's record uses: the lane's die at position 0 of the set (log 30). -/
def segDie (k : SegKey) : DieKey := ⟨chanOf k.set 0, k.lane⟩

/-- The blocks of a segment. -/
def segBlocks (k : SegKey) : List BlockKey := (allFin 16).map fun p => ⟨k, p⟩

/-- OFS held within its six signed bits (Table 06-3). -/
def ofsSat (x : Int) : Int := max (-32) (min 31 x)

/-- Rank of a margin class. -/
def Margin.rank : Margin → Nat
  | .good => 0
  | .watch => 1
  | .refresh => 2
  | .failing => 3

/-- A margin class raised to at least another. -/
def Margin.atLeast (a b : Margin) : Margin := if a.rank < b.rank then b else a

/-- Confirmed reads, or a squashed one that sensed a block, count in its segment's RDC (24 bits, R135). -/
def State.countRdc (s : State) (k : SegKey) (n : Nat) : State :=
  s.modDrSeg k fun x => { x with rdc := sat 0xFFFFFF (x.rdc + n) }

/-- RFSH of a granule (Table 05-5): of one in the Peat, or with lines in the Shallows (R148). -/
def State.setRfsh (s : State) (g : Nat) : State :=
  let m := s.mapEnt g
  if m.state = .live ∨ m.state = .moving ∨ (m.state = .unwritten ∧ s.wp.index.any fun p => granOf p.1 == g) then
    s.setMap g { m with rfsh := true }
  else s

/-- Whether two more positions of a block's row cannot be read: with its own slot unavailable the row cannot be decoded (R217). -/
def State.rowGone (s : State) (b : BlockKey) : Bool := decide (2 ≤ ((segBlocks b.seg).filter fun x => x.pos ≠ b.pos && !s.blockUp x).length)

/-- What sensing a slot of a Peat block comes to (R217): lost where it needs its row, by reconstruction or because the block cannot be read, and
the row cannot be decoded. -/
def State.rowSense (s : State) (b : BlockKey) (x : Sense) : Sense := match x with
  | .mismatch => x
  | .tree _ => x
  | _ => if (x = .reconstructed ∨ s.blockUp b = false) ∧ s.rowGone b then .lost else x

/-- The block that holds a line of a granule in a frame (R98). -/
def State.lineBlock (s : State) (line : Nat) (lane : Fin 16) (frame : Nat) : BlockKey :=
  ⟨segOfFrame (s.setOf (granOf line)) lane frame, s.slotPos (granOf line) (line % 256)⟩

/-- A confirmed read of a block without an estimate, or with WCLK0 unknown, sets PEND and issues a pilot read, unless one is in flight or the
block cannot be read (R138, R141). -/
def State.wantPilot (s : State) (b : BlockKey) : State :=
  let x := s.drBlk b
  if x.pend ∨ (x.est ∧ (s.drSeg b.seg).wclk0 ≠ 0xFFFFFFFF) ∨ s.blockUp b = false then s
  else ((s.modDrBlk b fun x => { x with pend := true }).pmCount 0x00A ⟨none, some (chanOf b.seg.set b.pos).val, some b.seg.set.val⟩).vyvon
    (vyPeat b) .pilot

/-- Pilot reads for those of several blocks that have no estimate: what a reconstruction, a copy or a scrub reads (R141). -/
def State.wantPilots (s : State) (bs : List BlockKey) : State :=
  bs.foldl (fun s b => if (s.drBlk b).est then s else s.wantPilot b) s

/-- Whether a pilot read of one of several blocks is in flight (R141). -/
def State.anyPend (s : State) (bs : List BlockKey) : Bool := bs.any fun b => (s.drBlk b).pend

/-- The block of a line's newest version where that lies in the Peat: it is not in the Shallows index, and its granule is live or moving. -/
def State.homeBlock (s : State) (line : Nat) : Option BlockKey :=
  let m := s.mapEnt (granOf line)
  if (tfind s.wp.index line).isNone ∧ (m.state = .live ∨ m.state = .moving) then some (s.lineBlock line m.lane m.frame) else none

/-- The oldest programmed unit of a segment: that of band 0, else that of the first band that has a DW (R140). -/
def DriftSeg.oldest (x : DriftSeg) : Nat := if x.wclk0 = 0xFFFFFFFF then (x.dw.head?.map (·.1)).getD 0 else 0

/-- The age of a program unit of a block at a reading of its die's clock (R133, R138). -/
def State.unitAge (s : State) (b : BlockKey) (u clock : Nat) : Nat :=
  let x := s.drSeg b.seg
  clock - (x.wclk0 + if u = 0 then 0 else tget 0xFF x.dw u)

/-- The seven references that the model gives a unit of a block at an age, without OFS (R138). -/
def State.model (s : State) (b : BlockKey) (u age : Nat) : List Int :=
  (List.range 7).map fun k => Config.refBase (k + 1) (tget 0 (s.drSeg b.seg).pb u) +
    Config.refSlope (k + 1) (s.drDie (blockDie b)).band * Config.log16 (1 + age)

/-- `ref[1]` to `ref[7]` for a read of a unit of a block now (R138). -/
def State.refs (s : State) (b : BlockKey) (u : Nat) : List Int :=
  (s.model b u (s.unitAge b u (s.drDie (blockDie b)).wclk)).map (· + (s.drBlk b).ofs)

/-- The one shift that brings references onto others best in the least-squares sense: the mean difference, to the nearest integer (R140). -/
def fitShift (want have_ : List Int) : Int := (2 * (want.zip have_).foldl (fun n p => n + (p.1 - p.2)) 0 + 7) / 14

/-- A line recovered after a failed correction is queued to the patrol for refresh, and one that met the cutoff for its recovery (R83,
R86). -/
def State.toPatrol (s : State) (line : Nat) (cut : Bool) : State :=
  if s.rp.patrolQ.contains (line, cut) then s else { s with rp := { s.rp with patrolQ := s.rp.patrolQ ++ [(line, cut)] } }

/-! ### The Shallows -/

/-- The entry at a place. -/
def State.entryAt (s : State) (p : Place) : Option Entry := tfind s.wp.entries p.code

/-- Changes the entry at a place. -/
def State.modEntry (s : State) (p : Place) (f : Entry → Entry) : State :=
  match s.entryAt p with
  | some e => { s with wp := { s.wp with entries := tins p.code (f e) s.wp.entries } }
  | none => s

/-- A slot is dead (R54). -/
def State.kill (s : State) (p : Place) : State := s.modEntry p fun e => { e with dead := true }

/-- The place an index record names. -/
def State.recPlace (s : State) (line : Nat) (r : IndexRec) : Place := ⟨s.setOf (granOf line), r.pair, r.slot⟩

/-- Open blocks of a channel in the host area. -/
def State.openBlocks (s : State) (k : Fin 4) (p : Fin 16) : Nat :=
  (s.wp.pairs.filter fun (x : Pair) => x.set = k && x.isOpen && !x.running && (x.ch0 = p || x.ch1 = p)).length

/-- Open pairs of a set, in its host area or its running part. -/
def State.openPairs (s : State) (k : Fin 4) (running : Bool) : List Pair :=
  s.wp.pairs.filter fun (x : Pair) => x.set = k && x.isOpen && x.running == running

/-- One of a list by the keyed rotation (log 7); a list of one needs no pick. -/
def State.pick {α : Type} (s : State) (l : List α) : Option α × State :=
  match l with
  | [] => (none, s)
  | [a] => (some a, s)
  | a :: l =>
    let (n, s) := s.draw
    (some (((a :: l)[Config.freePick n % (l.length + 1)]?).getD a), s)

/-- Blocks of the host area of a channel (R53): 96 % of its 32,768, rounded down (log 93). -/
def hostBlocks : Nat := 31457

/-- Blocks of the running part of a channel's reserve (R53): 0.875 %. -/
def runBlocks : Nat := 286

/-- Blocks of the flush part of a channel's reserve (R53): 3.125 %. Only a flush or an orderly power-down writes into it: journal, node
and table content that this model holds as the durable tables themselves (log 9). -/
def flushBlocks : Nat := 1024

/-- Blocks of a channel that the pairs of one area hold, until they are freed. -/
def State.blocksOn (s : State) (k : Fin 4) (p : Fin 16) (running : Bool) : Nat :=
  (s.wp.pairs.filter fun (x : Pair) => x.set = k && x.running == running && (x.ch0 = p || x.ch1 = p)).length

/-- Whether a channel has room for one more block of an area (R54). -/
def State.hasRoom (s : State) (k : Fin 4) (p : Fin 16) (running : Bool) : Bool :=
  decide (s.blocksOn k p running < if running then runBlocks else hostBlocks)

/-- Of two sequence numbers the older (R46). -/
def older (a b : Nat) : Nat := if newer a b then b else a

/-- The lowest number among an entry's and those of the writes numbered and not yet placed: SEQ_BASE of a pair's first mark (log 72). -/
def State.lowSeq (s : State) (seq : Nat) : Nat :=
  (s.lds.toList.flatMap (·.adm) ++ s.lo.tethers.toList.flatMap (·.rxq) ++ s.wp.ilocks.flatMap (·.waiting) ++ s.wp.mergeQ ++ s.wp.encQ ++
    s.wp.allocQ).foldl (fun m (w : Write) => older m w.seq) seq

/-- A segment mark is programmed in a slot of both blocks of a pair, with its own sequence number (R46, R56). -/
def State.putMark (s : State) (p : Place) (base : Nat) : State :=
  let (q, s) := s.nextSeq
  { s with wp := { s.wp with marksAt := tins p.code ⟨q, base⟩ s.wp.marksAt } }

/-- The lowest pair number of a set that no pair bears (log 74). -/
def State.freeNum (s : State) (k : Fin 4) : Option Nat :=
  let used := (s.wp.pairs.filter fun (x : Pair) => x.set = k).map (·.num)
  ((List.range (used.length + 1)).find? fun n => !used.contains n).filter fun n => decide (n < 262144)

/-- Opens a pair of an area on two channels chosen by keyed rotation among those with room and fewer than three open blocks, one with none
first; slot 0 of both blocks takes a segment mark (R54, R56). -/
def State.openPair (s : State) (k : Fin 4) (running : Bool) (seq : Nat) : State :=
  let room := (s.servingPos k).filter fun p => decide (s.openBlocks k p < 3) && s.hasRoom k p running
  let bare := room.filter fun p => s.openBlocks k p = 0
  let (a, s) := s.pick (if bare.isEmpty then room else bare)
  match a with
  | none => s
  | some a =>
    let room := room.filter fun p => p ≠ a
    let bare := bare.filter fun p => p ≠ a
    let (b, s) := s.pick (if bare.isEmpty then room else bare)
    match b, s.freeNum k with
    | some b, some num =>
      let lo := if a < b then a else b
      let hi := if a < b then b else a
      let base := s.lowSeq seq
      let t : State :=
        { s with wp := { s.wp with pairs := s.wp.pairs ++ [⟨k, num, lo, hi, 1, base, true, (s.drDie (s.shDie k lo num)).wclk, running⟩] },
                 dr := { s.dr with shEpoch := tins (pairCode k num) (s.drDie (s.shDie k hi num)).wclk s.dr.shEpoch } }
      t.putMark ⟨k, num, 0⟩ base
    | _, _ => s

/-- Opens pairs until a set has as many open as channels in service (R54); `n` bounds the pairs opened. -/
def State.openPairsUpTo (s : State) (k : Fin 4) (seq : Nat) : Nat → State
  | 0 => s
  | n + 1 => if (s.openPairs k false).length < (s.servingPos k).length then (s.openPair k false seq).openPairsUpTo k seq n else s

/-- Slots a pair needs for an entry: one more for the segment mark when its number lies 2^17 or more beyond the last
SEQ_BASE, or below it (R56). -/
def Pair.need (p : Pair) (seq : Nat) : Nat := if 2 ^ 17 ≤ (2 ^ 48 - p.seqBase % 2 ^ 48 + seq) % 2 ^ 48 then 2 else 1

/-- Queued programs of a pair's busier channel. -/
def State.pairBusy (s : State) (p : Pair) : Nat := max s.wp.progQ[chanOf p.set p.ch0] s.wp.progQ[chanOf p.set p.ch1]

/-- A pair with no slot left for an entry and the mark it needs takes no more entries (log 73). -/
def State.closeShort (s : State) (k : Fin 4) (seq : Nat) : State :=
  { s with wp := { s.wp with pairs := s.wp.pairs.map fun (x : Pair) =>
      if x.set = k ∧ x.isOpen ∧ 512 < x.head + x.need seq then { x with isOpen := false } else x } }

/-- The lowest number among an entry's and those of the entries still queued for a pair: SEQ_BASE of a later mark (R56). -/
def State.queuedLow (s : State) (p : Pair) (seq : Nat) : Nat :=
  (s.wp.progs.filter fun (w : Write) => !w.localOk && w.place.set == p.set && w.place.pair == p.num).foldl
    (fun m (w : Write) => older m w.seq) seq

/-- The next free slot of a pair, with the segment mark before it where one is needed (R56). -/
def State.takeSlot (s : State) (p : Pair) (seq : Nat) : Place × State :=
  let slot := p.head + p.need seq - 1
  let base := s.queuedLow p seq
  let p' := { p with head := slot + 1, isOpen := decide (slot + 1 < 512), seqBase := if p.need seq = 2 then base else p.seqBase }
  let s := { s with wp := { s.wp with pairs := s.wp.pairs.map fun (x : Pair) => if x.set = p.set ∧ x.num = p.num then p' else x } }
  (⟨p.set, p.num, slot⟩, if p.need seq = 2 then s.putMark ⟨p.set, p.num, p.head⟩ base else s)

/-- The slot that the open pairs of an area offer: of those that may be chosen the one whose busier channel has the fewest queued programs,
ties by keyed rotation (R54). -/
def State.slotOf (s : State) (k : Fin 4) (running : Bool) (seq : Nat) (ok : Pair → Bool) : Option Place × State :=
  let can := (s.openPairs k running).filter fun p => decide (p.head + p.need seq ≤ 512) && ok p
  let least := can.foldl (fun m p => min m (s.pairBusy p)) 1000000
  let (c, s) := s.pick (can.filter fun p => s.pairBusy p = least)
  match c with
  | none => (none, s)
  | some p =>
    let (q, s) := s.takeSlot p seq
    (some q, s)

/-- The next free slot of a set's host area (R54, R56); `ok` says which pairs may be chosen. -/
def State.allocSlot (s : State) (k : Fin 4) (seq : Nat) (ok : Pair → Bool) : Option Place × State :=
  ((s.closeShort k seq).openPairsUpTo k seq 16).slotOf k false seq ok

/-- The next free slot of a set's running part (R53, R65): one pair of it is open at a time. -/
def State.allocRun (s : State) (k : Fin 4) (seq : Nat) : Option Place × State :=
  let s := s.closeShort k seq
  (if (s.openPairs k true).isEmpty then s.openPair k true seq else s).slotOf k true seq fun _ => true

/-- A slot for an entry that the fill marks never hold: of the host area of the first set that has one, else of the running part (R65,
R171). -/
def State.allocFirst (s : State) (run : Bool) (seq : Nat) : List (Fin 4) → Option Place × State
  | [] => (none, s)
  | k :: ks => match (if run then s.allocRun k seq else s.allocSlot k seq fun _ => true) with
    | (some p, t) => (some p, t)
    | (none, t) => t.allocFirst run seq ks

/-- The place of a commit, outcome or metadata record (R65, R171); a rekey watermark goes to the running part at once (R207). -/
def State.allocMeta (s : State) (seq : Nat) (runOnly : Bool) : Option Place × State :=
  if runOnly then s.allocFirst true seq s.setList
  else match s.allocFirst false seq s.setList with
    | (some p, t) => (some p, t)
    | (none, t) => t.allocFirst true seq t.setList

/-- A record as an entry of the Shallows: the next sequence number and its place (R46, R65). -/
def State.newMeta (s : State) (r : MetaRec) (runOnly : Bool) : MetaEnt × State :=
  let (n, s) := s.nextSeq
  let (p, s) := s.allocMeta n runOnly
  (⟨n, r, p, s.wp.seq⟩, s)

/-- A map journal record becomes durable (R108). -/
def State.journal (s : State) (r : MetaRec) : State :=
  let (e, s) := s.newMeta r false
  { s with fo := { s.fo with journal := e :: s.fo.journal } }

/-- Another metadata record becomes durable. -/
def State.metaRec (s : State) (r : MetaRec) : State :=
  let (e, s) := s.newMeta r (match r with | .watermark .. => true | _ => false)
  { s with wp := { s.wp with reserve := e :: s.wp.reserve } }

/-- Puts an entry in its slot. -/
def State.putEntry (s : State) (p : Place) (e : Entry) : State :=
  { s with wp := { s.wp with entries := tins p.code e s.wp.entries } }

/-- Sets an index record. -/
def State.setIndex (s : State) (line : Nat) (r : IndexRec) : State :=
  { s with wp := { s.wp with index := tins line r s.wp.index } }

/-- Whether a version with this sequence number becomes the line's newest: its granule is not poisoned, in which every write is discarded (R107),
and the line's index record names no newer one (R58, R164). -/
def State.takes (s : State) (line seq : Nat) : Bool :=
  (s.mapEnt (granOf line)).state != .poisoned && match tfind s.wp.index line with
  | none => true
  | some old => match s.entryAt (s.recPlace line old) with
    | none => true
    | some e => !newer e.ord seq

/-- Points a line's index record to a new entry, unless the record names a version with a newer sequence number (R58,
R164); the entry left behind becomes dead. -/
def State.indexLine (s : State) (line : Nat) (p : Place) (seq : Nat) (psn : Bool) : State :=
  let r : IndexRec := ⟨p.pair, p.slot, seq % 64, psn⟩
  match tfind s.wp.index line with
  | none => { s with wp := { s.wp with index := tins line r s.wp.index } }
  | some old =>
    match s.entryAt (s.recPlace line old) with
    | none => { s with wp := { s.wp with index := tins line r s.wp.index } }
    | some e =>
      if newer e.ord seq then s.kill p
      else (s.kill (s.recPlace line old)).setIndex line r

/-- The newest committed version of a line (R24, Table 04-2 without the cache). -/
inductive Version where
  | zero
  | poison
  | shallows (p : Place) (e : Entry)
  | peat (lane : Fin 16) (frame : Nat) (x : PeatSlot)
  deriving DecidableEq, Repr

/-- What the index and the map name for a line. -/
def State.version (s : State) (line : Nat) : Version :=
  match tfind s.wp.index line with
  | some r =>
    if r.psn then .poison
    else match s.entryAt (s.recPlace line r) with
      | some e => .shallows (s.recPlace line r) e
      | none => .zero
  | none =>
    let m := s.mapEnt (granOf line)
    match m.state with
    | .unwritten => .zero
    | .poisoned => .poison
    | _ =>
      match (s.frameOf (granOf line)).bind fun f => tfind f.slots (line % 256) with
      | none => .zero
      | some x => if x.psn then .poison else .peat m.lane m.frame x

/-- A number that tells versions of a line apart: what R35 compares before it marks. -/
def State.verCode (s : State) (line : Nat) : Nat :=
  match s.version line with
  | .zero => 0
  | .poison => 1
  | .shallows p _ => 2 + 2 * p.code
  | .peat lane frame _ => 3 + 2 * frameCode (s.setOf (granOf line)) lane frame

/-- The nonce of a Shallows entry: its own in the sequence domain, else the line's (R189, R191). -/
def State.entryNonce (s : State) (e : Entry) : Nonce :=
  if e.win.isSome then s.seqNonce e.line e.seq e.posB else s.lineNonce e.line

/-- The plaintext of a line's newest committed version; `none` for poison. -/
def State.plain (s : State) (line : Nat) : Option Line :=
  match s.version line with
  | .zero => some 0
  | .poison => none
  | .shallows _ e => some (s.dec (s.entryNonce e) line e.data)
  | .peat _ _ x => some (s.dec (s.lineNonce line) line x.data)

/-- Whether a line's newest committed version is a written one, to be re-encrypted (R196). -/
def State.written (s : State) (line : Nat) : Bool :=
  match s.version line with
  | .shallows .. => true
  | .peat .. => true
  | _ => false

/-! ### Stage 8 (R77, R315, R324) -/

/-- A write passes stage 8: the cache takes the line, or is marked without it; while disabled the cache becomes stale.
The address is kept for the fill fence. -/
def State.stage8 (s : State) (line : Nat) (data : Line) (absent : Bool) : State :=
  let s := { s with wp := { s.wp with updates := (line, s.now) :: (s.wp.updates.filter fun p => s.now - p.2 < usTicks 8) } }
  if s.ca.en = false then { s with ca := { s.ca with stale := true } }
  else if absent ∨ s.userLine line = false then s.cacheDrop line
  else s.cacheEnter line data true

/-- A prefetch of a line in flight is dropped when a write to it finishes stage 7 (R91): one not yet looked up leaves the tracker,
one that is being sensed fills nothing. -/
def State.dropPrefetch (s : State) (line : Nat) : State :=
  let kept := s.rp.tracker.filter fun (r : Read) => !(r.src == .prefetch && r.line == line && r.path == .lookup)
  let upd : Read → Read := fun r => if r.src = .prefetch ∧ r.line = line then { r with fillOk := false } else r
  { s with rp := { s.rp with tracker := kept.map upd } }

/-- A slot for an internal line entry: of its set's host area, else of its running part (R54, R65; log 75). -/
def State.allocLine (s : State) (line seq : Nat) : Option Place × State :=
  match s.allocSlot (s.setOf (granOf line)) seq fun _ => true with
  | (some p, t) => (some p, t)
  | (none, t) => t.allocRun (t.setOf (granOf line)) seq

/-- A line entry of the committed view lands at once: placed, verified, indexed (internal writes, R47, R196; log 76). -/
def State.landLine (s : State) (ld : Fin 16) (line : Nat) (psn : Bool) (ct : Line) (tag : Tag) : State :=
  let (n, s) := s.nextSeq
  match s.allocLine line n with
  | (none, s) => s
  | (some p, s) =>
    (s.putEntry p ⟨n, n, ld, line, none, psn, ct, tag, true, true, true, false, false, false⟩).indexLine line p n psn

/-- Marks a line poisoned with a PSN 1 entry and lists it (R35, R85, R211, R212). -/
def State.markPoison (s : State) (ld : Fin 16) (line : Nat) (src : PoisonSrc) : State :=
  (((s.landLine ld line true 0 0).dropPrefetch line).stage8 line 0 true).poisonAdd line 1 src

/-! ### Page re-encryption (R196) -/

/-- Number of a tree node in a table: level 2 to 6 and unit (Table 08-5). -/
def nodeCode (level unit : Nat) : Nat := level * 2 ^ 40 + unit

/-- A counter line of a level is written to the media: its parent's MINOR for it rises by one (R194, R197). -/
def State.countChild (s : State) (level unit : Nat) : State :=
  let c := nodeCode (level + 1) (unit / 64)
  let b := tget CBlock.zero s.cr.nodes c
  let m := tget 0 b.minors (unit % 64)
  let b := if m < 127 then { b with minors := tput 0 (unit % 64) (m + 1) b.minors } else ⟨b.major + 1, [(unit % 64, 1)], false⟩
  let key := (level + 1, unit / 64)
  { s with cr := { s.cr with nodes := tput CBlock.zero c b s.cr.nodes,
                             dirty := if level = 5 ∨ s.cr.dirty.contains key then s.cr.dirty else key :: s.cr.dirty } }

/-- The counter block of a page becomes durable at its present value: a counter line is written, with the next sequence number (R46, R195,
log 9). -/
def State.durPage (s : State) (page : Nat) : State :=
  let s := s.nextSeq.2
  ({ s with cr := { s.cr with durBlocks := tput CBlock.zero page (s.block page) s.cr.durBlocks,
                              dirty := s.cr.dirty.filter fun p => p ≠ (1, page) } }).countChild 1 page

/-- Re-encrypts every written line of a page under a new MAJOR and key position, each with its own sequence number and
MINOR 0; EARLY as given. Lines of unwritten granules, blank slots and poisoned lines are not rewritten. -/
def State.reencPage (s : State) (page major : Nat) (posB early : Bool) : State :=
  let old := ((List.range 64).map fun i => page * 64 + i).filter s.written
  let plains := old.map fun l => (l, (s.plain l).getD 0)
  let s := s.setBlock page ⟨major, [], early⟩
  let s := plains.foldl (fun s p =>
    let n : Nonce := ⟨false, major, 0, (s.regionOf p.1).val, posB⟩
    let ct := s.enc n p.1 p.2
    (s.landLine 0 p.1 false ct (s.tag n p.1 ct)).cacheDirty p.1 true) s
  s.durPage page

/-! ### Tethered writes (15_lode_links_and_pools.md) -/

/-- An Up lode port of a tether's mask (R365). -/
def State.tetherPort (s : State) (t : Fin 8) : Option (Fin 4) :=
  (allFin 4).find? fun p => s.lo.tethers[t].ports.getLsbD p.val && s.lo.ports[p].state == .up && s.lo.ports[p].keyed

/-- A message goes out on a lode port and its counter rises (R214). -/
def State.lodeSend (s : State) (p : Fin 4) (t : Fin 8) (m : LodeMsg) : State :=
  (s.modLode p fun x => { x with msgCtr := x.msgCtr + 1 }).emit (.lode p t m)

/-- A tether message goes out where an Up port carries it. -/
def State.tetherSend (s : State) (t : Fin 8) (m : LodeMsg) : State :=
  match s.tetherPort t with
  | some p => s.lodeSend p t m
  | none => s

/-- Whether a tether mirrors writes: its primary, in sync or syncing (R68, R368). -/
def Tether.mirrors (x : Tether) : Bool := !x.replica && (x.state == .inSync || x.state == .syncing)

/-- The dirty-granule bit of a tethered granule, by its offset in the region, with its record (R367). -/
def State.setDirtyBit (s : State) (t : Fin 8) (g : Nat) : State :=
  if s.lo.tethers[t].bitmap.contains g then s
  else (s.modTether t fun x => { x with bitmap := x.bitmap ++ [g] }).metaRec (.bitmap t g)

/-- The line's offset in its tethered region. -/
def State.tetherOff (s : State) (t : Fin 8) (line : Nat) : Nat := line - s.cr.regions[regIx s.lo.tethers[t].region].base / 64

end Sys2Proof.Machine
end

