-- ==== Sys2Proof/Machine/Groups.lean ====
section
/-! DEFINITION. Commit groups and their windows (07_commit_groups.md R157 to R184): shared operations and the commands of
the family. -/

namespace Sys2Proof.Machine

/-! ### What a group holds -/

/-- Writes past admission that have not reached stage 7. -/
def State.inflight (s : State) : List Write :=
  s.wp.mergeQ ++ s.wp.encQ ++ s.wp.allocQ ++ s.wp.progs ++ s.wp.idxQ ++ s.wp.ilocks.flatMap (·.waiting)

/-- Whether a window's group is open or committing (R161). -/
def Win.active (w : Win) : Bool := w.state == .opened || w.state == .committing

/-- Whether a group number is the window's open or committing group. -/
def State.groupIs (s : State) (n : Fin 16) (w : Fin 64) (gseq : Nat) : Bool :=
  (s.win n w).active && (s.win n w).gseq == gseq

/-- The tentative lines of the device as (LD, window, line): a record, or an arrived write not past stage 7 (R166). -/
def State.tentLines (s : State) : List (Fin 16 × Fin 64 × Nat) :=
  ((s.wp.tents.filter fun t => s.groupIs t.ld t.win t.gseq).map (fun t => (t.ld, t.win, t.line)) ++
    s.inflight.filterMap fun w => match w.win with
      | some v => if w.src = .host ∧ s.groupIs w.ld v w.gseq then some (w.ld, v, w.line) else none
      | none => none).dedup

/-- Tentative lines of an LD: CWIN_TR_STAT.TENT. -/
def State.tentCount (s : State) (n : Fin 16) : Nat := (s.tentLines.filter fun p => p.1 = n).length

/-- Whether an LD's or the device's tentative lines are at their limit (Table 07-2). -/
def State.tentFull (s : State) (n : Fin 16) : Bool :=
  (s.ld n).cw.quota ≤ s.tentCount n || 2 ^ 24 ≤ s.tentLines.length

/-- Whether an arriving write adds a tentative line (R166). -/
def State.addsTent (s : State) (n : Fin 16) (w : Fin 64) (line : Nat) : Bool := !s.tentLines.contains (n, w, line)

/-- The tether of a window's group while it mirrors (R181). -/
def State.groupTether (s : State) (n : Fin 16) (w : Fin 64) : Option (Fin 8) :=
  (s.win n w).teth.filter fun t => s.lo.tethers[t].mirrors

/-! ### Opening and closing (R161, R168, R172) -/

/-- A window's next group opens (R161). -/
def State.openGroup (s : State) (n : Fin 16) (w : Fin 64) : State :=
  let teth := s.tetherOf (s.regionOf ((s.ld n).cw.base / 64)).val
  s.modWin n w fun v => { v with state := .opened, teth := teth, recPlace := none, gseq := (v.gseq + 1) % 2 ^ 48, arrived := 0, count := 0, openedAt := s.now,
                                 paused := 0, acked := 0, first := 0, last := 0, recIssued := false, recLocal := false,
                                 recPartner := false }

/-- The tentative records of a window leave every lookup and their entries become dead (R168). -/
def State.dropTents (s : State) (n : Fin 16) (w : Fin 64) : State :=
  let mine := s.wp.tents.filter fun t => t.ld = n && t.win = w
  let s := mine.foldl (fun s t => s.kill t.place) s
  { s with wp := { s.wp with tents := s.wp.tents.filter fun t => !(t.ld == n && t.win == w) } }

/-- The FLAGS of an outcome record: tethered, written by the flush, written at replay (Table 07-4). -/
def outFlags (tethered flush replay : Bool) : Nat := b2n tethered + 2 * b2n flush + 4 * b2n replay

/-- The open or committing group of a window closes with an outcome other than 0x01; its outcome record is issued. -/
def State.closeGroup (s : State) (n : Fin 16) (w : Fin 64) (code : Nat) : State :=
  let s := s.dropTents n w
  let (q, s) := s.nextSeq
  let (p, s) := s.allocMeta q false
  let s := match s.groupTether n w with
    | some t => s.tetherSend t (.tabort w code (s.win n w).gseq)
    | none => s
  s.modWin n w fun v => { v with state := if code = 3 then .timedOut else .aborted, outcome := code, closing := some code,
                                 recSeq := q, recPlace := p, recIssued := false }

/-- Closes every group of an LD that has no commit record issued (R169). -/
def State.closeAll (s : State) (n : Fin 16) (code : Nat) : State :=
  (allFin 64).foldl (fun s w =>
    if (s.win n w).active && !(s.win n w).recIssued then s.closeGroup n w code else s) s

/-- Issues the commit record when every write of a committing group is acknowledged (R161, R181), to the channels R171 names. -/
def State.issueCommit (s : State) (n : Fin 16) (w : Fin 64) : State :=
  let v := s.win n w
  if v.state = .committing ∧ v.recIssued = false ∧ v.arrived = v.count ∧ v.acked = v.arrived then
    let (q, s) := s.nextSeq
    let (p, s) := s.allocMeta q false
    match s.groupTether n w with
    | some t =>
      (s.tetherSend t (.tcommit w v.gseq v.first v.last v.arrived q)).modWin n w fun v =>
        { v with recIssued := true, recSeq := q, recPlace := p, recLocal := false, recPartner := false }
    | none => s.modWin n w fun v => { v with recIssued := true, recSeq := q, recPlace := p, recLocal := false, recPartner := true }
  else s

/-- A write of a group is acknowledged (R161). -/
def State.ackGroup (s : State) (n : Fin 16) (w : Fin 64) (gseq : Nat) : State :=
  if s.groupIs n w gseq then (s.modWin n w fun v => { v with acked := v.acked + 1 }).issueCommit n w else s

/-- The granule of a line in its tethered region. -/
def State.tetherGran (s : State) (t : Fin 8) (line : Nat) : Nat := s.tetherOff t line / 256

/-! ### Doorbells (R161, R167) -/

/-- A doorbell is rejected (R167). -/
def State.dbReject (s : State) (n : Fin 16) (w : Fin 64) (cause : Nat) : State :=
  s.modWin n w fun v => { v with dbrej := true, dbcause := cause }

/-- The checks of R167 in their order; 0 when the doorbell is accepted. What a second commit doorbell or an abort doorbell meets while a first
waits for the outcome record: log 29. -/
def State.dbCause (s : State) (n : Fin 16) (w : Fin 64) (whole : Bool) (value : Nat) : Nat :=
  let v := s.win n w
  let count := field value 16 0
  let op := field value 18 17
  let next := if v.active then v.gseq else (v.gseq + 1) % 2 ^ 48
  if !whole then 6
  else if !(s.ld n).cw.en then 5
  else if op = 0 ∨ op = 3 ∨ (op = 1 ∧ (count = 0 ∨ 65536 < count)) then 1
  else if op = 2 ∧ v.active = false then 4
  else if (op = 2 ∧ v.recIssued) ∨ (op = 1 ∧ (v.state = .committing ∨ v.dbWait.isSome)) then 3
  else if bit value 19 ∧ field value 47 32 ≠ next % 65536 then 2
  else 0

/-- An accepted doorbell takes effect (Table 07-1). A commit doorbell on a closed window whose outcome record is not yet
durable waits for it (log 29). -/
def State.dbAccept (s : State) (n : Fin 16) (w : Fin 64) (value : Nat) : State :=
  let v := s.win n w
  let count := field value 16 0
  if field value 18 17 = 2 then s.closeGroup n w 2
  else if v.state = .opened then
    if count < v.arrived then s.closeGroup n w 5
    else (s.modWin n w fun v => { v with state := .committing, count := count }).issueCommit n w
  else if v.closing.isSome then s.modWin n w fun v => { v with dbWait := some value }
  else (s.openGroup n w).modWin n w fun v => { v with state := .committing, count := count }

/-- A write to CWIN_DB(w). -/
def State.doorbell (s : State) (n : Fin 16) (w : Fin 64) (whole : Bool) (value : Nat) : State :=
  let c := s.dbCause n w whole value
  if c = 0 then s.dbAccept n w value else s.dbReject n w c

/-! ### Arrival (R160, R161, R166) -/

/-- What a window write at the head of its admission queue does. -/
inductive Arrival where
  | unallocated
  | stays
  | limit
  | arrives
  deriving DecidableEq, Repr

/-- Whether a write through a window arrives (Table 07-1, Table 07-2, R168, R169). -/
def State.arrival (s : State) (n : Fin 16) (w : Fin 64) (line : Nat) : Arrival :=
  let v := s.win n w
  if !(s.ld n).cw.en then .unallocated
  else if v.active then
    if v.state = .committing ∧ v.arrived = v.count then .stays
    else if v.arrived = 65536 ∨ (s.addsTent n w line ∧ s.tentFull n) then .limit
    else .arrives
  else if v.closing.isSome ∨ s.tentFull n then .stays
  else .arrives

/-- A write arrives in its window: opens a group where none is open, and counts (R160). -/
def State.arrive (s : State) (n : Fin 16) (w : Fin 64) (seq : Nat) : State :=
  let s := if (s.win n w).active then s else s.openGroup n w
  s.modWin n w fun v => { v with arrived := v.arrived + 1, first := if v.arrived = 0 then seq else v.first, last := seq }

/-! ### The outcome ring (R176 to R178) -/

/-- A ring entry (Table 07-15) as a number of 16 bytes. -/
def outcomeEntry (gseq w prod outcome count : Nat) (teth : Bool) : Nat :=
  gseq % 2 ^ 48 + w * 2 ^ 48 + b2n (bit prod 10) * 2 ^ 55 + outcome * 2 ^ 56 + count % 2 ^ 17 * 2 ^ 64 + b2n teth * 2 ^ 88

/-- Posts a closed group: ring entry PROD mod 1,024, then PROD + 1 (R177). -/
def State.postOutcome (s : State) (n : Fin 16) (w : Fin 64) : State :=
  let v := s.win n w
  let bank := whoOf n
  let prod := (s.sp.banks[bank]).readLE 0x3BF08 4
  let e := outcomeEntry v.gseq w.val prod v.outcome v.arrived v.teth.isSome
  s.modBank bank fun m => (m.writeLE (0x3C000 + 16 * (prod % 1024)) 16 e).writeLE 0x3BF08 4 ((prod + 1) % 2 ^ 32)

/-- Clears the lease words and LEASE_MAP (R178). -/
def State.clearLeases (s : State) (n : Fin 16) : State :=
  s.modBank (whoOf n) fun m => m.filter fun c => !(0x3BD00 ≤ c.1 && c.1 < 0x3BF08)

/-- Sets PROD and the ring to zero (R177). -/
def State.clearRing (s : State) (n : Fin 16) : State :=
  s.modBank (whoOf n) fun m => m.filter fun c => !((0x3BF08 ≤ c.1 && c.1 < 0x3BF0C) || (0x3C000 ≤ c.1 && c.1 < 0x40000))

/-- A group's outcome record is durable: kept as the window's highest, posted, notified (R174, R177); `flush` where the hardware flush wrote
it (R170). -/
def State.outcomeDurable (s : State) (n : Fin 16) (w : Fin 64) (flush : Bool) : State :=
  let v := s.win n w
  let code := v.closing.getD 0
  let s := { s with wp := { s.wp with reserve :=
    ⟨v.recSeq, .outcome n w v.gseq v.first v.last v.arrived code (outFlags v.teth.isSome flush false), v.recPlace, s.wp.seq⟩ :: s.wp.reserve } }
  let s := s.postOutcome n w
  let s := s.modWin n w fun v => { v with closing := none, durGseq := v.gseq, durOutcome := code, durCount := v.arrived }
  let s := if (s.ld n).cw.notify then
      s.raise ⟨n.val, by omega⟩ 0 (v.gseq % 65536 + w.val * 65536)
    else s
  match (s.win n w).dbWait with
  | some d =>
    let s := s.modWin n w fun v => { v with dbWait := none }
    s.doorbell n w true d
  | none => s

/-! ### The commit point (R163, R164, R168, R181) -/

/-- A group's line whose every copy was lost after its commit record was issued: from the commit point it is a poisoned line (R35, R168). -/
def State.commitLost (s : State) (q : Nat) (t : TentRec) : State :=
  let s := s.kill t.place
  let (n, s) := s.nextSeq
  match s.allocLine t.line n with
  | (none, s) => s
  | (some p, s) =>
    ((s.putEntry p ⟨n, q, t.ld, t.line, none, true, 0, 0, true, true, true, false, false, false⟩).indexLine t.line p q true).poisonAdd
      t.line 1 .internal

/-- One tentative record of a committing group becomes the line's committed version, unless the index names a newer one (R163, R164). The
cached line, older than the group's, is dropped. -/
def State.commitLine (s : State) (q : Nat) (t : TentRec) : State :=
  if s.takes t.line q then
    let s := s.cacheDrop t.line
    let s := if t.lost then s.commitLost q t else
      let s := match tfind s.wp.index t.line with
        | some old => s.kill (s.recPlace t.line old)
        | none => s
      let s := (s.modEntry t.place fun e => { e with ord := q }).setIndex t.line ⟨t.place.pair, t.place.slot, t.seq % 64, t.psn⟩
      if t.psn then s.poisonAdd t.line 1 (if t.intern then .internal else .external) else s.poisonDrop t.line 1
    match s.tetherOf (s.regionOf t.line).val with
    | some k => if s.lo.tethers[k].state ≠ .inSync ∧ s.lo.tethers[k].replica = false then s.setDirtyBit k (s.tetherGran k t.line)
        else s
    | none => s
  else s.kill t.place

/-- The group is marked committed in one step: its records move to the index, and its commit record is its outcome record (R163, R172). -/
def State.commitApply (s : State) (n : Fin 16) (w : Fin 64) : State :=
  let v := s.win n w
  let mine := s.wp.tents.filter fun t => t.ld = n && t.win = w && t.gseq = v.gseq
  let s := mine.foldl (fun s t => s.commitLine v.recSeq t) s
  let s := { s with wp := { s.wp with tents := s.wp.tents.filter fun t => !(t.ld == n && t.win == w) } }
  s.modWin n w fun v => { v with state := .committed, outcome := 1, closing := some 1 }

/-- The commit point (R163): the group is committed, the partner told, and its outcome posted; `flush` where the hardware flush wrote the
record (R170). -/
def State.commitNow (s : State) (n : Fin 16) (w : Fin 64) (flush : Bool) : State :=
  let s := s.commitApply n w
  let s := match s.groupTether n w with
    | some t => s.tetherSend t (.tpoint w (s.win n w).gseq)
    | none => s
  s.outcomeDurable n w flush

/-- Whether a window's tentative lines are the partner's: the replica never commits them on its own (R181). -/
def State.replicaGroup (s : State) (n : Fin 16) (w : Fin 64) : Bool :=
  s.wp.tents.any fun (t : TentRec) => t.ld == n && t.win == w &&
    (match s.tetherOf (s.regionOf t.line).val with
     | some k => s.lo.tethers[k].replica
     | none => false)

/-- The commit point is reached once both local copies have verified and the partner has confirmed or is absent (R181,
R182). -/
def State.tryCommit (s : State) (n : Fin 16) (w : Fin 64) (flush : Bool) : State :=
  let v := s.win n w
  if v.state = .committing ∧ v.recIssued ∧ v.recLocal ∧ v.recPartner ∧ s.replicaGroup n w = false then s.commitNow n w flush else s

/-! ### Region enable and disable (R157, R158, R169) -/

/-- CWIN_TR_CTRL.EN written 1 (R158, R177, R178). -/
def State.regionEnable (s : State) (n : Fin 16) : State :=
  let c := (s.ld n).cw
  if c.en then s
  else if s.rangeHeld n c.base c.bytes ∧ (s.ld n).pass.locked = false ∧ s.tetherBarsIn c.base c.bytes = false then
    ((s.modCw n fun c => { c with en := true }).clearLeases n).clearRing n
  else s.modCw n fun c => { c with cfgerr := true }

/-- CWIN_TR_CTRL.EN written 0 (R169). -/
def State.regionDisable (s : State) (n : Fin 16) : State :=
  (s.modCw n fun c => { c with en := false }).closeAll n 8

/-! ### The commands -/

/-- COMMIT_DOORBELL (R161, R167). -/
def execCommitDoorbell (n : Fin 16) (w : Fin 64) (width : Nat) (value : BitVec 64) (s : State) : Host.Outcome State Fault Refusal :=
  .next (s.io (whoOf n) (.commitDoorbell n w width value) fun s => s.doorbell n w (width == 8) value.toNat)

/-- ABORT_DOORBELL (R161, R167). -/
def execAbortDoorbell (n : Fin 16) (w : Fin 64) (width : Nat) (value : BitVec 64) (s : State) : Host.Outcome State Fault Refusal :=
  .next (s.io (whoOf n) (.abortDoorbell n w width value) fun s => s.doorbell n w (width == 8) value.toNat)

/-- The tick at which a window's timer expires (R162). -/
def State.deadline (s : State) (n : Fin 16) (w : Fin 64) : Nat :=
  (s.win n w).openedAt + msTicks (s.ld n).cw.tmo + (s.win n w).paused

/-- COMMIT_TIMER_EXPIRY (R162): the group closes with outcome 0x03, unless its commit record is issued or the timer is
paused. -/
def execCommitTimerExpiry (n : Fin 16) (w : Fin 64) (s : State) : Host.Outcome State Fault Refusal :=
  let v := s.win n w
  if v.active ∧ v.recIssued = false ∧ s.timerPaused = false then .next ((s.advance (s.deadline n w)).closeGroup n w 3)
  else .next s

/-- A commit record of the partner's, programmed here as the replica: the tether and the primary's SEQ (R181). -/
def State.partnerRec (s : State) (n : Fin 16) (w : Fin 64) : Option (Fin 8 × Nat) :=
  (allFin 8).findSome? fun t =>
    let x := s.lo.tethers[t]
    if x.replica ∧ s.holds n s.cr.regions[regIx x.region].base then (x.recs.find? fun r => r.1 == w).map fun r => (t, r.2) else none

/-- COMMIT_POINT (R163): both copies of the commit record have verified. A replica confirms the partner's record and waits for its commit
point (R181). -/
def execCommitPoint (n : Fin 16) (w : Fin 64) (s : State) : Host.Outcome State Fault Refusal :=
  if (s.win n w).recIssued then
    let t := s.modWin n w fun v => { v with recLocal := true }
    match s.partnerRec n w with
    | some (k, q) => .next ((t.modTether k fun x => { x with recs := x.recs.filter fun r => r.1 ≠ w }).tetherSend k (.tconf [q]))
    | none => .next (t.tryCommit n w false)
  else .next s

/-- OUTCOME_RECORD_DURABLE (R177): the outcome record of a group that did not commit verifies; a committed group's outcome is posted at its
commit point (log 77). -/
def execOutcomeRecordDurable (n : Fin 16) (w : Fin 64) (s : State) : Host.Outcome State Fault Refusal :=
  if (s.win n w).closing.isSome then .next (s.outcomeDurable n w false) else .next s

/-- REGION_ENABLE (R158). -/
def execRegionEnable (n : Fin 16) (s : State) : Host.Outcome State Fault Refusal :=
  .next (s.io (whoOf n) (.regionEnable n) fun s => s.regionEnable n)

/-- REGION_DISABLE (R169). -/
def execRegionDisable (n : Fin 16) (s : State) : Host.Outcome State Fault Refusal :=
  .next (s.io (whoOf n) (.regionDisable n) fun s => s.regionDisable n)

end Sys2Proof.Machine
end

