-- ==== Sys2Proof/Machine/Pmon.lean ====
section
/-! DEFINITION. The commands of the performance monitor and its sampler (12_notifications_events_counters.md R308 to R312). -/

namespace Sys2Proof.Machine

/-- Whether the data die's firmware runs. -/
def State.fwUp (s : State) : Bool := s.pw.dieUp && s.bt.phase != .off && !s.sec.romOnly

/-- Whether the keeper serves instance 0x0101 itself. -/
def State.keeperServes (s : State) (i : Inst) : Bool := i == .i3c && !s.fwUp

/-- The open session of the side that serves an instance (R278): not one whose 30 s have passed with no background command
running. -/
def State.session (s : State) (i : Inst) : Option Session :=
  if s.keeperServes i then s.mb.keeperSess.filter fun x => decide (s.now - x.lastTick ≤ secTicks 30)
  else
    let m := s.mb.inst[Inst.ix i]
    let busy : Bool := m.bg.any (·.running)
    m.session.filter fun x => busy || decide (s.now - x.lastTick ≤ secTicks 30)

/-- Whether a claimant may use the device-wide blocks (10_cxl_interface.md R265; 11_mailbox_and_sessions.md R285): the fabric
manager, or the LD granted device control while it has a session open, which a session whose 30 s have passed is not (R278). -/
def State.devOk (s : State) (who : Fin 17) : Bool :=
  who.val == 16 || (s.lk.grant == some (ldOf who.val) && (s.session (.ld (ldOf who.val))).isSome)

/-- An effect on a device-wide block, or the violation of kind 0x3 that stands for it; `off` is the offset in BAR2. R467 does not count a write
of another width than the register's, R265 counts every access without control: here each such write counts (DESIGN CHOICE, log 89). -/
def State.devOnly (s : State) (who : Fin 17) (off : Nat) (f : State → State) : State :=
  if s.devOk who then f s else s.violate who 3 off

/-- PMON_CTRL.SNAP written 1 (R310). -/
def State.pmSnap (s : State) : State := { s with pm := { s.pm with snap := s.pm.cnt } }

/-- PMON_SNAPSHOT (R310). -/
def execPmonSnapshot (who : Fin 17) (s : State) : Host.Outcome State Fault Refusal :=
  .next (s.io who (.pmonSnapshot who) fun s => s.devOnly who 0x200000 State.pmSnap)

/-- PMON_CTRL.CLR written 1 (Table 12-12). -/
def State.pmClear (s : State) : State := { s with pm := { s.pm with cnt := .replicate 64 0, ovf := 0 } }

/-- PMON_CLEAR (R312). -/
def execPmonClear (who : Fin 17) (s : State) : Host.Outcome State Fault Refusal :=
  .next (s.io who (.pmonClear who) fun s => s.devOnly who 0x200000 State.pmClear)

/-- PMON_COUNTER_WRAP (R308): a counter passes from 2^48 − 1 to 0. -/
def execPmonCounterWrap (n : Fin 64) (s : State) : Host.Outcome State Fault Refusal :=
  if s.pm.en ∧ s.pm.cnt[n] = BitVec.allOnes 48 then .next (s.pmAdd n 1) else .next s

/-- A gap: N with its low RAND bits replaced by random ones; 0 becomes 1 (R311, log 19). -/
def State.newGap (s : State) : State :=
  let (i, s) := s.draw
  let m := 2 ^ s.pm.rand
  let g := s.pm.n / m * m + (Config.freeGap i).toNat % m
  { s with pm := { s.pm with gap := if g = 0 then 1 else g } }

/-- Whether a request matches CLASS and the LD filter. -/
def State.sampleFits (s : State) (r : Sample) : Bool :=
  (match s.pm.cls with
   | 0 => decide (r.op < 2)
   | 1 => decide (2 ≤ r.op)
   | _ => true) && (!s.pm.ldfe || r.ld.val == s.pm.ldf)

/-- A sample is written to the active bank, or dropped while that is full (R311). -/
def State.sampleWrite (s : State) (r : Sample) : State :=
  let one := s.pm.active = 1
  if s.pm.full.getLsbD s.pm.active then { s with pm := { s.pm with sdrop := sat 0xFFFFFFFF (s.pm.sdrop + 1) } }
  else
    let bank := (if one then s.pm.bank1 else s.pm.bank0) ++ [r]
    let s := if one then { s with pm := { s.pm with bank1 := bank } } else { s with pm := { s.pm with bank0 := bank } }
    if bank.length < 2048 then s
    else
      let full := s.pm.full ||| (if one then 2 else 1)
      let other := if one then 0 else 1
      ({ s with pm := { s.pm with full := full, active := if full.getLsbD other then s.pm.active else other } }).raise 0x41 0 0

/-- PMON_SAMPLE (R311): the gap ends at a request that matches; its record is written when it completes. -/
def execPmonSample (rec : Sample) (s : State) : Host.Outcome State Fault Refusal :=
  if s.pm.sen ∧ s.sampleFits rec then .next (s.newGap.sampleWrite rec) else .next s

/-- FULL bits written 1: the banks are released, and a sampler that waits takes one (R311). -/
def State.sampleRelease (s : State) (b : BitVec 2) : State :=
  let full := s.pm.full &&& ~~~b
  let free (i : Nat) : Bool := s.pm.full.getLsbD i && b.getLsbD i
  let other := 1 - s.pm.active
  { s with pm := { s.pm with full := full, bank0 := if free 0 then [] else s.pm.bank0, bank1 := if free 1 then [] else s.pm.bank1,
                             active := if full.getLsbD s.pm.active ∧ full.getLsbD other = false then other else s.pm.active } }

/-- SAMPLE_BANK_RELEASE (R311). -/
def execSampleBankRelease (who : Fin 17) (bits : BitVec 2) (s : State) : Host.Outcome State Fault Refusal :=
  .next (s.io who (.sampleBankRelease who bits) fun s => s.devOnly who 0x201008 fun s => s.sampleRelease bits)

/-- SEN goes from 0 to 1: both banks are emptied, SDROP is 0, and the first gap is set (R311, R312). -/
def State.samplingOn (s : State) : State :=
  if s.pm.sen then s
  else ({ s with pm := { s.pm with sen := true, bank0 := [], bank1 := [], full := 0, sdrop := 0 } }).newGap

/-- SAMPLING_ENABLE (R312). -/
def execSamplingEnable (who : Fin 17) (s : State) : Host.Outcome State Fault Refusal :=
  .next (s.io who (.samplingEnable who) fun s => s.devOnly who 0x201000 State.samplingOn)

end Sys2Proof.Machine
end

