-- ==== Sys2Proof/Machine/Pipeline.lean ====
section
/-! DEFINITION. Shared operations of the write pipeline, stage by stage (03_write_path.md R45 to R68), and the start of a
region's rekey that a page's exhaustion forces (08_inline_encryption.md R204). -/

namespace Sys2Proof.Machine

/-! ### Receive buffers (R49, R250, R256) -/

/-- Whether an LD is reachable by its port (R240): enabled on a multi-logical port, or the lowest LD of a single one. -/
def State.reachable (s : State) (n : Fin 16) : Bool :=
  let p := s.lk.ports[s.portOf n]
  p.mode == .mld && (s.ld n).enabled || p.mode == .sld && (n.val == 0 || (n.val == 8 && s.portOf n == 1))

/-- The 100 µs window of R256 (log 12). -/
def State.qosWindow (s : State) : Nat := s.now / 80000

/-- Requests of a source (LD, or 16 for all) that left the receive buffers in this window. -/
def State.leftCount (s : State) (k : Nat) : Nat :=
  if tget 0 s.rp.leftNow 17 = s.qosWindow then tget 0 s.rp.leftNow k else 0

/-- Whether an LD's limit fraction lets a request leave the receive buffer (R256, log 12). -/
def State.qosOk (s : State) (n : Fin 16) : Bool :=
  (s.ld n).limitN == 255 || s.leftCount n.val * 256 ≤ ((s.ld n).limitN + 1) * s.leftCount 16

/-- A request of an LD leaves a receive buffer. -/
def State.countLeft (s : State) (n : Fin 16) : State :=
  let a := s.leftCount n.val
  let t := s.leftCount 16
  let base := if tget 0 s.rp.leftNow 17 = s.qosWindow then s.rp.leftNow else tput 0 17 s.qosWindow []
  { s with rp := { s.rp with leftNow := tput 0 n.val (a + 1) (tput 0 16 (t + 1) base) } }

/-- Whether credits are out and an LD's requests are taken at all (R250, R258; not once a power-down or a flush has begun, R384, R388). -/
def State.credits (s : State) (n : Fin 16) : Bool := s.lk.memActive && s.pw.st == .running && (s.ld n).resetting.isNone && s.qosOk n

/-- The number an address carries into LAST_ADDR (R284). -/
def State.addrNum (s : State) (n : Fin 16) (a : Addr) : Nat :=
  match s.dpaOf n a with
  | some d => d
  | none => match a with
    | .hpa h => h
    | .dpa d => d

/-- The nonce field of a write before stage 4. -/
def noNonce : Nonce := ⟨false, 0, 0, 0, false⟩

/-- A write as stage 1 makes it. -/
def newWrite (seq : Nat) (ld : Fin 16) (line : Nat) (win : Option (Fin 64)) (be : BitVec 64) (data : Line) (psn : Bool)
    (src : WSrc) : Write :=
  { seq := seq, ld := ld, line := line, win := win, be := be, data := if psn then 0 else data, psn := psn, src := src,
    gseq := 0, ct := 0, tag := 0, nonce := noNonce, place := ⟨0, 0, 0⟩, failed := [], tries := 0, localOk := false,
    partnerAck := true, discard := false, intern := false }

/-- A completion enters the completion queue. -/
def State.complete (s : State) (w : Write) : State :=
  if w.discard then s
  else { s with wp := { s.wp with cplQ := s.wp.cplQ ++ [⟨w.seq, w.ld, w.line, w.win, w.gseq, w.src⟩] } }

/-- Stage 1 of a write (R45, R26, R52): its sequence number, then its admission queue, or its completion where the capacity
is not allocated to its LD. -/
def State.stage1Write (s : State) (r : RxReq) : State :=
  let s := (s.countLeft r.ld).pmCount 0x002 ⟨some r.ld.val, none, none⟩
  let (q, s) := s.nextSeq
  match s.resolve r.ld r.addr with
  | none => (s.violate (whoOf r.ld) 5 (s.addrNum r.ld r.addr)).complete (newWrite q r.ld 0 none r.be 0 false .host)
  | some (line, win) =>
    let be := if r.kind = 2 then BitVec.allOnes 64 else r.be
    let s := if be = BitVec.allOnes 64 ∨ r.poison then s else s.pmCount 0x003 ⟨some r.ld.val, none, none⟩
    s.modLd r.ld fun l => { l with adm := l.adm ++ [newWrite q r.ld line win be r.data r.poison .host] }

/-- Whether two requests name one line (R31). -/
def State.sameLine (s : State) (a b : RxReq) : Bool :=
  match s.resolve a.ld a.addr, s.resolve b.ld b.addr with
  | some x, some y => x.1 == y.1
  | _, _ => false

/-- Writes leave the receive buffer in order; one whose admission queue is full, or whose LD has no credit, stays, and so does a later write
of its LD or of its line (R31, R49). -/
def State.drainWrites (s : State) : State :=
  s.wp.rx.foldl (fun s r =>
    if s.credits r.ld ∧ (s.ld r.ld).adm.length < 256 ∧ s.wp.rx.all (fun x => x.ld ≠ r.ld && !s.sameLine x r) then s.stage1Write r
    else { s with wp := { s.wp with rx := s.wp.rx ++ [r] } }) { s with wp := { s.wp with rx := [] } }

/-- A write request reaches the receive buffer of 1,024 writes, when its LD is reachable and a credit is out. -/
def State.arriveWrite (s : State) (r : RxReq) : State :=
  if s.reachable r.ld ∧ s.wp.rx.length < 1024 then
    ({ s with wp := { s.wp with rx := s.wp.rx ++ [r] } }).drainWrites
  else s

/-! ### Rekey start (08_inline_encryption.md R187, R204, R207) -/

/-- A region enters Rekeying with its watermark at its first page and its first 0x30 record durable; event 0x3004 and
source 0x034. -/
def State.startRekey (s : State) (r : Fin 256) (exhausted : Bool) : State :=
  let first := s.cr.regions[r].base / 4096
  let s := s.modRegion r fun x => { x with state := .rekeying, w := first, byExhaust := exhausted, durW := some first, early := 0 }
  let s := s.metaRec (.watermark r.val first exhausted)
  (s.event 0x3004 1 (oUnit 5 r.val) (b2n exhausted) 0 0 0).raise 0x34 0 0

/-- Whether a page holds a written line (R206). -/
def State.pageWritten (s : State) (page : Nat) : Bool := (List.range 64).any fun i => s.written (page * 64 + i)

/-! ### Stages 3 and 4 -/

/-- The byte enables as a mask of the line. -/
def beMask (be : BitVec 64) : Line :=
  (List.range 64).foldl (fun m i => if be.getLsbD i then m ||| (0xFF#512 <<< (8 * i)) else m) 0

/-- The enabled bytes of `new` over `old` (R28, R29). -/
def mergeLine (old new : Line) (be : BitVec 64) : Line := (old &&& ~~~(beMask be)) ||| (new &&& beMask be)

/-- Whether other writes hold interlock entries of a line's page (R196 waits for them). -/
def State.pageBusy (s : State) (line : Nat) : Bool :=
  s.wp.ilocks.any fun l => pageOf l.line == pageOf line && l.line ≠ line

/-- A write enters the queue before stage 5. -/
def State.toAlloc (s : State) (w : Write) : State := { s with wp := { s.wp with allocQ := s.wp.allocQ ++ [w] } }

/-- A primary that is not mirroring sets the dirty bit of the write's granule (R366, R367). -/
def State.alone (s : State) (t : Fin 8) (w : Write) : State :=
  let x := s.lo.tethers[t]
  if x.replica = false ∧ (x.state = .pairing ∨ x.state = .absent) ∧ w.win = none then
    s.setDirtyBit t (s.tetherOff t w.line / 256)
  else s

/-- Encrypts a write in its domain and passes it to stage 5; a mirrored write is sent to the partner (R68, R189, R194). -/
def State.encrypt (s : State) (w : Write) : State :=
  let posB := s.keyPos w.line
  let (n, s) :=
    if w.win.isSome then (s.seqNonce w.line w.seq posB, s)
    else
      let s := s.bump w.line
      (s.blockNonce w.line, s)
  let ct := s.enc n w.line w.data
  let w := if w.psn then { w with ct := 0, tag := 0, nonce := n } else { w with ct := ct, tag := s.tag n w.line ct, nonce := n }
  match s.tetherOf (s.regionOf w.line).val with
  | some t =>
    if s.lo.tethers[t].mirrors then
      let s := s.tetherSend t (.twrite (s.tetherOff t w.line) w.win w.psn w.data w.seq)
      let s := s.modTether t fun x => { x with sent := x.sent ++ [(w.seq, s.now)] }
      { s with wp := { s.wp with allocQ := s.wp.allocQ ++ [{ w with partnerAck := false }] } }
    else (s.alone t w).toAlloc w
  | none => s.toAlloc w

/-- An entry of the committed view with PSN 1 has no ciphertext and no tag, and takes no counter (R190). -/
def State.encryptPsn (s : State) (w : Write) : State :=
  let w := { w with ct := 0, tag := 0, nonce := noNonce }
  match s.tetherOf (s.regionOf w.line).val with
  | some t =>
    if s.lo.tethers[t].mirrors then
      let s := s.tetherSend t (.twrite (s.tetherOff t w.line) w.win true 0 w.seq)
      let s := s.modTether t fun x => { x with sent := x.sent ++ [(w.seq, s.now)] }
      { s with wp := { s.wp with allocQ := s.wp.allocQ ++ [{ w with partnerAck := false }] } }
    else (s.alone t w).toAlloc w
  | none => s.toAlloc w

/-- A tentative or poisoned write takes no counter of the committed line. -/
def State.encryptAny (s : State) (w : Write) : State := if w.psn ∧ w.win.isNone then s.encryptPsn w else s.encrypt w

/-- After a re-encryption the interlock entry of a line carries the nonce of its new version (R191). -/
def State.relock (s : State) (line : Nat) : State :=
  { s with wp := { s.wp with ilocks := s.wp.ilocks.map fun (l : ILock) =>
      if l.line = line then { l with nonce := s.blockNonce line } else l } }

/-- Re-encrypts the line's page under the next key with MAJOR 0 and sets EARLY (R204). -/
def State.earlyPage (s : State) (line : Nat) : State :=
  let r := s.regionOf line
  ((s.reencPage (pageOf line) 0 (!s.cr.regions[r].cur) true).modRegion r fun x => { x with early := x.early + 1 }).relock line

/-- Stage 4 of one write: minor overflow re-encrypts its page first (R194, R196), exhaustion starts the rekey or holds the
page (R204). A write that must wait stays in the queue before stage 4. -/
def State.stage4 (s : State) (w : Write) : State :=
  let stay (s : State) : State := { s with wp := { s.wp with encQ := s.wp.encQ ++ [w] } }
  let page := pageOf w.line
  let b := s.block page
  if w.win.isSome ∨ w.psn then s.encryptAny w
  else if s.cr.held.contains page then stay s
  else if b.minor w.line < 127 then s.encrypt w
  else if s.pageBusy w.line then stay s
  else if b.major < 2 ^ 32 - 1 then ((s.reencPage page (b.major + 1) (s.keyPos w.line) b.early).relock w.line).encrypt w
  else
    let r := s.regionOf w.line
    if s.cr.regions[r].state = .active then ((s.startRekey r true).earlyPage w.line).encrypt w
    else if s.keyPos w.line ≠ s.cr.regions[r].cur then
      stay (({ s with cr := { s.cr with held := page :: s.cr.held } }).event 0x3006 2 (oUnit 5 r.val) (lo32 page) 0 0 0)
    else (s.earlyPage w.line).encrypt w

/-- Tries again the writes that wait before stage 4. -/
def State.runEnc (s : State) : State := s.wp.encQ.foldl (fun s w => s.stage4 w) { s with wp := { s.wp with encQ := [] } }

/-- What a merge read is of: the group's own tentative version, else the committed one. -/
def State.mergeTent (s : State) (w : Write) : Option TentRec :=
  w.win.bind fun v => s.wp.tents.find? fun (t : TentRec) => t.ld = w.ld && t.win = v && t.line = w.line

/-- The Peat block that a merge read senses, if it senses one (R50, R165). -/
def State.mergeBlock (s : State) (w : Write) : Option BlockKey :=
  if (s.mergeTent w).isSome ∨ (s.ca.en ∧ (s.cacheFind w.line).isSome) then none else s.homeBlock w.line

/-- A write that holds its interlock entry goes to stage 4, or to the merge queue: its merge read is issued, with a pilot read ahead of it
where its block has no estimate (R50, R141). -/
def State.startWrite (s : State) (w : Write) : State :=
  if w.psn ∨ w.be = BitVec.allOnes 64 then s.stage4 w
  else
    let s := match s.mergeBlock w with
      | some b => s.wantPilot b
      | none => s
    { s with wp := { s.wp with mergeQ := s.wp.mergeQ ++ [w] } }

/-! ### Interlock (R47) -/

/-- The interlock entry of a line. -/
def State.ilock (s : State) (line : Nat) : Option ILock := s.wp.ilocks.find? fun (l : ILock) => l.line == line

/-- A write among the writes that wait, in sequence order (R47). -/
def waitIn (w : Write) : List Write → List Write
  | [] => [w]
  | x :: l => if newer x.seq w.seq then w :: x :: l else x :: waitIn w l

/-- A write takes its line's interlock entry, or waits in it. -/
def State.takeLock (s : State) (w : Write) : State :=
  match s.ilock w.line with
  | some _ => { s with wp := { s.wp with ilocks := s.wp.ilocks.map fun (l : ILock) =>
      if l.line = w.line then { l with waiting := waitIn w l.waiting } else l } }
  | none =>
    ({ s with wp := { s.wp with ilocks := s.wp.ilocks ++ [(⟨w.line, w.seq, w.src.intern, s.blockNonce w.line, []⟩ : ILock)] } }).startWrite w

/-- The holder leaves stage 7: the next waiting write of the line is released in sequence order (R47). -/
def State.releaseLock (s : State) (line : Nat) : State :=
  match s.ilock line with
  | none => s
  | some l =>
    match l.waiting with
    | [] => { s with wp := { s.wp with ilocks := s.wp.ilocks.filter fun (x : ILock) => x.line ≠ line } }
    | w :: ws =>
      let n := s.blockNonce line
      ({ s with wp := { s.wp with ilocks := s.wp.ilocks.map fun (x : ILock) =>
          if x.line = line then { x with holder := w.seq, intern := w.src.intern, nonce := n, waiting := ws } else x } }).startWrite w

/-! ### Discarded writes (R26, R107, R130) -/

/-- Folds and copies of a granule under way come to nothing: their frames will be dead (Table 05-6). -/
def State.forgetGran (s : State) (g : Nat) : State :=
  let dead (p : Placed) : Placed := if p.granule = g then { p with granule := 0xFFFFFFFF } else p
  { s with fo := { s.fo with
      folds := s.fo.folds.filter fun (f : Fold) => f.granule ≠ g, moves := tdel g s.fo.moves,
      orderQ := s.fo.orderQ.map fun q => q.filter fun p => p.1 ≠ g,
      bands := s.fo.bands.map fun (b : Band) => { b with frames := b.frames.map dead } } }

/-- A granule is marked poisoned in the map by a 0x03 record and leaves the index; the list reports 16 KiB (R130, R200). -/
def State.poisonGranule (s : State) (g : Nat) (src : PoisonSrc) : State :=
  let m := s.mapEnt g
  let s := if m.state = .live ∨ m.state = .moving then s.killFrame (s.setOf g) m.lane m.frame else s
  let s := (granLines g).foldl (fun s l =>
    match tfind s.wp.index l with
    | some r => (({ s with wp := { s.wp with index := tdel l s.wp.index } }).kill (s.recPlace l r)).cacheDrop l
    | none => s.cacheDrop l) s
  let s := ((s.forgetGran g).setMap g ⟨.poisoned, 0, 0, m.heat, false⟩).journal (.granuleSet g true)
  s.poisonAdd (g * 256) 256 src

/-- A granule becomes unwritten: its frame dead, its lines out of the index, its poison off the list (R107). -/
def State.unwriteGranule (s : State) (g : Nat) : State :=
  let m := s.mapEnt g
  let s := if m.state = .live ∨ m.state = .moving then s.killFrame (s.setOf g) m.lane m.frame else s
  let s := (granLines g).foldl (fun s l =>
    match tfind s.wp.index l with
    | some r => (({ s with wp := { s.wp with index := tdel l s.wp.index } }).kill (s.recPlace l r)).cacheDrop l
    | none => s.cacheDrop l) s
  let s := ((s.forgetGran g).setMap g MapEnt.unwritten).journal (.granuleSet g false)
  { s with lk := { s.lk with poison := s.lk.poison.filter fun p => !(granOf p.line == g) } }

/-! ### Spare and end of life (R123, R129, R130) -/

/-- The end-of-life reserve of a set: 0.5 % of its blocks. -/
def State.eolReserve (s : State) : Nat := 16 * s.hw.dies * 393216 / 200

/-- The hold reserve of a set in frames: 0.2 % of its user capacity (R129). -/
def State.holdFrames (s : State) : Nat := s.capacity / 16384 / max 1 s.numSets / 500

/-- A set enters end of life (R129). -/
def State.enterEol (s : State) (k : Fin 4) : State :=
  if s.kp.eolSets.contains k then s
  else
    let s := { s with kp := { s.kp with eolSets := k :: s.kp.eolSets }, lk := { s.lk with readOnly := true },
                      fo := { s.fo with hold := s.fo.hold.set k s.holdFrames } }
    (s.save (64 + k.val)).event 0x100B 3 (oSet k) 0 0 0 0

/-- Spare blocks of a die: about 5 % of its 393,216 (R123, log 21). -/
def dieSpares : Nat := 19661

/-- The spare blocks left on a die. -/
def State.dieSpare (s : State) (d : DieKey) : Nat := dieSpares - tget 0 s.fo.dieUsed (dieCode d)

/-- One spare block of a die is used, if one is left (R123). -/
def State.useSpare (s : State) (d : DieKey) : State :=
  if s.dieSpare d = 0 then s
  else
    let k := setOfChan d.chan
    let s := { s with fo := { s.fo with
      dieUsed := tput 0 (dieCode d) (tget 0 s.fo.dieUsed (dieCode d) + 1) s.fo.dieUsed
      spare := vmod s.fo.spare k fun x => { x with usable := x.usable - 1, consumed := x.consumed + 1 } } }
    if s.fo.spare[k].usable ≤ s.eolReserve then s.enterEol k else s

/-- The granules of a set that have lines in the Shallows index. -/
def State.indexGrans (s : State) (k : Fin 4) : List Nat :=
  (s.wp.index.filterMap fun p => if s.setOf (granOf p.1) = k then some (granOf p.1) else none).dedup

/-- Whether a set's hold reserve is exhausted (R130). -/
def State.judgeHold (s : State) (k : Fin 4) : State :=
  if s.kp.eolSets.contains k ∧ s.fo.hold[k] ≤ (s.indexGrans k).length then
    { s with fo := { s.fo with exhausted := s.fo.exhausted.set k true } }
  else s

/-! ### Stages 7 and 8 -/

/-- A mailbox command that waited for its effect is answered with Success (R253): its session's idle time, the reply, vector 0. -/
def State.lateAnswer (s : State) (i : Inst) (op : Nat) : State :=
  let s := s.modMb i fun m => { m with session := m.session.map fun x => { x with lastTick := s.now } }
  (s.emit (.mbx i op 0 .none)).mbxSignal i 1

/-- What a finished internal or host write answers. -/
def State.finishWrite (s : State) (w : Write) : State :=
  match w.src with
  | .host => s.complete w
  | .inject i => if w.discard then s else s.lateAnswer i 0x4301
  | .clear i => if w.discard then s else s.lateAnswer i 0x4302
  | _ => s

/-- The source a poison record takes (Table 10-4). -/
def WSrc.poison : WSrc → PoisonSrc
  | .inject _ => .injected
  | .marking _ => .internal
  | _ => .external

/-- Whether a marking write still finds the version it marks as the line's newest (R35). -/
def State.stillNamed (s : State) (w : Write) : Bool :=
  match w.src with
  | .marking v => s.verCode w.line == v
  | _ => true

/-- Stage 7 of a committed-view write: the index points to its entry unless it names a newer version or the granule has become poisoned (R58,
R107, R164), and the poison list follows (R30, R252). -/
def State.index7 (s : State) (w : Write) : State :=
  if s.stillNamed w = false ∨ s.takes w.line w.seq = false then s.kill w.place else
  let s := s.indexLine w.line w.place w.seq w.psn
  let s := if w.psn then s.poisonAdd w.line 1 (if w.intern then .internal else w.src.poison) else s.poisonDrop w.line 1
  match s.tetherOf (s.regionOf w.line).val with
  | some t => if s.lo.tethers[t].state = .absent ∧ s.lo.tethers[t].replica = false then s.setDirtyBit t (s.tetherGran t w.line)
      else s
  | none => s

/-- Stage 7 of a window write: its record is tentative in its group (R51, R165); a group already closed leaves it dead
(R168), and so does the partner's that has been aborted (R181). -/
def State.tent7 (s : State) (w : Write) (v : Fin 64) : State :=
  let open? := match w.src with
    | .partner .. => !w.discard
    | _ => s.groupIs w.ld v w.gseq
  if open? then
    let old := s.wp.tents.filter fun t => t.ld = w.ld && t.win = v && t.line = w.line
    let s := old.foldl (fun s t => s.kill t.place) s
    let keep := s.wp.tents.filter fun t => !(t.ld == w.ld && t.win == v && t.line == w.line)
    { s with wp := { s.wp with tents := keep ++ [⟨w.ld, v, w.gseq, w.line, w.seq, w.place, w.psn, w.nonce, w.ct, w.intern, false⟩] } }
  else s.kill w.place

/-- Whether the line cache takes a write at stage 8: one of the committed view, without poison, that stage 7 indexed (R164, R315). -/
def State.cached8 (s : State) (w : Write) : Bool := w.win.isNone && !w.psn && s.stillNamed w && s.takes w.line w.seq

/-- Stages 7 and 8 of a verified write, the interlock's release and its completion (R23, R45). -/
def State.stage7 (s : State) (w : Write) : State :=
  let keep := s.cached8 w
  let s := match w.win with
    | some v => s.tent7 w v
    | none => s.index7 w
  let s := (s.dropPrefetch w.line).stage8 w.line w.data (!keep)
  (((s.releaseLock w.line).finishWrite w).judgeHold (s.setOf (granOf w.line))).judgeMarks

/-- Verified writes that the partner has confirmed enter the index update queue while it has room (R49, R68). -/
def State.toIndex (s : State) : State :=
  s.wp.progs.foldl (fun s w =>
    if w.localOk ∧ w.partnerAck ∧ s.wp.idxQ.length < 512 then { s with wp := { s.wp with idxQ := s.wp.idxQ ++ [w] } }
    else { s with wp := { s.wp with progs := s.wp.progs ++ [w] } }) { s with wp := { s.wp with progs := [] } }

/-! ### Stages 5 and 6 -/

/-- The entry of a write as it is sent to the channels. -/
def Write.entry (w : Write) : Entry :=
  { seq := w.seq, ord := w.seq, ld := w.ld, line := w.line, win := w.win, psn := w.psn, data := w.ct, tag := w.tag, ok0 := false,
    ok1 := false, written := false, posB := w.nonce.posB, dead := false, released := false }

/-- One more or one less queued program on both channels of a place. -/
def State.progAdd (s : State) (p : Place) (up : Bool) : State :=
  match s.pairOf p with
  | none => s
  | some x =>
    let f := fun n : Nat => if up then n + 1 else n - 1
    { s with wp := { s.wp with progQ := vmod (vmod s.wp.progQ (chanOf p.set x.ch0) f) (chanOf p.set x.ch1) f } }

/-- Whether a channel's program queue has room for a write: fewer than 32 programs, and on a hot channel fewer than 8 of its LD's while
another LD has a write waiting before stage 5 (R54, R127). -/
def State.chanRoom (s : State) (c : Fin 64) (w : Write) : Bool :=
  let mine := s.wp.progs.filter fun (x : Write) => !x.localOk && x.ld == w.ld && match s.pairOf x.place with
    | some p => chanOf p.set p.ch0 == c || chanOf p.set p.ch1 == c
    | none => false
  decide (s.wp.progQ[c] < 32) &&
    !(s.wp.hot[c] && decide (8 ≤ mine.length) &&
      s.wp.allocQ.any fun (x : Write) => x.ld ≠ w.ld && s.setOf (granOf x.line) == setOfChan c)

/-- Whether stage 5 may choose a pair for a write: room on both channels, not the pair of its last placement, and no channel that failed it
once one has failed it twice (R54, R57). -/
def State.pairOk (s : State) (w : Write) (queued : Bool) (p : Pair) : Bool :=
  let avoid := if w.failed.Nodup then [] else w.failed.map posOfChan
  !avoid.contains p.ch0 && !avoid.contains p.ch1 && (w.tries == 0 || w.place.pair ≠ p.num) &&
    (!queued || (s.chanRoom (chanOf p.set p.ch0) w && s.chanRoom (chanOf p.set p.ch1) w))

/-- Stage 5 of one write: the next free slot of its granule's set (R54, R57), and PROG1 to both channels (R430); `none` while none is to be
had. -/
def State.place5 (s : State) (w : Write) (queued : Bool) : Option State :=
  let k := s.setOf (granOf w.line)
  match s.allocSlot k w.seq (s.pairOk w queued) with
  | (none, _) => none
  | (some p, s) =>
    let w := { w with place := p }
    let s := (({ s with wp := { s.wp with progs := s.wp.progs ++ [w] } }).putEntry p w.entry).progAdd p true
    some ((s.vyvon (s.vyCopy p false) (.prog1 p.slot)).vyvon (s.vyCopy p true) (.prog1 p.slot))

/-- A copy fails verify: at the second failure of a block in one power-on it is retired from the Shallows, replaced from its die's spare,
and its pair takes no more entries (Table 05-11). -/
def State.failBlock (s : State) (p : Place) (blk : Nat) : State :=
  let n := tget 0 s.wp.failBlocks blk + 1
  let s := { s with wp := { s.wp with failBlocks := tput 0 blk n s.wp.failBlocks } }
  if n = 2 then
    let s := { s with wp := { s.wp with pairs := s.wp.pairs.map fun (x : Pair) =>
      if x.set = p.set ∧ x.num = p.pair then { x with isOpen := false } else x } }
    let pos := match s.pairOf p with
      | some x => if blk % 2 = 1 then x.ch1 else x.ch0
      | none => 0
    let d := s.shDie p.set pos p.pair
    (s.useSpare d).event 0x1003 1 (oTile d (shTile d p.pair)) 5 0 0 0
  else s

/-- Stage 6 ends for a placement: both copies verify, or the entry is placed again and its slots are dead (R57). -/
def State.verified (s : State) (w : Write) (ok0 ok1 : Bool) : State :=
  let s := s.progAdd w.place false
  if ok0 ∧ ok1 then
    let s := s.modEntry w.place fun e => { e with ok0 := true, ok1 := true, written := true }
    let s := match w.src with
      | .partner t q => s.tetherSend t (.tconf [q])
      | .resync t q => s.tetherSend t (.tconf [q])
      | _ => s
    ({ s with wp := { s.wp with progs := s.wp.progs.map fun (x : Write) => if x.seq = w.seq then { x with localOk := true } else x } }).toIndex
  else
    let chans := match s.pairOf w.place with
      | some x => (if ok0 then [] else [chanOf x.set x.ch0]) ++ (if ok1 then [] else [chanOf x.set x.ch1])
      | none => []
    let blks := (if ok0 then [] else [blkCode w.place.set w.place.pair false]) ++
      (if ok1 then [] else [blkCode w.place.set w.place.pair true])
    let s := chans.foldl (fun s c => s.pmCount 0x00C ⟨none, some c.val, some (setOfChan c).val⟩) s
    let s := blks.foldl (fun s b => s.failBlock w.place b) s
    let s := s.kill w.place
    let again := { w with failed := w.failed ++ chans, tries := w.tries + 1, localOk := false }
    { s with wp := { s.wp with progs := s.wp.progs.filter (fun (x : Write) => x.seq ≠ w.seq),
                               allocQ := again :: s.wp.allocQ } }

/-! ### Admission (R48, R61 to R67) -/

/-- The admission weight of a source: an LD's from its allocated fraction (R256), a tether's receive queue 4 (R364). -/
def State.weight (s : State) (k : Nat) : Nat := if k < 16 then 1 + (s.ld (ldOf k)).weightF * 14 / 255 else 4

/-- The admission queue of a source: LDs 0 to 15, tethers 16 to 23. -/
def State.admQ (s : State) (k : Nat) : List Write :=
  if k < 16 then (s.ld (ldOf k)).adm else s.lo.tethers[(⟨(k - 16) % 8, by omega⟩ : Fin 8)].rxq

/-- Removes a write from its source's queue. -/
def State.admRemove (s : State) (k : Nat) (q : Nat) : State :=
  if k < 16 then s.modLd (ldOf k) fun l => { l with adm := l.adm.filter fun (w : Write) => w.seq ≠ q }
  else s.modTether ⟨(k - 16) % 8, by omega⟩ fun t => { t with rxq := t.rxq.filter fun (w : Write) => w.seq ≠ q }

/-- The millisecond rates roll over: lines released in the previous millisecond bound admission (R64). -/
def State.rollMs (s : State) : State :=
  let m := s.now / 800000
  if m = s.wp.relMs then s
  else { s with wp := { s.wp with relPrev := if m = s.wp.relMs + 1 then s.wp.relNow else 0, relNow := 0, admitted := 0, relMs := m } }

/-- Whether admission may release a write at all (R27, R62, R64, R66, R235, R423). -/
def State.admits (s : State) : Bool :=
  s.pw.dataPath && s.pw.st == .running && s.pw.holdupReady && !s.wp.marks[5] && s.wp.cplQ.length < 1024 && !s.lk.fatal &&
  (!s.wp.marks[4] || s.wp.admitted < s.wp.relPrev) && (!s.writeCap || s.wp.admitted < 62500)

/-- Whether a write may leave its queue (R47 to R49, R160, R220). -/
def State.mayLeave (s : State) (w : Write) : Bool :=
  (List.range 24).all (fun k => (s.admQ k).all fun v => !(v.line == w.line && newer w.seq v.seq)) &&
  !s.setFrozen (s.setOf (granOf w.line)) &&
  (w.psn || w.be == BitVec.allOnes 64 || s.wp.mergeQ.length < 128) &&
  (match s.ilock w.line with
   | some l => (l.waiting.filter fun (x : Write) => !x.src.intern).length < 8
   | none => s.hostLocks < 8192) &&
  (match w.win, w.src with
   | some v, .host => s.arrival w.ld v w.line ≠ .stays
   | _, _ => true)

/-- The order in which sources take their turn: the present one while it has turns left, then the next (log 11). -/
def State.turns (s : State) : List Nat :=
  (List.range 24).map fun i => (s.wp.rrAt + (if 0 < s.wp.rrLeft then 0 else 1) + i) % 24

/-- The next write admission releases: its source and the write. -/
def State.nextAdmit (s : State) : Option (Nat × Write) :=
  s.turns.findSome? fun k => ((s.admQ k).find? fun (w : Write) => s.mayLeave w).map fun w => (k, w)

/-- The turn passes (log 11). -/
def State.takeTurn (s : State) (k : Nat) : State :=
  { s with wp := { s.wp with rrAt := k, rrLeft := if k = s.wp.rrAt ∧ 0 < s.wp.rrLeft then s.wp.rrLeft - 1 else s.weight k - 1 } }

/-- A released write goes on: discarded in a poisoned granule or an exhausted set, else to its interlock entry. -/
def State.enter (s : State) (w : Write) : State :=
  let g := granOf w.line
  if (s.mapEnt g).state = .poisoned then s.finishWrite w
  else if s.fo.exhausted[s.setOf g] then (s.poisonGranule g .vendor).finishWrite w
  else s.takeLock w

/-- One write leaves its admission queue (R160, R166, R169). -/
def State.admitWrite (s : State) (k : Nat) (w : Write) : State :=
  let count (s : State) : State :=
    ((s.admRemove k w.seq).takeTurn k |> fun s => { s with wp := { s.wp with admitted := s.wp.admitted + 1 } })
  match w.win, w.src with
  | some v, .host =>
    match s.arrival w.ld v w.line with
    | .unallocated => ((count s).violate (whoOf w.ld) 5 (w.line * 64)).complete w
    | .stays => s
    | .limit => s.closeGroup w.ld v 4
    | .arrives =>
      let s := (count s).arrive w.ld v w.seq
      s.enter { w with gseq := (s.win w.ld v).gseq }
  | _, _ => (count s).enter w

/-! ### Merge read (R50, R85, R165, R211) -/

/-- What sensing a stored version gives: `some (some p)` a good line, `some none` a line that fails its tag, `none` every
copy lost; `good`, `otherCopy`, `stepped` and `reconstructed` return the slot as stored (R82 to R84). -/
def senseOf (s : State) (n : Nonce) (line : Nat) (ct : Line) (tag : Tag) (x : Sense) : Option (Option Line) :=
  match x with
  | .lost => none
  | .tree _ => some none
  | .altered d t => if s.tag n line d = t then some (some (s.dec n line d)) else some none
  | _ => if s.tag n line ct = tag then some (some (s.dec n line ct)) else some none

/-- The result of a merge read: the line, or why there is none. -/
inductive MergeRes where
  | line (x : Line)
  | poisoned
  | tagFail
  | lost
  | tentLost
  deriving DecidableEq, Repr

/-- The merge read of a partial write (R50, R165). -/
def State.mergeRead (s : State) (w : Write) (x : Sense) : MergeRes :=
  match s.mergeTent w with
  | some t =>
    if t.psn then .poisoned
    else match senseOf s t.nonce w.line t.data (match s.entryAt t.place with | some e => e.tag | none => 0) x with
      | some (some l) => .line l
      | some none => .tagFail
      | none => .tentLost
  | none =>
    match (if s.ca.en then s.cacheFind w.line else none) with
    | some c => .line c.data
    | none =>
      let of (r : Option (Option Line)) : MergeRes := match r with
        | some (some l) => .line l
        | some none => .tagFail
        | none => .lost
      match s.version w.line with
      | .zero => .line 0
      | .poison => .poisoned
      | .shallows _ e => of (senseOf s (s.entryNonce e) w.line e.data e.tag x)
      | .peat lane frame p => of (senseOf s (s.lineNonce w.line) w.line p.data p.tag (s.rowSense (s.lineBlock w.line lane frame) x))

/-- A discarded partial write: its interlock entry is released and its completion returned (R26). -/
def State.discardWrite (s : State) (w : Write) : State :=
  ((s.releaseLock w.line).finishWrite w).judgeMarks

/-- The merge ends: the write goes on to stage 4, or is discarded as R30, R85, R168 and R211 say. -/
def State.merged (s : State) (w : Write) (r : MergeRes) : State :=
  let s := { s with wp := { s.wp with mergeQ := s.wp.mergeQ.filter fun (x : Write) => x.seq ≠ w.seq } }
  match r with
  | .line l => s.stage4 { w with data := mergeLine l w.data w.be, be := BitVec.allOnes 64 }
  | .poisoned => s.discardWrite w
  | .tagFail =>
    ((s.markPoison w.ld w.line .internal).event 0x3002 3 oDev (lo32 (w.line * 64)) (hi32 (w.line * 64)) w.ld.val 0).discardWrite w
  | .lost =>
    ((s.markPoison w.ld w.line .internal).event 0x1001 3 oDev (lo32 (w.line * 64)) (hi32 (w.line * 64)) w.ld.val 0).discardWrite w
  | .tentLost =>
    match w.win with
    | some v => (if s.groupIs w.ld v w.gseq ∧ (s.win w.ld v).recIssued = false then s.closeGroup w.ld v 9 else s).discardWrite w
    | none => s.discardWrite w

/-! ### Commands whose completion is given up (R236, R258) -/

/-- The source of a write whose command has been answered. -/
def cutWrite (mine : Inst → Bool) (w : Write) : Write := match w.src with
  | .inject i => if mine i then { w with discard := true } else w
  | .clear i => if mine i then { w with discard := true } else w
  | _ => w

/-- Every write in the pipeline changed. -/
def State.mapWrites (s : State) (f : Write → Write) : State :=
  { s with wp := { s.wp with mergeQ := s.wp.mergeQ.map f, encQ := s.wp.encQ.map f, allocQ := s.wp.allocQ.map f, progs := s.wp.progs.map f,
                             idxQ := s.wp.idxQ.map f,
                             ilocks := s.wp.ilocks.map fun (l : ILock) => { l with waiting := l.waiting.map f } } }

/-! ### Markings of lost lines (R35, R85, R212) -/

/-- Marks a lost or failed version poisoned while it is still the line's newest: at once where no write holds the line's
interlock entry, else behind the writes that hold it and wait in it. -/
def State.markVersion (s : State) (ld : Fin 16) (line ver : Nat) : State :=
  if s.verCode line ≠ ver then s
  else if (s.ilock line).isNone then s.markPoison ld line .internal
  else
    let (q, s) := s.nextSeq
    s.takeLock (newWrite q ld line none (BitVec.allOnes 64) 0 true (.marking ver))

/-- Every copy of a tentative line is lost: its group closes with outcome 0x09 while no commit record is issued, else the line is lost from
the commit point on (R35, R168). -/
def State.tentGone (s : State) (t : TentRec) : State :=
  if (s.win t.ld t.win).recIssued = false then
    if s.groupIs t.ld t.win t.gseq then s.closeGroup t.ld t.win 9 else s
  else { s with wp := { s.wp with tents := s.wp.tents.map fun (x : TentRec) => if x = t then { x with lost := true } else x } }

/-- Every copy of the entry at a place is lost (R35, R85, R168). -/
def State.entryGone (s : State) (ld : Fin 16) (line : Nat) (p : Place) : State :=
  match s.wp.tents.find? fun (t : TentRec) => t.place == p with
  | some t => s.tentGone t
  | none => s.markVersion ld line (2 + 2 * p.code)

/-! ### Carrying admitted writes through (R39, R67, R388) -/

/-- One pass that carries every write past admission on by its next stages, media operations succeeding. -/
def State.carryOnce (s : State) : State :=
  let s := s.wp.mergeQ.foldl (fun s w => s.merged w (s.mergeRead w (.good 0))) s
  let s := s.runEnc
  let s := s.wp.allocQ.foldl (fun s w => match s.place5 w false with
    | some t => t
    | none => { s with wp := { s.wp with allocQ := s.wp.allocQ ++ [w] } }) { s with wp := { s.wp with allocQ := [] } }
  let s := s.wp.progs.foldl (fun s w => if w.localOk then s else s.verified w true true) s
  let s := s.toIndex
  s.wp.idxQ.foldl (fun s w => s.stage7 w) { s with wp := { s.wp with idxQ := [] } }

/-- Every write past admission is carried through step 3 of Table 02-1; writes that wait for the partner or a rekey stay. -/
def State.carry (s : State) : Nat → State
  | 0 => s
  | n + 1 => (s.carryOnce).carry n

/-- Enough passes for every write in flight, one for each place in an interlock entry. -/
def State.carryAll (s : State) : State := s.carry (s.inflight.length + 1)

/-- Whether a completion may leave: hold-up ready, or a hardware flush with the link up (R27, R67). -/
def State.mayReturn (s : State) (c : Completion) : Bool :=
  let p := s.lk.ports[s.portOf c.ld]
  (p.mode == .mld || p.mode == .sld) && (s.pw.holdupReady || s.pw.st == .flushing)

/-- The first completion that may leave, with the rest of the queue: one whose port is down keeps back none but those of its line (R27,
R67). -/
def State.nextNdr (s : State) (before : List Completion) : List Completion → Option (List Completion × Completion)
  | [] => none
  | c :: rest =>
    if s.mayReturn c ∧ before.all (fun x => x.line ≠ c.line) then some (before ++ rest, c) else s.nextNdr (before ++ [c]) rest

/-- The first completion that may leave does, as an NDR with its LD's DevLoad (R63, R67, R255). -/
def State.returnNdr (s : State) : State :=
  match s.nextNdr [] s.wp.cplQ with
  | none => s
  | some (rest, c) =>
    let s := ({ s with wp := { s.wp with cplQ := rest } }).emit (.ndr c.ld c.seq (s.devLoad c.ld))
    match c.win with
    | some v => s.ackGroup c.ld v c.gseq
    | none => s

/-- Every completion that may leave does, in order (R27, R39). -/
def State.returnAll (s : State) : Nat → State
  | 0 => s
  | n + 1 => (s.returnNdr).returnAll n

end Sys2Proof.Machine
end

