-- ==== Sys2Proof/Machine/Wear.lean ====
section
/-! DEFINITION. Shared operations on segments, spare blocks and drift entries (05_folding_and_wear.md R117 to R130;
06_drift_and_scrub.md R131 to R146), and the integrity tree's mismatch (08_inline_encryption.md R200). -/

namespace Sys2Proof.Machine

/-! ### Segments -/

/-- The state with a segment set. -/
def State.setSeg (s : State) (k : SegKey) (x : Segment) : State :=
  { s with fo := { s.fo with segs := tput Segment.free (segCode k) x s.fo.segs } }

/-- Segments of a lane: the blocks of a die less its spare and its share of the Shallows (Table 05-13, R123, log 21). -/
def State.segsPerLane (s : State) : Nat := 393216 - 19661 - 36864 / max 1 s.hw.dies

/-- Segments of a lane listed in the table, with their numbers. -/
def State.laneSegs (s : State) (k : Fin 4) (l : Fin 16) : List (Nat × Segment) :=
  s.fo.segs.filterMap fun p => if p.1 / 2 ^ 32 = laneCode k l then some (p.1 % 2 ^ 32, p.2) else none

/-- The lowest segment number of a lane that has never been used. -/
def State.freshSeg (s : State) (k : Fin 4) (l : Fin 16) : Option Nat :=
  let used := (s.laneSegs k l).map (·.1)
  ((List.range (used.length + 1)).find? fun n => !used.contains n).filter fun n => decide (n < s.segsPerLane)

/-- The free segment R121 takes: the lowest reset count for the hot open segment, the highest for the cold one. -/
def State.takeSeg (s : State) (k : Fin 4) (l : Fin 16) (hot : Bool) : Option Nat :=
  let free := (s.laneSegs k l).filter fun p => (s.seg ⟨k, l, p.1⟩).state == .free
  let fresh := (s.freshSeg k l).toList.map fun n => (n, Segment.free)
  let all := if hot then fresh ++ free else free ++ fresh
  match all with
  | [] => none
  | p :: ps => some (ps.foldl (fun b x => if hot then (if x.2.resets < b.2.resets then x else b)
      else (if b.2.resets < x.2.resets then x else b)) p).1

/-- The queue of reset segments of a lane changes; falling below its level raises event 0x100C (R19). -/
def State.queueMove (s : State) (k : Fin 4) (l : Fin 16) (n : Nat) : State :=
  let i := laneIx k l
  let old := s.fo.queued[i]
  let s := { s with fo := { s.fo with queued := s.fo.queued.set i n } }
  if s.fo.level[i] ≤ old ∧ n < s.fo.level[i] then s.event 0x100C 2 (oSet k) (k.val + 16 * l.val) n 0 0 else s

/-! ### Stand-ins (09_redundancy_and_degraded.md R225) -/

/-- Blocks of a segment that a channel position holds. -/
def State.blocksAt (s : State) (seg : SegKey) (p : Fin 16) : Nat :=
  (if s.unitLost ⟨seg, p⟩ then 0 else 1) + (s.rd.standIns.filter fun x => x.1 == seg && x.2.2 == p).length

/-- The position a stand-in goes to: the surviving channel with the fewest blocks of the segment, never one with two; ties in
rotation from position S mod 16. -/
def State.standInPos (s : State) (seg : SegKey) (lost : Fin 16) : Option (Fin 16) :=
  let order : List (Fin 16) := (List.range 16).map fun i => ⟨(seg.seg + i) % 16, by omega⟩
  let can := order.filter fun p => p ≠ lost && s.rd.chans[chanOf seg.set p].serves && !(s.dieGone (blockDie ⟨seg, p⟩) seg.seg) &&
    decide (s.blocksAt seg p < 2)
  match can with
  | [] => none
  | p :: ps => some (ps.foldl (fun b x => if s.blocksAt seg x < s.blocksAt seg b then x else b) p)

/-- Number of a lane's position in the pool of blocks of dissolved segments. -/
def poolCode (seg : SegKey) (p : Fin 16) : Nat := laneCode seg.set seg.lane * 16 + p.val

/-- A free segment of a lane is dissolved: its surviving blocks can become stand-ins. -/
def State.dissolve (s : State) (seg : SegKey) : Option State :=
  match s.takeSeg seg.set seg.lane true with
  | none => none
  | some n =>
    let key : SegKey := ⟨seg.set, seg.lane, n⟩
    let s := (s.setSeg key { s.seg key with state := .retired }).queueMove seg.set seg.lane (s.fo.queued[laneIx seg.set seg.lane] - 1)
    let up := (allFin 16).filter fun p => !(s.unitLost ⟨key, p⟩)
    some { s with rd := { s.rd with standIns := s.rd.standIns.filter fun x => x.1 ≠ key,
                                    pool := up.foldl (fun m p => tput 0 (poolCode seg p) (tget 0 m (poolCode seg p) + 1) m) s.rd.pool } }

/-- A block for a stand-in at a position: of a dissolved free segment while the lane keeps its level, else a spare block of the same die
index while the set keeps its reserve. -/
def State.takeBlock (s : State) (seg : SegKey) (p : Fin 16) : Option State :=
  let use (s : State) : State :=
    { s with rd := { s.rd with pool := tput 0 (poolCode seg p) (tget 0 s.rd.pool (poolCode seg p) - 1) s.rd.pool } }
  let i := laneIx seg.set seg.lane
  if 0 < tget 0 s.rd.pool (poolCode seg p) then some (use s)
  else
    match (if s.fo.level[i] < s.fo.queued[i] then s.dissolve seg else none) with
    | some t => some (use t)
    | none =>
      let d := blockDie ⟨seg, p⟩
      if s.eolReserve < s.fo.spare[seg.set].usable ∧ 0 < s.dieSpare d then some (s.useSpare d) else none

/-- A stand-in is assigned and journalled (MKIND 0x40); `none` where none can be taken. -/
def State.standIn (s : State) (seg : SegKey) (pos : Fin 16) : Option State :=
  match s.standInPos seg pos with
  | none => none
  | some p =>
    match s.takeBlock seg p with
    | none => none
    | some s =>
      some (({ s with rd := { s.rd with standIns := (seg, pos, p) :: s.rd.standIns.filter fun x => !(x.1 == seg && x.2.1 == pos) } }).journal
        (.standIn seg pos p))

/-- A segment opened after a loss receives its stand-ins before its first band (R226); a position without one stays lost. -/
def State.standInsFor (s : State) (seg : SegKey) : State :=
  (allFin 16).foldl (fun s p =>
    if s.unitLost ⟨seg, p⟩ ∧ (s.standInOf seg p).isNone then
      match s.standIn seg p with
      | some t => t
      | none => s.setSeg seg { s.seg seg with lost := (s.seg seg).lost ++ [p] }
    else s) s

/-- A segment is opened for fold or copy output (Table 05-10). -/
def State.openSeg (s : State) (k : Fin 4) (l : Fin 16) (hot : Bool) : Option SegKey × State :=
  match s.takeSeg k l hot with
  | none => (none, s)
  | some n =>
    let key : SegKey := ⟨k, l, n⟩
    let s := s.setSeg key { s.seg key with state := .opened, bands := 0, hot := hot, lost := [], openedEpoch := s.dr.epoch }
    let s := (s.journal (.segOpened key s.wp.seq)).queueMove k l (s.fo.queued[laneIx k l] - 1)
    (some key, s.standInsFor key)

/-- A spare block of the same die takes a block's place in its segment (R105, R123). -/
def State.replaceBlock (s : State) (b : BlockKey) : State :=
  ({ s with fo := { s.fo with blkBase := tput 0 (blockCode b) (s.seg b.seg).resets s.fo.blkBase } }).useSpare (blockDie b)

/-- A block is retired for a row of Table 05-11: notice Media event 0x1003, a spare block takes its place. -/
def State.retireBlock (s : State) (b : BlockKey) (cause : Nat) : State :=
  ({ s with fo := { s.fo with retired := b :: s.fo.retired } }.replaceBlock b).event 0x1003 1
    (oTile (blockDie b) (blockTileOf b)) cause b.seg.seg 0 0

/-- The live frames of a segment, with their numbers in the lane. -/
def State.liveFrames (s : State) (k : SegKey) : List (Nat × Frame) :=
  (List.range 70).filterMap fun i =>
    match tfind s.fo.frames (frameCode k.set k.lane (k.seg * 70 + i)) with
    | some f => if f.live then some (k.seg * 70 + i, f) else none
    | none => none

/-- A full segment becomes a victim: its live frames are put to the copy order queue, which holds 256 segments. -/
def State.victimize (s : State) (k : SegKey) : State :=
  if (s.seg k).state = .full ∧ s.fo.copyQ[k.set].length < 256 ∧ s.kp.eolSets.contains k.set = false then
    let s := s.setSeg k { s.seg k with state := .victim }
    { s with fo := { s.fo with copyQ := vmod s.fo.copyQ k.set fun q => q ++ [k] } }
  else s

/-- A block is to be retired once its live frames are copied away. -/
def State.retireAfterCopy (s : State) (b : BlockKey) (cause : Nat) : State :=
  if s.fo.retiring.any fun p => p.1 == b then s
  else ({ s with fo := { s.fo with retiring := (b, cause) :: s.fo.retiring } }).victimize b.seg

/-! ### Life used (R128) -/

/-- The segments of a set that are out of service. -/
def State.retiredSegs (s : State) (k : Fin 4) : Nat :=
  (s.fo.segs.filter fun p => p.1 / 2 ^ 36 = k.val ∧ p.2.state = .retired).length

/-- Resets of a set's blocks in service, summed: sixteen for each reset of a segment, less what a spare block has not seen (R128). -/
def State.blockResets (s : State) (k : Fin 4) : Nat :=
  let up := s.fo.segs.filter fun p => p.1 / 2 ^ 36 = k.val ∧ p.2.state ≠ .retired
  up.foldl (fun n p => n + 16 * p.2.resets) 0 -
    s.fo.blkBase.foldl (fun n b => if up.any (fun p => p.1 == b.1 / 16) then n + b.2 else n) 0

/-- W of a set in percent: the mean reset count of its blocks in service against 200,000. -/
def State.wearPct (s : State) (k : Fin 4) : Nat :=
  100 * s.blockResets k / (max 1 (16 * (s.lanes.length * s.segsPerLane - s.retiredSegs k)) * 200000)

/-- S of a set in percent. -/
def State.sparePct (s : State) (k : Fin 4) : Nat :=
  100 * s.fo.spare[k].consumed / max 1 (s.fo.spare[k].initial - s.eolReserve)

/-- Life used: the greatest W or S, capped at 99; 100 once a set is in end of life. -/
def State.lifeUsed (s : State) : Nat :=
  if s.kp.eolSets.isEmpty then s.setList.foldl (fun m k => max m (min 99 (max (s.wearPct k) (s.sparePct k)))) 0 else 100

/-- Source 0x035 when life used changed. -/
def State.lifeEdge (before after : State) : State :=
  if after.lifeUsed = before.lifeUsed then after else after.raise 0x35 0 0

/-! ### Drift (R131 to R146) -/

/-- A band of a segment has been programmed, at a clock and a temperature band of its die: its drift record and the entries of its blocks
(R135, R137); OFS 0, EST 1 and PEND 0 are set at the commit of every band (log 83). -/
def State.bandDrift (s : State) (k : SegKey) (band wclk tband : Nat) : State :=
  let s := s.modDrSeg k fun x =>
    if band = 0 then { x with wclk0 := wclk, dw := [], pb := tput 0 0 tband [], visited := false }
    else { x with dw := tput 0xFF band (sat 254 (wclk - x.wclk0)) x.dw, pb := tput 0 band tband x.pb }
  (allFin 16).foldl (fun s p => s.modDrBlk ⟨k, p⟩ fun x => { x with ofs := 0, est := true, pend := false }) s

/-- A segment's blocks after its reset (R135, R146). -/
def State.resetDrift (s : State) (k : SegKey) : State :=
  let s := { s with dr := { s.dr with segs := tdel (segCode k) s.dr.segs } }
  (allFin 16).foldl (fun s p => s.modDrBlk ⟨k, p⟩ fun x =>
    { x with mcls := if x.mcls = .refresh ∨ x.mcls = .failing then .good else x.mcls }) s

/-- A slot of a block failed correction at its predicted references (R146): failing, and RFSH for the granule. -/
def State.slotFailed (s : State) (b : BlockKey) (g : Nat) : State :=
  (s.modDrBlk b fun x => { x with mcls := .failing }).setRfsh g

/-- A Peat read succeeded at a stepped reference only (R144). -/
def State.stepped (s : State) (b : BlockKey) (k : Int) : State :=
  s.modDrBlk b fun x => { x with ofs := ofsSat (x.ofs + k * (x.step + 1)), mcls := x.mcls.atLeast .watch }

/-- Reconstruction was needed for a slot of a block: more than 8 distinct slots within 24 h retire it (Table 05-11). -/
def State.noteRecon (s : State) (b : BlockKey) (slot : Nat) : State :=
  let old := (tget [] s.fo.recon (blockCode b)).filter fun x => s.now - x / 2 ^ 40 ≤ secTicks 86400 && x % 2 ^ 40 ≠ slot
  let now := (s.now * 2 ^ 40 + slot) :: old
  let s := { s with fo := { s.fo with recon := tput [] (blockCode b) now s.fo.recon } }
  if 8 < now.length then s.retireAfterCopy b 3 else s

/-- What a Peat read leaves behind whose slot failed correction at its predicted references: OFS and class after a stepped retry, the count of
reconstructions, failing, RFSH (Table 06-4, R124, R144). A reconstruction of a block that cannot be read is none of its failures. -/
def State.peatFound (s : State) (b : BlockKey) (line slot : Nat) (x : Sense) : State :=
  match x with
  | .stepped k => (s.stepped b k).slotFailed b (granOf line)
  | .reconstructed => if s.blockUp b then (s.slotFailed b (granOf line)).noteRecon b slot else s
  | .lost => s.slotFailed b (granOf line)
  | _ => s

/-- The number of a line's slot in its block, for R124: its unit's frame and its place in the frame. -/
def slotNo (line frame : Nat) : Nat := frame % 70 * 512 + line % 256

/-- A segment that the patrol visits next, or ahead of the others once a tick is reached (R142, R146, R149). -/
def State.visitNext (s : State) (k : SegKey) (due : Nat) (front : Bool) : State :=
  { s with dr := { s.dr with patrol := vmod s.dr.patrol k.set fun p =>
      { p with next := let q := p.next.filter fun x => x.1 ≠ k; if front then (k, due) :: q else q ++ [(k, due)] } } }

/-! ### Integrity tree (R200) -/

/-- Pages that a counter line of a level covers: a counter block one, a node 64 times its children's. -/
def treePages (level : Nat) : Nat := 64 ^ (level - 1)

/-- The address of the counter line of a level that covers a page (Table 08-5). -/
def treeAddr (level page : Nat) : Nat :=
  (match level with
   | 1 => 0x1C0000000000
   | 2 => 0x1C6000000000
   | 3 => 0x1C6180000000
   | 4 => 0x1C6186000000
   | _ => 0x1C6186180000) + 64 * (page / treePages level)

/-- A counter line fails its node tag: its granules are poisoned and their regions' rekeys start. -/
def State.treeMismatch (s : State) (line level : Nat) : State :=
  let level := max 1 (min 5 level)
  let n := treePages level
  let first := pageOf line / n * n
  let s := s.event 0x3003 3 oDev level (lo32 (treeAddr level (pageOf line))) 0 0
  let grans := ((List.range n).map fun i => (first + i) / 4).dedup.filter fun g => s.userLine (g * 256)
  let s := grans.foldl (fun s g => s.poisonGranule g .internal) s
  let regs := (grans.map fun g => s.regionOf (g * 256)).dedup
  regs.foldl (fun s r => if s.cr.regions[r].state = .active then s.startRekey r false else s.modRegion r fun x => { x with owed := true }) s

end Sys2Proof.Machine
end

