-- ==== Sys2Proof/Machine/WritePath.lean ====
section
/-! DEFINITION. The commands of the write path (03_write_path.md R45 to R68; 02_persistence_contract.md R23 to R33). -/

namespace Sys2Proof.Machine

/-- The outcome of a command of the data path: the performance monitor sees the flags that rose (R308). -/
def State.done (before after : State) : Host.Outcome State Fault Refusal := .next (before.pmEdges after)

/-- A write in a list by its sequence number. -/
def findWrite (l : List Write) (seq : Nat) : Option Write := l.find? fun (w : Write) => w.seq == seq

/-- MEM_WR (R45): a whole-line write at the transaction layer. -/
def execMemWr (ld : Fin 16) (addr : Addr) (data : Line) (poison : Bool) (s : State) : Host.Outcome State Fault Refusal :=
  s.done (s.arriveWrite ⟨0, 2, ld, addr, BitVec.allOnes 64, data, poison, s.now, 0⟩)

/-- MEM_WR_PTL (R50): a write with byte enables. -/
def execMemWrPtl (ld : Fin 16) (addr : Addr) (be : BitVec 64) (data : Line) (poison : Bool) (s : State) :
    Host.Outcome State Fault Refusal :=
  s.done (s.arriveWrite ⟨0, 3, ld, addr, be, data, poison, s.now, 0⟩)

/-- One write leaves its admission queue, and the receive buffer drains into the room it leaves (R48, R49). -/
def State.writeAdmission (s : State) : State :=
  let s := s.rollMs
  if s.admits then
    match s.nextAdmit with
    | some (k, w) => (s.admitWrite k w).drainWrites.judgeMarks
    | none => s
  else s

/-- WRITE_ADMISSION (R48): the next write leaves its admission queue. -/
def execWriteAdmission (s : State) : Host.Outcome State Fault Refusal := s.done s.writeAdmission

/-- The Peat blocks that a sense of a block reads: with a reconstruction the row's (R82). -/
def senseBlocks (b : BlockKey) (x : Sense) : List BlockKey := if x = .reconstructed then segBlocks b.seg else [b]

/-- Whether a line was recovered after a failed correction (R83). -/
def recovers : Sense → Bool
  | .otherCopy => true
  | .stepped _ => true
  | .reconstructed => true
  | _ => false

/-- The pilot reads that a reconstruction under a merge read needs are issued (R141). -/
def State.mergePilots (s : State) (w : Write) (x : Sense) : State := match s.mergeBlock w with
  | some b => if x = .reconstructed then s.wantPilots (segBlocks b.seg) else s
  | none => s

/-- Whether a merge read waits for a pilot read (R141). -/
def State.mergeWaits (s : State) (w : Write) (x : Sense) : Bool := match s.mergeBlock w with
  | some b => s.anyPend (senseBlocks b x)
  | none => false

/-- Whether a merge read senses a Shallows slot. -/
def State.mergeSh (s : State) (w : Write) : Bool := match s.mergeTent w with
  | some t => !t.psn
  | none => !(s.ca.en && (s.cacheFind w.line).isSome) && match tfind s.wp.index w.line with
    | some r => !r.psn
    | none => false

/-- What a merge read leaves behind: it counts in its segment's RDC, and a failed correction has the effects of Table 06-4 and queues the line
to the patrol (R83, R135). -/
def State.mergeFound (s : State) (w : Write) (x : Sense) : State := match s.mergeBlock w with
  | some b =>
    let s := (s.countRdc b.seg (senseBlocks b x).length).peatFound b w.line (slotNo w.line (s.mapEnt (granOf w.line)).frame) (s.rowSense b x)
    if recovers x then s.toPatrol w.line false else s
  | none => if s.mergeSh w ∧ recovers x then s.toPatrol w.line false else s

/-- MERGE_READ_COMPLETE (R50, R211): the merge read of a partial write yields its line, or none. A counter line that fails its
node tag poisons the granule (R203), and the write meets a poisoned line. A slot of another entry repeats the lookups (R78), and a read waits
for the pilot reads of the blocks it senses (R141). Of more than 128
partial writes the first 128 are in the merge queue; the others wait with their interlock entries (R49, log 78). -/
def execMergeReadComplete (seq : Nat) (sense : Sense) (s : State) : Host.Outcome State Fault Refusal :=
  match findWrite (s.wp.mergeQ.take 128) seq with
  | some w =>
    match sense with
    | .mismatch => .next s
    | .tree level => s.done ((s.treeMismatch w.line level).merged w .poisoned)
    | _ =>
      let t := s.mergePilots w sense
      if t.mergeWaits w sense then s.done t else s.done ((t.mergeFound w sense).merged w (s.mergeRead w sense))
  | none => .next s

/-- SEQUENCE_COUNTER_WRAP (R189): the sequence counter passes from its last value to 0 and the epoch rises. -/
def execSequenceCounterWrap (s : State) : Host.Outcome State Fault Refusal :=
  if s.wp.seq = 2 ^ 48 - 1 then .next s.nextSeq.2 else .next s

/-- The granules of live entries that the counter has passed by 2^44 values (R46). -/
def State.agedGrans (s : State) : List Nat :=
  (s.wp.entries.filterMap fun p =>
    let e := p.2
    if !e.dead && !e.released && decide (2 ^ 44 ≤ (2 ^ 48 - e.seq % 2 ^ 48 + s.wp.seq) % 2 ^ 48) &&
      decide ((2 ^ 48 - e.seq % 2 ^ 48 + s.wp.seq) % 2 ^ 48 < 2 ^ 47) then some (granOf e.line) else none).dedup

/-- A granule put ahead of every other fold of its set, into its own lane. -/
def State.foldFirst (s : State) (g : Nat) : State :=
  { s with fo := { s.fo with orderQ := vmod s.fo.orderQ (s.setOf g) fun q =>
      (g, some (s.homeLane (s.setOf g) g)) :: q.filter fun p => p.1 ≠ g } }

/-- SEQ_AGE_FOLD (R46): granules of entries 2^44 values old are folded ahead of every other fold. -/
def execSeqAgeFold (s : State) : Host.Outcome State Fault Refusal := s.done (s.agedGrans.foldl State.foldFirst s)

/-- Whether the allocator takes no new slots in a set: the index update queue is full and verified writes of the set wait for it (R49). -/
def State.indexHolds (s : State) (k : Fin 4) : Bool :=
  decide (512 ≤ s.wp.idxQ.length) && s.wp.progs.any fun (w : Write) => w.localOk && w.partnerAck && s.setOf (granOf w.line) == k

/-- The first write before stage 5 that finds its slots, placed (R49, R54). -/
def State.placeFirst (s : State) : List Write → List Write → State
  | _, [] => s
  | skipped, w :: rest =>
    if s.indexHolds (s.setOf (granOf w.line)) then s.placeFirst (skipped ++ [w]) rest
    else match ({ s with wp := { s.wp with allocQ := skipped ++ rest } }).place5 w true with
    | some t => t
    | none => s.placeFirst (skipped ++ [w]) rest

/-- SLOT_ALLOCATION (R54): stage 5 takes two slots for a write. -/
def execSlotAllocation (s : State) : Host.Outcome State Fault Refusal :=
  let t := s.runEnc
  s.done (t.placeFirst [] t.wp.allocQ).judgeMarks

/-- SHALLOWS_PLACEMENT_VERIFIED (R57): the program and verify of both copies end. -/
def execShallowsPlacementVerified (seq : Nat) (ok0 ok1 : Bool) (s : State) : Host.Outcome State Fault Refusal :=
  match findWrite s.wp.progs seq with
  | some w => if w.localOk then .next s else s.done (s.verified w ok0 ok1).judgeMarks
  | none => .next s

/-- Stages 7 and 8 of the write at the head of the index update queue. -/
def State.indexUpdate (s : State) : State :=
  match s.wp.idxQ with
  | [] => s
  | w :: rest => (({ s with wp := { s.wp with idxQ := rest } }).stage7 w).toIndex

/-- INDEX_UPDATE (R58): stages 7 and 8 of one write. A completion beyond the 1,024 of the completion queue is that of a write that waits
after stage 8 (R49, log 78). -/
def execIndexUpdate (s : State) : Host.Outcome State Fault Refusal := s.done s.indexUpdate

/-- NDR_RETURN (R67): the completion at the head of the queue leaves. -/
def execNdrReturn (s : State) : Host.Outcome State Fault Refusal := s.done s.returnNdr

end Sys2Proof.Machine
end

