-- ==== Sys2Proof/Machine/Fold.lean ====
section
/-! DEFINITION. Folding, garbage collection, slot release, checkpoints and hotspots: shared operations and the commands of
the family (05_folding_and_wear.md R107 to R130; 01_architecture.md R18, R19). -/

namespace Sys2Proof.Machine

/-! ### Orders -/

/-- Age of a version: how far the sequence counter has passed it (R46). -/
def State.seqAge (s : State) (seq : Nat) : Nat := (2 ^ 48 - seq % 2 ^ 48 + s.wp.seq) % 2 ^ 48

/-- Each granule once, where it stands first. -/
def firstOf : List Nat → List Nat
  | [] => []
  | g :: l => g :: (firstOf l).filter fun x => x ≠ g

/-- The granules of a set that have lines in the Shallows index, in the order of their oldest entries. -/
def State.byAge (s : State) (k : Fin 4) : List Nat :=
  let l := s.wp.index.filterMap fun p =>
    if s.setOf (granOf p.1) = k then
      some ((match s.entryAt (s.recPlace p.1 p.2) with | some e => s.seqAge e.seq | none => 0), granOf p.1)
    else none
  firstOf ((l.insertionSort fun a b => b.1 ≤ a.1).map (·.2))

/-- Whether a granule's oldest Shallows entry lies in the pair at the tail of its set (R54, R115). -/
def State.atTail (s : State) (k : Fin 4) (g : Nat) : Bool :=
  match s.wp.pairs.find? fun (p : Pair) => p.set == k && !p.running with
  | some p => s.wp.index.any fun x => granOf x.1 == g && x.2.pair == p.num
  | none => false

/-- The lines of a granule in the Shallows index. -/
def State.granCount (s : State) (g : Nat) : Nat := (s.wp.index.filter fun p => granOf p.1 = g).length

/-- The granule that the shipped firmware orders next for a set (R115): the one with the oldest entry when that entry holds a tail, else the
one with the most lines in the Shallows. FOLD_ORDER carries what the firmware in the device chose. -/
def State.foldChoice (s : State) (k : Fin 4) : Option Nat :=
  match s.byAge k with
  | [] => none
  | g :: gs =>
    if s.atTail k g then some g
    else some (gs.foldl (fun b x => if s.granCount b < s.granCount x then x else b) g)

/-- A granule enters its set's fold order queue of 4,096, unless it is there. -/
def State.orderFold (s : State) (k : Fin 4) (g : Nat) (lane : Option (Fin 16)) : State :=
  if 4096 ≤ s.fo.orderQ[k].length ∨ s.fo.orderQ[k].any (fun p => p.1 == g) then s
  else { s with fo := { s.fo with orderQ := vmod s.fo.orderQ k fun q => q ++ [(g, lane)] } }

/-- AUTONOMOUS_FOLD (R18): 1 ms without a firmware order above the low mark; granules are ordered by their oldest entry. -/
def execAutonomousFold (set : Fin 4) (s : State) : Host.Outcome State Fault Refusal :=
  if s.wp.marks[0] ∧ s.pw.dataPath ∧ s.setFrozen set = false then
    let s := s.since s.fo.lastOrder[set] (msTicks 1)
    let s := { s with fo := { s.fo with autonomous := s.fo.autonomous.set set true } }
    .next ((s.byAge set).foldl (fun s g => s.orderFold set g none) s)
  else .next s

/-- Whether a lane is worn more than 5 % above its set, or redirected and not yet below 2 % (R122). -/
def State.laneWorn (s : State) (k : Fin 4) (l : Fin 16) : Bool :=
  let lane := s.laneResets k l * s.lanes.length * 100
  let all := s.setResets k
  if s.fo.redirect.contains (k, l) then 102 * all ≤ lane && 0 < all else 105 * all < lane

/-- The redirection of a lane's folds judged anew (R122). -/
def State.judgeLane (s : State) (k : Fin 4) (l : Fin 16) : State :=
  let rest := s.fo.redirect.filter fun p => p ≠ (k, l)
  { s with fo := { s.fo with redirect := if s.laneWorn k l then (k, l) :: rest else rest } }

/-- FOLD_ORDER (R115): firmware orders a fold; with 4,096 granules queued it is refused with Busy and nothing changes. The granules that the
fold engine queued on its own leave the queue: it acts on firmware's orders again (R18, log 80). -/
def execFoldOrder (set : Fin 4) (granule : Nat) (lane : Fin 16) (s : State) : Host.Outcome State Fault Refusal :=
  if s.setOf granule ≠ set ∨ 4096 ≤ s.fo.orderQ[set].length then .next s
  else
    let t : State := { s with fo := { s.fo with
      lastOrder := s.fo.lastOrder.set set s.now
      autonomous := s.fo.autonomous.set set false
      orderQ := vmod s.fo.orderQ set fun q => q.filter fun p => p.2.isSome } }
    s.done (t.orderFold set granule (some lane))

/-! ### Bands -/

/-- The band being assembled in a lane for a kind of output. -/
def State.assembling (s : State) (k : Fin 4) (l : Fin 16) (copy hot : Bool) : Option Band :=
  s.fo.bands.find? fun (b : Band) => b.key.seg.set == k && b.key.seg.lane == l && b.phase == .assembling && b.copy == copy &&
    (s.seg b.key.seg).hot == hot && decide (b.frames.length < 10)

/-- Whether a lane assembles a band. -/
def State.laneAssembles (s : State) (k : Fin 4) (l : Fin 16) : Bool :=
  s.fo.bands.any fun (b : Band) => b.key.seg.set == k && b.key.seg.lane == l && b.phase == .assembling

/-- Whether a segment is open and has a band left. -/
def State.bandLeft (s : State) (k : SegKey) : Bool :=
  (s.seg k).state == .opened && decide ((s.seg k).bands + (s.fo.bands.filter fun (b : Band) => b.key.seg == k).length < 7)

/-- Changes a band. -/
def State.modBand (s : State) (key : BandKey) (f : Band → Band) : State :=
  { s with fo := { s.fo with bands := s.fo.bands.map fun (b : Band) => if b.key = key then f b else b } }

/-- The open segment of a lane with a band left, of one heat (R118). -/
def State.openSegOf (s : State) (k : Fin 4) (l : Fin 16) (hot : Bool) : Option SegKey :=
  ((s.laneSegs k l).find? fun p => p.2.state == .opened && p.2.hot == hot &&
    decide (p.2.bands + (s.fo.bands.filter fun (b : Band) => b.key.seg == ⟨k, l, p.1⟩).length < 7)).map fun p => ⟨k, l, p.1⟩

/-- A band to assemble in: the one in progress, else, with none in the lane (Table 05-9), a new one of the segment wanted while it has a band
left, of the lane's open segment, or of a segment just opened. -/
def State.bandFor (s : State) (k : Fin 4) (l : Fin 16) (copy hot : Bool) (want : Option SegKey) : Option BandKey × State :=
  match s.assembling k l copy hot with
  | some b => (some b.key, s)
  | none =>
    if s.laneAssembles k l then (none, s)
    else
      let (seg, s) := match (want.filter s.bandLeft <|> s.openSegOf k l hot) with
        | some x => (some x, s)
        | none => s.openSeg k l hot
      match seg with
      | none => (none, s)
      | some x =>
        let mine := (s.fo.bands.filter fun (b : Band) => b.key.seg == x).length
        let key : BandKey := ⟨x, (s.seg x).bands + mine⟩
        (some key, { s with fo := { s.fo with bands := s.fo.bands ++ [⟨key, .assembling, copy, 0, [], s.now, [], 0, 0⟩] } })

/-- GRAN0 to GRAN9 of a band's summary (Table 05-3). -/
def Band.summaryGrans (b : Band) : List Nat := (b.frames.map (fun (p : Placed) => p.granule) ++ List.replicate 10 0xFFFFFFFF).take 10

/-- A band of the bands in progress. -/
def State.bandOf (s : State) (key : BandKey) : Option Band := s.fo.bands.find? fun (b : Band) => b.key == key

/-- The packets that fill and program one unit of a band (R103, R430, R432): the rows of a folded frame are bus data and those of a copied one
an in-die copy after the die's syndrome check; the summary row is bus data; what no LOAD fills stays blank. -/
def State.unitPackets (s : State) (b : Band) (u : BlockKey) : List (VyBlock × VyCmd) :=
  let rows := (List.range b.frames.length).flatMap fun i => match b.frames[i]?.bind (·.copyOf) with
    | some f =>
      let src : BlockKey := ⟨segOfFrame u.seg.set u.seg.lane f, u.pos⟩
      [(vyPeat src, .synd (peatSlotNo f 0) 19 (s.refs src (f % 70 / 10))), (vyPeat u, .load (i * 19) 19 2 (some (vyPeat src, peatSlotNo f 0)))]
    | none => [(vyPeat u, .load (i * 19) 19 0 none)]
  rows ++ [(vyPeat u, .load 190 1 0 none), (vyPeat u, .prog3 (s.drDie (blockDie u)).band b.key.band)]

/-- The band's 16 program units are loaded and issued, PROG3 with the temperature band of each die: BSEQ takes the sequence counter, and the clock and
temperature band of the segment's die are captured (R102, R114, R132, R135, R430). -/
def State.issueBand (s : State) (key : BandKey) : State :=
  let d := s.drDie (segDie key.seg)
  let packets := ((s.bandOf key).map fun b => (segBlocks key.seg).flatMap (s.unitPackets b)).getD []
  let s := packets.foldl (fun s p => s.vyvon p.1 p.2) s
  s.modBand key fun b => { b with phase := .programming, bseq := s.wp.seq, grans := b.summaryGrans, wclk := d.wclk, tband := d.band }

/-- Whether a lane programs a band: then the next waits, assembled (Table 05-9). -/
def State.lanePrograms (s : State) (k : Fin 4) (l : Fin 16) : Bool :=
  s.fo.bands.any fun (b : Band) => b.key.seg.set == k && b.key.seg.lane == l && b.phase == .programming

/-- A lane that has ended a program issues the band of ten frames that waits. -/
def State.issueWaiting (s : State) (k : Fin 4) (l : Fin 16) : State :=
  if s.lanePrograms k l then s
  else
    match s.fo.bands.find? fun (b : Band) => b.key.seg.set == k && b.key.seg.lane == l && b.phase == .assembling &&
        b.frames.length == 10 with
    | some b => s.issueBand b.key
    | none => s

/-- A frame is placed in a band; the tenth issues its program, unless the lane still programs another (R114, Table 05-9). -/
def State.placeFrame (s : State) (key : BandKey) (p : Placed) : State :=
  (s.modBand key fun b => { b with frames := b.frames ++ [p] }).issueWaiting key.seg.set key.seg.lane

/-! ### Gathering and reading (R110 to R113) -/

/-- The index records of a granule's lines. -/
def State.gatherLines (s : State) (g : Nat) : List Gathered :=
  (granLines g).filterMap fun l => (tfind s.wp.index l).map fun r => ⟨l, r⟩

/-- A move of a granule is abandoned: its destination frame is dead (Table 05-6). -/
def State.dropMove (s : State) (g : Nat) : State :=
  if (s.mapEnt g).state = .moving then
    let s := s.setMap g { s.mapEnt g with state := .live }
    { s with fo := { s.fo with moves := tdel g s.fo.moves,
                               bands := s.fo.bands.map fun (b : Band) => { b with frames := b.frames.map fun (p : Placed) =>
                                 if p.granule = g ∧ p.copyOf.isSome then { p with granule := 0xFFFFFFFF } else p } } }
  else s

/-- The blocks in which a granule's frame lies. -/
def State.homeBlocks (s : State) (g : Nat) : List BlockKey :=
  let m := s.mapEnt g
  if m.state = .live ∨ m.state = .moving then segBlocks (segOfFrame (s.setOf g) m.lane m.frame) else []

/-- The gather of one granule: its index records at one instant (step 1 of Table 05-8). The reads of its frame ask for pilot reads of the
blocks without an estimate (R141). -/
def State.gather (s : State) (k : Fin 4) (g : Nat) (lane : Option (Fin 16)) : State :=
  let l := s.foldLane k g lane
  let s := s.dropMove g
  let m := s.mapEnt g
  let lines := s.gatherLines g
  if m.state = .poisoned ∨ (lines.isEmpty ∧ (m.rfsh = false ∨ m.state = .unwritten)) then
    if m.rfsh then s.setMap g { m with rfsh := false } else s
  else
    let full := !(m.state == .live && m.lane == l && decide (lines.length < 224))
    let (id, s) := s.newId
    let s := (List.range lines.length).foldl (fun s _ => s.pmCount 0x00D ⟨none, none, some k.val⟩) s
    let s := if full then s else s.pmCount 0x00E ⟨none, none, some k.val⟩
    let s := (s.homeBlocks g).foldl State.wantPilot s
    { s with fo := { s.fo with folds := s.fo.folds ++ [⟨id, k, g, l, full, lines⟩] } }

/-- The granule that a set gathers next: the head of its fold order queue; with none ordered, one that the patrol has asked to be refreshed
(R115). -/
def State.nextGather (s : State) (k : Fin 4) : Option (Nat × Option (Fin 16)) :=
  match s.fo.orderQ[k] with
  | x :: _ => some x
  | [] => (s.fo.map.find? fun e => e.2.rfsh && s.setOf e.1 == k && s.fo.folds.all (fun (f : Fold) => f.granule ≠ e.1) &&
      s.fo.bands.all fun (b : Band) => b.frames.all fun (p : Placed) => p.granule ≠ e.1).map fun e => (e.1, none)

/-- The redirection of the folds of a granule's lane judged at its gather (R122). -/
def State.judgeGran (s : State) (k : Fin 4) (g : Nat) : State := s.judgeLane k (s.homeLane k g)

/-- FOLD_GATHER (R110): the granule next in order in a set is gathered, while its lane's band assembly has a place. -/
def execFoldGather (set : Fin 4) (s : State) : Host.Outcome State Fault Refusal :=
  match s.nextGather set with
  | none => .next s
  | some (g, lane) =>
    let t := s.judgeGran set g
    if s.setFrozen set ∨ t.bandsFull set (t.foldLane set g lane) false (s.hotGran g) ∨ s.pw.dataPath = false then .next s
    else s.done (({ t with fo := { t.fo with orderQ := vmod t.fo.orderQ set (·.drop 1) } }).gather set g lane)

/-- Whether the index still names the entry gathered: the same PAIR, SLOT and SCHK (R112). -/
def State.stillGathered (s : State) (x : Gathered) : Bool :=
  match tfind s.wp.index x.line with
  | some r => r.pair == x.ix.pair && r.slot == x.ix.slot && r.schk == x.ix.schk
  | none => false

/-- The new slot of a gathered line, and whether the fold may remove it from the index: host poison is folded as PSN 1
(R113); a sequence-domain entry is re-encrypted into the counter domain (R189) while no write holds its line, a full MINOR
re-encrypting its page first, which leaves the line for the next fold (log 31); every other ciphertext is copied. -/
def State.foldSlot (s : State) (x : Gathered) : (Option PeatSlot × Bool) × State :=
  match s.entryAt (s.recPlace x.line x.ix) with
  | none => ((none, false), s)
  | some e =>
    if e.psn then ((some ⟨0, 0, true⟩, true), s)
    else if e.win.isSome then
      if s.stillGathered x = false ∨ (s.ilock x.line).isSome then ((some ⟨e.data, e.tag, false⟩, false), s)
      else if (s.block (pageOf x.line)).minor x.line < 127 then
        let p := s.dec (s.entryNonce e) x.line e.data
        let s := s.bump x.line
        let n := s.blockNonce x.line
        let ct := s.enc n x.line p
        ((some ⟨ct, s.tag n x.line ct, false⟩, true), s)
      else if s.pageBusy x.line then ((some ⟨e.data, e.tag, false⟩, false), s)
      else
        let b := s.block (pageOf x.line)
        ((some ⟨e.data, e.tag, false⟩, false),
          if b.major < 2 ^ 32 - 1 then s.reencPage (pageOf x.line) (b.major + 1) (s.keyPos x.line) b.early else s)
    else ((some ⟨e.data, e.tag, false⟩, true), s)

/-- One gathered line is put into a frame's slots. -/
def State.foldLine (a : State × Tbl PeatSlot × List Gathered) (lost : List Nat) (x : Gathered) :
    State × Tbl PeatSlot × List Gathered :=
  let (s, slots, keep) := a
  if lost.contains x.line then
    let s := (s.event 0x1001 3 oDev (lo32 (x.line * 64)) (hi32 (x.line * 64)) 0 0)
    let s := if s.stillGathered x then s.markVersion 0 x.line (s.verCode x.line) else s
    (s, tins (x.line % 256) ⟨0, 0, true⟩ slots, keep ++ [x])
  else
    match s.foldSlot x with
    | ((some p, ok), s) => (s, tins (x.line % 256) p slots, if ok then keep ++ [x] else keep)
    | ((none, _), s) => (s, slots, keep)

/-- What a fold found of a slot of the granule's frame: a line lost, or one that fails its tag, is handled under R84 and R85 and folded as
poison; every other slot is as it was read (R83, R103). -/
def State.foldFound (a : State × Tbl PeatSlot) (x : LineSense) : State × Tbl PeatSlot :=
  let (s, slots) := a
  let m := s.mapEnt (granOf x.line)
  match tfind slots (x.line % 256) with
  | none => a
  | some y =>
    let v := s.rowSense (s.lineBlock x.line m.lane m.frame) x.sense
    let s := s.peatFound (s.lineBlock x.line m.lane m.frame) x.line (slotNo x.line m.frame) v
    match v with
    | .lost =>
      (((s.event 0x1001 3 oDev (lo32 (x.line * 64)) (hi32 (x.line * 64)) 0 0).markVersion 0 x.line
        (3 + 2 * frameCode (s.setOf (granOf x.line)) m.lane m.frame)), tins (x.line % 256) ⟨0, 0, true⟩ slots)
    | .altered d t => (s, tins (x.line % 256) { y with data := d, tag := t } slots)
    | _ => (if recovers v then s.toPatrol x.line false else s, slots)

/-- Slots of a granule's frame that no row gives back (R217). -/
def State.goneSlots (s : State) (g : Nat) : List LineSense :=
  let m := s.mapEnt g
  match s.frameOf g with
  | none => []
  | some f => f.slots.filterMap fun x =>
    let line := g * 256 + x.1
    let b := s.lineBlock line m.lane m.frame
    if s.blockUp b = false ∧ s.rowGone b then some ⟨line, .lost⟩ else none

/-- Steps 2 and 3 of Table 05-8: the reads are corrected and the frame is placed in an open band. The slots of the granule's frame that it
senses count in their segment's RDC (R135). -/
def State.foldRead (s : State) (f : Fold) (lost : List Nat) (found : List LineSense) : State :=
  let s := { s with fo := { s.fo with folds := s.fo.folds.filter fun (x : Fold) => x.id ≠ f.id } }
  let m := s.mapEnt f.granule
  let base := match s.frameOf f.granule with
    | some x => x.slots
    | none => []
  let s := if base.isEmpty then s else s.countRdc (segOfFrame f.set m.lane m.frame) base.length
  let found := (found.filter fun x => granOf x.line == f.granule) ++ (s.goneSlots f.granule).filter fun x => found.all fun y => y.line != x.line
  let (s, base) := found.foldl State.foldFound (s, base)
  let (s, slots, keep) := f.gathered.foldl (fun a x => State.foldLine a lost x) (s, base, [])
  match s.bandFor f.set f.lane false (s.hotGran f.granule) none with
  | (none, s) => { s with fo := { s.fo with folds := f :: s.fo.folds } }
  | (some key, s) =>
    let s := if s.kp.eolSets.contains f.set then { s with fo := { s.fo with hold := vmod s.fo.hold f.set (· - 1) } } else s
    s.placeFrame key ⟨f.granule, slots, keep, none⟩

/-- FOLD_READS_COMPLETE (R110): the gathered reads are corrected, but for the lines named lost (R113); `lost.found` says which slots of the granule's
own frame failed correction. They wait for the pilot reads of its blocks (R141). -/
def execFoldReadsComplete (id : Nat) (lost : FoldSense) (s : State) : Host.Outcome State Fault Refusal :=
  match s.fo.folds.find? fun (f : Fold) => f.id == id with
  | some f => if s.setFrozen f.set ∨ s.anyPend (s.homeBlocks f.granule) then .next s else s.done (s.foldRead f lost.lost lost.found).judgeMarks
  | none => .next s

/-! ### Programming (R105, R114, R136) -/

/-- BAND_FILL_TIMEOUT (R114): 100 µs after its first frame a band is programmed with its unused frames blank, unless the lane still programs
another (Table 05-9). -/
def execBandFillTimeout (band : BandKey) (s : State) : Host.Outcome State Fault Refusal :=
  match s.bandOf band with
  | some b =>
    if b.phase = .assembling ∧ 0 < b.frames.length ∧ s.setFrozen band.seg.set = false ∧ s.lanePrograms band.seg.set band.seg.lane = false then
      s.done ((s.since b.since (usTicks 100)).issueBand band)
    else .next s
  | none => .next s

/-- A segment has all its bands: it is full (Table 05-10). -/
def State.closeSeg (s : State) (k : SegKey) : State :=
  s.setSeg k { s.seg k with state := .full, bands := 7, closedAt := tget 0 s.fo.laneBands (laneCode k.set k.lane) }

/-- Every remaining band of a segment is programmed blank (R136). -/
def State.forceClose (s : State) (k : SegKey) : State :=
  let d := s.drDie (segDie k)
  ((List.range (7 - (s.seg k).bands)).foldl (fun s i => s.bandDrift k ((s.seg k).bands + i) d.wclk d.band) s).closeSeg k

/-- OPEN_SEGMENT_FORCE_CLOSE (R136): 24 epochs after band 0 the remaining bands are programmed blank. A band in progress is
issued first and closes the segment when it commits. -/
def execOpenSegmentForceClose (seg : SegKey) (s : State) : Host.Outcome State Fault Refusal :=
  if (s.seg seg).state = .opened ∧ (s.seg seg).openedEpoch + 24 ≤ s.dr.epoch ∧ 0 < (s.seg seg).bands then
    match s.fo.bands.find? fun (b : Band) => b.key.seg == seg with
    | some b => if b.phase = .assembling ∧ s.lanePrograms seg.set seg.lane = false then s.done (s.issueBand b.key) else .next s
    | none => .next (s.forceClose seg)
  else .next s

/-! ### Copying (R117 to R120) -/

/-- The segment into which a wear-levelling copy moves a victim's frames (R121). -/
def State.wearDest (s : State) (seg : SegKey) : Option SegKey := (s.fo.wearTo.find? fun p => p.1 == seg).map (·.2)

/-- One live frame of a victim is put into a copy band: its granule is moving and its destination is in the move table of its set. The slots
are as stored: what the die's syndrome check finds and the controller corrects is the stored content (R103). -/
def State.copyFrame (s : State) (seg : SegKey) (frame : Nat) (f : Frame) : State :=
  if 4096 ≤ s.movesOf seg.set then s
  else
    match s.bandFor seg.set seg.lane true false (s.wearDest seg) with
    | (none, s) => s
    | (some key, s) =>
      let i := match s.bandOf key with
        | some b => b.frames.length
        | none => 0
      let m := s.mapEnt f.granule
      let s := (s.countRdc seg f.slots.length).setMap f.granule { m with state := .moving }
      let s := { s with fo := { s.fo with moves := tins f.granule (frameNo key i) s.fo.moves } }
      (s.placeFrame key ⟨f.granule, f.slots, [], some frame⟩).pmCount 0x00F ⟨none, none, some seg.set.val⟩

/-- Frames of a victim still to be put into a copy band: of live granules, and of moving ones whose copy is to be redone (Table 05-6). -/
def State.toCopy (s : State) (seg : SegKey) : List (Nat × Frame) :=
  (s.liveFrames seg).filter fun p =>
    let m := s.mapEnt p.2.granule
    (m.state == .live || m.state == .moving && (tfind s.fo.moves p.2.granule).isNone) && m.lane == seg.lane && m.frame == p.1

/-- One victim's frames go to copy bands while band assembly has room; first its blocks' pilot reads (R141). -/
def State.feedVictim (s : State) (k : Fin 4) (seg : SegKey) : State :=
  if (s.toCopy seg).isEmpty then s
  else
    let s := s.wantPilots (segBlocks seg)
    if s.anyPend (segBlocks seg) then s
    else (s.toCopy seg).foldl (fun s p => if s.bandsFull k seg.lane true false then s else s.copyFrame seg p.1 p.2) s

/-- The copy engine of a set feeds its copy bands from the copy order queue. -/
def State.feedCopies (s : State) (k : Fin 4) : State :=
  if s.setFrozen k ∨ s.kp.eolSets.contains k then s
  else
    let s := s.fo.copyQ[k].foldl (fun s seg => s.feedVictim k seg) s
    { s with fo := { s.fo with copyQ := vmod s.fo.copyQ k fun q => q.filter fun seg => !(s.toCopy seg).isEmpty } }

/-- The score of a full segment as victim (R118): (70 − L) × A / (70 + L), as a numerator and a denominator. -/
def State.victimScore (s : State) (k : SegKey) : Nat × Nat :=
  let live := (s.liveFrames k).length
  let age := min 1023 (tget 0 s.fo.laneBands (laneCode k.set k.lane) - (s.seg k).closedAt)
  ((70 - live) * age, 70 + live)

/-- The full segment of a lane that the shipped firmware chooses as victim: the highest score (R118). COPY_ORDER carries what the firmware in
the device chose. -/
def State.victimChoice (s : State) (k : Fin 4) (l : Fin 16) : Option SegKey :=
  match ((s.laneSegs k l).filter fun p => p.2.state == .full).map fun p => (⟨k, l, p.1⟩ : SegKey) with
  | [] => none
  | x :: xs => some (xs.foldl (fun b y =>
      if (s.victimScore b).1 * (s.victimScore y).2 < (s.victimScore y).1 * (s.victimScore b).2 then y else b) x)

/-- COPY_ORDER (R117): a full segment is chosen as victim; with 256 segments queued the order is refused with Busy. -/
def execCopyOrder (seg : SegKey) (s : State) : Host.Outcome State Fault Refusal :=
  s.done ((s.victimize seg).feedCopies seg.set)

/-- A wear-levelling copy begins: the least-reset full segment becomes a victim, and the most-reset free segment of its lane is opened for its
frames (R121). -/
def State.wearCopy (s : State) (seg : SegKey) : State :=
  let s := s.victimize seg
  if (s.seg seg).state = .victim then
    match s.openSeg seg.set seg.lane false with
    | (some d, s) => ({ s with fo := { s.fo with wearTo := (seg, d) :: s.fo.wearTo } }).feedCopies seg.set
    | (none, s) => s.feedCopies seg.set
  else s

/-- WEAR_LEVEL_COPY (R121): reset counts of a lane span more than 2,000, and its least-reset full segment is copied. -/
def execWearLevelCopy (set : Fin 4) (lane : Fin 16) (s : State) : Host.Outcome State Fault Refusal :=
  let segs := s.laneSegs set lane
  let top := segs.foldl (fun m p => max m p.2.resets) 0
  let full := segs.filter fun p => p.2.state == .full
  match full with
  | [] => .next s
  | p :: ps =>
    let best := ps.foldl (fun b x => if x.2.resets < b.2.resets then x else b) p
    let low := segs.foldl (fun m x => min m x.2.resets) (if (s.freshSeg set lane).isSome then 0 else p.2.resets)
    if low + 2000 < top then s.done (s.wearCopy ⟨set, lane, best.1⟩) else .next s

/-! ### Band results -/

/-- The frames of an abandoned band are folded or copied again into another band; a granule under copy stays moving (R105, R120,
Table 05-6). -/
def State.abandonBand (s : State) (b : Band) : State :=
  let s := { s with fo := { s.fo with bands := s.fo.bands.filter fun (x : Band) => x.key ≠ b.key } }
  let s : State := b.frames.foldl (fun (s : State) (p : Placed) =>
    match p.copyOf with
    | some _ =>
      if (s.mapEnt p.granule).state = .moving ∧ p.granule ≠ 0xFFFFFFFF then { s with fo := { s.fo with moves := tdel p.granule s.fo.moves } }
      else s
    | none => if p.granule = 0xFFFFFFFF then s
      else { s with fo := { s.fo with orderQ := vmod s.fo.orderQ b.key.seg.set fun q => (p.granule, some b.key.seg.lane) :: q } }) s
  let x := s.seg b.key.seg
  let s := s.setSeg b.key.seg { x with bands := x.bands + 1 }
  let s : State := if (s.seg b.key.seg).bands = 7 then s.closeSeg b.key.seg else s
  let back := (s.laneSegs b.key.seg.set b.key.seg.lane).filterMap fun p =>
    if p.2.state = .victim then some (⟨b.key.seg.set, b.key.seg.lane, p.1⟩ : SegKey) else none
  let s := back.foldl (fun s k => if (s.toCopy k).isEmpty ∨ s.fo.copyQ[k.set].contains k then s
    else { s with fo := { s.fo with copyQ := vmod s.fo.copyQ k.set fun q => q ++ [k] } }) s
  (s.issueWaiting b.key.seg.set b.key.seg.lane).feedCopies b.key.seg.set

/-- BAND_PROGRAM_COMPLETE (R110, R105): the units whose positions failed were retried in spare blocks of the same dies; if a retry failed too,
or a die has no spare block left, the blocks are retired and the band is abandoned, else the band commit record is issued. -/
def execBandProgramComplete (band : BandKey) (failed : List Nat) (retried : Bool) (s : State) : Host.Outcome State Fault Refusal :=
  match s.bandOf band with
  | some b =>
    if b.phase ≠ .programming ∨ s.setFrozen band.seg.set then .next s
    else
      let blocks := failed.dedup.filterMap fun p => if h : p < 16 then some (⟨band.seg, ⟨p, h⟩⟩ : BlockKey) else none
      let again := retried && blocks.all fun x => decide (0 < s.dieSpare (blockDie x))
      let s1 := if again then blocks.foldl State.replaceBlock s else blocks.foldl (fun s x => s.retireBlock x 1) s
      if blocks = [] ∨ again then
        s.done (((s.lifeEdge s1).modBand band fun b => { b with phase := .committing }).issueWaiting band.seg.set band.seg.lane)
      else s.done ((s.lifeEdge s1).abandonBand b)
  | none => .next s

/-- A folded line leaves the index when its record still names the gathered entry; its slots wait for release, and the cached
line is clean (R112, R316). -/
def State.foldRemove (s : State) (x : Gathered) : State :=
  if s.stillGathered x then
    let p := s.recPlace x.line x.ix
    let s := { s with wp := { s.wp with index := tdel x.line s.wp.index }, fo := { s.fo with relQ := s.fo.relQ ++ [p.code] } }
    s.cacheDirty x.line false
  else s

/-- The map switch of one frame of a band (R112, R119): the entry names the new frame, unless the granule's move was
abandoned or its state no longer lets the frame live (Table 05-6). -/
def State.switchFrame (s : State) (key : BandKey) (i : Nat) (p : Placed) : State :=
  let k := key.seg.set
  let lane := key.seg.lane
  let f := frameNo key i
  let m := s.mapEnt p.granule
  let put (s : State) (live : Bool) : State :=
    { s with fo := { s.fo with frames := tins (frameCode k lane f) ⟨p.granule, p.slots, live⟩ s.fo.frames } }
  let predict (s : State) : State := { s with rp := { s.rp with predictor := tins p.granule (lane, f) s.rp.predictor } }
  if p.granule = 0xFFFFFFFF ∨ m.state = .poisoned then put s false
  else
    match p.copyOf with
    | some src =>
      if m.state = .moving ∧ m.frame = src ∧ m.lane = lane then
        let s := put (s.killFrame k lane src) true
        predict ({ s with fo := { s.fo with moves := tdel p.granule s.fo.moves } }.setMap p.granule
          { m with state := .live, lane := lane, frame := f })
      else put s false
    | none =>
      let s := if m.state = .live ∨ m.state = .moving then s.killFrame k m.lane m.frame else s
      let s := put s true
      let s := s.setMap p.granule { state := .live, lane := lane, frame := f, heat := sat 7 (m.heat + 1), rfsh := false }
      predict (p.gathered.foldl State.foldRemove s)

/-- The summary that a band's program wrote (R102). -/
def State.keepSummary (s : State) (b : Band) : State :=
  let x : Summary := ⟨b.bseq, b.key.seg.lane, b2n b.copy, s.kp.formatLevel, b.grans⟩
  { s with fo := { s.fo with sums := tins (bandCode b.key) x s.fo.sums } }

/-- Both copies of a band's commit record verify: the journal holds it, its granules switch, its segment and its lane count
it (R110, R112, R117, R135). -/
def State.commitBand (s : State) (b : Band) : State :=
  let s := { s with fo := { s.fo with bands := s.fo.bands.filter fun (x : Band) => x.key ≠ b.key } }
  let s := (s.journal (.bandCommit b.key b.bseq)).keepSummary b
  let s : State := (b.frames.zip (List.range b.frames.length)).foldl (fun (s : State) (p : Placed × Nat) => s.switchFrame b.key p.2 p.1) s
  let seg := b.key.seg
  let s := s.bandDrift seg b.key.band b.wclk b.tband
  let lc := laneCode seg.set seg.lane
  let s := { s with fo := { s.fo with laneBands := tput 0 lc (tget 0 s.fo.laneBands lc + 1) s.fo.laneBands } }
  let x := s.seg seg
  let s := s.setSeg seg { x with bands := x.bands + 1, openedEpoch := if b.key.band = 0 then s.dr.epoch else x.openedEpoch }
  let s : State := if (s.seg seg).bands = 7 then s.closeSeg seg
    else if (s.seg seg).openedEpoch + 24 ≤ s.dr.epoch ∧ (s.fo.bands.all fun (x : Band) => !(x.key.seg == seg)) then s.forceClose seg
    else s
  (s.feedCopies seg.set).judgeHold seg.set

/-- BAND_COMMIT_VERIFIED (R110): both copies of the band commit record verify. -/
def execBandCommitVerified (band : BandKey) (s : State) : Host.Outcome State Fault Refusal :=
  match s.bandOf band with
  | some b => if b.phase = .committing ∧ s.setFrozen band.seg.set = false then s.done (s.commitBand b) else .next s
  | none => .next s

/-! ### Release and checkpoints (R109, R110, R195) -/

/-- Whether a place is a slot of a pair. -/
def Pair.holds (p : Pair) (q : Place) : Bool := q.set == p.set && q.pair == p.num

/-- Whether a read that named a slot of a pair is outstanding: of the read tracker, of a merge, or of a fold (R78). -/
def State.pairRead (s : State) (p : Pair) : Bool :=
  (s.rp.tracker.any fun r => match r.path with
    | .shallows q _ => p.holds q
    | .tentative q => p.holds q
    | _ => false) ||
  (s.wp.mergeQ.any fun w => match s.mergeTent w with
    | some t => p.holds t.place
    | none => match tfind s.wp.index w.line with
      | some r => p.holds (s.recPlace w.line r)
      | none => false) ||
  s.fo.folds.any fun f => f.gathered.any fun x => p.holds (s.recPlace x.line x.ix)

/-- Whether a record that a pair holds is still wanted: of the journal, of the other metadata, or an outcome record under way. -/
def State.pairMeta (s : State) (p : Pair) : Bool :=
  (s.fo.journal ++ s.wp.reserve).any (fun (e : MetaEnt) => e.place.any p.holds) ||
  s.lds.any fun l => l.wins.any fun w => (w.recIssued || w.closing.isSome) && w.recPlace.any p.holds

/-- Whether a pair can be freed: no longer open, every entry and record dead or released, none still being programmed or read (R54). -/
def State.pairFree (s : State) (p : Pair) : Bool :=
  !p.isOpen && !s.pairRead p && !s.pairMeta p &&
  (s.wp.progs ++ s.wp.idxQ).all (fun w => !p.holds w.place) &&
  s.wp.entries.all fun e => !(e.1 / 512 == pairCode p.set p.num) || e.2.dead || e.2.released

/-- The pairs at the tail that can be freed: those of a set's area, oldest first, up to the first that cannot. -/
def State.tailPairs (s : State) (k : Fin 4) (running : Bool) : List Pair :=
  (s.wp.pairs.filter fun (p : Pair) => p.set = k && p.running == running).takeWhile s.pairFree

/-- Frees the pairs at the tail of each set, both blocks together (R54). -/
def State.freePairs (s : State) : State :=
  let free := (allFin 4).flatMap fun k => s.tailPairs k false ++ s.tailPairs k true
  let gone (c : Nat) : Bool := free.any fun (p : Pair) => c / 512 == pairCode p.set p.num
  { s with wp := { s.wp with
      pairs := s.wp.pairs.filter fun (p : Pair) => !(free.contains p),
      entries := s.wp.entries.filter fun e => !gone e.1,
      marksAt := s.wp.marksAt.filter fun e => !gone e.1 } }

/-- The place with a code. -/
def placeOf (c : Nat) : Place := ⟨⟨c / 512 / 262144 % 4, by omega⟩, c / 512 % 262144, c % 512⟩

/-- One released line: its page's counter block becomes durable first (R195). -/
def State.releaseSlot (s : State) (c : Nat) : State :=
  let p := placeOf c
  match s.entryAt p with
  | some e =>
    let s := (s.durPage (pageOf e.line)).modEntry p fun e => { e with released := true }
    { s with wp := { s.wp with relNow := s.wp.relNow + 1 } }
  | none => s

/-- The checkpoint piece of a granule's map entry: pieces of 4 MiB of 5-byte entries (R106, R109). -/
def mapPiece (g : Nat) : Nat := 5 * g / 2 ^ 22

/-- The piece that stands for the tables beside the map: wear and drift, windows, tethers (log 32). -/
def tablePiece : Nat := 4096

/-- The pieces whose state a record changes. -/
def State.recPieces (s : State) : MetaRec → List Nat
  | .segOpened .. => [tablePiece]
  | .bandCommit b _ => tablePiece :: (List.range 10).filterMap fun i =>
      (tfind s.fo.frames (frameCode b.seg.set b.seg.lane (frameNo b i))).map fun f => mapPiece f.granule
  | .granuleSet g _ => [mapPiece g]
  | _ => [tablePiece]

/-- Whether a sequence number lies from one to another (R46). -/
def inRange (first last q : Nat) : Bool := q == first || q == last || newer q first && newer last q

/-- Whether every line of a committed group has been folded or replaced: no live committed entry bears its window and a
sequence number of its range (R174). -/
def State.groupFolded (s : State) (n : Fin 16) (w : Fin 64) (first last : Nat) : Bool :=
  s.wp.entries.all fun e => e.2.dead || e.2.released || !(e.2.ld == n && e.2.win == some w &&
    inRange first last e.2.seq)

/-- Whether a record is no longer wanted: overtaken by the checkpoint of every piece it changes, taken since the record became durable (R109,
R174); a checkpoint or watermark record, by a later one of its piece or region, or by the end of the rekey (R109, R207). -/
def State.recDone (s : State) (r : MetaEnt) : Bool :=
  let covered : Bool := (s.recPieces r.item).all fun p => match tfind s.fo.pieces p with
    | some c => c == r.durAt || newer c r.durAt
    | none => false
  match r.item with
  | .outcome n w _ first last _ code _ => covered && (code ≠ 1 || s.groupFolded n w first last)
  | .piece n _ => s.fo.journal.any fun (x : MetaEnt) => newer x.seq r.seq && match x.item with
      | .piece m _ => m == n
      | _ => false
  | .watermark k .. => s.cr.regions[regIx k].state ≠ .rekeying || s.wp.reserve.any fun (x : MetaEnt) => newer x.seq r.seq && match x.item with
      | .watermark j .. => j == k
      | _ => false
  | _ => covered

/-- SLOT_RELEASE (R110): step 7 of Table 05-8, the records of R109 and R174, and the pairs at the tail. -/
def execSlotRelease (s : State) : Host.Outcome State Fault Refusal :=
  let t := s.rollMs
  let t := t.fo.relQ.foldl State.releaseSlot { t with fo := { t.fo with relQ := [] } }
  let t := { t with fo := { t.fo with journal := t.fo.journal.filter fun r => !t.recDone r },
                    wp := { t.wp with reserve := t.wp.reserve.filter fun r => !t.recDone r } }
  s.done t.freePairs.judgeMarks

/-- CHECKPOINT_PIECE_WRITE (R109): a checkpoint piece is written and its 0x04 record is durable. The table piece holds the
die clocks and drift tables (R134). The bands a piece takes: log 96. -/
def execCheckpointPieceWrite (piece : Nat) (s : State) : Host.Outcome State Fault Refusal :=
  let at_ := s.wp.seq
  let s := s.journal (.piece piece at_)
  let s := { s with fo := { s.fo with pieces := tins piece at_ s.fo.pieces } }
  if piece = tablePiece then
    .next { s with dr := { s.dr with durDies := s.dr.dies, durSegs := s.dr.segs, durBlocks := s.dr.blocks } }
  else .next s

/-! ### Reset (R80, R117, R124) -/

/-- Whether a read issued to a segment's blocks is outstanding: of the read tracker, a run-ahead read, squashed or not, a merge read, a fold's,
or a pilot read (R80, R141). -/
def State.segRead (s : State) (k : SegKey) : Bool :=
  (s.rp.tracker.any fun r =>
    (match r.path with
     | .peat lane frame => segOfFrame (s.setOf (granOf r.line)) lane frame == k
     | _ => false) ||
    (match r.runAhead with
     | some (lane, frame) => segOfFrame (s.setOf (granOf r.line)) lane frame == k
     | none => false)) ||
  (s.rp.squashed.any fun x => x.1 == k && decide (s.now - x.2 < 240)) ||
  (s.wp.mergeQ.any fun w => (s.mergeBlock w).any fun b => b.seg == k) ||
  (s.fo.folds.any fun f => (s.homeBlocks f.granule).any fun b => b.seg == k) ||
  s.anyPend (segBlocks k)

/-- SEGMENT_RESET (R80, R117): a victim whose last live frame has switched away, with no read outstanding, starts its reset, RESET to its 16 blocks (R430). -/
def execSegmentReset (seg : SegKey) (s : State) : Host.Outcome State Fault Refusal :=
  if (s.seg seg).state = .victim ∧ (s.liveFrames seg).isEmpty ∧ s.segRead seg = false ∧ s.kp.eolSets.contains seg.set = false ∧
      s.setFrozen seg.set = false then
    .next ((segBlocks seg).foldl (fun s b => s.vyvon (vyPeat b) .reset) (s.setSeg seg { s.seg seg with state := .resetting }))
  else .next s

/-- SEGMENT_RESET_COMPLETE (R117): the resets end; failed blocks and blocks to be retired after copy leave for spare ones. -/
def execSegmentResetComplete (seg : SegKey) (failed : List Nat) (s : State) : Host.Outcome State Fault Refusal :=
  if (s.seg seg).state = .resetting then
    let bad := failed.dedup.filterMap fun p => if h : p < 16 then some (⟨seg, ⟨p, h⟩⟩ : BlockKey) else none
    let later := s.fo.retiring.filter fun p => p.1.seg == seg && !bad.contains p.1
    let gone := (bad ++ later.map (·.1)).any fun b => s.dieSpare (blockDie b) == 0
    let t := bad.foldl (fun s b => s.retireBlock b 2) s
    let t := later.foldl (fun s p => s.retireBlock p.1 p.2) t
    let t := { t with fo := { t.fo with retiring := t.fo.retiring.filter fun p => !(p.1.seg == seg),
                                        frames := t.fo.frames.filter fun f =>
                                          !(f.1 / 2 ^ 32 == laneCode seg.set seg.lane && f.1 % 2 ^ 32 / 70 == seg.seg),
                                        sums := t.fo.sums.filter fun x => !(x.1 / 8 == segCode seg),
                                        wearTo := t.fo.wearTo.filter fun x => !(x.1 == seg || x.2 == seg) } }
    let x := t.seg seg
    let t := t.setSeg seg { x with state := if gone then .retired else .free, bands := 0, resets := x.resets + 1, lost := [] }
    let t := t.resetDrift seg
    let t := if gone then t else t.queueMove seg.set seg.lane (t.fo.queued[laneIx seg.set seg.lane] + 1)
    s.done (s.lifeEdge (t.judgeLane seg.set seg.lane))
  else .next s

/-- HOTSPOT_DETECT (R127): a channel is hot when over its limits for more than half of the ticks of 1 ms. -/
def execHotspotDetect (chan : Fin 64) (ticksOver progQ readQ : Nat) (s : State) : Host.Outcome State Fault Refusal :=
  let hot := decide (msTicks 1 < 2 * ticksOver)
  let was := s.wp.hot[chan]
  let t := { s with wp := { s.wp with hot := s.wp.hot.set chan hot } }
  .next (if hot ∧ was = false then t.event 0x2003 2 (oChan chan) progQ readQ 0 0 else t)

end Sys2Proof.Machine
end

