-- ==== Sys2Proof/Machine/Drift.lean ====
section
/-! DEFINITION. Drift tracking, patrol and host-triggered scrub: shared operations and the commands of the family
(06_drift_and_scrub.md R131 to R156). -/

namespace Sys2Proof.Machine

/-! ### Drift epochs and pilots -/

/-- Drift weight of a temperature band (Table 06-1). -/
def bandWeight (b : Nat) : Nat := if b = 0 then 1 else if b = 1 then 2 else if b = 2 then 4 else 8

/-- Every die of the population, in table order. -/
def State.allDies (s : State) : List DieKey :=
  (allFin 64).flatMap fun c => if c.val < s.hw.channels then (s.lanes.map fun d => ⟨c, d⟩) else []

/-- The end of an epoch for one die (R133). -/
def DriftDie.epochEnd (d : DriftDie) : DriftDie :=
  { d with wclk := sat 0xFFFFFFFF (d.wclk + bandWeight (max d.hotNow d.band)), hotPrev := max d.hotNow d.band, hotNow := d.band }

/-- DRIFT_EPOCH_END (R133): 2^30 ticks end; every die's clock takes the weight of its hottest band. -/
def execDriftEpochEnd (s : State) : Host.Outcome State Fault Refusal :=
  if s.pw.dieUp then
    let s := s.since (s.now - s.now % 2 ^ 30) (2 ^ 30)
    .next { s with dr := { s.dr with epoch := s.dr.epoch + 1,
                                     dies := s.allDies.map fun d => (dieCode d, (s.drDie d).epochEnd) } }
  else .next s

/-- The live granules of a segment. -/
def State.segGrans (s : State) (k : SegKey) : List Nat := (s.liveFrames k).map fun p => p.2.granule

/-- The estimate of a good pilot report: OFS by least squares on the oldest group, EST, and the difference of ages for R143 (R140). -/
def State.pilotGood (s : State) (b : BlockKey) (r : PilotReport) : State :=
  let x := s.drSeg b.seg
  let d := s.drDie (blockDie b)
  let age := s.unitAge b x.oldest d.wclk
  let ofs := fitShift r.oldest (s.model b x.oldest age)
  let gap : Int := Config.impliedAge (tget 0 x.pb x.oldest) d.band r.oldest r.newest - age
  let s := s.modDrBlk b fun x => { x with ofs := ofsSat ofs, est := true, pend := false,
                                          mcls := if ofsSat ofs = ofs then x.mcls else x.mcls.atLeast .watch }
  s.modDrDie (blockDie b) fun d => { d with pilots := d.pilots + 1, gaps := if d.done ∨ 64 ≤ d.gaps.length then d.gaps else d.gaps ++ [gap] }

/-- A pilot read of a block ends, repeated once where its report fails its CRC (R140, R142). -/
def State.pilotEnds (s : State) (b : BlockKey) (r : PilotReport) : State :=
  if r.crcOk ∨ r.repeatOk then s.pilotGood b r
  else (s.modDrBlk b fun x => { x with ofs := 0, est := true, pend := false, mcls := .watch }).visitNext b.seg s.now true

/-- PILOT_READ_COMPLETE (R140 to R142, R150): a pilot report arrives, of a read that waits for it or of the warm-up sweep. A block that the
sweep finds in the refresh class has RFSH set on its live granules. -/
def execPilotReadComplete (blk : BlockKey) (report : PilotReport) (s : State) : Host.Outcome State Fault Refusal :=
  let t := if (s.drBlk blk).pend then s else s.pmCount 0x00A ⟨none, some (chanOf blk.seg.set blk.pos).val, some blk.seg.set.val⟩
  let t := t.pilotEnds blk report
  let t := if s.dr.sweep ∧ (t.drBlk blk).mcls = .refresh then (t.segGrans blk.seg).foldl State.setRfsh t else t
  s.done (t.feedCopies blk.seg.set)

/-- The median of the differences: the mean of the two middle ones, rounded down (log 33). -/
def median (l : List Int) : Int :=
  let a := l.insertionSort (· ≤ ·)
  (a.getD ((a.length - 1) / 2) 0 + a.getD (a.length / 2) 0) / 2

/-- The programmed blocks of a die. -/
def State.dieBlocks (s : State) (d : DieKey) : List BlockKey :=
  s.fo.segs.filterMap fun p => if p.1 / 2 ^ 32 = laneCode (setOfChan d.chan) d.die ∧ 0 < p.2.bands then
    some ⟨⟨setOfChan d.chan, d.die, p.1 % 2 ^ 32⟩, posOfChan d.chan⟩ else none

/-- Whether a die is due its gap estimate: it has had none this power-on, and 64 pilot reads, or with fewer than 64 programmed blocks one of each
(R143). -/
def State.gapDue (s : State) (die : DieKey) : Bool :=
  let d := s.drDie die
  !d.done && !d.gaps.isEmpty &&
    (decide (64 ≤ d.gaps.length) || decide ((s.dieBlocks die).length < 64) && (s.dieBlocks die).all fun b => (s.drBlk b).est)

/-- A block's OFS after its die's clock has gone from one reading to another, so that its references do not move (R143). -/
def State.keepRefs (s : State) (b : BlockKey) (old new : Nat) : State :=
  let u := (s.drSeg b.seg).oldest
  let d := fitShift (s.model b u (s.unitAge b u old)) (s.model b u (s.unitAge b u new))
  s.modDrBlk b fun x => { x with ofs := ofsSat (x.ofs + d) }

/-- GAP_ESTIMATE (R143): the die's clock advances by the median gap where that is positive, and the OFS of its estimated blocks follows. -/
def execGapEstimate (die : DieKey) (s : State) : Host.Outcome State Fault Refusal :=
  if s.gapDue die then
    let d := s.drDie die
    let m := median d.gaps
    let new := if 0 < m then sat 0xFFFFFFFF (d.wclk + m.toNat) else d.wclk
    let t := s.modDrDie die fun d => { d with done := true, wclk := new }
    .next (if 0 < m then ((s.dieBlocks die).filter fun b => (s.drBlk b).est).foldl (fun s b => s.keepRefs b d.wclk new) t else t)
  else .next s

/-! ### Patrol -/

/-- The pass period of a set in minutes: that of the hottest band any die of the set held during the previous epoch (R132, Table 06-5). -/
def State.passMins (s : State) (k : Fin 4) : Nat :=
  let hot := (allFin 16).foldl (fun m p => s.lanes.foldl (fun m l => max m (s.drDie ⟨chanOf k p, l⟩).hotPrev) m) 0
  let x := s.dr.params
  if hot = 0 then x.t0 else if hot = 1 then x.t1 else if hot = 2 then x.t2 else x.t3

/-- The pass period of a set in ticks. -/
def State.passTicks (s : State) (k : Fin 4) : Nat := secTicks (60 * s.passMins k)

/-- The growth factor of a band of a block until its next visit, times 10^6: from the present age to the age one pass period later at the die's
present band (R145, log 95). -/
def State.growthTo (s : State) (b : BlockKey) (band : Nat) : Nat :=
  let d := s.drDie (blockDie b)
  let age := s.unitAge b band d.wclk
  Config.growth (tget 0 (s.drSeg b.seg).pb band) age (age + s.passTicks b.seg.set / 2 ^ 30 * bandWeight d.band)

/-- The predicted raw bit error ratio of one band's unit of a block at its next visit, in 10^-6 (R145). -/
def State.bandRatio (s : State) (b : BlockKey) (x : BandBits) : Nat := x.corrected * s.growthTo b x.band / max 1 x.read

/-- *p* of a block in 10^-6 (R145). -/
def State.visitRatio (s : State) (b : BlockKey) (bits : List BandBits) : Nat :=
  bits.foldl (fun n x => n + x.corrected * s.growthTo b x.band) 0 / max 1 (bits.foldl (fun n x => n + x.read) 0)

/-- The margin class after a visit (Table 06-4). -/
def marginAfter (m : Margin) (p t : Nat) : Margin :=
  match m with
  | .failing => .failing
  | .refresh => .refresh
  | _ => if t ≤ p then .refresh else if t ≤ 2 * p then .watch else .good

/-- The frame of a granule where it lies in a segment. -/
def State.frameIn (s : State) (seg : SegKey) (g : Nat) : Option Nat :=
  let m := s.mapEnt g
  if (m.state = .live ∨ m.state = .moving) ∧ segOfFrame (s.setOf g) m.lane m.frame = seg then some m.frame else none

/-- The live granules with a frame in one of several bands of a segment. -/
def State.bandGrans (s : State) (seg : SegKey) (bands : List Nat) : List Nat :=
  ((s.liveFrames seg).filter fun p => bands.contains (p.1 % 70 / 10)).map fun p => p.2.granule

/-- A line that the patrol found in a block and could not read, or whose tag fails: the events and the marking of R84 and R85, while the version
that lies there is the line's newest. -/
def State.visitLoss (s : State) (b : BlockKey) (line : Nat) (tagFail : Bool) : State :=
  let s := (s.modDrBlk b fun x => { x with mcls := .failing })
  match s.frameIn b.seg (granOf line) with
  | none => s
  | some f =>
    let s := if tagFail then s.event 0x3001 3 oDev (lo32 (line * 64)) (hi32 (line * 64)) 2 0
      else s.event 0x1001 3 oDev (lo32 (line * 64)) (hi32 (line * 64)) 0 0
    (s.setRfsh (granOf line)).markVersion 0 line (3 + 2 * frameCode b.seg.set b.seg.lane f)

/-- A slot that failed correction and was recovered (R144, Table 06-4). -/
def State.visitLine (s : State) (b : BlockKey) (x : LineSense) : State :=
  match s.frameIn b.seg (granOf x.line) with
  | some f => s.peatFound b x.line (slotNo x.line f) x.sense
  | none => s.modDrBlk b fun x => { x with mcls := .failing }

/-- What a visit finds in one block (R145, R146): its pilot read, its slots, its class. -/
def State.visitBlock (s : State) (seg : SegKey) (first : Bool) (v : VisitResult) : State :=
  let b : BlockKey := ⟨seg, v.pos⟩
  let s := s.pilotEnds b v.pilot
  let s := v.recovered.foldl (fun s x => s.visitLine b x) s
  let s := v.tagFail.foldl (fun s l => s.visitLoss b l true) s
  let s := v.lost.foldl (fun s l => s.visitLoss b l false) s
  let t := s.dr.params.threshold
  let p := s.visitRatio b v.bits
  let old := (s.drBlk b).mcls
  let hot := (v.bits.filter fun x => decide (t ≤ s.bandRatio b x)).map (·.band)
  let s := s.modDrBlk b fun x => { x with mcls := marginAfter x.mcls p t }
  if old = .failing then s
  else
    let s := if t ≤ p then (s.bandGrans seg hot).foldl State.setRfsh s else s
    if first ∧ marginAfter old p t = .refresh then s.retireAfterCopy b 4
    else if p < t ∧ t ≤ 2 * p ∧ old ≠ .refresh then s.visitNext seg (s.now + s.passTicks seg.set / 2) false
    else s

/-- Segments of a set that hold programmed bands. -/
def State.progSegs (s : State) (k : Fin 4) : Nat :=
  s.fo.segs.foldl (fun n p => if p.1 / 2 ^ 32 / 16 = k.val ∧ 0 < p.2.bands then n + 1 else n) 0

/-- The patrol has visited one more segment of a set; a pass that ends halves HEAT (Table 05-5). -/
def State.passOn (s : State) (k : Fin 4) : State :=
  let p := s.dr.patrol[k]
  if p.total ≤ p.visited + 1 then
    { s with dr := { s.dr with patrol := s.dr.patrol.set k { p with visited := 0, total := s.progSegs k } },
             fo := { s.fo with map := s.fo.map.map fun e => if s.setOf e.1 = k then (e.1, { e.2 with heat := e.2.heat / 2 }) else e } }
  else { s with dr := { s.dr with patrol := s.dr.patrol.set k { p with visited := p.visited + 1 } } }

/-- The segments of a set that the patrol must visit before any other (R142, R146, R149). -/
def State.dueSegs (s : State) (k : Fin 4) : List SegKey :=
  (s.dr.patrol[k].next.filter fun x => decide (x.2 ≤ s.now) && decide (0 < (s.seg x.1).bands)).map (·.1)

/-- PATROL_VISIT (R145): the pilot areas and every slot of a segment are read; estimates, classes, RFSH, poison and RDC follow. A pass starts
once the warm-up sweep has ended (R150), and segments that are due go first (R149). -/
def execPatrolVisit (seg : SegKey) (visit : List VisitResult) (s : State) : Host.Outcome State Fault Refusal :=
  if s.setFrozen seg.set ∨ (s.seg seg).bands = 0 ∨ s.dr.sweep ∨ ((s.dueSegs seg.set).isEmpty = false ∧ (s.dueSegs seg.set).contains seg = false)
  then .next s
  else
    let first := !(s.drSeg seg).visited
    let t : State := { s with dr := { s.dr with patrol := vmod s.dr.patrol seg.set fun p =>
      { p with next := p.next.filter fun x => x.1 ≠ seg } } }
    let t := visit.foldl (fun s v => s.visitBlock seg first v) t
    let t := t.modDrSeg seg fun x => { x with rdc := 0, visited := true }
    let t : State := { t with rp := { t.rp with patrolQ := t.rp.patrolQ.filter fun p => !(t.homeBlock p.1).any fun b => b.seg == seg } }
    s.done ((t.passOn seg.set).feedCopies seg.set)

/-- Places an entry again in another open pair under its own sequence number, or where none has room in the running part; what named it
names the new placement, and both old slots are dead (R57, R148). Whether a slot was to be had. -/
def State.placeAgain (s : State) (p : Place) : Bool × State :=
  match s.entryAt p with
  | none => (false, s)
  | some e =>
    let (q, s) := match s.allocSlot p.set e.seq fun x => x.num ≠ p.pair with
      | (some q, s) => (some q, s)
      | (none, s) => s.allocRun p.set e.seq
    match q with
    | none => (false, s)
    | some q =>
      let s := (s.putEntry q { e with ok0 := true, ok1 := true, written := true }).kill p
      let s := { s with wp := { s.wp with tents := s.wp.tents.map fun (t : TentRec) => if t.place = p then { t with place := q } else t } }
      match tfind s.wp.index e.line with
      | some r => (true, if s.recPlace e.line r = p then s.setIndex e.line { r with pair := q.pair, slot := q.slot } else s)
      | none => (true, s)

/-- Whether a copy fails correction or needs more than 8 corrected bits (R148). -/
def weakCopy (b : Option Nat) : Bool := match b with
  | none => true
  | some n => decide (8 < n)

/-- The patrol's read of one Shallows entry (R83, R85, R148). -/
def State.patrolCopy (s : State) (k : Fin 4) (r : CopyRead) : State :=
  let p : Place := ⟨k, r.pair, r.slot⟩
  match s.entryAt p with
  | none => s
  | some e =>
    if e.dead ∨ e.released ∨ e.written = false then s
    else
      let queued := s.rp.patrolQ.any fun x => x.1 == e.line
      let s := { s with rp := { s.rp with patrolQ := s.rp.patrolQ.filter fun x => x.1 ≠ e.line } }
      if r.bits0.isNone ∧ r.bits1.isNone then
        (s.event 0x1001 3 oDev (lo32 (e.line * 64)) (hi32 (e.line * 64)) e.ld.val 0).entryGone e.ld e.line p
      else if weakCopy r.bits0 ∨ weakCopy r.bits1 ∨ queued then (s.placeAgain p).2
      else s

/-- Whether a pair's block is older than the Shallows age limit (R148). -/
def State.pairAged (s : State) (p : Pair) : Bool :=
  let lim := 2 ^ s.dr.params.ageLog
  decide (lim < (s.drDie (s.shDie p.set p.ch0 p.num)).wclk - p.openedAt) ||
  decide (lim < (s.drDie (s.shDie p.set p.ch1 p.num)).wclk - tget 0 s.dr.shEpoch (pairCode p.set p.num))

/-- The granules with a live entry in an aged Shallows block of a set (R148). -/
def State.agedLive (s : State) (k : Fin 4) : List Nat :=
  let aged := s.wp.pairs.filter fun p => p.set == k && s.pairAged p
  (s.wp.entries.filterMap fun e =>
    if !e.2.dead && !e.2.released && aged.any (fun p => e.1 / 512 == pairCode p.set p.num) then some (granOf e.2.line) else none).dedup

/-- SHALLOWS_PATROL (R148): once in 10 min both copies of the live entries of a set are read; weak ones are placed again, and aged blocks ask
for refresh of their granules. -/
def execShallowsPatrol (set : Fin 4) (reads : List CopyRead) (s : State) : Host.Outcome State Fault Refusal :=
  if s.setFrozen set then .next s
  else
    let t := s.since s.dr.shAt[set] (secTicks 600)
    let t : State := { t with dr := { t.dr with shAt := t.dr.shAt.set set t.now } }
    let t := reads.foldl (fun s r => s.patrolCopy set r) t
    s.done ((t.agedLive set).foldl State.setRfsh t).judgeMarks

/-- READ_DISTURB_VISIT (R149): a segment whose RDC reaches the limit is visited before any other of its set. -/
def execReadDisturbVisit (seg : SegKey) (s : State) : Host.Outcome State Fault Refusal :=
  if 2 ^ s.dr.params.disturbLog ≤ (s.drSeg seg).rdc then .next (s.visitNext seg s.now true) else .next s

/-- Whether a programmed block that can be read has no estimate yet: the warm-up sweep has not read it (R150). -/
def State.unswept (s : State) : Bool :=
  s.allDies.any fun d => (s.dieBlocks d).any fun b => !(s.drBlk b).est && s.blockUp b

/-- WARM_UP_SWEEP_END (R150): with every programmed block estimated the first pass starts. -/
def execWarmUpSweepEnd (s : State) : Host.Outcome State Fault Refusal :=
  if s.dr.sweep ∧ s.unswept = false then
    .next { s with dr := { s.dr with sweep := false, patrol := .ofFn fun k =>
      { s.dr.patrol[k] with visited := 0, total := s.progSegs k } } }
  else .next s

/-! ### Host scrub (R153 to R156) -/

/-- Whether the LD's committed decoders cover DPA from `pos` to `end_`; `n` bounds the decoders passed. -/
def covered (ds : List (Nat × Nat)) (pos end_ : Nat) : Nat → Bool
  | 0 => decide (end_ ≤ pos)
  | n + 1 => decide (end_ ≤ pos) || match ds.find? fun d => decide (d.1 ≤ pos) && decide (pos < d.1 + d.2) with
    | some d => covered ds (d.1 + d.2) end_ n
    | none => false

/-- The DPA ranges of an LD's committed decoders. -/
def LD.decoded (l : LD) : List (Nat × Nat) :=
  (l.decoders.toList.zip (decBases 0 l.decoders.toList)).filterMap fun p => if p.1.committed then some (p.2, p.1.span) else none

/-- A START refused (Table 06-9). -/
def State.scrubReject (s : State) (n : Fin 16) (cause : Nat) : State :=
  s.modScrub n fun x => { x with rej := true, cause := cause }

/-- The record of an LD's scrub as it stands becomes durable (R156, Table 06-11). -/
def State.scrubRecord (s : State) (n : Fin 16) (flags : Nat) : State :=
  let x := (s.ld n).scrub
  (s.modScrub n fun x => { x with durable := x.counts, recTick := s.now, progress := x.counts.checked }).metaRec
    (.scrub n x.snum flags x.sumBase x.sumLen x.counts)

/-- SCRUB_CTRL.START written 1 (R154). Where several reasons to refuse hold, CAUSE is the lowest of them (log 91). -/
def State.scrubStart (s : State) (n : Fin 16) : State :=
  let x := (s.ld n).scrub
  if x.len = 0 ∨ covered (s.ld n).decoded x.base (x.base + x.len) 5 = false then s.scrubReject n 1
  else if x.busy then s.scrubReject n 2
  else if s.lk.mediaReady = false then s.scrubReject n 3
  else
    (s.modScrub n fun x => { x with busy := true, aborting := false, snum := (x.snum + 1) % 2 ^ 32, counts := scrubZero,
                                    startTick := s.now, scan := false, incomplete := false, sumBase := x.base,
                                    sumLen := x.len }).scrubRecord n 0

/-- SCRUB_START (R153). -/
def execScrubStart (ld : Fin 16) (s : State) : Host.Outcome State Fault Refusal :=
  .next (s.io (whoOf ld) (.scrubStart ld) fun s => s.scrubStart ld)

/-- SCRUB_CTRL.ABORT written 1: a running scrub stops after the line in progress. -/
def State.scrubAbort (s : State) (n : Fin 16) : State :=
  if (s.ld n).scrub.busy ∧ (s.ld n).scrub.scan = false then s.modScrub n fun x => { x with aborting := true } else s

/-- SCRUB_ABORT (R155). -/
def execScrubAbort (ld : Fin 16) (s : State) : Host.Outcome State Fault Refusal :=
  .next (s.io (whoOf ld) (.scrubAbort ld) fun s => s.scrubAbort ld)

/-- What a scrub finds at a line (R153): not allocated; nothing to read; already poisoned; read, with whether it was corrected, reconstructed,
or has a weak Shallows copy; lost; a failed tag; a counter line that fails its node tag. -/
inductive LineRes where
  | skipped
  | empty
  | prior
  | good (corrected reconstructed weak : Bool)
  | lost
  | tagFail
  | tree (level : Nat)
  deriving DecidableEq, Repr

/-- What the read of a line's newest version gives a scrub (R153). -/
def State.lineRes (s : State) (n : Fin 16) (x : LineFound) : LineRes :=
  if s.allocated n x.line = false then .skipped
  else match s.version x.line with
    | .zero => .empty
    | .poison => .prior
    | .shallows _ e =>
      if x.bits0.isNone ∧ x.bits1.isNone then .lost
      else match senseOf s (s.entryNonce e) x.line e.data e.tag (.good 0) with
        | some (some _) => .good (x.bits0 ≠ some 0 || x.bits1 ≠ some 0) false (weakCopy x.bits0 || weakCopy x.bits1)
        | _ => .tagFail
    | .peat _ _ y => match x.slot with
      | .tree level => .tree level
      | v => match senseOf s (s.lineNonce x.line) x.line y.data y.tag v with
        | none => .lost
        | some none => .tagFail
        | some (some _) => .good (v ≠ .good 0) (v == .reconstructed) false

/-- The counts of an LD's scrub changed. -/
def State.scrubCount (s : State) (n : Fin 16) (f : ScrubCounts → ScrubCounts) : State := s.modScrub n fun x => { x with counts := f x.counts }

/-- A line that a scrub could not recover is handled under R35 and R85, or R212 (R153). -/
def State.scrubLost (s : State) (n : Fin 16) (line : Nat) (tagFail : Bool) : State :=
  let path := if (s.homeBlock line).isSome then 2 else 1
  let s := if tagFail then s.event 0x3001 3 oDev (lo32 (line * 64)) (hi32 (line * 64)) path 0
    else s.event 0x1001 3 oDev (lo32 (line * 64)) (hi32 (line * 64)) n.val 0
  s.markVersion n line (s.verCode line)

/-- What a scrub with REPAIR 1 does at a line it could read, and whether that counts as refreshed: Table 06-4 and R144 for a slot that failed,
RFSH where its frame has a block of the refresh class, a weak Shallows copy placed again (R148, R153). -/
def State.scrubRepair (s : State) (x : LineFound) (weak : Bool) : Bool × State :=
  let g := granOf x.line
  match s.homeBlock x.line with
  | some b =>
    let s := s.peatFound b x.line (slotNo x.line (s.mapEnt g).frame) x.slot
    if (s.homeBlocks g).any fun b => (s.drBlk b).mcls == .refresh then (true, s.setRfsh g) else (false, s)
  | none => match tfind s.wp.index x.line with
    | some r => if weak then s.placeAgain (s.recPlace x.line r) else (false, s)
    | none => (false, s)

/-- One line of a scrub (R153, Table 06-10). A line that is already poisoned counts in CHECKED and POISON_PRIOR alone. -/
def State.checkLine (s : State) (n : Fin 16) (repair : Bool) (x : LineFound) : State :=
  let r := s.lineRes n x
  if r = .skipped then s.scrubCount n fun c => { c with skipped := true }
  else
    let s := s.scrubCount n fun c => { c with checked := c.checked + 1 }
    let s := match s.homeBlock x.line with
      | some b => if r = .empty ∨ r = .prior then s else s.countRdc b.seg (senseBlocks b x.slot).length
      | none => s
    match r with
    | .prior => s.scrubCount n fun c => { c with prior := c.prior + 1 }
    | .good corrected reconstructed weak =>
      let (again, s) := if repair then s.scrubRepair x weak else (false, s)
      s.scrubCount n fun c => { c with corrected := c.corrected + b2n corrected, reconstructed := c.reconstructed + b2n reconstructed,
                                       refreshed := c.refreshed + b2n again }
    | .lost => (s.scrubLost n x.line false).scrubCount n fun c => { c with uncorrectable := c.uncorrectable + 1 }
    | .tagFail => (s.scrubLost n x.line true).scrubCount n fun c => { c with uncorrectable := c.uncorrectable + 1 }
    | .tree level => (s.treeMismatch x.line level).scrubCount n fun c => { c with uncorrectable := c.uncorrectable + 1 }
    | _ => s

/-- The lines found that lie in a range. -/
def inScrub (base len : Nat) (found : List LineFound) : List LineFound :=
  found.filter fun x => decide (base ≤ x.line * 64) && decide (x.line * 64 < base + len)

/-- The Peat blocks that the reads of the lines found sense. -/
def State.scrubBlocks (s : State) (found : List LineFound) : List BlockKey :=
  found.flatMap fun x => match s.homeBlock x.line with
    | some b => senseBlocks b x.slot
    | none => []

/-- The lines found are checked, after the pilot reads of their blocks (R141): `none` while one of these is in flight. -/
def State.scrubLines (s : State) (n : Fin 16) (repair : Bool) (found : List LineFound) : Option State × State :=
  let x := (s.ld n).scrub
  let found := inScrub x.sumBase x.sumLen found
  let s := s.wantPilots (s.scrubBlocks found)
  if s.anyPend (s.scrubBlocks found) then (none, s) else (some (found.foldl (fun s x => s.checkLine n repair x) s), s)

/-- FLAGS of the summary (Table 06-10). -/
def scrubFlags (complete aborted interrupted skipped : Bool) : Nat :=
  b2n complete + 2 * b2n aborted + 4 * b2n interrupted + 8 * b2n skipped

/-- A scrub ends: the summary is written, then DONE is set and BUSY cleared (R155), with the LD's source (Table 06-7). -/
def State.scrubFinish (s : State) (n : Fin 16) (flags : Nat) : State :=
  let s := s.modScrub n fun x => { x with busy := false, done := true, aborting := false, incomplete := false, progress := x.counts.checked,
                                          last := some ⟨flags, x.snum, x.counts, s.now - x.startTick⟩ }
  if (s.ld n).scrub.notify then s.raise ⟨16 + n.val, by omega⟩ 0 (s.ld n).scrub.snum else s

/-- SCRUB_END (R155): the scrub ends with what it found since its last record. -/
def execScrubEnd (ld : Fin 16) (found lost : List LineFound) (s : State) : Host.Outcome State Fault Refusal :=
  let x := (s.ld ld).scrub
  if x.busy ∧ x.scan = false then
    match s.scrubLines ld x.repair (found ++ lost) with
    | (none, t) => s.done t
    | (some t, _) =>
      let flags := scrubFlags (!x.aborting) x.aborting false (t.ld ld).scrub.counts.skipped
      s.done ((t.scrubRecord ld flags).scrubFinish ld flags).judgeMarks
  else .next s

/-- SCRUB_PROGRESS_RECORD (R156): 2^30 ticks after the last record the counts as they stand become durable. -/
def execScrubProgressRecord (ld : Fin 16) (found lost : List LineFound) (s : State) : Host.Outcome State Fault Refusal :=
  let x := (s.ld ld).scrub
  if x.busy ∧ x.scan = false then
    match (s.since x.recTick (2 ^ 30)).scrubLines ld x.repair (found ++ lost) with
    | (none, t) => s.done t
    | (some t, _) => s.done (t.scrubRecord ld (scrubFlags false false false (t.ld ld).scrub.counts.skipped)).judgeMarks
  else .next s

/-- A fault window, a core restart, a trip or a shutdown stops every running scrub (R156). -/
def State.scrubsStop (s : State) : State :=
  s.mapLds fun l => if l.scrub.busy ∧ l.scrub.scan = false then
    { l with scrub := { l.scrub with busy := false, incomplete := true, counts := l.scrub.durable } } else l

/-- The summaries of stopped scrubs hold the counts of their last durable record, with FLAGS bit 2 (R156). -/
def State.scrubsSettle (s : State) : State :=
  (allFin 16).foldl (fun s n => if (s.ld n).scrub.incomplete then
    s.scrubFinish n (scrubFlags false false true (s.ld n).scrub.counts.skipped) else s) s

end Sys2Proof.Machine
end

