-- ==== Sys2Proof/Machine/Requests.lean ====
section
/-! DEFINITION. Which commands arrive through a mailbox, and under which opcode (Tables 11-4 to 11-6). -/

namespace Sys2Proof.Machine

/-- The request a command carries and its opcode; `none` for what is not a mailbox command. -/
def request : Instr → Option (Req × Nat)
  | .setOperatingPoint r _ => some (r, 0xC501)
  | .identify r => some (r, 0x0001)
  | .backgroundOperationStatus r => some (r, 0x0002)
  | .requestAbortBackgroundOperation r => some (r, 0x0005)
  | .getEventRecords r _ => some (r, 0x0100)
  | .clearEventRecords r _ _ _ => some (r, 0x0101)
  | .getEventInterruptPolicy r => some (r, 0x0102)
  | .setEventInterruptPolicy r _ _ _ _ => some (r, 0x0103)
  | .getFwInfo r => some (r, 0x0200)
  | .transferFw r _ _ _ => some (r, 0x0201)
  | .activateFw r _ _ => some (r, 0x0202)
  | .getTimestamp r => some (r, 0x0300)
  | .setTimestamp r _ => some (r, 0x0301)
  | .getSupportedLogs r => some (r, 0x0400)
  | .getLog r _ _ _ => some (r, 0x0401)
  | .identifyMemoryDevice r => some (r, 0x4000)
  | .getPartitionInfo r => some (r, 0x4100)
  | .setPartitionInfo r => some (r, 0x4101)
  | .getLsa r _ _ => some (r, 0x4102)
  | .setLsa r _ _ => some (r, 0x4103)
  | .getHealthInfo r => some (r, 0x4200)
  | .getAlertConfiguration r => some (r, 0x4201)
  | .setAlertConfiguration r _ _ _ => some (r, 0x4202)
  | .getShutdownState r => some (r, 0x4203)
  | .setShutdownState r _ => some (r, 0x4204)
  | .getPoisonList r _ _ => some (r, 0x4300)
  | .injectPoison r _ => some (r, 0x4301)
  | .clearPoison r _ _ => some (r, 0x4302)
  | .getScanMediaCapabilities r _ _ => some (r, 0x4303)
  | .scanMedia r _ _ => some (r, 0x4304)
  | .getScanMediaResults r => some (r, 0x4305)
  | .sanitize r => some (r, 0x4400)
  | .secureErase r => some (r, 0x4401)
  | .getSecurityState r => some (r, 0x4500)
  | .setPassphrase r _ _ _ => some (r, 0x4501)
  | .disablePassphrase r _ _ => some (r, 0x4502)
  | .unlock r _ => some (r, 0x4503)
  | .freezeSecurityState r => some (r, 0x4504)
  | .passphraseSecureErase r _ _ => some (r, 0x4505)
  | .securitySend r => some (r, 0x4600)
  | .securityReceive r => some (r, 0x4601)
  | .getDcConfig r => some (r, 0x4800)
  | .getDcExtentList r _ _ => some (r, 0x4801)
  | .addDcResponse r _ => some (r, 0x4802)
  | .releaseDc r _ => some (r, 0x4803)
  | .getLdInfo r => some (r, 0x5400)
  | .getLdAllocations r => some (r, 0x5401)
  | .setLdAllocations r _ _ => some (r, 0x5402)
  | .getQosControl r => some (r, 0x5403)
  | .setQosControl r _ _ _ => some (r, 0x5404)
  | .getQosStatus r => some (r, 0x5405)
  | .getQosAllocatedBw r => some (r, 0x5406)
  | .setQosAllocatedBw r _ _ => some (r, 0x5407)
  | .getQosBwLimit r => some (r, 0x5408)
  | .setQosBwLimit r _ _ => some (r, 0x5409)
  | .getDcdInfo r => some (r, 0x5600)
  | .getHostDcRegionConfig r _ => some (r, 0x5601)
  | .setDcRegionConfig r _ _ _ => some (r, 0x5602)
  | .getDcRegionExtentLists r _ => some (r, 0x5603)
  | .initiateDcAdd r _ _ => some (r, 0x5604)
  | .initiateDcRelease r _ _ _ => some (r, 0x5605)
  | .openSession r _ _ => some (r, 0xC000)
  | .authenticateSession r _ _ _ => some (r, 0xC001)
  | .closeSession r => some (r, 0xC002)
  | .getSessionStatus r => some (r, 0xC003)
  | .getLastFailure r => some (r, 0xC004)
  | .provisionSessionKey r _ _ _ => some (r, 0xC008)
  | .revokeSessionKey r _ => some (r, 0xC009)
  | .grantDeviceControl r _ => some (r, 0xC00A)
  | .getDeviceIdentity r => some (r, 0xC100)
  | .getChannelStatus r _ _ => some (r, 0xC101)
  | .getRecoveryReport r _ => some (r, 0xC110)
  | .getStripeSetStatus r _ => some (r, 0xC120)
  | .retireChannel r _ => some (r, 0xC121)
  | .setRebuildControl r _ _ _ _ => some (r, 0xC122)
  | .setGroupQuota r _ _ => some (r, 0xC200)
  | .getGroupOutcomes r => some (r, 0xC201)
  | .configureRegion r _ _ _ => some (r, 0xC300)
  | .removeRegion r _ => some (r, 0xC301)
  | .setNextKey r _ _ _ => some (r, 0xC302)
  | .startRekey r _ => some (r, 0xC303)
  | .getRegionStatus r _ => some (r, 0xC304)
  | .getPoolStatus r => some (r, 0xC400)
  | .setPoolIdentity r _ _ => some (r, 0xC401)
  | .configureTether r _ _ _ _ _ => some (r, 0xC402)
  | .removeTether r _ => some (r, 0xC403)
  | .declarePartnerAbsent r _ => some (r, 0xC404)
  | .failover r _ _ => some (r, 0xC405)
  | .raiseFormatLevel r _ => some (r, 0xC406)
  | .getPowerStatus r => some (r, 0xC500)
  | .powerRequest r _ => some (r, 0xC502)
  | .setRailParameters r _ _ _ _ _ _ _ => some (r, 0xC503)
  | .getThermalStatus r => some (r, 0xC504)
  | .setThermalParameters r _ => some (r, 0xC505)
  | .readPersistentLog r _ _ _ => some (r, 0xC600)
  | .getViolationCounters r _ => some (r, 0xC601)
  | .setEventRateLimit r _ _ => some (r, 0xC602)
  | .readHardwareRing r _ _ _ => some (r, 0xC603)
  | .readCustomerPartition r _ _ _ => some (r, 0xC604)
  | .writeCustomerPartition r _ _ _ _ => some (r, 0xC605)
  | .setCustomerPasswords r _ _ => some (r, 0xC606)
  | .readDeviceRegisters r _ _ _ _ => some (r, 0xC610)
  | .writeDeviceRegisters r _ _ _ _ _ => some (r, 0xC611)
  | .setCachePolicy r _ _ => some (r, 0xC700)
  | .getCacheStatus r => some (r, 0xC702)
  | .setPatrolParameters r .. => some (r, 0xC710)
  | .getPatrolStatus r => some (r, 0xC711)
  | .getLifeCycleState r => some (r, 0xC800)
  | .setLifeCycleState r _ => some (r, 0xC801)
  | .getBootStatus r => some (r, 0xC802)
  | .setBootImagePreference r _ => some (r, 0xC803)
  | .unsupportedOpcode r opcode => some (r, opcode)
  | .operatingPointReached => none
  | .autonomousFold .. => none
  | .memWr .. => none
  | .memWrPtl .. => none
  | .writeAdmission => none
  | .mergeReadComplete .. => none
  | .sequenceCounterWrap => none
  | .seqAgeFold => none
  | .slotAllocation => none
  | .shallowsPlacementVerified .. => none
  | .indexUpdate => none
  | .ndrReturn => none
  | .memRd .. => none
  | .memRdData .. => none
  | .memSpecRd .. => none
  | .memInv .. => none
  | .memInvNt .. => none
  | .detectorTimeout .. => none
  | .lookupSettled .. => none
  | .slotSenseComplete .. => none
  | .readCutoff .. => none
  | .slowSenseReconstruct .. => none
  | .foldOrder .. => none
  | .foldGather .. => none
  | .foldReadsComplete .. => none
  | .bandFillTimeout .. => none
  | .openSegmentForceClose .. => none
  | .bandProgramComplete .. => none
  | .bandCommitVerified .. => none
  | .slotRelease => none
  | .checkpointPieceWrite .. => none
  | .copyOrder .. => none
  | .wearLevelCopy .. => none
  | .segmentReset .. => none
  | .segmentResetComplete .. => none
  | .hotspotDetect .. => none
  | .driftEpochEnd => none
  | .pilotReadComplete .. => none
  | .gapEstimate .. => none
  | .patrolVisit .. => none
  | .shallowsPatrol .. => none
  | .readDisturbVisit .. => none
  | .warmUpSweepEnd => none
  | .scrubStart .. => none
  | .scrubAbort .. => none
  | .scrubEnd .. => none
  | .scrubProgressRecord .. => none
  | .commitDoorbell .. => none
  | .abortDoorbell .. => none
  | .commitTimerExpiry .. => none
  | .commitPoint .. => none
  | .outcomeRecordDurable .. => none
  | .regionEnable .. => none
  | .regionDisable .. => none
  | .rekeyPageStep .. => none
  | .rekeyComplete .. => none
  | .rootSeal => none
  | .ideIntegrityFailure .. => none
  | .lodeKeyRederive .. => none
  | .faultIndication .. => none
  | .statusProbeAnswer .. => none
  | .probeSilenceConfirmed .. => none
  | .faultWindowClose .. => none
  | .shallowsRestorationComplete .. => none
  | .rebuildSegmentComplete .. => none
  | .channelSuspect .. => none
  | .channelSuspectClear .. => none
  | .secondStackLoss .. => none
  | .watchdogExpiry .. => none
  | .cxlLaneFailure .. => none
  | .lodeLaneFailure .. => none
  | .linkTrainingResult .. => none
  | .conventionalReset .. => none
  | .hotReset .. => none
  | .flr .. => none
  | .cxlReset .. => none
  | .gpfPhase1Request .. => none
  | .gpfPhase2Request .. => none
  | .hdmDecoderCommit .. => none
  | .registerWrite .. => none
  | .backgroundCommandComplete .. => none
  | .handleTimeout .. => none
  | .sessionIdleTimeout .. => none
  | .notifDeliver .. => none
  | .notifClaim .. => none
  | .notifEoi .. => none
  | .notifQconsWrite .. => none
  | .fmConsWrite .. => none
  | .notifQueueEnable .. => none
  | .clrlost .. => none
  | .unwind .. => none
  | .notifSwset .. => none
  | .pmonSnapshot .. => none
  | .pmonClear .. => none
  | .pmonCounterWrap .. => none
  | .pmonSample .. => none
  | .sampleBankRelease .. => none
  | .samplingEnable .. => none
  | .cleanByAddress .. => none
  | .invalidateByAddress .. => none
  | .cleanInvalidateByAddress .. => none
  | .cleanBySetWay .. => none
  | .invalidateBySetWay .. => none
  | .cleanInvalidateBySetWay .. => none
  | .maintenanceOpExecute => none
  | .cleanComplete => none
  | .cacheSync .. => none
  | .rangeStart .. => none
  | .rangeAbort .. => none
  | .rangeComplete => none
  | .spadAddWrite .. => none
  | .spadSwapWrite .. => none
  | .atomicFetchAdd .. => none
  | .atomicSwap .. => none
  | .atomicCompareAndSwap .. => none
  | .sramParityError .. => none
  | .bootRomImageCheck => none
  | .antiRollbackRaise => none
  | .spdmGetVersion .. => none
  | .spdmGetCapabilities .. => none
  | .spdmNegotiateAlgorithms .. => none
  | .spdmGetDigests .. => none
  | .spdmGetCertificate .. => none
  | .spdmChallenge .. => none
  | .spdmGetMeasurements .. => none
  | .spdmKeyExchange .. => none
  | .spdmFinish .. => none
  | .spdmHeartbeat .. => none
  | .spdmKeyUpdate .. => none
  | .spdmEndSession .. => none
  | .ideKmKeyProg .. => none
  | .ideKmKSetGo .. => none
  | .ideKmKSetStop .. => none
  | .tamperInputActive .. => none
  | .lodeTrainingResult .. => none
  | .hello .. => none
  | .helloRepeat .. => none
  | .keepaliveSend .. => none
  | .keepalive .. => none
  | .lodeSilenceTimeout .. => none
  | .level .. => none
  | .switch .. => none
  | .twrite .. => none
  | .tconf .. => none
  | .tcommit .. => none
  | .tpoint .. => none
  | .tabort .. => none
  | .tquery .. => none
  | .tqans .. => none
  | .rsline .. => none
  | .rsmark .. => none
  | .bitmap .. => none
  | .role .. => none
  | .removed .. => none
  | .partnerAbsentTimeout .. => none
  | .absentRetry .. => none
  | .confirmedMark => none
  | .resyncGranule .. => none
  | .keeperAlive .. => none
  | .vinDwellComplete .. => none
  | .railDwellComplete .. => none
  | .pscTransactionRetry .. => none
  | .railSequenceTimeout .. => none
  | .channelTrainingComplete .. => none
  | .normalBootComplete => none
  | .replayComplete .. => none
  | .firstFormatComplete .. => none
  | .runningRailFault .. => none
  | .faultRestart => none
  | .keeperSramError => none
  | .vinCollapse .. => none
  | .pfailNLow => none
  | .pfailNHighRestart => none
  | .hardwareFlushComplete => none
  | .vholdExhausted .. => none
  | .orderlyPowerDownComplete => none
  | .railFallTimeout .. => none
  | .offMinimumElapsed => none
  | .holdupReadyAsserted .. => none
  | .holdupReadyLost .. => none
  | .vholdOvervoltage .. => none
  | .chargeTimeout .. => none
  | .vsupCollapse .. => none
  | .thermalMeasurement .. => none
  | .throttleGraceExpiry => none
  | .coolingRestart => none
  | .mediaHoldTimeout => none
  | .rdyNFall .. => none
  | .alertNFall .. => none
  | .cdatTableAccess .. => none
  | .setdasa .. => none
  | .entdaa .. => none
  | .drsReturn => none
  | .firmwareActivationComplete .. => none
  | .cxlResetComplete .. => none
  | .boostRestart .. => none
  | .unknownLodeMessageType .. => none

/-- The claimant whose CXL.io request a command is; `none` for what does not arrive through a BAR. -/
def ioWho : Instr → Option (Fin 17)
  | .scrubStart ld => some (whoOf ld)
  | .scrubAbort ld => some (whoOf ld)
  | .commitDoorbell ld .. => some (whoOf ld)
  | .abortDoorbell ld .. => some (whoOf ld)
  | .regionEnable ld => some (whoOf ld)
  | .regionDisable ld => some (whoOf ld)
  | .hdmDecoderCommit ld .. => some (whoOf ld)
  | .registerWrite ld .. => some (whoOf ld)
  | .notifClaim who .. => some who
  | .notifEoi who .. => some who
  | .notifQconsWrite ld .. => some (whoOf ld)
  | .notifQueueEnable ld => some (whoOf ld)
  | .clrlost ld => some (whoOf ld)
  | .unwind who => some who
  | .pmonSnapshot who => some who
  | .pmonClear who => some who
  | .sampleBankRelease who .. => some who
  | .samplingEnable who => some who
  | .cleanByAddress who .. => some who
  | .invalidateByAddress who .. => some who
  | .cleanInvalidateByAddress who .. => some who
  | .cleanBySetWay who .. => some who
  | .invalidateBySetWay who .. => some who
  | .cleanInvalidateBySetWay who .. => some who
  | .cacheSync who .. => some who
  | .rangeStart who => some who
  | .rangeAbort who => some who
  | .spadAddWrite who .. => some who
  | .spadSwapWrite who .. => some who
  | .atomicFetchAdd ld .. => some (whoOf ld)
  | .atomicSwap ld .. => some (whoOf ld)
  | .atomicCompareAndSwap ld .. => some (whoOf ld)
  | _ => none

/-- Whether a command is a posted write of a port: a CXL.io request other than the reads. -/
def posted (s : State) (p : Fin 2) (c : Instr) : Bool :=
  match c with
  | .cacheSync .. => false
  | .notifClaim .. => false
  | _ => (ioWho c).any fun w => decide (w.val < 16) && s.portOf (ldOf w.val) == p

/-- Whether a command is a write to the maintenance queue (Table 13-3). -/
def maintWrite : Instr → Bool
  | .cleanByAddress .. => true
  | .invalidateByAddress .. => true
  | .cleanInvalidateByAddress .. => true
  | .cleanBySetWay .. => true
  | .invalidateBySetWay .. => true
  | .cleanInvalidateBySetWay .. => true
  | _ => false

/-- Whether a waiting command is lost with the mailbox registers of an LD: a doorbell whose command has not started; a release under way goes
on (R248, R258). -/
def waitsOn (n : Fin 16) (c : Instr) : Bool :=
  match c with
  | .releaseDc .. => false
  | _ => match request c with
    | some (r, _) => r.inst == .ld n
    | none => false

/-- Waiting commands of LDs are dropped. -/
def State.dropHeld (s : State) (f : Instr → Bool) : State := { s with held := s.held.filter fun c => !f c }

end Sys2Proof.Machine
end

