-- ==== Sys2Proof/Machine/PowerOps.lean ====
section
/-! DEFINITION. What the end of a power-on does, shared by every family that can end one: the volatile state of the data die,
shutdown records, faults (16_power_and_holdup.md R382 to R391; 17_startup_and_recovery.md R404, Table 17-6). -/

namespace Sys2Proof.Machine

/-- Life-cycle states by code (Table 14-7). -/
def LifeCycle.code : LifeCycle → Nat
  | .blank => 0
  | .provisioned => 1
  | .deployed => 2
  | .returned => 3
  | .decommissioned => 4

/-- The life-cycle state of a code. -/
def lcOf (n : Nat) : LifeCycle :=
  if n = 0 then .blank else if n = 1 then .provisioned else if n = 2 then .deployed else if n = 3 then .returned else .decommissioned

/-- The life-cycle state: the higher of the fuse ladder and the keeper's copy (14_security_and_lifecycle.md R350). -/
def Sec.lc (x : Sec) : LifeCycle := if x.fuseLC.code < x.keepLC.code then x.keepLC else x.fuseLC

/-- A shutdown record is appended when a run record has been since the last one (R391). -/
def State.shutdownRec (s : State) (code : Nat) : State :=
  if s.kp.endRec = .run then ({ s with kp := { s.kp with endRec := .shutdown code } }).save 1 else s

/-- LAST_SHUTDOWN of Table 16-8. -/
def EndRec.last : EndRec → Nat
  | .none => 0
  | .run => 6
  | .shutdown c => c

/-- Whether the dirty shutdown count rises for a LAST_SHUTDOWN (R40, Table 16-8). -/
def dirtyEnd (c : Nat) : Bool := !(c == 0 || c == 1 || c == 4)

/-- The registers of an LD that a power-up of the data die resets; groups stay as they were, for replay (R175, R179), and so
does what the LD keeps for good: its partition, LSA, passphrases, alert thresholds and the scrub's last summary. -/
def LD.down (l : LD) : LD :=
  { LD.init with
    enabled := l.enabled, partBase := l.partBase, partSize := l.partSize, weightF := l.weightF, limitN := l.limitN,
    lifeWarn := l.lifeWarn, hotWarn := l.hotWarn, coldWarn := l.coldWarn, lsa := l.lsa,
    pass := { l.pass with locked := l.pass.user.isSome, frozen := false, userTries := 0, masterTries := 0 },
    wins := l.wins.map fun w => { w with recPartner := false, dbrej := false, dbcause := 0, dbWait := none },
    scrub := { Scrub.init with snum := l.scrub.snum, counts := l.scrub.durable, durable := l.scrub.durable, last := l.scrub.last,
                               incomplete := (l.scrub.busy && !l.scrub.scan) || l.scrub.incomplete } }

/-- The write path with the power gone: queues and interlocks empty; entries on the media stay. -/
def Wp.down (w : Wp) : Wp :=
  { Wp.init with seq := w.seq, pairs := w.pairs, marksAt := w.marksAt, entries := w.entries, index := w.index, tents := w.tents, reserve := w.reserve,
                 marks := w.marks }

/-- Moving exists only in package DRAM (R107): a moving granule is live at its source. -/
def MapEnt.settle (m : MapEnt) : MapEnt := if m.state = .moving then { m with state := .live } else m

/-- The segments of a set that are victims, or were being reset. -/
def Fo.victims (f : Fo) (k : Fin 4) : List SegKey :=
  f.segs.filterMap fun e => if (e.2.state = .victim ∨ e.2.state = .resetting) ∧ e.1 / 2 ^ 36 = k.val then
    some ⟨k, ⟨e.1 / 2 ^ 32 % 16, Nat.mod_lt _ (by omega)⟩, e.1 % 2 ^ 32⟩ else none

/-- The fold and copy engines with the power gone: bands in progress are torn and discarded, resets are repeated, and victims are copied
again (R36, R388, Table 05-10). -/
def Fo.down (f : Fo) : Fo :=
  { f with map := f.map.map fun e => (e.1, e.2.settle), bands := [], folds := [], moves := [], orderQ := .replicate 4 [],
           copyQ := .ofFn f.victims, autonomous := .replicate 4 false, relQ := [],
           segs := f.segs.map fun e => (e.1, if e.2.state = .resetting then { e.2 with state := .victim } else e.2) }

/-- Keys of the secure bank are cleared with the data die (R331). -/
def SealedKey.unload (k : SealedKey) : SealedKey := { k with loaded := false }

/-- Security state of the data die with the power gone (R278, R331, R347). -/
def Sec.down (x : Sec) : Sec :=
  { x with keyTree := x.keyTree.unload, keyPlace := x.keyPlace.unload, keyCacheIx := none, keyWrap := x.keyWrap.unload,
           keyPass := x.keyPass.unload, keyCust := x.keyCust.unload, spdmPhase := .replicate 18 .start, spdm := .replicate 4 .free,
           romOnly := false, mac := none, katFailed := false }

/-- Lode ports with the power gone; tethers are kept, and pair again (R356, R360). -/
def Lo.down (l : Lo) : Lo :=
  { Lo.init with tethers := l.tethers.map fun t =>
      { t with state := if t.state = .inSync ∨ t.state = .syncing ∨ t.state = .absent then .pairing else t.state, key := t.key.unload, rxq := [], sent := [],
               recs := [], pos := 0, walkAll := false, unsent := [], rs := [] }, levels := l.levels, proto := l.proto }

/-- Redundancy at power-off: windows and roles end; states stay as recorded (Tables 09-5, 09-6). -/
def Rd.down (r : Rd) : Rd :=
  { r with windows := .replicate 5 none, located := .replicate 5 0, suspectSince := .replicate 64 none, cores := coresInit }

/-- Whether a waiting command is the keeper's to serve once the data die is off: a request on instance 0x0101 (R274). -/
def keeperWaits (c : Instr) : Bool := match request c with
  | some (r, _) => r.inst == .i3c
  | none => false

/-- A write past stage 4 has taken its line's next counter; with the write lost, the counter is again that of the version the index or the
map names, as the counter search of R202 finds it. -/
def State.dropCounters (s : State) : State :=
  s.wp.ilocks.foldl (fun (s : State) (l : ILock) =>
    let b := s.block (pageOf l.line)
    if l.nonce.seqDom = false ∧ l.nonce.major = b.major then
      s.setBlock (pageOf l.line) { b with minors := tput 0 (l.line % 64) l.nonce.minor b.minors }
    else s) s

/-- A rekey goes on from its last durable watermark (R207): the pages beyond it that are under the next key already are marked EARLY, so that
the engine does not re-encrypt them again. -/
def State.rewindW (s : State) : State :=
  (allFin 256).foldl (fun (s : State) r =>
    let x := s.cr.regions[r]
    let d := x.durW.getD x.w
    if x.state = .rekeying ∧ d < x.w then
      let pages := (List.range (x.w - d)).filterMap fun i =>
        if s.regionOf ((d + i) * 64) = r ∧ s.pageWritten (d + i) ∧ (s.block (d + i)).early = false then some (d + i) else none
      let s := pages.foldl (fun (s : State) p => s.setBlock p { s.block p with early := true }) s
      s.modRegion r fun y => { y with w := d, early := y.early + pages.length }
    else s) s

/-- The entries whose map switch the journal holds are released, though step 7 of their folds has not come (R25, R54). -/
def State.releaseFolded (s : State) : State :=
  s.fo.relQ.foldl (fun (s : State) c => s.modEntry (placeOf c) fun e => { e with released := true }) s

/-- The data die and every rail lose their power: what is volatile returns to its power-up value (Table 17-6). The patrol
parameters stay (log 88). -/
def State.dieDown (s : State) : State :=
  let ready := s.lk.mediaReady
  let s := s.dropCounters.rewindW.releaseFolded
  { s with
    held := s.held.filter keeperWaits
    pw := { s.pw with dieUp := false, dataPath := false, railsUp := 0, holdupReady := false, armed := false, present := s.pw.selected,
                      target := none, nextPoint := none, pointWaiters := [], wideWindow := false },
    kp := { s.kp with groupReport := .ofFn fun n => .ofFn fun w =>
      let g := (s.kp.groupReport[n])[w]
      { g with enabled := if ready then (s.ld n).cw.en else g.enabled } },
    sec := s.sec.down, th := { s.th with level := 0, trend := none, media := [] }, md := { s.md with trained := .replicate 64 false, crcRun := .replicate 64 0 },
    lk := { s.lk with ports := .replicate 2 .init, mediaReady := false, mediaStatus := .notReady, memActive := false, grant := none, gpf := [],
                      fatal := s.lk.fatal },
    lds := s.lds.map LD.down, wp := s.wp.down, rp := .init, fo := s.fo.down,
    dr := { s.dr with sweep := false, blocks := s.dr.blocks.map fun b => (b.1, { b.2 with est := false, pend := false }),
                      dies := s.dr.dies.map fun d => (d.1, { d.2 with pilots := 0, gaps := [], done := false }) },
    cr := { s.cr with dirty := [] , held := [] }, rd := s.rd.down,
    mb := { Mb.init with sanitize := s.mb.sanitize, keeperSess := s.mb.keeperSess, keeperHandle := s.mb.keeperHandle },
    nt := .init, pm := .init, ca := .init, sp := .init, lo := s.lo.down,
    ev := { s.ev with fmPolicy := .replicate 4 0, ring := [], dropped := 0, rate := [], supp := [],
                      blockEnd := if s.pw.dieUp then s.ev.seq else s.ev.blockEnd },
    bt := { s.bt with phase := .off } }

/-- Every rail is off and the keeper is in a state where nothing runs. -/
def State.powerOff (s : State) (st : PowerState) : State :=
  let s := s.dieDown
  { s with pw := { s.pw with st := st, step := 1, offMinDone := false, latched := .none, flushPre := false, flushCause := .none,
                             flushRec := none, pfailOut := false, meden := false, boostOn := false, charging := false,
                             mediaHold := none, mediaCool := none } }

/-! ### The PSC bus (R441) -/

/-- The stripe sets of the population. -/
def State.popSets (s : State) : List Nat := List.range (s.hw.channels / 16)

/-- Address of the stage of media rail 9, 10 or 11 for a set (R441). -/
def pscAddr (rail set : Nat) : Nat := 0x20 + 4 * (rail - 9) + set

/-- VOUT_COMMAND of a media rail: its nominal voltage in units of 2^-12 V, the nearest (Table 16-2, log 98). -/
def pscVout (rail : Nat) : Nat := ((if rail = 9 then 1200 else if rail = 10 then 2500 else 4500) * 4096 + 500) / 1000

/-- The commands of step 8 for a media rail (R441): VOUT_MODE read, VOUT_COMMAND and OPERATION 0x80 written, at each populated set. -/
def State.pscOn (s : State) (rail : Nat) : State :=
  if rail < 9 ∨ 11 < rail then s
  else s.popSets.foldl (fun (s : State) k =>
    ((s.emit (.psc (pscAddr rail k) 0x20 none)).emit (.psc (pscAddr rail k) 0x21 (some (pscVout rail)))).emit (.psc (pscAddr rail k) 0x01 (some 0x80))) s

/-- OPERATION 0x00 to the stages of the media rails that were enabled, in reverse order (R441). -/
def State.pscOff (s : State) : State :=
  ([11, 10, 9].filter fun r => decide (r ≤ s.pw.railsUp + 1)).foldl (fun (s : State) r =>
    s.popSets.foldl (fun (s : State) k => s.emit (.psc (pscAddr r k) 0x01 (some 0))) s) s

/-- The rails go down in reverse order (R382, R441). -/
def State.reverseDown (s : State) (st : PowerState) : State := s.pscOff.powerOff st

/-- The keeper removes power as for a running-rail fault, with what it records besides the shutdown record (R383, R385): every rail at once,
shutdown record 0x03, and a restart 1 s later. A second one within 10 min of a restart that followed one, or no retry left, sends the keeper to
lockout. -/
def State.faultOff (s : State) (note : State → State) : State :=
  let again : Bool := match s.pw.lastFaultAt with
    | some t => decide (s.now - t ≤ secTicks 600)
    | none => false
  let s := s.powerOff (if again ∨ s.pw.retriesLeft = 0 then .lockout else .off)
  let s := note (s.shutdownRec 3)
  if s.pw.st = .lockout then s.save 2
  else { s with pw := { s.pw with faultWait := true, faultRestartAt := some (s.now + secTicks 1) } }

/-- A running-rail fault (R385): event 0x4002 names the rail and its voltage. -/
def State.railFault (s : State) (org mv : Nat) : State := s.faultOff fun t => t.event 0x4002 3 org mv 0 0 0

/-- The keeper removes power as for a running-rail fault (R235, Table 13-9), without a rail to name (log 37). -/
def State.pathFault (s : State) : State := s.faultOff id

end Sys2Proof.Machine
end

