-- ==== Sys2Proof/Machine/ReadPath.lean ====
section
/-! DEFINITION. The commands of the read path (04_read_path.md R70 to R92; 08_inline_encryption.md R191, R200, R212;
13_cache_and_on_chip_memory.md R315 to R317, R326; 19_media_channels.md R434, R436). -/

namespace Sys2Proof.Machine

/-! ### Channels and queues -/

/-- The channel that a Peat read of a line goes to. -/
def State.peatChan (s : State) (line : Nat) : Fin 64 :=
  chanOf (s.setOf (granOf line)) (s.slotPos (granOf line) (line % 256))

/-- One more or one less read on a channel. -/
def State.readAdd (s : State) (c : Fin 64) (up : Bool) : State :=
  { s with rp := { s.rp with readQ := vmod s.rp.readQ c fun n => if up then n + 1 else n - 1 } }

/-- Changes a tracker entry. -/
def State.modRead (s : State) (id : Nat) (f : Read → Read) : State :=
  { s with rp := { s.rp with tracker := s.rp.tracker.map fun (r : Read) => if r.id = id then f r else r } }

/-- A tracker entry leaves. -/
def State.dropRead (s : State) (id : Nat) : State :=
  { s with rp := { s.rp with tracker := s.rp.tracker.filter fun (r : Read) => r.id ≠ id } }

/-- A tracker entry by its number. -/
def State.readOf (s : State) (id : Nat) : Option Read := s.rp.tracker.find? fun (r : Read) => r.id == id

/-- Finished reads enter the response buffer of 1,024 while it has room, and leave the tracker (R88). -/
def State.respond (s : State) : State :=
  s.rp.tracker.foldl (fun s (r : Read) =>
    if r.path = .finished then
      if r.src = .host then
        if s.rp.rsp.length < 1024 then
          { s with rp := { s.rp with rsp := s.rp.rsp ++ [⟨r.ld, r.line, r.data, r.poison⟩],
                                     tracker := s.rp.tracker.filter fun (x : Read) => x.id ≠ r.id } }
        else s
      else s.dropRead r.id
    else s) s

/-- A read ends with a line or with poison, its own or that of bad parity (R332); the data of a poisoned DRS is zero (R251). -/
def State.finishRead (s : State) (id : Nat) (data : Line) (poison : Bool) : State :=
  (s.modRead id fun r => { r with path := .finished, data := if poison || r.poison then 0 else data, poison := poison || r.poison }).respond

/-! ### Copies, suspensions and channel queues (R81, R87 to R89) -/

/-- Whether a read waits for the media. -/
def RPath.sensing : RPath → Bool
  | .tentative _ => true
  | .shallows .. => true
  | .peat .. => true
  | _ => false

/-- The Shallows slot that a path reads. -/
def RPath.place : RPath → Option Place
  | .tentative p => some p
  | .shallows p _ => some p
  | _ => none

/-- Whether a read through a channel takes the second copy of a place. -/
def State.secondOn (s : State) (p : Place) (c : Fin 64) : Bool := match s.pairOf p with
  | some x => chanOf p.set x.ch0 ≠ c
  | none => false

/-- The tile that a read through a channel senses. -/
def State.readTile (s : State) (r : Read) (c : Fin 64) : Option Tile := match r.path with
  | .peat lane frame => some (vyPeat (s.lineBlock r.line lane frame)).at_
  | _ => r.path.place.map fun p => (s.vyCopy p (s.secondOn p c)).at_

/-- Whether a tile is busy: an operation is under way, or a queued read senses it. -/
def State.tileBusy (s : State) (t : Tile) : Bool :=
  !(s.tileOps t).isEmpty || s.rp.tracker.any fun (x : Read) => match x.chan with
    | some c => s.readTile x c == some t
    | none => false

/-- The channel a Shallows read chooses: that of the copy whose tile is idle, else of the shorter read queue, else by bit 0 of H; one that is
out of service is not chosen (R81). -/
def State.shChan (s : State) (line : Nat) (p : Place) : Fin 64 :=
  match s.pairOf p with
  | none => chanOf p.set 0
  | some x =>
    let a := chanOf p.set x.ch0
    let b := chanOf p.set x.ch1
    let busyA := s.tileBusy (s.vyCopy p false).at_
    let busyB := s.tileBusy (s.vyCopy p true).at_
    if s.rd.chans[a].gone then b
    else if s.rd.chans[b].gone then a
    else if busyA ≠ busyB then (if busyA then b else a)
    else if s.rp.readQ[a] < s.rp.readQ[b] then a else if s.rp.readQ[b] < s.rp.readQ[a] then b
    else if (Config.lineHash s.sec.keyPlace.get line).getLsbD 0 then b else a

/-- The channel a read chooses. -/
def State.readChan (s : State) (r : Read) : Fin 64 := match r.path.place with
  | some p => s.shChan r.line p
  | none => s.peatChan r.line

/-- Whether a read waits in its tracker entry for room in a channel's queue. -/
def State.waitsFor (s : State) (r : Read) (c : Fin 64) : Bool := r.path.sensing && r.chan.isNone && s.readChan r == c

/-- Whether a channel's queue of 64 takes a read: while another LD waits for it an LD holds at most 16 entries, and prefetches hold at most 16
and enter below 48 (R88, R89, R91; log 65). -/
def State.queueRoom (s : State) (r : Read) (c : Fin 64) : Bool :=
  let mine := (s.rp.tracker.filter fun (x : Read) => x.chan == some c && x.ld == r.ld).length
  let pf := (s.rp.tracker.filter fun (x : Read) => x.chan == some c && x.src == .prefetch).length
  decide (s.rp.readQ[c] < 64) && (r.src != .prefetch || decide (pf < 16) && decide (s.rp.readQ[c] < 48)) &&
  !(decide (16 ≤ mine) && s.rp.tracker.any fun (x : Read) => x.ld != r.ld && s.waitsFor x c)

/-- A read suspends the operation under way on a tile (R87): one more of its suspensions, with SUSPEND and RESUME on the channel. -/
def State.suspend (s : State) (t : Tile) (a : VyBlock) : State :=
  match s.tileOps t with
  | [] => s
  | o :: _ =>
    let rest := s.rp.susp.filter fun x => x.1 ≠ o && s.opRuns x.1
    let s : State := { s with rp := { s.rp with susp := (o, s.suspOf o + 1) :: rest } }
    (s.vyvon a .suspend).vyvon a .resume

/-- The sense of a read through a channel: SENSE1 or SENSE3 at the predicted references, and XFER_OUT (R82, R430). -/
def State.sense (s : State) (r : Read) (c : Fin 64) : State := match r.path with
  | .peat lane frame =>
    let b := s.lineBlock r.line lane frame
    ((s.vyvon (vyPeat b) (.sense3 (peatSlotNo frame r.line) (s.refs b (frame % 70 / 10)))).vyvon (vyPeat b) .xferOut)
  | _ => match r.path.place with
    | some p => (s.vyvon (s.vyCopy p (s.secondOn p c)) (.sense1 p.slot)).vyvon (s.vyCopy p (s.secondOn p c)) .xferOut
    | none => s

/-- A read enters a channel's queue. -/
def State.enqueue (s : State) (r : Read) (c : Fin 64) : State :=
  ((s.readAdd c true).modRead r.id fun x => { x with chan := some c }).sense r c

/-- Reconstruction of a read starts, while the engine of 64 rows has room (R88): the blocks of its row without an estimate take pilot reads. -/
def State.startRebuild (s : State) (r : Read) : State :=
  if r.recovering ∨ 64 ≤ s.rp.rcn then s
  else
    let s := match r.path with
      | .peat lane frame => s.wantPilots (segBlocks (s.lineBlock r.line lane frame).seg)
      | _ => s
    let t := s.modRead r.id fun x => { x with recovering := true }
    { t with rp := { t.rp with rcn := t.rp.rcn + 1 } }

/-- A read reaches its tile (R87, Table 04-5): it suspends the operation there; with the allowance used up a Shallows read takes the other copy,
and a Peat read starts reconstruction, but waits where a 1-bit program is under way (log 94). -/
def State.reachTile (s : State) (r : Read) (c : Fin 64) : State :=
  match s.readTile r c with
  | none => s.enqueue r c
  | some t =>
    if s.tileBlocked t then
      match r.path.place with
      | some p =>
        let d := match s.pairOf p with
          | some x => if s.secondOn p c then chanOf p.set x.ch0 else chanOf p.set x.ch1
          | none => c
        let u := (s.vyCopy p (s.secondOn p d)).at_
        if s.rd.chans[d].gone ∨ s.tileBlocked u ∨ s.queueRoom r d = false then s.enqueue r c
        else (s.suspend u (s.vyCopy p (s.secondOn p d))).enqueue r d
      | none =>
        if (s.tileOps t).any (fun o => match o with | .slotProgram .. => true | _ => false) then s.enqueue r c
        else (s.enqueue r c).startRebuild r
    else
      let a := match r.path with
        | .peat lane frame => vyPeat (s.lineBlock r.line lane frame)
        | _ => match r.path.place with
          | some p => s.vyCopy p (s.secondOn p c)
          | none => vyPeat ⟨⟨0, 0, 0⟩, 0⟩
      (s.suspend t a).enqueue r c

/-- A read enters the queue of the channel it chooses, if that has room. -/
def State.tryQueue (s : State) (r : Read) : State :=
  if s.queueRoom r (s.readChan r) then s.reachTile r (s.readChan r) else s

/-- Reads that wait for room in a channel's queue enter it: hosts' in order, then prefetches (R88, R89). -/
def State.fillQueues (s : State) : State :=
  let wait := s.rp.tracker.filter fun (r : Read) => r.path.sensing && r.chan.isNone
  ((wait.filter fun r => r.src != .prefetch) ++ wait.filter fun r => r.src == .prefetch).foldl State.tryQueue s

/-- A read leaves its channel's queue and the reconstruction engine. -/
def State.leaveQueue (s : State) (r : Read) : State :=
  let s := match r.chan with
    | some c => s.readAdd c false
    | none => s
  let s : State := if r.recovering then { s with rp := { s.rp with rcn := s.rp.rcn - 1 } } else s
  s.modRead r.id fun x => { x with chan := none, recovering := false }

/-! ### Prefetch (R90, R91) -/

/-- Whether a line may be prefetched for an LD (R91). -/
def State.mayPrefetch (s : State) (n : Fin 16) (line : Nat) : Bool :=
  (s.ld n).prefetch && s.ca.en && s.allocated n line && (s.cacheFind line).isNone &&
  ((s.ld n).decoded.any fun d => decide (d.1 ≤ line * 64) && decide (line * 64 < d.1 + d.2)) &&
  ((s.mapEnt (granOf line)).state ≠ .unwritten) &&
  s.rp.tracker.all fun (r : Read) => !(r.src == .prefetch && r.line == line)

/-- Whether a prefetch can be issued now: its channel's queue holds fewer than 48 reads, and the tracker has room (R88, R91). -/
def State.pfReady (s : State) (line : Nat) : Bool := decide (s.rp.readQ[s.peatChan line] < 48) && decide (s.rp.tracker.length < 4096)

/-- A prefetch takes a tracker entry. -/
def State.issuePrefetch (s : State) (n : Fin 16) (line : Nat) : State :=
  let s := s.pmCount 0x010 ⟨some n.val, none, none⟩
  let (id, s) := s.newId
  let r : Read := { id := id, ld := n, line := line, win := none, src := .prefetch, arrived := s.now, path := .lookup, nonce := noNonce,
                    lookupTick := s.now, fillOk := true, runAhead := none, chan := none, paused := s.rp.paused, recovering := false, data := 0,
                    poison := false }
  { s with rp := { s.rp with tracker := s.rp.tracker ++ [r] } }

/-- A prefetch enters the prefetch queue of 512; the oldest is dropped when it is full. Lines are queued with their LD. -/
def State.queuePrefetch (s : State) (n : Fin 16) (line : Nat) : State :=
  let q := s.rp.pfQ ++ [line * 16 + n.val]
  if 512 < q.length then ({ s with rp := { s.rp with pfQ := q.drop 1 } }).pmCount 0x034 noTag
  else { s with rp := { s.rp with pfQ := q } }

/-- Prefetches leave their queue: dropped when they may not be issued, issued when they can be; the others stay. -/
def State.runPrefetch (s : State) : State :=
  s.rp.pfQ.foldl (fun s x =>
    if s.mayPrefetch (ldOf x) (x / 16) = false then s
    else if s.pfReady (x / 16) then s.issuePrefetch (ldOf x) (x / 16)
    else { s with rp := { s.rp with pfQ := s.rp.pfQ ++ [x] } }) { s with rp := { s.rp with pfQ := [] } }

/-- The lines a detector prefetches at its confirming accesses (R90). -/
def aheadLines (line : Nat) (stride : Int) (confirms : Nat) : List Nat :=
  let n := if confirms < 3 then 0 else if confirms = 3 then 4 else if confirms = 4 then 8 else 16
  (List.range n).filterMap fun i =>
    let x : Int := line + stride * (i + 1)
    if 0 ≤ x then some x.toNat else none

/-- A demand read takes, trains or confirms a stride detector, most recently used first. -/
def State.detect (s : State) (n : Fin 16) (line : Nat) : State :=
  let hit := s.rp.detectors.find? fun (d : Detector) => d.ld == n && match d.stride with
    | some k => decide ((line : Int) = d.line + k)
    | none => d.line ≠ line && decide (line ≤ d.line + 32) && decide (d.line ≤ line + 32)
  match hit with
  | some d =>
    let rest := s.rp.detectors.filter fun (x : Detector) => x ≠ d
    match d.stride with
    | none => { s with rp := { s.rp with detectors := { d with line := line, stride := some ((line : Int) - d.line) } :: rest } }
    | some k =>
      let d := { d with line := line, confirms := d.confirms + 1, lastTick := s.now }
      let s := { s with rp := { s.rp with detectors := d :: rest } }
      ((aheadLines line k d.confirms).foldl (fun s l => if s.mayPrefetch n l then s.queuePrefetch n l else s) s).runPrefetch
  | none =>
    if s.ca.en ∧ (s.cacheFind line).isSome then s
    else { s with rp := { s.rp with detectors := (⟨n, line, none, 0, s.now⟩ :: s.rp.detectors).take 256 } }

/-! ### Stage 1 and 2 -/

/-- Whether the read cap lets a read leave the receive buffer (R423): 40 GB/s of lines, by the millisecond (log 12). -/
def State.readCapOk (s : State) : Bool :=
  !s.readCap || s.rp.bytesTick ≠ s.now / 800000 || decide (s.rp.bytesMs < 625000)

/-- A read is counted against the read cap. -/
def State.countRead (s : State) : State :=
  let m := s.now / 800000
  { s with rp := { s.rp with bytesMs := if s.rp.bytesTick = m then s.rp.bytesMs + 1 else 1, bytesTick := m } }

/-- The run-ahead read (R72): predictor hit, at most 32 reads queued, the target block estimated. -/
def State.runAhead (s : State) (line : Nat) : Option (Fin 16 × Nat) :=
  match tfind s.rp.predictor (granOf line) with
  | some (lane, frame) =>
    if s.rp.readQ[s.peatChan line] ≤ 32 ∧ (s.drBlk (s.lineBlock line lane frame)).est then some (lane, frame) else none
  | none => none

/-- Stage 1 of a read (R70, R249, R466): zeros where the capacity is not allocated, else a tracker entry, the stride
detectors and the run-ahead read. A commit-window read touches no detector (log 81). -/
def State.stage1Read (s : State) (r : RxReq) : State :=
  let s := ((s.countLeft r.ld).countRead).pmCount 0x001 ⟨some r.ld.val, none, none⟩
  match s.resolve r.ld r.addr with
  | none =>
    let s := (s.violate (whoOf r.ld) 5 (s.addrNum r.ld r.addr)).pmCount 0x008 ⟨some r.ld.val, none, none⟩
    { s with rp := { s.rp with rsp := s.rp.rsp ++ [⟨r.ld, s.addrNum r.ld r.addr / 64, 0, false⟩] } }
  | some (line, win) =>
    let ahead := s.runAhead line
    let x : Read := { id := r.id, ld := r.ld, line := line, win := win, src := .host, arrived := r.tick, path := .lookup, nonce := noNonce,
                      lookupTick := s.now, fillOk := true, runAhead := ahead, chan := none, paused := r.paused, recovering := false, data := 0,
                      poison := false }
    let s : State := { s with rp := { s.rp with tracker := s.rp.tracker ++ [x] } }
    let s := if ahead.isSome then s.readAdd (s.peatChan line) true else s
    if win.isNone then s.detect r.ld line else s

/-- Reads leave the receive buffer while the tracker and the response buffer have room (R88). -/
def State.drainReads (s : State) : State :=
  s.rp.rx.foldl (fun s r =>
    if s.credits r.ld ∧ s.rp.tracker.length < 4096 ∧ s.rp.rsp.length < 1024 ∧ s.readCapOk ∧ s.pw.dataPath then s.stage1Read r
    else { s with rp := { s.rp with rx := s.rp.rx ++ [r] } }) { s with rp := { s.rp with rx := [] } }

/-- A read request reaches the receive buffer of 1,024 reads. -/
def State.arriveRead (s : State) (kind : Nat) (ld : Fin 16) (addr : Addr) : State :=
  if s.reachable ld ∧ s.rp.rx.length < 1024 then
    let (id, s) := s.newId
    let r : RxReq := ⟨id, kind, ld, addr, 0, 0, false, s.now, s.rp.paused⟩
    ({ s with rp := { s.rp with rx := s.rp.rx ++ [r] } }).drainReads
  else s

/-- Room that a read left is taken: by reads that wait for a channel, by prefetches, and from the receive buffer (R88). -/
def State.moveReads (s : State) : State := s.fillQueues.runPrefetch.drainReads

/-- MEM_RD (R70). -/
def execMemRd (ld : Fin 16) (addr : Addr) (s : State) : Host.Outcome State Fault Refusal :=
  s.done (s.arriveRead 0 ld addr)

/-- MEM_RD_DATA (R70). -/
def execMemRdData (ld : Fin 16) (addr : Addr) (s : State) : Host.Outcome State Fault Refusal :=
  s.done (s.arriveRead 1 ld addr)

/-- MEM_SPEC_RD (Table 10-2): accepted and dropped; counted nowhere (log 26). -/
def execMemSpecRd (_ld : Fin 16) (_addr : Addr) (s : State) : Host.Outcome State Fault Refusal := .next s

/-- MemInv and MemInvNT complete with Cmp at stage 1; a request to capacity not allocated is counted (R249, Table 10-2). -/
def State.memInv (s : State) (n : Fin 16) (a : Addr) : State :=
  if s.reachable n ∧ s.lk.memActive then
    let s := if (s.resolve n a).isNone then s.violate (whoOf n) 5 (s.addrNum n a) else s
    s.emit (.cmp n)
  else s

/-- MEM_INV (R466). -/
def execMemInv (ld : Fin 16) (addr : Addr) (s : State) : Host.Outcome State Fault Refusal := .next (s.memInv ld addr)

/-- MEM_INV_NT (R466). -/
def execMemInvNt (ld : Fin 16) (addr : Addr) (s : State) : Host.Outcome State Fault Refusal := .next (s.memInv ld addr)

/-- DETECTOR_TIMEOUT (R90): a detector that has seen no confirming access for 64 µs is freed. -/
def execDetectorTimeout (ld : Fin 16) (line : Nat) (s : State) : Host.Outcome State Fault Refusal :=
  match s.rp.detectors.find? fun (d : Detector) => d.ld == ld && d.line == line with
  | some d =>
    let t := s.since d.lastTick (usTicks 64)
    .next { t with rp := { t.rp with detectors := t.rp.detectors.filter fun (x : Detector) => x ≠ d } }
  | none => .next s

/-! ### Resolution (R73, R74, R79, R165) -/

/-- A tentative record of a window's open or committing group. -/
def State.tentOf (s : State) (n : Fin 16) (w : Fin 64) (line : Nat) : Option TentRec :=
  s.wp.tents.find? fun (t : TentRec) => t.ld == n && t.win == w && t.line == line && s.groupIs n w t.gseq

/-- Whether a line has a tentative record in any open or committing group (R77). -/
def State.hasTent (s : State) (line : Nat) : Bool := s.wp.tents.any fun (t : TentRec) => t.line == line && s.groupIs t.ld t.win t.gseq

/-- The path of Table 04-2, with the nonce of the version chosen. -/
def State.resolvePath (s : State) (n : Fin 16) (win : Option (Fin 64)) (line : Nat) : RPath × Nonce :=
  match win.bind fun w => s.tentOf n w line with
  | some t => if t.psn then (.poison, noNonce) else (.tentative t.place, t.nonce)
  | none =>
    if s.ca.en ∧ (s.cacheFind line).isSome then (.cache, noNonce)
    else
      match tfind s.wp.index line with
      | some r =>
        if r.psn then (.poison, noNonce)
        else
          let p := s.recPlace line r
          (.shallows p r.schk, match s.entryAt p with | some e => s.entryNonce e | none => noNonce)
      | none =>
        let m := s.mapEnt (granOf line)
        match m.state with
        | .unwritten => (.zero, noNonce)
        | .poisoned => (.poison, noNonce)
        | _ => (.peat m.lane m.frame, s.lineNonce line)

/-- The performance-monitor event of a path (Table 12-9). -/
def pathEvent : RPath → Nat
  | .cache => 0x004
  | .tentative _ => 0x005
  | .shallows .. => 0x005
  | .peat .. => 0x006
  | _ => 0x008

/-- An access to package DRAM (R326): a located stack is counted; a lost line of the cache reads as a miss; a loss in another
structure stops the device (Table 13-9). `none` when the device stopped. -/
def State.dramSeen (s : State) (line : Nat) (d : DramAccess) : Option State :=
  match d with
  | .ok => some s
  | .located k => some { s with rd := { s.rd with located := vmod s.rd.located k (· + 1) } }
  | .lost => if (s.cacheFind line).isSome ∧ s.ca.en then some (s.cacheDrop line) else none

/-- The run-ahead read of a read leaves its channel's queue: confirmed when it is of the very slot chosen, else squashed. A squashed read that was
sensing finishes, and adds only to the read-disturb count (R74, R75; log 18). -/
def State.settleAhead (s : State) (r : Read) (p : RPath) : State :=
  match r.runAhead with
  | none => s
  | some (lane, frame) =>
    let s := s.readAdd (s.peatChan r.line) false
    if p = .peat lane frame then s
    else
      let (n, s) := s.draw
      if Config.freeSensing n then
        let k := segOfFrame (s.setOf (granOf r.line)) lane frame
        let s := s.countRdc k 1
        { s with rp := { s.rp with squashed := (k, s.now) :: s.rp.squashed.filter fun x => s.now - x.2 < 240 } }
      else s

/-- A cache hit: AGE, and the response. -/
def State.serveCache (s : State) (r : Read) : State :=
  match s.cacheFind r.line with
  | some c =>
    let s := { s with ca := { s.ca with lines := cacheUse s.ca.lines c } }
    s.finishRead r.id c.data false
  | none => s

/-- The media read of a read is issued: a pilot read first where a Peat block has no estimate (R141), reconstruction where its block cannot be
read (R217), then its channel's queue. -/
def State.issueRead (s : State) (id : Nat) : State :=
  match s.readOf id with
  | none => s
  | some r =>
    let s := match r.path with
      | .peat lane frame =>
        let b := s.lineBlock r.line lane frame
        if s.blockUp b then s.wantPilot b else s.startRebuild r
      | _ => s
    match s.readOf id with
    | some r => s.tryQueue r
    | none => s

/-- Whether a prefetch goes no further: a line already cached, zero, poisoned, or a block without an estimate (R91, R141). -/
def State.prefetchEnds (s : State) (line : Nat) : RPath → Bool
  | .shallows .. => false
  | .peat lane frame => !(s.drBlk (s.lineBlock line lane frame)).est
  | _ => true

/-- Stage 3 of a read: its lookup point (R71, R73). -/
def State.lookup (s : State) (r : Read) : State :=
  let (p, n) := s.resolvePath r.ld r.win r.line
  let s := s.settleAhead r p
  let s := if (s.mapEnt (granOf r.line)).state = .live then
      { s with rp := { s.rp with predictor := tins (granOf r.line) ((s.mapEnt (granOf r.line)).lane, (s.mapEnt (granOf r.line)).frame) s.rp.predictor } }
    else s
  if r.src = .prefetch ∧ s.prefetchEnds r.line p then s.dropRead r.id
  else
    let s := if r.src = .host then s.pmCount (pathEvent p) ⟨some r.ld.val, none, some (s.setOf (granOf r.line)).val⟩ else s
    let s := s.modRead r.id fun r => { r with path := p, nonce := n, lookupTick := s.now, fillOk := !s.hasTent r.line, runAhead := none }
    match p with
    | .cache => s.serveCache r
    | .zero => s.finishRead r.id 0 false
    | .poison => s.finishRead r.id 0 true
    | _ => s.issueRead r.id

/-- LOOKUP_SETTLED (R73): the lookups of a read settle. A demand read waits for a prefetch of its line in flight (R91), and
every read for a package DRAM window (R221). -/
def execLookupSettled (id : Nat) (dram : DramAccess) (s : State) : Host.Outcome State Fault Refusal :=
  match s.readOf id with
  | some r =>
    if r.path ≠ .lookup ∨ s.rd.windows[4].isSome ∨
        (r.src = .host ∧ s.rp.tracker.any fun (x : Read) => x.src == .prefetch && x.line == r.line && x.fillOk && x.path ≠ .finished) then .next s
    else
      match s.dramSeen r.line dram with
      | none => .next s.pathFault
      | some t => s.done (t.lookup r).moveReads
  | none => .next s

/-! ### Sense, recovery, tag check, fill (R77, R78, R82 to R85, R101) -/

/-- The line cache fill under the fill fence (R77, R315, R316). -/
def State.fill (s : State) (r : Read) (data : Line) (fromShallows : Bool) : State :=
  let live := s.wp.updates.filter fun u => s.now - u.2 < usTicks 8
  if s.ca.en ∧ s.userLine r.line ∧ r.fillOk ∧ s.hasTent r.line = false ∧ live.length < 8192 ∧
      live.all (fun u => !(u.1 == r.line && decide (r.lookupTick ≤ u.2))) then
    if (s.cacheFind r.line).isSome then s else s.cacheEnter r.line data fromShallows
  else s

/-- The retries of a burst whose CRC failed (R434): each resend a bus retry; the eighth failure retrains the channel (R436). -/
def State.burstRetries (s : State) (c : Fin 64) (n : Nat) : State :=
  { s with md := { s.md with retries := noteAt s.now c n s.md.retries, crcRun := s.md.crcRun.set c (n % 8) } }

/-- PATH of a sample or of event 0x3001 (Table 12-10). -/
def pathCode : RPath → Nat
  | .cache => 0
  | .shallows .. => 1
  | .peat .. => 2
  | .zero => 4
  | .poison => 5
  | .tentative _ => 7
  | _ => 6

/-- Stepped retries that a recovery took. -/
def senseRetries : Sense → Nat
  | .stepped k => k.natAbs
  | .otherCopy => 1
  | _ => 0

/-- What a failed correction leaves behind although the line was recovered: the patrol's queue (R83), and for the Peat the
block's offset, class and reconstruction count (R124, R144, R146). A reconstruction that was no fault leaves nothing (R87, R219). -/
def State.recovered (s : State) (r : Read) (x : Sense) : State :=
  let retry (s : State) : State := match x with
    | .stepped _ => s.pmCount 0x009 ⟨none, r.chan.map (·.val), some (s.setOf (granOf r.line)).val⟩
    | _ => s
  match r.path with
  | .peat lane frame =>
    let b := s.lineBlock r.line lane frame
    let s := if x = .reconstructed then s.pmCount 0x007 ⟨some r.ld.val, none, some b.seg.set.val⟩ else s
    if recovers x = false ∨ (x = .reconstructed ∧ (r.recovering ∨ s.blockUp b = false)) then s
    else (retry (s.peatFound b r.line (slotNo r.line frame) x)).toPatrol r.line false
  | _ => if recovers x then (retry s).toPatrol r.line false else s

/-- The number of the version a read chose (R35). -/
def State.readVer (s : State) (r : Read) : Nat :=
  match r.path with
  | .shallows p _ => 2 + 2 * p.code
  | .peat lane frame => 3 + 2 * frameCode (s.setOf (granOf r.line)) lane frame
  | _ => 0

/-- A read that found no line: prefetches are dropped; a failed tag records 0x3001 (R212), a loss 0x1001 (R85); the line is
marked poisoned while the version is its newest, a lost tentative version is its group's loss (R168), and the read returns poison. -/
def State.readFails (s : State) (r : Read) (tagFail : Bool) (retries : Nat) : State :=
  if r.src = .prefetch then s.dropRead r.id
  else
    let a := r.line * 64
    let s := if tagFail then s.event 0x3001 3 oDev (lo32 a) (hi32 a) (pathCode r.path) retries
      else s.event 0x1001 3 oDev (lo32 a) (hi32 a) r.ld.val 0
    let s := match r.path with
      | .tentative p => if tagFail then s.markVersion r.ld r.line (2 + 2 * p.code) else s.entryGone r.ld r.line p
      | .peat lane frame =>
        (if tagFail then s else s.peatFound (s.lineBlock r.line lane frame) r.line (slotNo r.line frame) .lost).markVersion r.ld r.line (s.readVer r)
      | _ => s.markVersion r.ld r.line (s.readVer r)
    s.finishRead r.id 0 true

/-- A stored version as it is sensed: its ciphertext, tag and whether it is poisoned or blank. -/
inductive Stored where
  | line (ct : Line) (tag : Tag)
  | blank
  | psn
  | gone
  deriving DecidableEq, Repr

/-- What a read's path names on the media. -/
def State.stored (s : State) (r : Read) : Stored :=
  match r.path with
  | .tentative p => match s.entryAt p with
    | some e => .line e.data e.tag
    | none => .gone
  | .shallows p k => match s.entryAt p with
    | some e => if e.line = r.line ∧ e.seq % 64 = k then .line e.data e.tag else .gone
    | none => .gone
  | .peat lane frame => match tfind s.fo.frames (frameCode (s.setOf (granOf r.line)) lane frame) with
    | some f => match tfind f.slots (r.line % 256) with
      | some x => if x.psn then .psn else .line x.data x.tag
      | none => .blank
    | none => .blank
  | _ => .gone

/-- The lookups are repeated (R78). -/
def State.again (s : State) (r : Read) : State := s.modRead r.id fun r => { r with path := .lookup }

/-- What sensing a read's slot comes to (R217). -/
def State.readSense (s : State) (r : Read) (x : Sense) : Sense := match r.path with
  | .peat lane frame => s.rowSense (s.lineBlock r.line lane frame) x
  | _ => x

/-- The other lines of a row that cannot be decoded, whose own slots are unavailable, are lost with a read's line (R35, R217). -/
def State.rowLoses (s : State) (r : Read) : State := match r.path with
  | .peat lane frame =>
    if r.src = .prefetch ∨ s.rowGone (s.lineBlock r.line lane frame) = false then s
    else
      let same (l : Nat) : Bool := l != r.line && l % 256 / 14 == r.line % 256 / 14 && s.verCode l == s.readVer r &&
        !s.blockUp (s.lineBlock l lane frame)
      ((granLines (granOf r.line)).filter same).foldl (fun (s : State) l =>
        (s.event 0x1001 3 oDev (lo32 (l * 64)) (hi32 (l * 64)) r.ld.val 0).markVersion r.ld l (s.readVer r)) s
  | _ => s

/-- Stages 5 to 7 of a read: correction, tag check, fill and response. -/
def State.sensed (s : State) (r : Read) (x : Sense) : State :=
  match s.readSense r x, s.stored r with
  | .mismatch, _ => s.again r
  | .tree level, _ => (s.treeMismatch r.line level).finishRead r.id 0 true
  | _, .gone => s.again r
  | .lost, _ => (s.rowLoses r).readFails r false 0
  | _, .blank => s.finishRead r.id 0 false
  | _, .psn => s.finishRead r.id 0 true
  | x, .line ct tag =>
    if r.src = .prefetch ∧ senseRetries x ≠ 0 ∨ r.src = .prefetch ∧ x = .reconstructed then s.dropRead r.id
    else
      match senseOf s r.nonce r.line ct tag x with
      | some (some l) =>
        let s := s.recovered r x
        let s := match r.path with
          | .tentative _ => s
          | .shallows .. => s.fill r l true
          | _ => s.fill r l false
        s.finishRead r.id l false
      | _ => s.readFails r true (senseRetries x)

/-- A confirmed Peat read counts in its segment's RDC, with the row's others where it was reconstructed (R135). -/
def State.rdcOf (s : State) (r : Read) (x : Sense) : State :=
  match r.path with
  | .peat lane frame => if r.src = .prefetch then s else
      s.countRdc (segOfFrame (s.setOf (granOf r.line)) lane frame) (senseBlocks (s.lineBlock r.line lane frame) x).length
  | _ => s

/-- Whether a read waits for a pilot read of a block it senses (R141). -/
def State.awaitsPilot (s : State) (r : Read) (x : Sense) : Bool :=
  match r.path with
  | .peat lane frame => s.anyPend (senseBlocks (s.lineBlock r.line lane frame) x)
  | _ => false

/-- The pilot reads that a reconstruction needs are issued (R141). -/
def State.rowPilots (s : State) (r : Read) (x : Sense) : State :=
  match r.path with
  | .peat lane frame => if x = .reconstructed then s.wantPilots (segBlocks (s.lineBlock r.line lane frame).seg) else s
  | _ => s

/-- SLOT_SENSE_COMPLETE (R82): a slot in a channel's queue is sensed and decoded, after `crcFails` failed bursts. Reads of a set with a fault
window open wait (R221), so do those of blocks with a pilot read in flight (R141), and a reconstruction waits for the engine (R88). -/
def execSlotSenseComplete (id : Nat) (sense : Sense) (crcFails : Nat) (s : State) : Host.Outcome State Fault Refusal :=
  match s.readOf id with
  | some r =>
    match r.chan with
    | none => .next s
    | some c =>
      if r.path.sensing = false ∨ s.setFrozen (s.setOf (granOf r.line)) ∨ (sense = .reconstructed ∧ r.recovering = false ∧ 64 ≤ s.rp.rcn) then
        .next s
      else
        let t := s.rowPilots r sense
        if t.awaitsPilot r sense then s.done t
        else s.done ((((t.leaveQueue r).burstRetries c crcFails).rdcOf r sense).sensed r sense).moveReads.judgeMarks
  | none => .next s

/-- A host read meets the cutoff (R86): event 0x1002, and its recovery moves to the patrol, which visits its segment next. -/
def State.cutoff (s : State) (n : Fin 16) (line : Nat) (waited : Nat) : State :=
  let a := line * 64
  let s := (s.pmCount 0x00B ⟨some n.val, none, none⟩).event 0x1002 2 oDev (lo32 a) (hi32 a) n.val waited
  let s := s.toPatrol line true
  match s.homeBlock line with
  | some b => s.visitNext b.seg s.now true
  | none => s

/-- READ_CUTOFF (R86): 5.8 µs after its arrival a host read returns poison, in the tracker or still in the receive buffer; the line is not
marked. Time in a fault window or under the read cap does not count. -/
def execReadCutoff (id : Nat) (s : State) : Host.Outcome State Fault Refusal :=
  if s.anyWindow ∨ s.readCap then .next s
  else
    match s.readOf id with
    | some r =>
      if r.src ≠ .host ∨ r.path = .finished then .next s
      else
        let t := s.since r.arrived (4640 + (s.rp.paused - r.paused))
        let t := (t.cutoff r.ld r.line (t.now - r.arrived)).leaveQueue r
        let t := match r.runAhead with
          | some _ => (t.readAdd (t.peatChan r.line) false).modRead r.id fun x => { x with runAhead := none }
          | none => t
        s.done (t.finishRead r.id 0 true).moveReads
    | none =>
      match s.rp.rx.find? fun (r : RxReq) => r.id == id with
      | some r =>
        match s.resolve r.ld r.addr with
        | some (line, _) =>
          let t := s.since r.tick (4640 + (s.rp.paused - r.paused))
          let t := t.cutoff r.ld line (t.now - r.tick)
          s.done { t with rp := { t.rp with rx := t.rp.rx.filter fun (x : RxReq) => x.id ≠ id, rsp := t.rp.rsp ++ [⟨r.ld, line, 0, true⟩] } }
        | none => .next s
      | none => .next s

/-- SLOW_SENSE_RECONSTRUCT (R219): a Peat read that still waits for its sense starts reconstruction, while the engine of 64 rows
has room; it opens no window and is no fault. -/
def execSlowSenseReconstruct (id : Nat) (s : State) : Host.Outcome State Fault Refusal :=
  match s.readOf id with
  | some r =>
    match r.path with
    | .peat .. => s.done (s.startRebuild r)
    | _ => .next s
  | none => .next s

/-- The DRS at the head of the response buffer leaves with its LD's DevLoad (R255); poison is signalled as R251 says. -/
def State.returnDrs (s : State) : State :=
  match s.rp.rsp with
  | [] => s
  | x :: rest =>
    let p := s.lk.ports[s.portOf x.ld]
    if p.mode = .mld ∨ p.mode = .sld then
      (({ s with rp := { s.rp with rsp := rest } }).emit (.drs x.ld x.line x.data x.poison (s.devLoad x.ld))).respond.moveReads
    else s

/-- DRS_RETURN (R88). -/
def execDrsReturn (s : State) : Host.Outcome State Fault Refusal := s.done s.returnDrs

end Sys2Proof.Machine
end

