-- ==== Sys2Proof/Machine/Redundancy.lean ====
section
/-! DEFINITION. Fault windows, Shallows restoration, rebuild, draining, channel and set states, stack loss and CXL lanes: shared
operations and the commands of the family (09_redundancy_and_degraded.md R215 to R237). -/

namespace Sys2Proof.Machine

/-- The code of a set's state, in the order of Table 09-6's states (Table 11-7, 0xC120). -/
def SetState.code : SetState → Nat
  | .optimal => 0
  | .restoring => 1
  | .degraded => 2
  | .rebuilt => 3
  | .exposed => 4

/-- A stripe set enters a state; source 0x033 fires on a change (R231, Table 12-1). -/
def State.setTo (s : State) (k : Fin 4) (x : SetState) : State :=
  if s.rd.sets[k].state = x then s
  else (s.modSet k fun y => { y with state := x }).raise 0x33 0 (k.val + x.code * 256)

/-! ### Units -/

/-- The fault window of a unit: its stripe set's, or the package DRAM's (R219). -/
def winOf : FUnit → Fin 5
  | .channel c => ⟨c.val / 16, by omega⟩
  | .die d => ⟨d.chan.val / 16, by omega⟩
  | .tile d _ => ⟨d.chan.val / 16, by omega⟩
  | .stack _ => 4

/-- The origin that events name a unit by (Table 12-7). -/
def oOf : FUnit → Nat
  | .channel c => oChan c
  | .die d => oDie d
  | .tile d t => oTile d t.val
  | .stack k => oUnit 0 k.val

/-- The channel of a media unit. -/
def chanOfUnit : FUnit → Option (Fin 64)
  | .channel c => some c
  | .die d => some d.chan
  | .tile d _ => some d.chan
  | .stack _ => none

/-- Whether a row of Table 09-2 can name a unit. -/
def rowFits : FaultRow → FUnit → Bool
  | .phyLock, .channel _ => true
  | .fatal, .die _ => true
  | .fatal, .tile .. => true
  | .timeout, .die _ => true
  | .timeout, .channel _ => true
  | .dram, .stack _ => true
  | _, _ => false

/-- Whether a unit is already isolated, or not populated (Table 09-5). -/
def State.unitOut (s : State) (u : FUnit) : Bool :=
  (match chanOfUnit u with
   | some c => s.rd.chans[c].gone || decide (s.hw.channels ≤ c.val)
   | none => false) ||
  (match u with
   | .channel _ => false
   | .die d => s.md.lostDies.contains d || decide (s.hw.dies ≤ d.die.val)
   | .tile d t => s.md.lostDies.contains d || s.md.lostTiles.contains (d, t) || decide (s.hw.dies ≤ d.die.val)
   | .stack k => s.kp.lostStacks.contains k)

/-- Whether a unit holds a block of a die, by the block's number (log 34). -/
def unitHasDie (u : FUnit) (d : DieKey) (block : Nat) : Bool :=
  match u with
  | .channel c => d.chan == c
  | .die x => d == x
  | .tile x t => d == x && t.val == Config.blockTile (dieCode d) block % 8
  | .stack _ => false

/-- Whether a unit holds a block of a segment. -/
def unitHas (u : FUnit) (b : BlockKey) : Bool := unitHasDie u (blockDie b) b.seg.seg

/-- Whether a unit holds one of the blocks of a Shallows pair. -/
def State.unitHasSh (s : State) (u : FUnit) (p : Pair) (second : Bool) : Bool :=
  unitHasDie u (s.shDie p.set (if second then p.ch1 else p.ch0) p.num) (2 ^ 32 + p.num)

/-- A channel's state changes, and the keeper store records it (R230). -/
def State.setChan (s : State) (c : Fin 64) (x : ChanState) : State :=
  ({ s with rd := { s.rd with chans := s.rd.chans.set c x }, kp := { s.kp with chanRec := s.kp.chanRec.set c x } }).save (256 + c.val)

/-- The key of a segment's number in a table. -/
def segKeyOf (c : Nat) : SegKey := ⟨⟨c / 2 ^ 36 % 4, by omega⟩, ⟨c / 2 ^ 32 % 16, by omega⟩, c % 2 ^ 32⟩

/-! ### Fault windows (R219 to R222) -/

/-- The range engine of the line cache stops (13_cache_and_on_chip_memory.md R321). -/
def State.rangeStop (s : State) : State :=
  if s.ca.rbusy then { s with ca := { s.ca with rbusy := false, rdone := true, rabt := true, rcause := 0 } } else s

/-- A fault joins its window, opening it where none is open: scrubs and the range engine stop (R156, R321), and the fill
level is judged over the channels that serve (R53, R62). -/
def State.faultJoin (s : State) (u : FUnit) (hard : Bool) : State :=
  let k := winOf u
  let prior : ChanState := match u with
    | .channel c => s.rd.chans[c]
    | _ => .inService
  let s := match u with
    | .channel c => if s.rd.chans[c] = ChanState.failing then s else s.setChan c ChanState.failing
    | _ => s
  match s.rd.windows[k] with
  | none => ({ s with rd := { s.rd with windows := s.rd.windows.set k (some ⟨[⟨u, hard, false, prior⟩], s.now⟩) } }).scrubsStop.rangeStop.judgeMarks
  | some w =>
    let items := if w.items.any fun (x : FaultItem) => x.unit == u then
        w.items.map fun (x : FaultItem) => if x.unit = u then { x with hard := x.hard || hard } else x
      else w.items ++ [⟨u, hard, false, prior⟩]
    ({ s with rd := { s.rd with windows := s.rd.windows.set k (some ⟨items, s.now⟩) } } : State).judgeMarks

/-- The loss of a second stack (R235, R259): admission stops and the keeper removes power. -/
def State.secondStack (s : State) (k : Fin 5) : State :=
  let s := { s with kp := { s.kp with lostStacks := k :: s.kp.lostStacks },
                    lk := { s.lk with fatal := true, mediaStatus := .error }, pw := { s.pw with dataPath := false } }
  (((s.save (8 + k.val)).emit (.err none 2)).event 0x2005 3 (oUnit 0 k.val) k.val 0 0 0).pathFault

/-- Whether another stack is under the package DRAM's open window. -/
def State.otherStack (s : State) (k : Fin 5) : Bool :=
  match s.rd.windows[4] with
  | some w => w.items.any fun (x : FaultItem) => x.unit ≠ .stack k
  | none => false

/-- FAULT_INDICATION (R219, R222): a window opens, or the fault joins the open one; an isolated unit gives none. -/
def execFaultIndication (row : FaultRow) (u : FUnit) (s : State) : Host.Outcome State Fault Refusal :=
  if s.pw.dieUp = false ∨ rowFits row u = false ∨ s.unitOut u then .next s
  else
    match u with
    | .stack k =>
      let t := { s with rd := { s.rd with located := s.rd.located.set k 0 } }
      if s.kp.lostStacks ≠ [] ∨ s.otherStack k then .next (t.secondStack k) else .next (t.faultJoin (.stack k) true)
    | _ => .next (s.faultJoin u (row ≠ .timeout))

/-- SECOND_STACK_LOSS (R235). -/
def execSecondStackLoss (stack : Fin 5) (s : State) : Host.Outcome State Fault Refusal :=
  if s.pw.dieUp ∧ s.kp.lostStacks ≠ [] ∧ s.kp.lostStacks.contains stack = false then .next (s.secondStack stack) else .next s

/-- The windows after one closes: scrubs that it stopped have their summaries (R156). -/
def State.windowGone (s : State) (k : Fin 5) : State :=
  let s := { s with rd := { s.rd with windows := s.rd.windows.set k none } }
  if s.anyWindow then s else s.scrubsSettle

/-- STATUS_PROBE_ANSWER (R222): a probed unit answers before it is taken out; a window with nothing left closes. -/
def execStatusProbeAnswer (u : FUnit) (ticks : Nat) (s : State) : Host.Outcome State Fault Refusal :=
  let k := winOf u
  match s.rd.windows[k] with
  | none => .next s
  | some w =>
    match w.items.find? fun (x : FaultItem) => x.unit == u && !x.hard && !x.confirmed with
    | none => .next s
    | some x =>
      let rest := w.items.filter fun (y : FaultItem) => y.unit ≠ u
      let t := match u with
        | .channel c => s.setChan c x.prior
        | _ => s
      let t := t.event 0x1004 2 (oOf u) ticks 0 0 0
      .next (if rest.isEmpty then t.windowGone k
        else ({ t with rd := { t.rd with windows := t.rd.windows.set k (some { w with items := rest }) } } : State)).judgeMarks

/-- PROBE_SILENCE_CONFIRMED (R220 step 2). -/
def execProbeSilenceConfirmed (u : FUnit) (s : State) : Host.Outcome State Fault Refusal :=
  let k := winOf u
  match s.rd.windows[k] with
  | none => .next s
  | some w =>
    let items := w.items.map fun (x : FaultItem) => if x.unit = u then { x with confirmed := true } else x
    .next { s with rd := { s.rd with windows := s.rd.windows.set k (some { w with items := items }) } }

/-! ### A unit is taken out (R220 steps 4 to 7) -/

/-- The unit's blocks are lost to every segment that is not free, and its stand-ins with them; every programming band with a unit
on it is abandoned (R221). -/
def State.loseBlocks (s : State) (u : FUnit) : State :=
  let bands := s.fo.bands.filter fun (b : Band) => b.phase ≠ .assembling && (allFin 16).any fun p => unitHas u ⟨b.key.seg, p⟩
  let hit (x : SegKey × Fin 16 × Fin 16) : Bool := unitHas u ⟨x.1, x.2.2⟩
  let s := s.fo.segs.foldl (fun (s : State) (e : Nat × Segment) =>
    let k := segKeyOf e.1
    if e.2.state = .free ∨ e.2.state = .retired then s
    else
      let gone := (allFin 16).filter fun p => !(e.2.lost.contains p) &&
        ((unitHas u ⟨k, p⟩ && (s.standInOf k p).isNone) || s.rd.standIns.any fun x => x.1 == k && x.2.1 == p && hit x)
      if gone.isEmpty then s else s.setSeg k { e.2 with lost := e.2.lost ++ gone }) s
  let s := { s with rd := { s.rd with standIns := s.rd.standIns.filter fun x => !hit x } }
  bands.foldl (fun (s : State) (b : Band) => s.abandonBand b) s

/-- The copies of Shallows entries on the unit are lost; pairs with a block on it take no more entries. -/
def State.loseCopies (s : State) (u : FUnit) : State :=
  let pairs := s.wp.pairs.filter fun (p : Pair) => s.unitHasSh u p false || s.unitHasSh u p true
  let lost (code : Nat) (second : Bool) : Bool :=
    pairs.any fun (p : Pair) => code / 512 == pairCode p.set p.num && s.unitHasSh u p second
  { s with wp := { s.wp with
      pairs := s.wp.pairs.map fun (p : Pair) => if pairs.contains p then { p with isOpen := false } else p,
      entries := s.wp.entries.map fun e =>
        (e.1, { e.2 with ok0 := e.2.ok0 && !lost e.1 false, ok1 := e.2.ok1 && !lost e.1 true }) } }

/-- Placements in progress with a copy on the unit are placed again (R57, R221). -/
def State.withdrawWrites (s : State) (u : FUnit) : State :=
  let hit (w : Write) : Bool := match s.pairOf w.place with
    | some p => !w.localOk && (s.unitHasSh u p false || s.unitHasSh u p true)
    | none => false
  let back := s.wp.progs.filter hit
  let s := back.foldl (fun (s : State) (w : Write) => (s.progAdd w.place false).kill w.place) s
  { s with wp := { s.wp with progs := s.wp.progs.filter (fun w => !hit w),
                             allocQ := back.map (fun (w : Write) => { w with tries := w.tries + 1 }) ++ s.wp.allocQ } }

/-- Reads of the Peat withdrawn from the unit are issued again as reconstruction, and reads of the Shallows to the other copy (R220 step 7). -/
def State.withdrawReads (s : State) (u : FUnit) : State :=
  (s.rp.tracker.foldl (fun (s : State) (r : Read) =>
    match r.path with
    | .peat lane frame => if unitHas u (s.lineBlock r.line lane frame) then s.startRebuild r else s
    | _ => match r.path.place, r.chan with
      | some p, some c => match s.pairOf p with
        | some x => if s.unitHasSh u x (s.secondOn p c) then s.leaveQueue r else s
        | none => s
      | _, _ => s) s).fillQueues

/-- A live Shallows entry whose two copies are lost: the event where a version of the line was lost with it, and what follows for the line or
the group (R35, R168, R231). -/
def State.entryLost (s : State) (p : Place) (e : Entry) : State :=
  let named := (tfind s.wp.index e.line).any fun x => s.recPlace e.line x == p
  let due := (s.wp.tents.find? fun (t : TentRec) => t.place == p).any fun (t : TentRec) => (s.win t.ld t.win).recIssued
  let s := if named ∨ due then s.event 0x1001 3 oDev (lo32 (e.line * 64)) (hi32 (e.line * 64)) e.ld.val 0 else s
  s.entryGone e.ld e.line p

/-- Every live entry of a set without a copy left is handled under R35. -/
def State.entriesLost (s : State) (k : Fin 4) : State :=
  let gone := s.wp.entries.filter fun e =>
    (placeOf e.1).set == k && !e.2.dead && !e.2.released && e.2.written && !e.2.ok0 && !e.2.ok1
  gone.foldl (fun (s : State) (e : Nat × Entry) => s.entryLost (placeOf e.1) e.2) s

/-- Channels of a set that are out or replaced. -/
def State.goneChans (s : State) (k : Fin 4) : Nat := ((allFin 16).filter fun p => s.rd.chans[chanOf k p].gone).length

/-- The set's state after a unit is out (Table 09-6): the third channel exposes it. -/
def State.setLoses (s : State) (k : Fin 4) : State :=
  if s.rd.sets[k].state = .exposed then s
  else if 3 ≤ s.goneChans k then
    (((s.enterEol k).modSet k fun x => { x with rebuilding := false, asked := false, paused := false }).setTo k .exposed).event 0x100A 3 (oSet k) 0 0 0 0
  else s.setTo k .restoring

/-- The spare blocks left on an out channel count as consumed (R225). -/
def State.spareOut (s : State) (c : Fin 64) : State :=
  let k := setOfChan c
  let dies : List DieKey := s.lanes.map fun d => ⟨c, d⟩
  let n := dies.foldl (fun n d => n + s.dieSpare d) 0
  let s := { s with fo := { s.fo with
    dieUsed := dies.foldl (fun m d => tput 0 (dieCode d) dieSpares m) s.fo.dieUsed
    spare := vmod s.fo.spare k fun x => { x with usable := x.usable - n, consumed := x.consumed + n } } }
  if s.fo.spare[k].usable ≤ s.eolReserve then s.enterEol k else s

/-- A media unit is out: tables, withdrawn operations, restoration (R220, R230, R231), and the event of Table 09-5 where a window closed on
it, with the row of Table 09-2. -/
def State.mediaOut (s : State) (u : FUnit) (k : Fin 4) (row : Option Nat) : State :=
  let s := match u with
    | .channel c => (s.setChan c .out).spareOut c
    | .die d => { s with md := { s.md with lostDies := d :: s.md.lostDies } }
    | .tile d t => { s with md := { s.md with lostTiles := (d, t) :: s.md.lostTiles } }
    | .stack _ => s
  let s := (((s.withdrawReads u).withdrawWrites u).loseCopies u).loseBlocks u
  let s := match row with
    | some n => s.event 0x1006 3 (oOf u) n 0 0 0
    | none => s
  (s.setLoses k).entriesLost k

/-- A package DRAM stack is out (R234): the cache is disabled, STALE and LOCK set, and the stack stays lost. -/
def State.stackOut (s : State) (k : Fin 5) : State :=
  let s := { s with ca := { s.ca with en := false, stale := true, lock := true }, kp := { s.kp with lostStacks := k :: s.kp.lostStacks } }
  (s.save (8 + k.val)).event 0x2004 3 (oUnit 0 k.val) 0 0 0 0

/-- One unit of a window is taken out; the row of Table 09-2 counts from 1. -/
def State.takeOut (s : State) (x : FaultItem) : State :=
  match x.unit with
  | .stack k => s.stackOut k
  | u =>
    let row := if x.hard = false then 3 else match u with
      | .channel _ => 1
      | _ => 2
    match chanOfUnit u with
    | some c => s.mediaOut u (setOfChan c) (some row)
    | none => s

/-- Committing groups whose last write is now acknowledged issue their commit records (R161). -/
def State.issueAll (s : State) : State :=
  (allFin 16).foldl (fun (s : State) n => (allFin 64).foldl (fun (s : State) w =>
    if (s.win n w).state = .committing then s.issueCommit n w else s) s) s

/-- FAULT_WINDOW_CLOSE (R220): every unit of the window, hard or confirmed silent, is taken out. -/
def execFaultWindowClose (win : Fin 5) (s : State) : Host.Outcome State Fault Refusal :=
  match s.rd.windows[win] with
  | none => .next s
  | some w =>
    if w.items.all fun (x : FaultItem) => x.hard || x.confirmed then
      let before := s
      let t := w.items.foldl (fun (s : State) (x : FaultItem) => s.takeOut x) s
      s.done (before.lifeEdge ((t.windowGone win).judgeMarks.issueAll))
    else .next s

/-! ### Draining (R229) -/

/-- Segments of a set that are not free, by key. -/
def State.usedSegs (s : State) (k : Fin 4) : List SegKey :=
  s.fo.segs.filterMap fun e => if (segKeyOf e.1).set = k ∧ e.2.state ≠ .free ∧ e.2.state ≠ .retired then some (segKeyOf e.1) else none

/-- A draining channel with every entry restored and every block copied is replaced (Table 09-5, Table 09-6). -/
def State.drainCheck (s : State) (k : Fin 4) : State :=
  (allFin 16).foldl (fun (s : State) p =>
    let c := chanOf k p
    if s.rd.chans[c] = .draining ∧ (s.wp.pairs.all fun (x : Pair) => !(x.set == k && (x.ch0 == p || x.ch1 == p))) ∧
        (s.usedSegs k).all (fun x => (s.standInOf x p).isSome) then
      ((s.setChan c .replaced).setTo k (if s.rd.sets[k].state = .optimal then .rebuilt else s.rd.sets[k].state)).event 0x1007 1 (oChan c)
        0 0 0 0
    else s) s

/-- Retire Channel accepted (R229): no new entry is placed on the channel. -/
def State.startDrain (s : State) (c : Fin 64) : State :=
  let k := setOfChan c
  let p := posOfChan c
  let s := s.setChan c .draining
  let s := { s with wp := { s.wp with pairs := s.wp.pairs.map fun (x : Pair) =>
    if x.set = k ∧ (x.ch0 = p ∨ x.ch1 = p) then { x with isOpen := false } else x } }
  s.drainCheck k

/-! ### Restoration (R224) -/

/-- Whether a block of a pair lies on a unit out of service or draining. -/
def State.pairLost (s : State) (p : Pair) (second : Bool) : Bool :=
  let d := s.shDie p.set (if second then p.ch1 else p.ch0) p.num
  s.rd.chans[d.chan].gone || s.rd.chans[d.chan] == .draining || s.dieGone d (2 ^ 32 + p.num)

/-- One block of a pair is copied to a fresh block on another channel in service; its copies are whole again. -/
def State.restoreBlock (s : State) (p : Pair) (second : Bool) : State :=
  let stays := if second then p.ch0 else p.ch1
  let leaves := if second then p.ch1 else p.ch0
  let (c, s) := s.pick ((s.servingPos p.set).filter fun q => q ≠ stays && q ≠ leaves)
  match c with
  | none => s
  | some c =>
    let clk := (s.drDie (s.shDie p.set c p.num)).wclk
    let p' := if second then { p with ch1 := c } else { p with ch0 := c, openedAt := clk }
    { s with
      wp := { s.wp with
        pairs := s.wp.pairs.map fun (x : Pair) => if x.set = p.set ∧ x.num = p.num then p' else x,
        entries := s.wp.entries.map fun e =>
          if e.1 / 512 = pairCode p.set p.num ∧ e.2.written ∧ (e.2.ok0 ∨ e.2.ok1) then (e.1, { e.2 with ok0 := true, ok1 := true }) else e },
      dr := if second then { s.dr with shEpoch := tins (pairCode p.set p.num) clk s.dr.shEpoch } else s.dr }

/-- Every pair of a set with one lost block is restored. -/
def State.restorePairs (s : State) (k : Fin 4) : State :=
  s.wp.pairs.foldl (fun (s : State) (p : Pair) =>
    if p.set = k then
      if s.pairLost p false ∧ s.pairLost p true = false then s.restoreBlock p false
      else if s.pairLost p true ∧ s.pairLost p false = false then s.restoreBlock p true
      else s
    else s) s

/-! ### Rebuild (R225 to R228) -/

/-- Blocks of a set's segments that wait for rebuild. -/
def State.lostBlocks (s : State) (k : Fin 4) : Nat := (s.usedSegs k).foldl (fun n x => n + (s.seg x).lost.length) 0

/-- Out channels whose last stand-in has verified are replaced; a set with nothing left to rebuild is rebuilt. -/
def State.rebuildCheck (s : State) (k : Fin 4) : State :=
  let n := s.rd.sets[k].rebuilt
  let s := (allFin 16).foldl (fun (s : State) p =>
    let c := chanOf k p
    if s.rd.chans[c] = .out ∧ (s.usedSegs k).all (fun x => !(s.seg x).lost.contains p) then
      (s.setChan c .replaced).event 0x1008 1 (oChan c) n 0 0 0
    else s) s
  if s.lostBlocks k = 0 ∧ s.rd.sets[k].state = .degraded then
    (s.modSet k fun x => { x with rebuilding := false, paused := false }).setTo k .rebuilt
  else s

/-- Whether rebuild starts, or goes on, once a set's restoration ends: AUTO is 1, START has asked for it, or it was under way before
(R227, Table 09-6, log 92). -/
def StripeSet.mayRebuild (x : StripeSet) : Bool := x.auto || x.asked || x.rebuilding

/-- Rebuild of a set starts. -/
def State.rebuildStart (s : State) (k : Fin 4) : State :=
  let s := s.modSet k fun x => { x with rebuilding := true, asked := false, paused := false, rebuilt := 0, toRebuild := s.lostBlocks k }
  s.rebuildCheck k

/-- SHALLOWS_RESTORATION_COMPLETE (R224, R227): the set is degraded, and rebuild starts when AUTO is 1. -/
def execShallowsRestorationComplete (set : Fin 4) (s : State) : Host.Outcome State Fault Refusal :=
  let draining := (allFin 16).any fun p => s.rd.chans[chanOf set p] == .draining
  if s.setFrozen set ∨ (s.rd.sets[set].state ≠ .restoring ∧ draining = false) then .next s
  else
    let t := s.restorePairs set
    let t := if s.rd.sets[set].state = .restoring then
        let t := t.setTo set .degraded
        if t.rd.sets[set].mayRebuild then t.rebuildStart set else t
      else t
    .next (t.drainCheck set).judgeMarks

/-- The last lost block of a lane at one position is rebuilt while its channel serves: the die or tile it lay on is done. -/
def State.dieRebuilt (s : State) (seg : SegKey) (pos : Fin 16) : State :=
  let d := blockDie ⟨seg, pos⟩
  if s.rd.chans[chanOf seg.set pos].gone ∨ (s.usedSegs seg.set).any (fun x => x.lane == seg.lane && (s.seg x).lost.contains pos) then s
  else s.event 0x1008 1 (if s.md.lostDies.contains d then oDie d else oTile d (blockTileOf ⟨seg, pos⟩)) s.rd.sets[seg.set].rebuilt 0 0 0

/-- A block of a draining channel is copied into its stand-in (R229). -/
def State.drainBlock (s : State) (seg : SegKey) (pos : Fin 16) : State :=
  match s.standIn seg pos with
  | some t => t.drainCheck seg.set
  | none => s

/-- The lost block of a segment is rebuilt into its stand-in; with none to be had rebuild pauses (Table 09-6). -/
def State.rebuildBlock (s : State) (seg : SegKey) (pos : Fin 16) : State :=
  match (if (s.standInOf seg pos).isSome then some s else s.standIn seg pos) with
  | none => (s.modSet seg.set fun x => { x with paused := true }).event 0x1009 3 (oSet seg.set) seg.lane.val 0 0 0
  | some t =>
    let t := t.setSeg seg { t.seg seg with lost := (t.seg seg).lost.filter fun p => p ≠ pos }
    let t := t.modSet seg.set fun x => { x with rebuilt := x.rebuilt + 1, paused := false }
    (t.dieRebuilt seg pos).rebuildCheck seg.set

/-- REBUILD_SEGMENT_COMPLETE (R226, R229): a block of a segment is in its stand-in, rebuilt or copied. -/
def execRebuildSegmentComplete (seg : SegKey) (pos : Fin 16) (s : State) : Host.Outcome State Fault Refusal :=
  let x := s.seg seg
  if s.setFrozen seg.set ∨ x.state = .free ∨ x.state = .retired then .next s
  else if s.rd.chans[chanOf seg.set pos] = .draining ∧ (s.standInOf seg pos).isNone then .next (s.lifeEdge (s.drainBlock seg pos))
  else if s.rd.sets[seg.set].rebuilding ∧ x.lost.contains pos then .next (s.lifeEdge (s.rebuildBlock seg pos))
  else .next s

/-! ### Suspect channels (R230) -/

/-- CHANNEL_SUSPECT (Table 09-5): over its rates for 1 s; the patrol visits the channel's segments next. -/
def execChannelSuspect (chan : Fin 64) (retries alerts : Nat) (s : State) : Host.Outcome State Fault Refusal :=
  if s.rd.chans[chan] = .inService then
    let k := setOfChan chan
    let t := (s.setChan chan .suspect).event 0x1005 2 (oChan chan) retries alerts 0 0
    let t := { t with rd := { t.rd with suspectSince := t.rd.suspectSince.set chan (some s.now) },
                      md := { t.md with retries := t.md.retries.filter (fun x => x.1 ≠ chan), alerts := t.md.alerts.filter fun x => x.1 ≠ chan } }
    .next ((t.usedSegs k).reverse.foldl (fun (t : State) x => t.visitNext x s.now true) t)
  else .next s

/-- CHANNEL_SUSPECT_CLEAR (Table 09-5): below half the rates for 1 h. -/
def execChannelSuspectClear (chan : Fin 64) (s : State) : Host.Outcome State Fault Refusal :=
  if s.rd.chans[chan] = .suspect then
    let t := match s.rd.suspectSince[chan] with
      | some x => s.since x (secTicks 3600)
      | none => s
    .next { t.setChan chan .inService with rd := { (t.setChan chan .inService).rd with suspectSince := t.rd.suspectSince.set chan none } }
  else .next s

/-! ### CXL lanes (R237) -/

/-- CXL_LANE_FAILURE (R237, R259): the port trains to the next width below; its last lane lost, it is down. -/
def execCxlLaneFailure (port : Fin 2) (lane : Fin 16) (s : State) : Host.Outcome State Fault Refusal :=
  let p := s.lk.ports[port]
  if p.mode = .down ∨ p.mode = .training ∨ p.width ≤ lane.val ∨ p.lost.getLsbD lane.val then .next s
  else
    let w := p.width / 2
    let t := s.modPort port fun p => { p with lost := p.lost ||| BitVec.ofNat 16 (2 ^ lane.val), width := w,
                                              mode := if w = 0 then .down else p.mode }
    .next (({ t with lk := { t.lk with aerCorr := true } }).emit (.err none 0) |>.event 0x6001 2 (oUnit 1 port.val) w 0 0 0)

end Sys2Proof.Machine
end

