-- ==== Sys2Proof/Machine/Cache.lean ====
section
/-! DEFINITION. Maintenance of the line cache: the main path's operations and the range engine
(13_cache_and_on_chip_memory.md R318 to R324). -/

namespace Sys2Proof.Machine

/-! ### The maintenance queue (R318 to R320) -/

/-- Operations in the maintenance queue: CACHE_STAT.OPQ. -/
def State.opCount (s : State) : Nat := s.ca.opq.length + s.ca.waitClean.length

/-- An operation is written to the maintenance queue; a full queue withholds the posted credits of the port that carried the write,
which waits (R319), and so does a write behind one that waits. -/
def State.maintain (s : State) (who : Fin 17) (c : Instr) (r : MReq) : State :=
  if s.opCount < 256 ∧ s.held.any maintWrite = false then { s with ca := { s.ca with opq := s.ca.opq ++ [r] } }
  else
    let s := { s with held := s.held ++ [c] }
    if who.val < 16 then s.modPort (s.portOf (ldOf who.val)) fun p => { p with withheld := true } else s

/-- A write to CACHE_OPADDR. -/
def State.opAddr (s : State) (who : Fin 17) (c : Instr) (op : MOp) (dpa : Nat) : State :=
  s.devOnly who 0x300008 fun s => s.maintain who c ⟨op, false, dpa / 64, 0, 0⟩

/-- A write to CACHE_OPSW; a SET beyond the cache is ignored (R319). -/
def State.opSw (s : State) (who : Fin 17) (c : Instr) (op : MOp) (set way : Nat) : State :=
  s.devOnly who 0x300010 fun s => if set < cacheSets then s.maintain who c ⟨op, true, 0, set, way⟩ else s

/-- CLEAN_BY_ADDRESS (R318). -/
def execCleanByAddress (who : Fin 17) (dpa : Nat) (s : State) : Host.Outcome State Fault Refusal :=
  .next (s.io who (.cleanByAddress who dpa) fun s => s.opAddr who (.cleanByAddress who dpa) .clean dpa)

/-- INVALIDATE_BY_ADDRESS (R318). -/
def execInvalidateByAddress (who : Fin 17) (dpa : Nat) (s : State) : Host.Outcome State Fault Refusal :=
  .next (s.io who (.invalidateByAddress who dpa) fun s => s.opAddr who (.invalidateByAddress who dpa) .invalidate dpa)

/-- CLEAN_INVALIDATE_BY_ADDRESS (R318). -/
def execCleanInvalidateByAddress (who : Fin 17) (dpa : Nat) (s : State) : Host.Outcome State Fault Refusal :=
  .next (s.io who (.cleanInvalidateByAddress who dpa) fun s => s.opAddr who (.cleanInvalidateByAddress who dpa) .cleanInvalidate dpa)

/-- CLEAN_BY_SET_WAY (R318). -/
def execCleanBySetWay (who : Fin 17) (set : Nat) (way : Fin 16) (s : State) : Host.Outcome State Fault Refusal :=
  .next (s.io who (.cleanBySetWay who set way) fun s => s.opSw who (.cleanBySetWay who set way) .clean set way.val)

/-- INVALIDATE_BY_SET_WAY (R318). -/
def execInvalidateBySetWay (who : Fin 17) (set : Nat) (way : Fin 16) (s : State) : Host.Outcome State Fault Refusal :=
  .next (s.io who (.invalidateBySetWay who set way) fun s => s.opSw who (.invalidateBySetWay who set way) .invalidate set way.val)

/-- CLEAN_INVALIDATE_BY_SET_WAY (R318). -/
def execCleanInvalidateBySetWay (who : Fin 17) (set : Nat) (way : Fin 16) (s : State) : Host.Outcome State Fault Refusal :=
  .next (s.io who (.cleanInvalidateBySetWay who set way) fun s =>
    s.opSw who (.cleanInvalidateBySetWay who set way) .cleanInvalidate set way.val)

/-- The line an operation acts on, if it is present. -/
def State.opLine (s : State) (r : MReq) : Option CLine :=
  if r.byWay then s.ca.lines.find? fun (c : CLine) => c.set == r.set && c.way == r.way else s.cacheFind r.line

/-- An operation has finished (R320). -/
def State.opDone (s : State) : State := { s with ca := { s.ca with synced := sat 0xFFFFFFFF (s.ca.synced + 1) } }

/-- The operation at the head of the queue executes (Table 13-3); a clean that finds its fold order queue full waits for room. -/
def State.opRun (s : State) : State :=
  match s.ca.opq with
  | [] => s
  | r :: rest =>
    let took : State := { s with ca := { s.ca with opq := rest } }
    match s.opLine r with
    | none => took.opDone
    | some c =>
      if r.op = .invalidate then (took.cacheDrop c.line).opDone
      else if c.dirty = false then (if r.op = .cleanInvalidate then took.cacheDrop c.line else took).opDone
      else if 4096 ≤ s.fo.orderQ[s.setOf (granOf c.line)].length then s
      else
        let t := took.foldFirst (granOf c.line)
        { t with ca := { t.ca with waitClean := t.ca.waitClean ++ [(c.line, r.op == .cleanInvalidate)] } }

/-- MAINTENANCE_OP_EXECUTE (R318). -/
def execMaintenanceOpExecute (s : State) : Host.Outcome State Fault Refusal := .next s.opRun

/-- Whether a fold of a granule is ordered, gathered or on its way to its map switch. -/
def State.folding (s : State) (g : Nat) : Bool :=
  s.fo.orderQ[s.setOf g].any (fun p => p.1 == g) || s.fo.folds.any (fun (f : Fold) => f.granule == g) ||
  s.fo.bands.any fun (b : Band) => b.frames.any fun (p : Placed) => p.granule == g && p.copyOf.isNone

/-- Cleans whose fold's map switch has ended finish, invalidating their line where asked. -/
def State.cleansEnd (s : State) : State :=
  let over_ := s.ca.waitClean.filter fun p => !s.folding (granOf p.1)
  let s := { s with ca := { s.ca with waitClean := s.ca.waitClean.filter fun p => s.folding (granOf p.1) } }
  over_.foldl (fun (s : State) (p : Nat × Bool) => (if p.2 then s.cacheDrop p.1 else s).opDone) s

/-- CLEAN_COMPLETE (R318). -/
def execCleanComplete (s : State) : Host.Outcome State Fault Refusal := .next s.cleansEnd

/-- A read of CACHE_SYNC: the count of operations finished since the last one; it waits for the operations before it (R320, log 102). -/
def State.sync (s : State) (who : Fin 17) (c : Instr) : State :=
  if s.opCount = 0 then ({ s with ca := { s.ca with synced := 0 } }).emit (.reg who s.ca.synced) else { s with held := s.held ++ [c] }

/-- CACHE_SYNC (R320, R467). -/
def execCacheSync (who : Fin 17) (width : Nat) (s : State) : Host.Outcome State Fault Refusal :=
  .next (s.io who (.cacheSync who width) fun s =>
    if s.devOk who = false then (s.violate who 3 0x300014).emit (.reg who 0)
    else if width = 4 then s.sync who (.cacheSync who width)
    else s.emit (.reg who 0))

/-! ### The range engine (R321, R322) -/

/-- CAUSE of a START refused, in the order of Table 13-5; 0 when it is accepted. -/
def State.rangeCause (s : State) : Nat :=
  if s.ca.rop = 0 ∨ (s.ca.rlen = 0 ∧ s.ca.rall = false) then 1
  else if s.ca.rbusy then 2
  else if s.ca.rall = false ∧ s.capacity < s.ca.rbase + s.ca.rlen then 3
  else 0

/-- CACHE_RCTRL.START written 1. -/
def State.rangeStart (s : State) : State :=
  let c := s.rangeCause
  if c = 0 then
    { s with ca := { s.ca with rbusy := true, rprog := 0, rwait := none, startedStale := !s.ca.en && s.ca.stale } }
  else { s with ca := { s.ca with rrej := true, rcause := c } }

/-- RANGE_START (R321). -/
def execRangeStart (who : Fin 17) (s : State) : Host.Outcome State Fault Refusal :=
  .next (s.io who (.rangeStart who) fun s => s.devOnly who 0x300018 State.rangeStart)

/-- RANGE_ABORT (R321): CACHE_RCTRL.ABORT written 1. -/
def execRangeAbort (who : Fin 17) (s : State) : Host.Outcome State Fault Refusal :=
  .next (s.io who (.rangeAbort who) fun s => s.devOnly who 0x300018 State.rangeStop)

/-- Whether the range operation covers a line. -/
def State.rangeHas (s : State) (line : Nat) : Bool :=
  s.ca.rall || (decide (s.ca.rbase ≤ line * 64) && decide (line * 64 < s.ca.rbase + s.ca.rlen))

/-- The range operation ends: progress, DONE and STALE (Table 13-6). -/
def State.rangeEnd (s : State) : State :=
  let units := if s.ca.rall ∨ 2 ^ 20 < s.ca.rlen / 64 then cacheSets else s.ca.rlen / 64
  let inval := s.ca.rop = 2 ∨ s.ca.rop = 3
  let fresh := s.ca.rall = true ∧ ((s.ca.en = true ∧ s.ca.rop = 2) ∨ (s.ca.en = false ∧ s.ca.startedStale = true ∧ inval))
  { s with ca := { s.ca with rbusy := false, rdone := true, rprog := units, rwait := none,
                             stale := if fresh then false else s.ca.stale } }

/-- The engine has walked its range: lines are invalidated, and dirty ones of a clean have their folds ordered. -/
def State.rangeWalk (s : State) : State :=
  let mine := s.ca.lines.filter fun (c : CLine) => s.rangeHas c.line
  if s.ca.rop = 2 then (mine.foldl (fun (s : State) (c : CLine) => s.cacheDrop c.line) s).rangeEnd
  else
    let dirty := mine.filter fun (c : CLine) => c.dirty
    let t := if s.ca.rop = 3 then
        (mine.filter fun (c : CLine) => !c.dirty).foldl (fun (s : State) (c : CLine) => s.cacheDrop c.line) s else s
    let t := (dirty.map fun (c : CLine) => granOf c.line).dedup.foldl State.foldFirst t
    if dirty.isEmpty then t.rangeEnd else { t with ca := { t.ca with rwait := some (dirty.map fun (c : CLine) => c.line) } }

/-- RANGE_COMPLETE (R321, R324): the walk ends; a clean ends once its folds' map switches have. -/
def execRangeComplete (s : State) : Host.Outcome State Fault Refusal :=
  if s.ca.rbusy = false then .next s
  else
    match s.ca.rwait with
    | none => .next s.rangeWalk
    | some ls =>
      if ls.any fun l => s.folding (granOf l) then .next s
      else .next (if s.ca.rop = 3 then (ls.foldl State.cacheDrop s).rangeEnd else s.rangeEnd)

end Sys2Proof.Machine
end

