-- ==== Sys2Proof/Machine/Notif.lean ====
section
/-! DEFINITION. The notification controller: claims, ends of interrupt, the internal queue and the rings
(12_notifications_events_counters.md R286 to R299). -/

namespace Sys2Proof.Machine

/-! ### Claims (R288 to R292) -/

/-- Whether a priority lies above a running priority, of which 16 is idle and lowest. -/
def above (prio running : Nat) : Bool := running == 16 || decide (running < prio)

/-- Whether a source is eligible for a claimant (R288). -/
def State.eligible (s : State) (c : Fin 17) (n : Fin 256) : Bool :=
  let x := s.nt.src[n]
  x.pend && !x.act && (s.targets n).getLsbD c.val && s.nt.cl[c].mask.getLsbD n.val && above x.prio s.nt.cl[c].prio

/-- The eligible source of highest priority, the lowest number among equals. -/
def State.bestSource (s : State) (c : Fin 17) : Option (Fin 256) :=
  match (allFin 256).filter fun n => s.eligible c n with
  | [] => none
  | n :: ns => some (ns.foldl (fun b x => if s.nt.src[b].prio < s.nt.src[x].prio then x else b) n)

/-- A source is claimed by a claimant. -/
def State.claim (s : State) (c : Fin 17) (n : Fin 256) : State :=
  let p := s.nt.src[n].prio
  (s.modSrc n fun x => { x with pend := false, act := true, owner := c.val }).modCl c fun x =>
    { x with stack := (n.val, x.prio) :: x.stack, prio := p }

/-- A read of the whole of NOTIF_CLAIM: the value read and the state after it. -/
def State.readClaim (s : State) (c : Fin 17) : Nat × State :=
  match s.bestSource c with
  | none => (0x3FF, s)
  | some n => (n.val + s.nt.src[n].prio * 2 ^ 10, s.claim c n)

/-- NOTIF_CLAIM (R288, R467): a read of the register by a claimant; one that is not of the whole register returns 0. -/
def execNotifClaim (who : Fin 17) (width : Nat) (s : State) : Host.Outcome State Fault Refusal :=
  .next (s.io who (.notifClaim who width) fun s =>
    if width = 4 then (s.readClaim who).2.emit (.reg who (s.readClaim who).1) else s.emit (.reg who 0))

/-- A source leaves its owner: idle, or pending again with a re-fired record (Table 12-2). -/
def State.release (s : State) (n : Fin 256) : State :=
  let x := s.nt.src[n]
  let s := s.modSrc n fun x => { x with act := false, owner := 31 }
  if x.pend then s.queueRec n true x.evseq x.detail else s

/-- NOTIF_QSTAT.EOIERR of a claimant. -/
def State.eoiErr (s : State) (c : Fin 17) : State :=
  if h : c.val < 16 then
    { s with nt := { s.nt with q := vmod s.nt.q ⟨c.val, h⟩ fun q => { q with eoierr := true } } }
  else { s with nt := { s.nt with fm := { s.nt.fm with eoierr := true } } }

/-- A write to NOTIF_EOI (R291). -/
def State.eoi (s : State) (c : Fin 17) (n : Nat) : State :=
  match s.nt.cl[c].stack with
  | (m, p) :: rest =>
    if h : m = n ∧ n < 256 then
      (s.modCl c fun x => { x with stack := rest, prio := p }).release ⟨n, h.2⟩
    else s.eoiErr c
  | [] => s.eoiErr c

/-- NOTIF_EOI (R291). What is written to its reserved bits is ignored (R4). -/
def execNotifEoi (who : Fin 17) (src : Nat) (s : State) : Host.Outcome State Fault Refusal :=
  .next (s.io who (.notifEoi who src) fun s => s.eoi who (src % 1024))

/-- Every source a claimant owns is released and its stack emptied (Table 12-2). -/
def State.unwind (s : State) (c : Fin 17) : State :=
  let mine := (allFin 256).filter fun n => s.nt.src[n].act && s.nt.src[n].owner == c.val
  let s := s.modCl c fun x => { x with stack := [], prio := 16 }
  mine.foldl State.release s

/-- UNWIND (R292): NOTIF_QCTRL.UNWIND written 1. -/
def execUnwind (who : Fin 17) (s : State) : Host.Outcome State Fault Refusal :=
  .next (s.io who (.unwind who) fun s => s.unwind who)

/-- NOTIF_SWSET written by the fabric manager: rising edges of the software sources. -/
def State.swSet (s : State) (v : BitVec 16) : State :=
  (allFin 16).foldl (fun s i => if v.getLsbD i.val then s.raise ⟨0xF0 + i.val, by omega⟩ 0 0 else s) s

/-- NOTIF_SWSET (R299). -/
def execNotifSwset (value : BitVec 16) (s : State) : Host.Outcome State Fault Refusal := .next (s.swSet value)

/-! ### The internal queue (R293, R297) -/

/-- The record of highest priority of a bank, the first entered among equals. -/
def bestRec (l : List NRec) : Option NRec :=
  match l with
  | [] => none
  | r :: rs => some (rs.foldl (fun (b x : NRec) => if b.prio < x.prio then x else b) r)

/-- A record is written to the ring of each of its targets. -/
def State.deliver (s : State) (r : NRec) : State :=
  let s := (allFin 16).foldl (fun s n => if r.targets.getLsbD n.val then s.ringWrite n r else s) s
  if r.targets.getLsbD 16 then s.fmWrite r else s

/-- The draining bank delivers its best record. -/
def State.deliverNext (s : State) : State :=
  let s := s.swapBanks
  match bestRec s.nt.drain with
  | none => s
  | some r => ({ s with nt := { s.nt with drain := s.nt.drain.erase r } }).deliver r

/-- A pointer mismatch of an LD's queue: it stops, and the LD is told (R297). -/
def State.ringReset (s : State) (n : Fin 16) : State :=
  let s := { s with nt := { s.nt with q := vmod s.nt.q n fun q =>
    { q with stopped := true, qrst := true, lost := sat 0xFFFFFFFF (q.lost + 1) } } }
  ((s.pmCount 0x012 ⟨some n.val, none, none⟩).ringSignal n true).event 0x2006 2 (oLd n) 0 0 0 0

/-- A pointer mismatch of the internal queue: both banks are emptied, and a record is queued again for every pending source (R297). -/
def State.queueReset (s : State) : State :=
  let s := { s with nt := { s.nt with fill := [], drain := [], wait := [] } }
  let s := s.event 0x2006 2 oDev 1 0 0 0
  (allFin 256).foldl (fun (s : State) (n : Fin 256) =>
    let x : Source := s.nt.src[n]
    if x.pend = true ∧ (s.nt.fill ++ s.nt.wait).all (fun (r : NRec) => r.source ≠ n.val) then s.queueRec n x.act x.evseq x.detail else s) s

/-- The mismatch that an update of a ring's pointers, or of the bank pointers (16), meets. -/
def State.mismatch (s : State) (c : Fin 17) : State :=
  if h : c.val < 16 then
    if s.nt.q[c.val].en ∧ s.nt.q[c.val].stopped = false then s.ringReset ⟨c.val, h⟩ else s
  else s.queueReset

/-- NOTIF_DELIVER (R293): the internal queue delivers a record, or meets a pointer mismatch (R297). -/
def execNotifDeliver (corrupt : Option (Fin 17)) (s : State) : Host.Outcome State Fault Refusal :=
  match corrupt with
  | some c => .next (s.mismatch c)
  | none => .next s.deliverNext

/-! ### Rings (R294 to R298) -/

/-- A write of CONS takes effect only forward, within the span from CONS to PROD (R295). -/
def Ring.consume (r : Ring) (v : Nat) : Ring :=
  let d := (v + r.slots - r.cons) % r.slots
  if v < r.slots ∧ 1 ≤ d ∧ d ≤ r.unread then { r with cons := v } else r

/-- A host write to NOTIF_QCONS (R295, R296). -/
def State.qcons (s : State) (n : Fin 16) (v : Nat) : State :=
  ({ s with nt := { s.nt with q := vmod s.nt.q n fun q => { q.consume v with armed := true } } }).ringSignal n false

/-- NOTIF_QCONS_WRITE (R295, R296). What is written to its reserved bits is ignored (R4). -/
def execNotifQconsWrite (ld : Fin 16) (value : Nat) (s : State) : Host.Outcome State Fault Refusal :=
  .next (s.io (whoOf ld) (.notifQconsWrite ld value) fun s => s.qcons ld (value % 65536))

/-- The fabric manager writes CONS of its ring (R298). -/
def State.fmCons (s : State) (v : Nat) : State :=
  (({ s with nt := { s.nt with fm := { s.nt.fm.consume v with armed := true } } }).fmShow).fmSignal

/-- FM_CONS_WRITE (R298). -/
def execFmConsWrite (value : Nat) (s : State) : Host.Outcome State Fault Refusal := .next (s.fmCons value)

/-- EN goes from 0 to 1 (R294, R296). -/
def State.queueEnable (s : State) (n : Fin 16) : State :=
  if s.nt.q[n].en then s
  else { s with nt := { s.nt with q := vmod s.nt.q n fun q =>
    { q with en := true, armed := true, stopped := false, prod := 0, cons := 0, phase := true, qseq := 0 } } }

/-- NOTIF_QUEUE_ENABLE (R294). -/
def execNotifQueueEnable (ld : Fin 16) (s : State) : Host.Outcome State Fault Refusal :=
  .next (s.io (whoOf ld) (.notifQueueEnable ld) fun s => s.queueEnable ld)

/-- NOTIF_QCTRL.CLRLOST written 1. -/
def State.clrLost (s : State) (n : Fin 16) : State :=
  { s with nt := { s.nt with q := vmod s.nt.q n fun q => { q with lost := 0 } } }

/-- CLRLOST (R299). -/
def execClrlost (ld : Fin 16) (s : State) : Host.Outcome State Fault Refusal :=
  .next (s.io (whoOf ld) (.clrlost ld) fun s => s.clrLost ld)

end Sys2Proof.Machine
end

