-- ==== Sys2Proof/Machine/Spad.lean ====
section
/-! DEFINITION. The scratchpad banks and their aliases (13_cache_and_on_chip_memory.md R328 to R330; 07_commit_groups.md R176;
12_notifications_events_counters.md R298). -/

namespace Sys2Proof.Machine

/-- Bytes of a bank. -/
def bankBytes : Nat := 0x40000

/-- Whether an access touches a part that the GN964 writes: LEASE_MAP, PROD and the ring of an LD (Table 07-14), or PROD, the lost
count and the ring of the fabric manager's bank (R298). -/
def devPart (who : Fin 17) (off width : Nat) : Bool :=
  let hits (a b : Nat) : Bool := decide (off < b) && decide (a < off + width)
  if who.val < 16 then hits 0x3BF00 0x3BF0C || hits 0x3C000 0x40000
  else hits 0x3BF08 0x3BF0C || hits 0x3BF10 0x3BF14 || hits 0x3C000 0x40000

/-- Whether an access touches the reserved part of an LD's bank (Table 07-14). -/
def resPart (who : Fin 17) (off width : Nat) : Bool := decide (who.val < 16) && decide (off < 0x3C000) && decide (0x3BF0C < off + width)

/-- Whether an access of the width is naturally aligned and inside the bank. -/
def spadFits (off width : Nat) : Bool := decide (off % width = 0) && decide (off + width ≤ bankBytes)

/-- Whether a byte of an access has bad parity (R332). -/
def State.spadBad (s : State) (who : Fin 17) (off width : Nat) : Bool :=
  s.sp.bad.any fun b => b.1 == who.val && decide (off ≤ b.2) && decide (b.2 < off + width)

/-- LEASE_MAP follows the lease words (R178). -/
def State.leaseMap (s : State) (who : Fin 17) : State :=
  s.modBank who fun m =>
    m.writeLE 0x3BF00 8 ((List.range 64).foldl (fun v w => if m.readLE (0x3BD00 + 8 * w) 8 = 0 then v else v + 2 ^ w) 0)

/-- Bytes stored in a bank: they have good parity again, and the lease map follows. -/
def State.spadStore (s : State) (who : Fin 17) (off width value : Nat) : State :=
  let s := s.modBank who fun m => m.writeLE off width value
  let s := { s with sp := { s.sp with bad := s.sp.bad.filter fun b => !(b.1 == who.val && decide (off ≤ b.2) && decide (b.2 < off + width)) } }
  if who.val < 16 ∧ off < 0x3BF00 ∧ 0x3BD00 < off + width then s.leaseMap who else s

/-- A plain write of 1, 2, 4 or 8 bytes to the bank (R328). -/
def State.spadWrite (s : State) (who : Fin 17) (off width value : Nat) : State :=
  if (width = 1 ∨ width = 2 ∨ width = 4 ∨ width = 8) ∧ spadFits off width then
    if who.val = 16 ∧ off = 0x3BF0C ∧ width = 4 then s.fmCons (value % 2 ^ 32)
    else if devPart who off width then s.violate who 2 (0x800000 + off)
    else if resPart who off width then s.violate who 4 (0x800000 + off)
    else s.spadStore who off width value
  else s

/-- A word of the bank. -/
def State.spadRead (s : State) (who : Fin 17) (off width : Nat) : Nat := (s.sp.banks[who]).readLE off width

/-- A write to an alias (R329): another width or alignment is ignored, a byte of bad parity leaves the word as it is (R332). -/
def State.spadAlias (s : State) (who : Fin 17) (off width : Nat) (f : Nat → Nat) : State :=
  if (width = 4 ∨ width = 8) ∧ spadFits off width then
    if devPart who off width then s.violate who 2 (0x800000 + off)
    else if resPart who off width then s.violate who 4 (0x800000 + off)
    else if s.spadBad who off width then s
    else s.spadStore who off width (f (s.spadRead who off width) % 2 ^ (8 * width))
  else s

/-- SPAD_ADD_WRITE (R329): a memory write to the ADD alias. -/
def execSpadAddWrite (who : Fin 17) (off width value : Nat) (s : State) : Host.Outcome State Fault Refusal :=
  .next (s.io who (.spadAddWrite who off width value) fun s => s.spadAlias who off width fun x => x + value)

/-- SPAD_SWAP_WRITE (R329): a memory write to the SWAP alias. -/
def execSpadSwapWrite (who : Fin 17) (off width value : Nat) (s : State) : Host.Outcome State Fault Refusal :=
  .next (s.io who (.spadSwapWrite who off width value) fun s => s.spadAlias who off width fun _ => value)

/-- A PCIe AtomicOp of 32 or 64 bits on its alias: the previous value is returned; bad parity completes with a poisoned TLP. -/
def State.atomic (s : State) (n : Fin 16) (off width : Nat) (f : Nat → Nat) : State :=
  let who := whoOf n
  if (width = 4 ∨ width = 8) ∧ spadFits off width then
    if s.spadBad who off width then s.emit (.err (some n) 1)
    else (s.spadAlias who off width f).emit (.reg who (s.spadRead who off width))
  else s.emit (.unsupported n)

/-- ATOMIC_FETCH_ADD (R329). -/
def execAtomicFetchAdd (ld : Fin 16) (off width value : Nat) (s : State) : Host.Outcome State Fault Refusal :=
  .next (s.io (whoOf ld) (.atomicFetchAdd ld off width value) fun s => s.atomic ld off width fun x => x + value)

/-- ATOMIC_SWAP (R329). -/
def execAtomicSwap (ld : Fin 16) (off width value : Nat) (s : State) : Host.Outcome State Fault Refusal :=
  .next (s.io (whoOf ld) (.atomicSwap ld off width value) fun s => s.atomic ld off width fun _ => value)

/-- ATOMIC_COMPARE_AND_SWAP (R329): completes with Unsupported Request and changes nothing. -/
def execAtomicCompareAndSwap (ld : Fin 16) (off width : Nat) (s : State) : Host.Outcome State Fault Refusal :=
  .next (s.io (whoOf ld) (.atomicCompareAndSwap ld off width) fun s => s.emit (.unsupported ld))

end Sys2Proof.Machine
end

