-- ==== Sys2Proof/Machine/Regs.lean ====
section
/-! DEFINITION. The register map: BAR2 of each LD's view, BAR0, and the fabric manager's views of the same blocks (00_scope.md R3 to
R5, R467; Tables 06-6, 07-6, 10-9, 10-10, 12-4, 12-11, 13-4; 11_mailbox_and_sessions.md R285). -/

namespace Sys2Proof.Machine

/-! ### Access by width (R467) -/

/-- The new value of a 64-bit register whose fields may be written in halves: `cur` as it stands, none where the write is not of
the whole register or an aligned half. -/
def half64 (base cur off width value : Nat) : Option Nat :=
  if off = base ∧ width = 8 then some (value % 2 ^ 64)
  else if off = base ∧ width = 4 then some (cur / 2 ^ 32 * 2 ^ 32 + value % 2 ^ 32)
  else if off = base + 4 ∧ width = 4 then some (value % 2 ^ 32 * 2 ^ 32 + cur % 2 ^ 32)
  else none

/-- A write to a 64-bit register takes effect through `f`, or is ignored. -/
def State.wr64 (s : State) (base cur off width value : Nat) (f : Nat → State) : State :=
  match half64 base cur off width value with
  | some v => f v
  | none => s

/-- A write to a 32-bit register takes effect through `f`, or is ignored. -/
def State.wr32 (s : State) (base off width value : Nat) (f : Nat → State) : State :=
  if off = base ∧ width = 4 then f (value % 2 ^ 32) else s

/-! ### NOTIF (Tables 12-4, 12-5) -/

/-- Changes an LD's queue. -/
def State.modQ (s : State) (n : Fin 16) (f : Ring → Ring) : State := { s with nt := { s.nt with q := vmod s.nt.q n f } }

/-- A write to NOTIF_QCTRL: the locked SIZE, CLRLOST, UNWIND, then EN. -/
def State.wrQctrl (s : State) (n : Fin 16) (v : Nat) : State :=
  let s := if s.nt.q[n].en = false ∧ field v 4 1 ≤ 12 then s.modQ n fun q => { q with size := field v 4 1 } else s
  let s := if bit v 5 then s.clrLost n else s
  let s := if bit v 6 then s.unwind (whoOf n) else s
  if bit v 0 then s.queueEnable n else s.modQ n fun q => { q with en := false }

/-- 32 bits of a claimant's mask. -/
def setMask (m : BitVec 256) (k v : Nat) : BitVec 256 :=
  BitVec.ofNat 256 (m.toNat / 2 ^ (32 * k + 32) * 2 ^ (32 * k + 32) + v % 2 ^ 32 * 2 ^ (32 * k) + m.toNat % 2 ^ (32 * k))

/-- The part of the NOTIF block that acts for any claimant: EOI and MASK; `none` elsewhere. -/
def State.wrNotifAny (s : State) (who : Fin 17) (off width value : Nat) : Option State :=
  if 0x20 ≤ off ∧ off < 0x2C then some (s.wr32 0x24 off width value fun v => s.eoi who (v % 1024))
  else if 0x40 ≤ off ∧ off < 0x60 then
    some (s.wr32 (off / 4 * 4) off width value fun v => s.modCl who fun x => { x with mask := setMask x.mask ((off - 0x40) / 4) v })
  else none

/-- A write to the NOTIF block of an LD's view. A write to NOTIF_SRC or NOTIF_SWSET counts whatever its width (R299; R467 does not count a write
of another width: DESIGN CHOICE, log 89). -/
def State.wrNotif (s : State) (n : Fin 16) (off width value : Nat) : State :=
  let who := whoOf n
  match s.wrNotifAny who off width value with
  | some t => t
  | none =>
    if off < 0x8 then s.wr64 0 (s.nt.q[n]).base off width value fun v =>
      if s.nt.q[n].en then s else s.modQ n fun q => { q with base := v / 4096 * 4096 }
    else if off < 0xC then s.wr32 0x8 off width value fun v => s.wrQctrl n v
    else if off < 0x10 then s.wr32 0xC off width value fun v =>
      s.modQ n fun q => { q with qrst := q.qrst && !bit v 1, eoierr := q.eoierr && !bit v 2 }
    else if off < 0x14 then s
    else if off < 0x18 then s.wr32 0x14 off width value fun v => s.qcons n (v % 65536)
    else if off < 0x1C then s
    else if (0x100 ≤ off ∧ off < 0x104) ∨ (0x1000 ≤ off ∧ off < 0x1400) then s.violate who 1 off
    else s.violate who 4 off

/-- NOTIF_SRC written by the fabric manager (R287). -/
def State.wrSrc (s : State) (n : Fin 256) (v : Nat) : State :=
  s.modSrc n fun x => { x with prio := field v 3 0, target := BitVec.ofNat 17 (field v 20 4), written := true }

/-- A write to the fabric manager's NOTIF view (R285, R299). -/
def State.wrNotifFm (s : State) (off width value : Nat) : State :=
  match s.wrNotifAny 16 off width value with
  | some t => t
  | none =>
    if 0x100 ≤ off ∧ off < 0x104 then s.wr32 0x100 off width value fun v => s.swSet (BitVec.ofNat 16 v)
    else if 0x1000 ≤ off ∧ off < 0x1400 then
      s.wr32 (off / 4 * 4) off width value fun v => s.wrSrc ⟨(off - 0x1000) / 4 % 256, by omega⟩ v
    else s.violate 16 4 off

/-! ### CWIN (Tables 07-6 to 07-13) -/

/-- A write to CWIN_TR_CTRL: the locked SIZE and TMO, NOTIFY, then EN (R158, R169). -/
def State.wrTrCtrl (s : State) (n : Fin 16) (v : Nat) : State :=
  let s := s.modCw n fun c =>
    { c with size := if c.en = false ∧ field v 4 1 ≤ 13 then field v 4 1 else c.size,
             tmo := if c.en = false ∧ 1 ≤ field v 17 8 ∧ field v 17 8 ≤ 1000 then field v 17 8 else c.tmo, notify := bit v 18 }
  if bit v 0 then s.regionEnable n else if (s.ld n).cw.en then s.regionDisable n else s

/-- A write to a window's registers. -/
def State.wrWin (s : State) (n : Fin 16) (w : Fin 64) (off width value : Nat) : State :=
  if off < 0x8 then s.doorbell n w (off == 0 && width == 8) (value % 2 ^ 64)
  else if off < 0xC then s.wr32 0x8 off width value fun v => s.modWin n w fun x => { x with dbrej := x.dbrej && !bit v 3 }
  else if off < 0x18 then s
  else s.violate (whoOf n) 4 (0x101000 + 0x20 * w.val + off)

/-- A write to the CWIN block. -/
def State.wrCwin (s : State) (n : Fin 16) (off width value : Nat) : State :=
  if off < 0x8 then s.wr64 0 (s.ld n).cw.base off width value fun v =>
    if (s.ld n).cw.en then s else s.modCw n fun c => { c with base := v / 2 ^ 28 * 2 ^ 28 }
  else if off < 0xC then s.wr32 0x8 off width value fun v => s.wrTrCtrl n v
  else if off < 0x10 then s.wr32 0xC off width value fun v => s.modCw n fun c => { c with cfgerr := c.cfgerr && !bit v 25 }
  else if off < 0x14 then s
  else if 0x1000 ≤ off ∧ off < 0x1800 then s.wrWin n ⟨(off - 0x1000) / 0x20 % 64, by omega⟩ ((off - 0x1000) % 0x20) width value
  else s.violate (whoOf n) 4 (0x100000 + off)

/-! ### PMON (Tables 12-9, 12-11, 12-12) -/

/-- The kind of an event of Table 12-9: 0 C, 1 F, 2 O; `none` where the table lists none. -/
def pmKind (ev : Nat) : Option Nat :=
  if ev = 0x000 ∨ [0x014, 0x020, 0x022, 0x024, 0x026, 0x030, 0x035, 0x041, 0x043, 0x044].contains ev then some 1
  else if [0x021, 0x023, 0x025, 0x031, 0x032, 0x033, 0x040, 0x042, 0x050].contains ev then some 2
  else if ev ≤ 0x013 ∨ ev = 0x034 then some 0
  else none

/-- Whether a mode applies to an event (R308). -/
def modeFits (mode ev : Nat) : Bool :=
  match pmKind ev with
  | some 0 => mode == 0
  | some 1 => mode == 0 || mode == 1
  | some _ => mode != 0
  | none => false

/-- A write of PMON_CFG: a mode that does not apply to its event leaves the register as it is. -/
def State.wrCfg (s : State) (n : Fin 64) (v : Nat) : State :=
  if modeFits (field v 11 10) (field v 9 0) then
    { s with pm := { s.pm with cfg := s.pm.cfg.set n (BitVec.ofNat 64 (field v 12 0 + field v 46 16 * 2 ^ 16)) } }
  else s

/-- PMON_SCTRL as it reads. -/
def Pm.sctrl (p : Pm) : Nat := b2n p.sen + p.cls * 2 + p.ldf * 8 + b2n p.ldfe * 128 + p.rand * 256 + p.n * 4096

/-- A write of PMON_SCTRL. -/
def State.wrSctrl (s : State) (v : Nat) : State :=
  let s := { s with pm := { s.pm with cls := if field v 2 1 = 3 then s.pm.cls else field v 2 1, ldf := field v 6 3, ldfe := bit v 7,
                                      rand := if field v 11 8 ≤ 8 then field v 11 8 else s.pm.rand,
                                      n := if 16 ≤ field v 31 12 then field v 31 12 else s.pm.n } }
  if bit v 0 then s.samplingOn else { s with pm := { s.pm with sen := false } }

/-- A write to the PMON block by a claimant that may use it. -/
def State.wrPmon (s : State) (who : Fin 17) (off width value : Nat) : State :=
  if off < 0x4 then s.wr32 0 off width value fun v =>
    let s := { s with pm := { s.pm with en := bit v 0 } }
    let s := if bit v 1 then s.pmSnap else s
    if bit v 2 then s.pmClear else s
  else if 0x8 ≤ off ∧ off < 0x10 then s.wr64 0x8 0 off width value fun v =>
    { s with pm := { s.pm with ovf := s.pm.ovf &&& ~~~(BitVec.ofNat 64 v) } }
  else if 0x10 ≤ off ∧ off < 0x18 then s.wr64 0x10 s.pm.ovfen.toNat off width value fun v =>
    { s with pm := { s.pm with ovfen := BitVec.ofNat 64 v } }
  else if 0x100 ≤ off ∧ off < 0x900 then
    let n : Fin 64 := ⟨(off - 0x100) / 0x20 % 64, by omega⟩
    let o := (off - 0x100) % 0x20
    if o < 0x8 then s.wr64 0 s.pm.cfg[n].toNat o width value fun v => s.wrCfg n v
    else if o < 0x10 then s.wr64 0x8 s.pm.cnt[n].toNat o width value fun v =>
      { s with pm := { s.pm with cnt := s.pm.cnt.set n (BitVec.ofNat 48 v) } }
    else if o < 0x18 then s
    else s.violate who 4 (0x200000 + off)
  else if 0x1000 ≤ off ∧ off < 0x1008 then s.wr64 0x1000 s.pm.sctrl off width value fun v => s.wrSctrl v
  else if 0x1008 ≤ off ∧ off < 0x100C then s.wr32 0x1008 off width value fun v => s.sampleRelease (BitVec.ofNat 2 v)
  else if 0x100C ≤ off ∧ off < 0x1010 then s
  else if 0x80000 ≤ off ∧ off < 0xA0000 then s
  else s.violate who 4 (0x200000 + off)

/-! ### CACHE (Tables 13-4, 13-5) -/

/-- The maintenance operation of an OP field. -/
def mopOf (v : Nat) : Option MOp :=
  match v % 4 with
  | 1 => some .clean
  | 2 => some .invalidate
  | 3 => some .cleanInvalidate
  | _ => none

/-- A write to CACHE_OPADDR takes effect as the maintenance command it spells. -/
def State.wrOpAddr (s : State) (who : Fin 17) (v : Nat) : State :=
  let dpa := v / 64 * 64
  match mopOf v with
  | some .clean => s.opAddr who (.cleanByAddress who dpa) .clean dpa
  | some .invalidate => s.opAddr who (.invalidateByAddress who dpa) .invalidate dpa
  | some .cleanInvalidate => s.opAddr who (.cleanInvalidateByAddress who dpa) .cleanInvalidate dpa
  | none => s

/-- A write to CACHE_OPSW takes effect as the maintenance command it spells. -/
def State.wrOpSw (s : State) (who : Fin 17) (v : Nat) : State :=
  let set := field v 23 0
  let way : Fin 16 := ⟨field v 27 24 % 16, by omega⟩
  match mopOf (field v 29 28) with
  | some .clean => s.opSw who (.cleanBySetWay who set way) .clean set way.val
  | some .invalidate => s.opSw who (.invalidateBySetWay who set way) .invalidate set way.val
  | some .cleanInvalidate => s.opSw who (.cleanInvalidateBySetWay who set way) .cleanInvalidate set way.val
  | none => s

/-- A write to CACHE_RCTRL: OP and ALL unless the engine is busy (R322), then START and ABORT. -/
def State.wrRctrl (s : State) (v : Nat) : State :=
  let s := if s.ca.rbusy then s else { s with ca := { s.ca with rop := field v 3 2, rall := bit v 4 } }
  let s := if bit v 0 then s.rangeStart else s
  if bit v 1 then s.rangeStop else s

/-- A write to the CACHE block by a claimant that may use it. -/
def State.wrCache (s : State) (who : Fin 17) (off width value : Nat) : State :=
  if off < 0x8 then s
  else if off < 0x10 then (if off = 0x8 ∧ width = 8 then s.wrOpAddr who (value % 2 ^ 64) else s)
  else if off < 0x14 then s.wr32 0x10 off width value fun v => s.wrOpSw who v
  else if off < 0x18 then s
  else if off < 0x1C then s.wr32 0x18 off width value fun v => s.wrRctrl v
  else if off < 0x20 then s.wr32 0x1C off width value fun v =>
    { s with ca := { s.ca with rdone := s.ca.rdone && !bit v 1, rrej := s.ca.rrej && !bit v 2, rabt := s.ca.rabt && !bit v 6 } }
  else if off < 0x28 then s.wr64 0x20 s.ca.rbase off width value fun v =>
    if s.ca.rbusy then s else { s with ca := { s.ca with rbase := v / 64 * 64 } }
  else if off < 0x30 then s.wr64 0x28 s.ca.rlen off width value fun v =>
    if s.ca.rbusy then s else { s with ca := { s.ca with rlen := v / 64 * 64 } }
  else if off < 0x38 then s
  else s.violate who 4 (0x300000 + off)

/-! ### SCRUB (Tables 06-6 to 06-9) -/

/-- A write to SCRUB_CTRL: REPAIR unless a scrub runs (R154), NOTIFY, then START and ABORT. -/
def State.wrScrubCtrl (s : State) (n : Fin 16) (v : Nat) : State :=
  let s := s.modScrub n fun x => { x with repair := if x.busy then x.repair else bit v 2, notify := bit v 3 }
  let s := if bit v 0 then s.scrubStart n else s
  if bit v 1 then s.scrubAbort n else s

/-- A write to the SCRUB block. -/
def State.wrScrub (s : State) (n : Fin 16) (off width value : Nat) : State :=
  if off < 0x4 then s.wr32 0 off width value fun v => s.wrScrubCtrl n v
  else if 0x8 ≤ off ∧ off < 0x10 then s.wr64 0x8 (s.ld n).scrub.base off width value fun v =>
    if (s.ld n).scrub.busy then s else s.modScrub n fun x => { x with base := v / 64 * 64 }
  else if 0x10 ≤ off ∧ off < 0x18 then s.wr64 0x10 (s.ld n).scrub.len off width value fun v =>
    if (s.ld n).scrub.busy then s else s.modScrub n fun x => { x with len := v / 64 * 64 }
  else if 0x18 ≤ off ∧ off < 0x1C then s.wr32 0x18 off width value fun v =>
    s.modScrub n fun x => { x with done := x.done && !bit v 1, rej := x.rej && !bit v 2 }
  else if (0x20 ≤ off ∧ off < 0x28) ∨ (0x40 ≤ off ∧ off < 0x80) then s
  else s.violate (whoOf n) 4 (0x400000 + off)

/-! ### SPAD (Table 13-7) -/

/-- A write to the SPAD block. -/
def State.wrSpad (s : State) (who : Fin 17) (off width value : Nat) : State :=
  if off < 0x40000 then s.spadWrite who off width value
  else if off < 0x80000 then s.spadAlias who (off - 0x40000) width fun x => x + value
  else if off < 0xC0000 then s.spadAlias who (off - 0x80000) width fun _ => value
  else s.violate who 4 (0x800000 + off)

/-! ### BAR2 and BAR0 -/

/-- A write to BAR2 of an LD's view (Table 10-10, R265). -/
def State.wrBar2 (s : State) (n : Fin 16) (off width value : Nat) : State :=
  let who := whoOf n
  if off < 0x100000 then s.wrNotif n off width value
  else if off < 0x200000 then s.wrCwin n (off - 0x100000) width value
  else if off < 0x300000 then s.devOnly who off fun s => s.wrPmon who (off - 0x200000) width value
  else if off < 0x400000 then s.devOnly who off fun s => s.wrCache who (off - 0x300000) width value
  else if off < 0x500000 then s.wrScrub n (off - 0x400000) width value
  else if off < 0x800000 then s.violate who 4 off
  else s.wrSpad who (off - 0x800000) width value

/-- The mask of an MSI-X vector changes; a pending vector that is unmasked is signalled (R266). -/
def State.maskVec (s : State) (n : Fin 16) (v : Fin 4) (masked : Bool) : State :=
  let pend := (s.ld n).vecPending[v]
  let s := s.modLd n fun l => { l with vecMasked := l.vecMasked.set v masked }
  if pend ∧ masked = false then (s.modLd n fun l => { l with vecPending := l.vecPending.set v false }).signal n v else s

/-- A write to BAR0 (Table 10-9; log 17): the MSI-X table, the component registers and the mailbox; the rest is read-only or
reserved. -/
def State.wrBar0 (s : State) (n : Fin 16) (off width value : Nat) : State :=
  if 0x20000 ≤ off ∧ off < 0x20040 then
    if off % 16 = 12 ∧ width = 4 then s.maskVec n ⟨(off - 0x20000) / 16 % 4, by omega⟩ (bit value 0)
    else s.modLd n fun l => { l with bar0 := tput 0 off value l.bar0 }
  else if (0x1000 ≤ off ∧ off < 0x10000) ∨ (0x11000 ≤ off ∧ off < 0x15020) then
    s.modLd n fun l => { l with bar0 := tput 0 off value l.bar0 }
  else if (0x10000 ≤ off ∧ off < 0x10200) ∨ (0x10400 ≤ off ∧ off < 0x10500) ∨ (0x20000 ≤ off ∧ off < 0x22000) then s
  else s.violate (whoOf n) 4 off

/-- REGISTER_WRITE (R3 to R5, R467, R263, R264): a CXL.io memory write to a BAR of an LD's function; another BAR is an unsupported
request (R259). -/
def execRegisterWrite (ld : Fin 16) (bar off width value : Nat) (s : State) : Host.Outcome State Fault Refusal :=
  .next (s.io (whoOf ld) (.registerWrite ld bar off width value) fun s =>
    if bar = 2 ∧ off < 0x1000000 then s.wrBar2 ld off width value
    else if bar = 0 ∧ off < 0x40000 then s.wrBar0 ld off width value
    else { s with lk := { s.lk with aerNonfatal := true } })

/-! ### Reads -/

/-- A register as a read finds it: its first offset, its width in bytes and its value. -/
structure RegVal where
  base : Nat
  width : Nat
  value : Nat
  deriving DecidableEq, Repr

/-- The bytes that a read of any width within one register returns (R467); 0 where it leaves the register. -/
def RegVal.bytes (r : RegVal) (off width : Nat) : Nat :=
  if off + width ≤ r.base + r.width then r.value / 2 ^ (8 * (off - r.base)) % 2 ^ (8 * width) else 0

/-- RPRIO and DEPTH of a claimant (Table 12-5). -/
def Claimant.rprio (c : Claimant) : Nat := (if c.prio = 16 then 31 else c.prio) + c.stack.length * 32

/-- NOTIF_SRC of a source. -/
def State.srcWord (s : State) (n : Fin 256) : Nat :=
  let x := s.nt.src[n]
  x.prio + (s.targets n).toNat * 16 + b2n x.pend * 2 ^ 21 + b2n x.act * 2 ^ 22 + x.owner * 2 ^ 23

/-- The registers of the NOTIF block that any claimant reads. -/
def State.rdNotifAny (s : State) (who : Fin 17) (off : Nat) : Option RegVal :=
  if 0x24 ≤ off ∧ off < 0x28 then some ⟨0x24, 4, 0⟩
  else if 0x28 ≤ off ∧ off < 0x2C then some ⟨0x28, 4, s.nt.cl[who].rprio⟩
  else if 0x40 ≤ off ∧ off < 0x60 then some ⟨off / 4 * 4, 4, s.nt.cl[who].mask.toNat / 2 ^ (32 * ((off - 0x40) / 4)) % 2 ^ 32⟩
  else if 0x100 ≤ off ∧ off < 0x104 then some ⟨0x100, 4, 0⟩
  else if 0x1000 ≤ off ∧ off < 0x1400 then some ⟨off / 4 * 4, 4, s.srcWord ⟨(off - 0x1000) / 4 % 256, by omega⟩⟩
  else none

/-- The registers of an LD's NOTIF block, NOTIF_CLAIM apart. -/
def State.rdNotif (s : State) (n : Fin 16) (off : Nat) : Option RegVal :=
  let q := s.nt.q[n]
  if off < 0x8 then some ⟨0, 8, q.base⟩
  else if off < 0xC then some ⟨0x8, 4, b2n q.en + q.size * 2⟩
  else if off < 0x10 then some ⟨0xC, 4, b2n q.armed + b2n q.qrst * 2 + b2n q.eoierr * 4⟩
  else if off < 0x14 then some ⟨0x10, 4, q.prod + b2n q.phase * 65536⟩
  else if off < 0x18 then some ⟨0x14, 4, q.cons⟩
  else if off < 0x1C then some ⟨0x18, 4, q.lost⟩
  else s.rdNotifAny (whoOf n) off

/-- Codes of window states (Table 07-12). -/
def WinState.code : WinState → Nat
  | .idle => 0
  | .opened => 1
  | .committing => 2
  | .committed => 3
  | .aborted => 4
  | .timedOut => 5

/-- A window describes its last closed group (R175). -/
def Win.settled (w : Win) : Win :=
  { Win.init with outcome := w.durOutcome, arrived := w.durCount, gseq := w.durGseq, durGseq := w.durGseq, durOutcome := w.durOutcome,
                  durCount := w.durCount }

/-- What a window's registers show: before media ready STATE is 0 and the rest describes its last closed group (R175). -/
def Win.shown (w : Win) (ready : Bool) : Win :=
  if ready then w else { w.settled with dbrej := w.dbrej, dbcause := w.dbcause }

/-- The registers of the CWIN block. -/
def State.rdCwin (s : State) (n : Fin 16) (off : Nat) : Option RegVal :=
  let c := (s.ld n).cw
  if off < 0x8 then some ⟨0, 8, c.base⟩
  else if off < 0xC then some ⟨0x8, 4, b2n c.en + c.size * 2 + c.tmo * 256 + b2n c.notify * 2 ^ 18⟩
  else if off < 0x10 then some ⟨0xC, 4, s.tentCount n + b2n c.cfgerr * 2 ^ 25⟩
  else if off < 0x14 then some ⟨0x10, 4, c.quota⟩
  else if 0x1000 ≤ off ∧ off < 0x1800 then
    let w : Fin 64 := ⟨(off - 0x1000) / 0x20 % 64, by omega⟩
    let b := 0x1000 + 0x20 * w.val
    let v := (s.win n w).shown s.lk.mediaReady
    let o := (off - 0x1000) % 0x20
    if o < 0x8 then some ⟨b, 8, 0⟩
    else if o < 0xC then some ⟨b + 8, 4, v.state.code + b2n v.dbrej * 8 + v.dbcause * 16 + v.outcome * 256⟩
    else if o < 0x10 then some ⟨b + 0xC, 4, v.arrived⟩
    else if o < 0x18 then some ⟨b + 0x10, 8, v.gseq⟩
    else none
  else none

/-- The 32 bytes of a sample record as a number (Table 12-10). -/
def Sample.word (r : Sample) : Nat :=
  r.dpa / 64 * 64 + r.ld.val * 2 ^ 64 + r.op * 2 ^ 68 + r.path * 2 ^ 72 + b2n r.win * 2 ^ 75 + b2n r.pilot * 2 ^ 76
    + b2n r.fence * 2 ^ 77 + min 15 r.retries * 2 ^ 80 + r.lat % 2 ^ 32 * 2 ^ 96 + r.seq % 2 ^ 48 * 2 ^ 128
    + r.chan % 64 * 2 ^ 176 + r.tarr % 2 ^ 64 * 2 ^ 192

/-- The registers of the PMON block. -/
def State.rdPmon (s : State) (off : Nat) : Option RegVal :=
  let p := s.pm
  if off < 0x4 then some ⟨0, 4, b2n p.en⟩
  else if 0x8 ≤ off ∧ off < 0x10 then some ⟨0x8, 8, p.ovf.toNat⟩
  else if 0x10 ≤ off ∧ off < 0x18 then some ⟨0x10, 8, p.ovfen.toNat⟩
  else if 0x100 ≤ off ∧ off < 0x900 then
    let n : Fin 64 := ⟨(off - 0x100) / 0x20 % 64, by omega⟩
    let b := 0x100 + 0x20 * n.val
    let o := (off - 0x100) % 0x20
    if o < 0x8 then some ⟨b, 8, p.cfg[n].toNat⟩
    else if o < 0x10 then some ⟨b + 8, 8, p.cnt[n].toNat⟩
    else if o < 0x18 then some ⟨b + 0x10, 8, p.snap[n].toNat⟩
    else none
  else if 0x1000 ≤ off ∧ off < 0x1008 then some ⟨0x1000, 8, p.sctrl⟩
  else if 0x1008 ≤ off ∧ off < 0x100C then
    some ⟨0x1008, 4, p.full.toNat + p.active * 4 + (if p.active = 1 then p.bank1 else p.bank0).length * 65536⟩
  else if 0x100C ≤ off ∧ off < 0x1010 then some ⟨0x100C, 4, p.sdrop⟩
  else if 0x80000 ≤ off ∧ off < 0xA0000 then
    let bank := if off < 0x90000 then p.bank0 else p.bank1
    let i := off % 0x10000 / 32
    some ⟨off / 32 * 32, 32, match bank[i]? with
      | some r => Sample.word r
      | none => 0⟩
  else none

/-- The registers of the CACHE block, CACHE_SYNC apart. -/
def State.rdCache (s : State) (off : Nat) : Option RegVal :=
  let c := s.ca
  if off < 0x4 then some ⟨0, 4, cacheSets + 16 * 2 ^ 24⟩
  else if off < 0x8 then some ⟨0x4, 4, b2n c.en + b2n c.stale * 2 + b2n c.lock * 4 + s.opCount * 256⟩
  else if off < 0x10 then some ⟨0x8, 8, 0⟩
  else if off < 0x14 then some ⟨0x10, 4, 0⟩
  else if 0x18 ≤ off ∧ off < 0x1C then some ⟨0x18, 4, c.rop * 4 + b2n c.rall * 16⟩
  else if 0x1C ≤ off ∧ off < 0x20 then
    some ⟨0x1C, 4, b2n c.rbusy + b2n c.rdone * 2 + b2n c.rrej * 4 + c.rcause * 8 + b2n c.rabt * 64⟩
  else if 0x20 ≤ off ∧ off < 0x28 then some ⟨0x20, 8, c.rbase⟩
  else if 0x28 ≤ off ∧ off < 0x30 then some ⟨0x28, 8, c.rlen⟩
  else if 0x30 ≤ off ∧ off < 0x38 then some ⟨0x30, 8, c.rprog⟩
  else none

/-- The summary record of an LD's scrub as a number of 64 bytes (Table 06-10); zeros before the first scrub ended. -/
def Scrub.summary (x : Scrub) : Nat :=
  match x.last with
  | none => 0
  | some r =>
    let c := r.counts
    1 + r.flags * 2 ^ 16 + r.snum % 2 ^ 32 * 2 ^ 32 + c.checked * 2 ^ 64 + c.corrected * 2 ^ 128 + c.refreshed * 2 ^ 192
      + c.reconstructed * 2 ^ 256 + c.uncorrectable * 2 ^ 320 + c.prior * 2 ^ 384 + r.ticks * 2 ^ 448

/-- The registers of the SCRUB block. -/
def State.rdScrub (s : State) (n : Fin 16) (off : Nat) : Option RegVal :=
  let x := (s.ld n).scrub
  if off < 0x4 then some ⟨0, 4, b2n x.repair * 4 + b2n x.notify * 8⟩
  else if 0x8 ≤ off ∧ off < 0x10 then some ⟨0x8, 8, x.base⟩
  else if 0x10 ≤ off ∧ off < 0x18 then some ⟨0x10, 8, x.len⟩
  else if 0x18 ≤ off ∧ off < 0x1C then some ⟨0x18, 4, b2n x.busy + b2n x.done * 2 + b2n x.rej * 4 + x.cause * 8⟩
  else if 0x20 ≤ off ∧ off < 0x28 then some ⟨0x20, 8, x.progress⟩
  else if 0x40 ≤ off ∧ off < 0x80 then some ⟨0x40, 64, x.summary⟩
  else none

/-- A read of the scratchpad window; its aliases read as plain reads. -/
def State.rdSpad (s : State) (who : Fin 17) (off width : Nat) : Option Nat :=
  if off < 0xC0000 ∧ spadFits (off % 0x40000) width then some (s.spadRead who (off % 0x40000) width) else none

/-- The registers of an LD's view of BAR2 that a read changes nothing in; `none` for reserved offsets. -/
def State.rdBar2 (s : State) (n : Fin 16) (off : Nat) : Option RegVal :=
  if off < 0x100000 then s.rdNotif n off
  else if off < 0x200000 then s.rdCwin n (off - 0x100000)
  else if off < 0x300000 then s.rdPmon (off - 0x200000)
  else if off < 0x400000 then s.rdCache (off - 0x300000)
  else if off < 0x500000 then s.rdScrub n (off - 0x400000)
  else none

/-- A read of an LD's view of BAR2 (R5, R265, R288, R320, R467): the bytes of the register and the state after it. A reserved offset, and the
device-wide blocks without control, read 0 and count. No row of the table is a plain read: this is what one returns (log 89). -/
def State.readLd (s : State) (n : Fin 16) (off width : Nat) : Nat × State :=
  let who := whoOf n
  let dev : Bool := 0x200000 ≤ off && off < 0x400000
  if dev && !s.devOk who then (0, s.violate who 3 off)
  else if 0x20 ≤ off ∧ off < 0x24 then (if off = 0x20 ∧ width = 4 then s.readClaim who else (0, s))
  else if 0x300014 ≤ off ∧ off < 0x300018 then
    (if off = 0x300014 ∧ width = 4 then (s.ca.synced, { s with ca := { s.ca with synced := 0 } }) else (0, s))
  else if 0x800000 ≤ off then
    match s.rdSpad who (off - 0x800000) width with
    | some v => (v, s)
    | none => (0, s.violate who 4 off)
  else match s.rdBar2 n off with
    | some v => (v.bytes off width, s)
    | none => (0, s.violate who 4 off)

/-- Media Status in the Memory Device Status register. -/
def MediaStatus.code : MediaStatus → Nat
  | .notReady => 0
  | .ready => 1
  | .error => 2

/-- The Memory Device Status register at BAR0 0x1_0400 (R250, R259, R263; its bits as CXL 3.1 has them, log 17): Device Fatal, Media Status. -/
def State.memStatus (s : State) : Nat := b2n s.lk.fatal + 4 * s.lk.mediaStatus.code

/-- A read of a device-wide view by the fabric manager (R285): 0 NOTIF, 1 PMON, 2 CACHE, 3 SPAD; the value and the state after it.
A reserved offset reads 0 and counts (R5). -/
def State.readFm (s : State) (block off width : Nat) : Nat × State :=
  let of (r : Option RegVal) : Nat × State := match r with
    | some v => (v.bytes off width, s)
    | none => (0, s.violate 16 4 off)
  if block = 0 then
    if 0x20 ≤ off ∧ off < 0x24 then (if off = 0x20 ∧ width = 4 then s.readClaim 16 else (0, s)) else of (s.rdNotifAny 16 off)
  else if block = 1 then of (s.rdPmon off)
  else if block = 2 then
    if 0x14 ≤ off ∧ off < 0x18 then
      (if off = 0x14 ∧ width = 4 then (s.ca.synced, { s with ca := { s.ca with synced := 0 } }) else (0, s))
    else of (s.rdCache off)
  else match s.rdSpad 16 off width with
    | some v => (v, s)
    | none => (0, s.violate 16 4 off)

/-- A write to a device-wide view by the fabric manager (R285). -/
def State.writeFm (s : State) (block off width value : Nat) : State :=
  if block = 0 then s.wrNotifFm off width value
  else if block = 1 then s.wrPmon 16 off width value
  else if block = 2 then s.wrCache 16 off width value
  else s.wrSpad 16 off width value

end Sys2Proof.Machine
end

