-- ==== Sys2Proof/Machine/Tethers.lean ====
section
/-! DEFINITION. Tether ends as the other families meet them: states, absence, removal (15_lode_links_and_pools.md R363, R366, R370; 07 R182). -/

namespace Sys2Proof.Machine

/-- What a tether end keeps for good becomes durable (R360). -/
def State.saveTether (s : State) (t : Fin 8) : State := s.save (48 + t.val)

/-- A tether enters a state; source 0x036 fires on a change (R363). -/
def State.tetherTo (s : State) (t : Fin 8) (x : TetherState) : State :=
  if s.lo.tethers[t].state = x then s else (s.modTether t fun y => { y with state := x }).raise 0x36 0 0

/-- Whether a write in the pipeline goes through a tether and awaits its partner. -/
def State.awaits (s : State) (t : Fin 8) (w : Write) : Bool :=
  !w.partnerAck && (s.regionOf w.line).val == s.lo.tethers[t].region

/-- Tethered writes and commit records go on without the partner (R182, R366). -/
def State.waivePartner (s : State) (t : Fin 8) : State :=
  let ack (w : Write) : Write := if s.awaits t w then { w with partnerAck := true } else w
  let s := { s with wp := { s.wp with progs := s.wp.progs.map ack, allocQ := s.wp.allocQ.map ack } }
  let s := (s.modTether t fun x => { x with sent := [] }).toIndex
  (allFin 16).foldl (fun (s : State) n => (allFin 64).foldl (fun (s : State) w =>
    if (s.win n w).recIssued ∧ (s.win n w).teth = some t then
      (s.modWin n w fun v => { v with recPartner := true }).tryCommit n w false
    else s) s) s

/-- The resync under way stops: the lines that await TCONF give up their interlock entries (R368). -/
def State.resyncStop (s : State) (t : Fin 8) : State :=
  let lines := s.lo.tethers[t].rs
  let s := s.modTether t fun x => { x with rs := [], unsent := [] }
  (lines.foldl (fun (s : State) (l : Nat × Nat) => s.releaseLock l.2) s).runEnc

/-- An end declares its partner absent (R366): writes that await TCONF have their granules marked and go on. -/
def State.declareAbsent (s : State) (t : Fin 8) : State :=
  let x := s.lo.tethers[t]
  if x.state ≠ .pairing ∧ x.state ≠ .syncing ∧ x.state ≠ .inSync then s
  else
    let late := if x.replica then [] else s.inflight.filter (s.awaits t)
    let s := late.foldl (fun (s : State) (w : Write) => s.setDirtyBit t (s.tetherGran t w.line)) s
    ((s.tetherTo t .absent).resyncStop t).waivePartner t

/-- An Up port with no tether left that names it returns to Discovery (Table 15-2). -/
def State.portsIdle (s : State) : State :=
  (allFin 4).foldl (fun (s : State) p =>
    if s.lo.ports[p].state = .up ∧ (allFin 8).all (fun t => s.lo.tethers[t].state == .free || s.lo.tethers[t].removed || !s.lo.tethers[t].ports.getLsbD p.val) then
      s.modLode p fun x => { x with state := .discovery, keyed := false, txKey := 0, rxKey := 0 }
    else s) s

/-- A tether end is as never configured. -/
def State.freeTether (s : State) (t : Fin 8) : State :=
  let s := s.tetherTo t .free
  { s with lo := { s.lo with tethers := s.lo.tethers.set t Tether.init } }

/-- The levels a member reported are forgotten with the last tether to it (R372). -/
def State.forgetLevels (s : State) (m : Nat) : State :=
  let partners := (allFin 8).filterMap fun k => if s.lo.tethers[k].state = .free then none else some s.lo.tethers[k].partner
  { s with lo := { s.lo with levels := s.lo.levels.filter fun (l : MemberLevel) => l.member ≠ m || partners.contains l.member } }

/-- The tether is removed at this end (R370): its writes go on alone, the pairing key is wiped, the bitmap discarded, the partner's level
forgotten with its last tether (R372); REMOVED is sent where asked. -/
def State.removeTether (s : State) (t : Fin 8) (tell : Bool) : State :=
  let x := s.lo.tethers[t]
  if x.state = .free then s
  else
    let s := if tell then s.tetherSend t .removed else s
    let s := (s.resyncStop t).waivePartner t
    let s := s.freeTether t
    let s := s.forgetLevels x.partner
    let s := { s with sec := { s.sec with macSlots := vmod s.sec.macSlots ⟨8 + t.val, by omega⟩ fun m => { m with uses := 0, reserved := 0 } } }
    (s.saveTether t).portsIdle

/-- Every tether whose region meets a range of bytes is removed before its capacity goes (R370). -/
def State.untether (s : State) (base len : Nat) : State :=
  (allFin 8).foldl (fun (s : State) t =>
    let r := s.cr.regions[regIx s.lo.tethers[t].region]
    if s.lo.tethers[t].state ≠ .free ∧ r.base < base + len ∧ base < r.base + r.size then s.removeTether t true else s) s

/-- Every tether is removed. -/
def State.untetherAll (s : State) : State := (allFin 8).foldl (fun (s : State) t => s.removeTether t true) s

end Sys2Proof.Machine
end

