-- ==== Sys2Proof/Machine/Cxl.lean ====
section
/-! DEFINITION. The CXL link, resets, GPF, HDM decoders, CDAT and IDE failures: shared operations and the commands of the family
(10_cxl_interface.md R239 to R262; 02_persistence_contract.md R39; 08_inline_encryption.md R213). -/

namespace Sys2Proof.Machine

/-! ### Training (R239 to R241) -/

/-- Whether a port exists: port 1 only when the bifurcation strap is set (R240). -/
def State.portThere (s : State) (p : Fin 2) : Bool := p.val == 0 || s.pw.straps.getLsbD 0

/-- LINK_TRAINING_RESULT (R239 to R241): a port trains as a multi-logical or a single logical device, as PCIe only, or not. -/
def execLinkTrainingResult (port : Fin 2) (result : TrainResult) (s : State) : Host.Outcome State Fault Refusal :=
  let p := s.lk.ports[port]
  if s.pw.dieUp = false ∨ s.portThere port = false ∨ (p.mode ≠ .down ∧ p.mode ≠ .training) then .next s
  else
    match result with
    | .cxl toSwitch width =>
      .next (s.modPort port fun p => { p with mode := if toSwitch then .mld else .sld, width := width, perst := false })
    | .pcieOnly rate =>
      .next ((s.modPort port fun p => { p with mode := .pcieOnly, perst := false }).event 0x6005 2 (oUnit 1 port.val) rate 0 0 0)
    | .failed => .next (s.modPort port fun p => { p with mode := .down, perst := false })

/-! ### What a reset does to an LD (R258, R169, R175, R178) -/

/-- The session opened on an LD's mailbox ends (R258, R278). -/
def State.endSession (s : State) (n : Fin 16) : State := s.modMb (.ld n) fun m => { m with session := none }

/-- A running Scan Media ends before its end (R254, R258). -/
def State.scanStop (s : State) (n : Fin 16) (flags code : Nat) : State :=
  ((s.scrubFinish n flags).modScrub n fun x => { x with scan := false }).bgEnd (.ld n) code

/-- The LD's own BAR2 registers are reset: its sources released, its groups closed, its scrub aborted, the lease words cleared. -/
def State.resetBar2 (s : State) (n : Fin 16) : State :=
  let s := s.unwind (whoOf n)
  let s := { s with nt := { s.nt with q := s.nt.q.set n Ring.init } }
  let s := s.modCl (whoOf n) fun x => { x with mask := BitVec.allOnes 256 }
  let s := (s.closeAll n 8).modLd n fun l =>
    { l with cw := Cw.init, wins := l.wins.map fun w => { w with dbrej := false, dbcause := 0, dbWait := none } }
  let s := s.clearLeases n
  let s := if (s.ld n).scrub.busy then
      if (s.ld n).scrub.scan then s.scanStop n (scrubFlags false true false false) 0x0012
      else s.scrubFinish n (scrubFlags false true false (s.ld n).scrub.counts.skipped)
    else s
  s.modScrub n fun x => { x with repair := true, notify := true, base := 0, len := 0, done := false, rej := false, cause := 0, progress := 0 }

/-- The PCIe function state of an LD: MSI-X and mailbox registers; a background command's result is discarded (R258). -/
def State.resetFunction (s : State) (n : Fin 16) : State :=
  let s := s.modLd n fun l => { l with vecMasked := .replicate 4 true, vecPending := .replicate 4 false,
                                       bar0 := l.bar0.filter fun x => !(decide (0x11000 ≤ x.1)) }
  let s := (s.mapWrites (cutWrite fun i => i == .ld n)).dropHeld (waitsOn n)
  s.modMb (.ld n) fun m => { m with bg := m.bg.bind fun b => if b.running then some { b with discard := true } else none }

/-- Every HDM decoder of an LD is uncommitted. -/
def State.resetDecoders (s : State) (n : Fin 16) : State := s.modLd n fun l => { l with decoders := .replicate 4 .init }

/-- Writes of the LDs of a port lose their completions; requests not past stage 1 are dropped; reads past it are discarded. -/
def State.dropTraffic (s : State) (p : Fin 2) : State :=
  let mine (n : Fin 16) : Bool := s.portOf n == p
  let cut (w : Write) : Write := if w.src = .host ∧ mine w.ld then { w with discard := true } else w
  let gone := s.rp.tracker.filter fun (r : Read) => r.src == .host && mine r.ld
  let freed : List (Fin 64) := gone.filterMap fun (r : Read) => r.chan
  let recs := (gone.filter fun (r : Read) => r.recovering).length
  let ahead : List (Fin 64) := gone.filterMap fun (r : Read) => r.runAhead.map fun _ => s.peatChan r.line
  let s := (freed ++ ahead).foldl (fun (s : State) c => s.readAdd c false) s
  let s := s.mapLds fun l => { l with adm := l.adm.map cut }
  { s with
    wp := { s.wp with rx := s.wp.rx.filter fun (r : RxReq) => !mine r.ld, mergeQ := s.wp.mergeQ.map cut, encQ := s.wp.encQ.map cut,
                      allocQ := s.wp.allocQ.map cut, progs := s.wp.progs.map cut, idxQ := s.wp.idxQ.map cut,
                      ilocks := s.wp.ilocks.map fun (l : ILock) => { l with waiting := l.waiting.map cut },
                      cplQ := s.wp.cplQ.filter fun (c : Completion) => !mine c.ld },
    rp := { s.rp with rx := s.rp.rx.filter fun (r : RxReq) => !mine r.ld, rcn := s.rp.rcn - recs,
                      tracker := s.rp.tracker.filter fun (r : Read) => !(r.src == .host && mine r.ld),
                      rsp := s.rp.rsp.filter fun (r : Response) => !mine r.ld,
                      detectors := s.rp.detectors.filter fun (d : Detector) => !mine d.ld } }

/-- Conventional reset and Hot Reset of one LD of the port (Table 10-6). -/
def State.resetLd (s : State) (n : Fin 16) : State :=
  let s := ((s.resetFunction n).resetDecoders n).modLd n fun l => { l with bar0 := [], resetting := none }
  (s.resetBar2 n).endSession n

/-- Conventional reset, Hot Reset or link down of a port: its traffic, every LD of it, and its link, which retrains on every lane
(R237). -/
def State.resetPort (s : State) (p : Fin 2) (mode : PortMode) (perst : Bool) : State :=
  let s := (s.dropTraffic p).dropHeld (posted s p)
  let s := (s.portLds p).foldl State.resetLd s
  s.modPort p fun x => { x with mode := mode, perst := perst, lost := 0, withheld := false, width := if s.pw.straps.getLsbD 0 then 8 else 16,
                                ide := ⟨none, none, none, none⟩ }

/-- CONVENTIONAL_RESET (R258, R282): PERST_N of a port is asserted; a frozen security state ends. -/
def execConventionalReset (port : Fin 2) (s : State) : Host.Outcome State Fault Refusal :=
  if s.pw.dieUp ∧ s.portThere port then
    .next ((s.portLds port).foldl (fun (s : State) n => s.modLd n fun l => { l with pass := { l.pass with frozen := false } })
      (s.resetPort port .down true))
  else .next s

/-- HOT_RESET (R258): a Hot Reset, or the link goes down. -/
def execHotReset (port : Fin 2) (s : State) : Host.Outcome State Fault Refusal :=
  if s.pw.dieUp ∧ s.portThere port then .next (s.resetPort port .training false) else .next s

/-- FLR (R258): one LD's function; decoders, BAR2 and CXL.mem are unaffected. -/
def execFlr (ld : Fin 16) (s : State) : Host.Outcome State Fault Refusal :=
  if s.pw.dieUp then .next ((s.resetFunction ld).endSession ld) else .next s

/-- CXL_RESET (R258): the LD's decoders, registers and groups at once; its requests wait until the reset completes. -/
def execCxlReset (ld : Fin 16) (memClr : Bool) (s : State) : Host.Outcome State Fault Refusal :=
  if s.pw.dieUp ∧ (s.ld ld).resetting = none then
    .next ((((s.resetDecoders ld).resetBar2 ld).endSession ld).modLd ld fun l => { l with resetting := some memClr })
  else .next s

/-- Whether a CXL.mem request of an LD is past stage 1 and not completed. -/
def State.ldBusy (s : State) (n : Fin 16) : Bool :=
  !(s.ld n).adm.isEmpty || s.inflight.any (fun (w : Write) => w.src == .host && w.ld == n) ||
  s.wp.cplQ.any (fun (c : Completion) => c.ld == n) ||
  s.rp.tracker.any (fun (r : Read) => r.src == .host && r.ld == n) || s.rp.rsp.any (fun (r : Response) => r.ld == n)

/-- The granules of an LD's static partition and of the extents it alone holds (R258). -/
def State.ownGrans (s : State) (n : Fin 16) : List Nat :=
  let l := s.ld n
  let mine := s.lk.extents.filter fun (e : Extent) => e.holders == [n]
  let has (a : Nat) : Bool := (decide (l.partBase ≤ a) && decide (a < l.partBase + l.partSize)) ||
    mine.any fun (e : Extent) => decide (e.base ≤ a) && decide (a < e.base + e.len)
  (((s.fo.map.map (·.1)) ++ (s.wp.index.map fun p => granOf p.1)).dedup).filter fun g => has (g * 16384)

/-- CXL_RESET_COMPLETE (R258): with every earlier request completed, and the capacity cleared where asked, requests go on. -/
def execCxlResetComplete (ld : Fin 16) (s : State) : Host.Outcome State Fault Refusal :=
  match (s.ld ld).resetting with
  | none => .next s
  | some clr =>
    if s.ldBusy ld then .next s
    else
      let t := if clr then
          let u := s.untether (s.ld ld).partBase (s.ld ld).partSize
          let mine := u.lk.extents.filter fun (e : Extent) => e.holders == [ld]
          let u := mine.foldl (fun (u : State) (e : Extent) => u.untether e.base e.len) u
          (u.ownGrans ld).foldl State.unwriteGranule u
        else s
      .next ((t.modLd ld fun l => { l with resetting := none }).judgeMarks.drainWrites.drainReads)

/-! ### GPF (R39, R257) -/

/-- Every commit record already issued is written in two copies (R39, R170). -/
def State.commitDue (s : State) : State :=
  (allFin 16).foldl (fun (s : State) n => (allFin 64).foldl (fun (s : State) w =>
    if (s.win n w).recIssued then (s.modWin n w fun v => { v with recLocal := true }).tryCommit n w false else s) s) s

/-- What a Phase 2 waits for once everything has gone as far as it can: writes past admission that have not finished step 3 of Table 02-1, and
groups whose commit record is issued and not yet through. -/
def State.gpfLeft (s : State) (port : Fin 2) : GpfWait :=
  ⟨port, (s.inflight.filter fun (w : Write) => !w.src.intern).map (·.seq),
    (allFin 16).flatMap fun n => (allFin 64).filterMap fun w =>
      if (s.win n w).recIssued ∧ (s.win n w).state = .committing ∧ s.replicaGroup n w = false then some (n, w, (s.win n w).gseq) else none⟩

/-- Whether a Phase 2 waits for nothing any more. -/
def State.gpfOver (s : State) (g : GpfWait) : Bool :=
  (g.seqs.all fun q => s.inflight.all fun (w : Write) => w.seq ≠ q) &&
    g.recs.all fun r => (s.win r.1 r.2.1).gseq ≠ r.2.2 || (s.win r.1 r.2.1).state ≠ .committing

/-- The completions of Phase 2 that have come due are reported (R39). -/
def State.gpfEnds (s : State) : State :=
  let t : State := { s with lk := { s.lk with gpf := s.lk.gpf.filter fun g => !s.gpfOver g } }
  (s.lk.gpf.filter s.gpfOver).foldl (fun (t : State) g => t.emit (.gpf g.port 2)) t

/-- GPF_PHASE1_REQUEST (R39): completion is reported without further action. -/
def execGpfPhase1Request (port : Fin 2) (s : State) : Host.Outcome State Fault Refusal := .next (s.emit (.gpf port 1))

/-- GPF_PHASE2_REQUEST (R39): admitted writes become durable, completions that R27 permits return, due commit records are written; completion
is reported when all of that is done: at once, or where writes still wait for a partner, a slot or a held page, by the block itself once they
are through (log 82). -/
def execGpfPhase2Request (port : Fin 2) (s : State) : Host.Outcome State Fault Refusal :=
  if s.pw.dataPath then
    let t := s.carryAll
    let t := (t.returnAll t.wp.cplQ.length).commitDue.judgeMarks
    s.done (State.gpfEnds { t with lk := { t.lk with gpf := t.lk.gpf ++ [t.gpfLeft port] } })
  else .next (s.emit (.gpf port 2))

/-! ### HDM decoders (R245) -/

/-- What a decoder supports (R245). -/
def decoderFits (c : DecoderCfg) : Bool :=
  [1, 2, 4, 8, 16].contains c.ways && [256, 512, 1024, 2048, 4096, 8192, 16384].contains c.gran && decide (c.size % 2 ^ 28 = 0)

/-- A commit of a decoder: it fails where its DPA range reaches 0xC000_0000_0000 or overlaps that of another committed decoder. -/
def State.commitDecoder (s : State) (n : Fin 16) (d : Fin 4) (c : DecoderCfg) : State :=
  let l := s.ld n
  if l.decoders[d].committed then s
  else
    let tries := l.decoders.set d ⟨c, true, false⟩
    let bases := decBases 0 tries.toList
    let base := bases.getD d.val 0
    let span := Decoder.span ⟨c, true, false⟩
    let clash := (allFin 4).any fun i => i ≠ d && tries[i].committed &&
      decide (bases.getD i.val 0 < base + span) && decide (base < bases.getD i.val 0 + tries[i].span)
    if decoderFits c = false ∨ 0xC00000000000 < base + span ∨ clash then
      s.modLd n fun l => { l with decoders := l.decoders.set d ⟨c, false, true⟩ }
    else s.modLd n fun l => { l with decoders := tries }

/-- HDM_DECODER_COMMIT (R245). -/
def execHdmDecoderCommit (ld : Fin 16) (dec : Fin 4) (cfg : DecoderCfg) (s : State) : Host.Outcome State Fault Refusal :=
  .next (s.io (whoOf ld) (.hdmDecoderCommit ld dec cfg) fun s => s.commitDecoder ld dec cfg)

/-! ### CDAT (R262) -/

/-- The CDAT of an LD: a DSMAS entry for its static partition and one for each DC region, non-volatile, and the DSLBIS figures of
R262. -/
def State.cdat (s : State) (n : Fin 16) : Payload :=
  let l := s.ld n
  .fields ([("dsmas0.base", l.partBase), ("dsmas0.len", l.partSize), ("dsmas0.nonvolatile", 1)] ++
    s.lk.dcRegions.toList.flatMap (fun r => [("dsmas.base", r.base), ("dsmas.len", r.len), ("dsmas.nonvolatile", 1)]) ++
    [("readLatencyNs", 1300), ("writeLatencyNs", 2400), ("readMBps", 110000), ("writeMBps", 18000)])

/-- CDAT_TABLE_ACCESS (R262). -/
def execCdatTableAccess (ld : Fin 16) (s : State) : Host.Outcome State Fault Refusal :=
  if s.pw.dieUp then .next (s.emit (.doe ld (s.cdat ld))) else .next s

/-! ### IDE (R213, R259) -/

/-- IDE_INTEGRITY_FAILURE (R213): no write of the failed flit is applied; the stream ends, as CXL IDE requires (log 28), and the
critical Link event 0x6003 is recorded. -/
def execIdeIntegrityFailure (port : Fin 2) (s : State) : Host.Outcome State Fault Refusal :=
  let p := s.lk.ports[port]
  if p.ide.rx.isSome then
    .next (((s.modPort port fun p => { p with ide := { p.ide with tx := none, rx := none } }).emit (.err none 2)).event 0x6003 3
      (oUnit 1 port.val) 0 0 0 0)
  else .next s

end Sys2Proof.Machine
end

