-- ==== Sys2Proof/Machine/Mac.lean ====
section
/-! DEFINITION. The management MAC engine: usage counts, replacement of its keys, mismatches, and drawn keys sealed under slot 7
(14_security_and_lifecycle.md R339 to R345). -/

namespace Sys2Proof.Machine

/-- A drawn key that is not sealed. -/
def State.newKey (s : State) : Key × State :=
  let (n, s) := s.draw
  (Config.freeKey n, s)

/-- The bytes of a number, `n` of them, little-endian. -/
def le (n v : Nat) : List Byte := (List.range n).map fun i => BitVec.ofNat 8 (v / 256 ^ i)

/-- The bytes of a 32-byte key or password. -/
def keyBytes (k : Key) : List Byte := le 32 k.toNat

/-- The check value of a passphrase or password under a check key (R282, R402). -/
def checkValue (k pw : Key) : Block128 := Config.cmac k (keyBytes pw)

/-- Whether the engine takes a request for a slot: its known-answer test has not failed and the usage limit is not reached (R340, R342). -/
def State.macOk (s : State) (slot : Fin 16) : Bool :=
  !s.sec.katFailed && decide (s.sec.macSlots[slot].uses < s.sec.macSlots[slot].limit)

/-- The store item of a slot's usage counter. -/
def State.saveUsage (s : State) (slot : Fin 16) : State := s.saveCounter (16 + slot.val)

/-- One request is counted; a block of 2^16 is reserved durably before it is used (R342). -/
def State.macCount (s : State) (slot : Fin 16) : State :=
  let m := s.sec.macSlots[slot]
  let s := if m.uses < m.reserved then s
    else ({ s with sec := { s.sec with macSlots := vmod s.sec.macSlots slot fun m => { m with reserved := m.reserved + 65536 } } }).saveUsage slot
  { s with sec := { s.sec with macSlots := vmod s.sec.macSlots slot fun m => { m with uses := m.uses + 1 } } }

/-- A slot's key has been replaced: its count starts again (R342). -/
def State.macReset (s : State) (slot : Fin 16) : State :=
  ({ s with sec := { s.sec with macSlots := vmod s.sec.macSlots slot fun m => { m with uses := 0, reserved := 0 } } }).saveUsage slot

/-- Every sealed record is sealed again under the next epoch (R342, R345). -/
def State.reseal (s : State) : State := (({ s with sec := { s.sec with sealEpoch := s.sec.sealEpoch + 1 } }).saveCounter 2).macReset 7

/-- A wrap under slot 7, which re-seals before it reaches 2^31 uses. -/
def State.sealUse (s : State) : State :=
  let s := s.macCount 7
  if 2 ^ 31 ≤ s.sec.macSlots[(7 : Fin 16)].uses + 1 then s.reseal else s

/-- A newly drawn key, sealed into the keeper store and loaded (R187, R344). -/
def State.drawKey (s : State) (item : Nat) : SealedKey × State :=
  let (k, s) := s.newKey
  (⟨some k, true⟩, (s.sealUse).store 1 item 48)

/-- The key of slots 4 to 7 is replaced before it reaches 2^31 uses (R342): new check values, a new wrap key, or a new seal epoch. -/
def State.macReplace (s : State) (slot : Fin 16) : State :=
  if slot.val = 4 then
    let (k, s) := s.drawKey 4
    let chk : Option Key → Option Block128 := fun x => x.map (checkValue k.get)
    ({ s with sec := { s.sec with keyPass := k } }.mapLds fun l =>
      { l with pass := { l.pass with user := chk l.pass.userPw, master := chk l.pass.masterPw } }).macReset slot
  else if slot.val = 5 then
    let (k, s) := s.drawKey 5
    ({ s with sec := { s.sec with keyCust := k } }).macReset slot
  else if slot.val = 6 then
    let (k, s) := s.newKey
    ({ s with sec := { s.sec with keyWrap := ⟨some k, true⟩ } }).macReset slot
  else s.reseal

/-- One request of a slot. -/
def State.macUse (s : State) (slot : Fin 16) : State :=
  let s := s.macCount slot
  if 4 ≤ slot.val ∧ slot.val ≤ 7 ∧ 2 ^ 31 ≤ s.sec.macSlots[slot].uses + 1 then s.macReplace slot else s

/-! ### CMAC requests (R341, R343) -/

/-- A function of the engine (Table 14-3). -/
inductive MacFn where
  | cmac
  | wrap
  | unwrap
  deriving DecidableEq, Repr

/-- Whether a function is marked for its slot (Table 14-3). -/
def MacFn.marked (f : MacFn) (slot : Fin 16) : Bool := match f with
  | .cmac => slot.val ≤ 5 ∨ 8 ≤ slot.val
  | .wrap => slot.val = 6 ∨ slot.val = 7
  | .unwrap => slot.val ≤ 3 ∨ slot.val = 6 ∨ slot.val = 7

/-- The longest message, in bytes (R341). -/
def macMsgLimit : Nat := 2 ^ 24

/-- A CMAC request starts: `none` where the engine refuses it (Table 14-3, R340, R342). -/
def State.macBegin (s : State) (slot : Fin 16) : Option State :=
  if MacFn.cmac.marked slot && s.macOk slot then some { s with sec := { s.sec with mac := some ⟨slot, macMsgLimit, []⟩ } } else none

/-- Bytes of the message are absorbed. A message longer than the limit is refused at its first byte beyond it: the request ends, nothing is
released and no use is counted (R341). -/
def State.macAbsorb (s : State) (bytes : List Byte) : Bool × State := match s.sec.mac with
  | none => (false, s)
  | some c =>
    let fits := decide (c.msg.length + bytes.length ≤ c.limit)
    (fits, { s with sec := { s.sec with mac := if fits then some { c with msg := c.msg ++ bytes } else none } })

/-- The request ends: its CMAC under the slot's key is released, and the use is counted (R342). -/
def State.macFinish (s : State) (key : Key) : Option Block128 × State := match s.sec.mac with
  | none => (none, s)
  | some c => (some (Config.cmac key c.msg), ({ s with sec := { s.sec with mac := none } } : State).macUse c.slot)

/-- The state of the unfinished request is saved (R343): in the clear while it has absorbed nothing, else wrapped under slot 6, which counts
a use there and is refused where that slot refuses. -/
def State.macSave (s : State) : Option SavedMac × State := match s.sec.mac with
  | none => (none, s)
  | some c =>
    let s : State := { s with sec := { s.sec with mac := none } }
    let put := fun (x : SavedMac) (s : State) => (some x, ({ s with sec := { s.sec with savedMacs := x :: s.sec.savedMacs } } : State))
    if c.msg = [] then put (.clear c.slot c.limit) s
    else if s.macOk 6 then put (.wrapped c s.sec.keyWrap.key) (s.macUse 6)
    else (none, s)

/-- A saved context is restored (R343): the slot's usage limit is checked again, and a wrapped one unwraps only under the key it was wrapped
under. The answer says whether the request goes on. -/
def State.macRestore (s : State) (x : SavedMac) : Bool × State :=
  let s : State := { s with sec := { s.sec with savedMacs := s.sec.savedMacs.erase x } }
  let put := fun (c : MacCtx) (s : State) =>
    if s.macOk c.slot then (true, ({ s with sec := { s.sec with mac := some c } } : State)) else (false, s)
  match x with
  | .clear slot limit => put ⟨slot, limit, []⟩ s
  | .wrapped c key =>
    if s.macOk 6 then
      let t := s.macUse 6
      if s.sec.keyWrap.loaded && key.isSome && key == s.sec.keyWrap.key then put c t else (false, t)
    else (false, s)

/-- A whole CMAC request in one step, which is the three operations above one after the other: `none`, with no use counted, where the engine
refuses it or the message is too long. -/
def State.macRun (s : State) (slot : Fin 16) (key : Key) (msg : List Byte) : Option Block128 × State :=
  if MacFn.cmac.marked slot && s.macOk slot && decide (msg.length ≤ macMsgLimit) then (some (Config.cmac key msg), s.macUse slot) else (none, s)

/-- A CMAC computed by the engine, or by the keeper with its sealed copy (R274), which counts no use. -/
def State.macValue (s : State) (eng : Bool) (slot : Fin 16) (key : Key) (msg : List Byte) : Option Block128 × State :=
  if eng then s.macRun slot key msg else (some (Config.cmac key msg), s)

/-- A check value computed under a check key (R282, R402). -/
def State.checkOf (s : State) (eng : Bool) (slot : Fin 16) (key pw : Key) : Option Block128 × State :=
  s.macValue eng slot key (keyBytes pw)

/-- The two computations of a request differ (R340): counted, event 0x3007, and the known-answer test. -/
def State.macMismatch (s : State) (slot : Fin 16) (katOk : Bool) : State :=
  let s := (s.macUse slot).event 0x3007 3 oDev slot.val 0 0 0
  if katOk then s else { s with sec := { s.sec with katFailed := true } }

end Sys2Proof.Machine
end

