-- ==== Sys2Proof/Machine/Rekey.lean ====
section
/-! DEFINITION. Region rekeys and the seal of the roots: shared operations and the commands of the family
(08_inline_encryption.md R186 to R210). -/

namespace Sys2Proof.Machine

/-- The last page of a region; region 0 ends with the user capacity. -/
def State.regionEnd (s : State) (r : Fin 256) : Nat :=
  let x := s.cr.regions[r]
  if r.val = 0 then s.capacity / 4096 else (x.base + x.size) / 4096

/-- The engine has processed the page at W (R206, R207): it advances, and every 2^16 pages its record becomes durable. -/
def State.advanceW (s : State) (r : Fin 256) : State :=
  let w := s.cr.regions[r].w + 1
  let s := s.modRegion r fun x => { x with w := w }
  if w % 65536 = 0 then
    (s.modRegion r fun x => { x with durW := some w }).metaRec (.watermark r.val w s.cr.regions[r].byExhaust)
  else s

/-- One page of a rekey (R206): EARLY is cleared, a written page is re-encrypted under the next key, another set to zero. Region
0 passes over pages of other regions. -/
def State.rekeyPage (s : State) (r : Fin 256) : State :=
  let x := s.cr.regions[r]
  let page := x.w
  if s.regionOf (page * 64) ≠ r then s.modRegion r fun x => { x with w := x.w + 1 }
  else
    let b := s.block page
    let s := if b.early then (s.setBlock page { b with early := false }).modRegion r fun x => { x with early := x.early - 1 }
      else if s.pageWritten page then s.reencPage page 0 (!x.cur) false
      else s.setBlock page CBlock.zero
    s.advanceW r

/-- REKEY_PAGE_STEP (R206, R208): the page at the watermark, when admission would let the engine's writes go and no write holds
the page. -/
def execRekeyPageStep (region : Fin 256) (s : State) : Host.Outcome State Fault Refusal :=
  let x := s.cr.regions[region]
  let s := s.rollMs
  if x.state = .rekeying ∧ x.w < s.regionEnd region ∧ s.admits ∧ (s.wp.ilocks.all fun l => pageOf l.line ≠ x.w) ∧
      s.setFrozen (s.setOf (x.w / 4)) = false then
    s.done (s.rekeyPage region).judgeMarks
  else .next s

/-- Whether anything still lives under a region's old key: tentative lines of open or committing groups, or entries (R210). -/
def State.oldKeyLive (s : State) (r : Fin 256) : Bool :=
  let old := s.cr.regions[r].cur
  s.wp.tents.any (fun (t : TentRec) => s.groupIs t.ld t.win t.gseq && t.nonce.region == r.val && t.nonce.posB == old) ||
  s.inflight.any (fun (w : Write) => s.regionOf w.line == r && w.nonce.seqDom && w.nonce.posB == old) ||
  s.wp.index.any fun p => s.regionOf p.1 == r && match s.entryAt (s.recPlace p.1 p.2) with
    | some e => e.win.isSome && e.posB == old && !e.psn
    | none => false

/-- A rekey completes (R187, R210): the old key is wiped, CUR inverted, a new next key drawn and sealed, event 0x3005 and source
0x034; held pages go on, and a rekey still owed starts (R200). -/
def State.rekeyDone (s : State) (r : Fin 256) : State :=
  let owed := s.cr.regions[r].owed
  let (k, s) := s.drawKey (1024 + 2 * r.val + b2n s.cr.regions[r].cur)
  let s := s.modRegion r fun x =>
    { x with state := .active, cur := !x.cur, keyA := if x.cur then x.keyA else k, keyB := if x.cur then k else x.keyB, early := 0,
             byExhaust := false, durW := none, owed := false }
  let other : MetaEnt → Bool := fun x => match x.item with
    | .watermark n _ _ => decide (n ≠ r.val)
    | _ => true
  let s := { s with wp := { s.wp with reserve := s.wp.reserve.filter other } }
  let s := { s with cr := { s.cr with held := s.cr.held.filter fun p => s.regionOf (p * 64) ≠ r } }
  let s := (s.event 0x3005 1 (oUnit 5 r.val) 0 0 0 0).raise 0x34 0 0
  let s := if owed then s.startRekey r false else s
  s.runEnc

/-- REKEY_COMPLETE (R210): W has passed the last page and nothing lives under the old key. -/
def execRekeyComplete (region : Fin 256) (s : State) : Host.Outcome State Fault Refusal :=
  let x := s.cr.regions[region]
  if x.state = .rekeying ∧ s.regionEnd region ≤ x.w ∧ s.oldKeyLive region = false then s.done (s.rekeyDone region) else .next s

/-- Writes every dirty counter line to the media, children before parents (R198). -/
def State.writeDirty (s : State) : State :=
  let s := (s.cr.dirty.filter fun p => p.1 = 1).foldl (fun s p => s.durPage p.2) s
  [2, 3, 4, 5].foldl (fun s k =>
    let mine := s.cr.dirty.filter fun p => p.1 = k
    let s := { s with cr := { s.cr with dirty := s.cr.dirty.filter fun p => p.1 ≠ k } }
    mine.foldl (fun s p => s.countChild k p.2) s) s

/-- The roots are sealed into the keeper store with the next seal number (R199); the MAC engine seals nothing once its known-answer test has
failed (R340). -/
def State.sealRoots (s : State) : State :=
  let s := s.writeDirty
  if s.macOk 7 = false then s else
  let s := s.sealUse
  let s := { s with cr := { s.cr with sealedRoots := s.cr.nodes.filter fun p => p.1 / 2 ^ 40 = 6 },
                    sec := { s.sec with sealNumber := (s.sec.sealNumber + 1) % 2 ^ 64 } }
  (s.store 1 0 520).saveCounter 3

/-- ROOT_SEAL (R199): every 2^34 ticks while running. -/
def execRootSeal (s : State) : Host.Outcome State Fault Refusal :=
  if s.pw.st = .running ∧ s.lk.mediaReady then .next (s.since (s.now - s.now % 2 ^ 34) (2 ^ 34)).sealRoots else .next s

end Sys2Proof.Machine
end

