-- ==== Sys2Proof/Machine/Erase.lean ====
section
/-! DEFINITION. Erasure: Sanitize and Secure Erase of the whole device, and of one LD's capacity, as shared operations
(05_folding_and_wear.md R99, R107; 08_inline_encryption.md R187; 11_mailbox_and_sessions.md R272, R283; 14 R344). -/

namespace Sys2Proof.Machine

/-- Both keys of a region are drawn again, and its rekey, if any, is over (Table 08-2). -/
def State.newRegionKeys (s : State) (r : Fin 256) : State :=
  let (a, s) := s.drawKey (1024 + 2 * r.val)
  let (b, s) := s.drawKey (1025 + 2 * r.val)
  let was := s.cr.regions[r].state
  let other : MetaEnt → Bool := fun x => match x.item with
    | .watermark n _ _ => decide (n ≠ r.val)
    | _ => true
  let s := s.modRegion r fun x =>
    { x with state := .active, keyA := a, keyB := b, w := 0, early := 0, byExhaust := false, durW := none, owed := false }
  let s := { s with wp := { s.wp with reserve := s.wp.reserve.filter other } }
  if was = .rekeying then s.raise 0x34 0 0 else s

/-- Writes past stage 4 take it again, under the keys and counters of now: they follow the erasure. -/
def State.restage (s : State) : State :=
  let moved := s.wp.progs ++ s.wp.idxQ
  let s := s.wp.progs.foldl (fun (s : State) (w : Write) => if w.localOk then s else s.progAdd w.place false) s
  let s := moved.foldl (fun (s : State) (w : Write) => s.kill w.place) s
  let back := (s.wp.allocQ ++ moved).map fun (w : Write) => { w with localOk := false, partnerAck := true, tries := 0, failed := [] }
  let s := { s with wp := { s.wp with progs := [], idxQ := [], allocQ := [], encQ := s.wp.encQ ++ back } }
  let s := s.wp.ilocks.foldl (fun (s : State) (l : ILock) => s.relock l.line) s
  s.runEnc

/-- Reads past their lookup look up again. -/
def State.relook (s : State) : State :=
  s.rp.tracker.foldl (fun (s : State) (r : Read) =>
    if r.path.sensing then
      (s.leaveQueue r).modRead r.id fun r => { r with path := .lookup }
    else if r.path = .cache then s.again r
    else s) s

/-- Granules that are not unwritten, in the map or in the index. -/
def State.usedGrans (s : State) : List Nat := ((s.fo.map.map (·.1)) ++ (s.wp.index.map fun p => granOf p.1)).dedup

/-- Sanitize and Secure Erase (R187, R272, R344, R370): tethers removed, groups closed, every granule unwritten, every key drawn again and
every counter block reset. -/
def State.eraseAll (s : State) : State :=
  let s := s.untetherAll
  let s := (allFin 16).foldl (fun (s : State) n => s.closeAll n 8) s
  let s := s.usedGrans.foldl State.unwriteGranule s
  let s := { s with lk := { s.lk with poison := [], poisonOverflow := none },
                    cr := { s.cr with blocks := [], durBlocks := [], nodes := [], dirty := [], held := [] } }
  let (tree, s) := s.drawKey 2
  let (place, s) := s.drawKey 3
  let s := { s with sec := { s.sec with keyTree := tree, keyPlace := place } }
  let s := (allFin 256).foldl (fun (s : State) r => if s.cr.regions[r].state = .free then s else s.newRegionKeys r) s
  s.restage.relook.judgeMarks

/-- Whether a region lies wholly in an LD's own capacity, or meets it (R283). -/
def State.regionInside (s : State) (n : Fin 16) (r : Fin 256) : Bool × Bool :=
  let x := s.cr.regions[r]
  let l := s.ld n
  let mine := (⟨l.partBase, l.partSize⟩ : Range) :: ((s.lk.extents.filter fun (e : Extent) => e.holders == [n]).map fun (e : Extent) =>
    (⟨e.base, e.len⟩ : Range))
  (r.val ≠ 0 && mine.any (fun q => decide (q.base ≤ x.base) && decide (x.base + x.size ≤ q.base + q.len)),
   mine.any fun q => decide (0 < q.len) && decide (x.base < q.base + q.len) && decide (q.base < x.base + x.size))

/-- Passphrase Secure Erase (R283): groups closed, the LD's own capacity unwritten, keys replaced or rekeys started. Region 0 covers every
byte that no other region covers. -/
def State.eraseLd (s : State) (n : Fin 16) : State :=
  let s := s.untether (s.ld n).partBase (s.ld n).partSize
  let mine := s.lk.extents.filter fun (e : Extent) => e.holders == [n]
  let s := mine.foldl (fun (s : State) (e : Extent) => s.untether e.base e.len) s
  let s := s.closeAll n 8
  let s := (s.ownGrans n).foldl State.unwriteGranule s
  let s := (allFin 256).foldl (fun (s : State) r =>
    let x := s.cr.regions[r]
    let (inside, meets) := s.regionInside n r
    if x.state = .free then s
    else if inside then s.newRegionKeys r
    else if meets then (if x.state = .rekeying then s.modRegion r fun y => { y with owed := true } else s.startRekey r false)
    else s) s
  let s := (s.modLd n fun l => { l with pass := { l.pass with user := none, userPw := none, locked := false } }).save (512 + n.val)
  s.restage.relook.judgeMarks

/-! ### Release of dynamic capacity (R169, R248, R370) -/

/-- Whether a byte range lies within another. -/
def Range.inside (q x : Range) : Bool := decide (x.base ≤ q.base) && decide (q.base + q.len ≤ x.base + x.len)

/-- The range of an extent. -/
def Extent.range (e : Extent) : Range := ⟨e.base, e.len⟩

/-- An extent cut at the ends of a range that lies in it. -/
def cutExtent (q : Range) (e : Extent) : List Extent :=
  if Range.inside q e.range then
    ([{ e with len := q.base - e.base }, { e with base := q.base, len := q.len },
      { e with base := q.base + q.len, len := e.base + e.len - (q.base + q.len) }] : List Extent).filter fun (x : Extent) => x.len ≠ 0
  else [e]

/-- Extents that nobody holds, is offered or is giving back are gone. -/
def liveExtents (l : List Extent) : List Extent :=
  l.filter fun (e : Extent) => !e.holders.isEmpty || !e.offered.isEmpty || !e.releasing.isEmpty

/-- Whether a release of a range by an LD has been accepted. -/
def State.releasing (s : State) (n : Fin 16) (q : Range) : Bool :=
  s.lk.extents.any fun (e : Extent) => e.releasing.contains n && Range.inside e.range q

/-- Whether an LD holds a range as one extent or part of one, in whole blocks of 256 MiB. -/
def State.mayRelease (s : State) (n : Fin 16) (q : Range) : Bool :=
  decide (0 < q.len) && q.base % 2 ^ 28 == 0 && q.len % 2 ^ 28 == 0 &&
    s.lk.extents.any fun (e : Extent) => e.holders.contains n && Range.inside q e.range

/-- A release is accepted: tethers it touches go, the LD's groups and region end where it overlaps them, and the range is no longer
allocated to the LD. -/
def State.releaseBegin (s : State) (n : Fin 16) (q : Range) : State :=
  let s := s.untether q.base q.len
  let c := (s.ld n).cw
  let s := if c.en ∧ c.base < q.base + q.len ∧ q.base < c.base + c.bytes then
      (s.regionDisable n).modCw n fun c => { c with cfgerr := true }
    else s
  let l := (s.lk.extents.flatMap (cutExtent q)).map fun (e : Extent) =>
    if Range.inside e.range q ∧ e.holders.contains n then
      { e with holders := e.holders.filter (· ≠ n), releasing := e.releasing ++ [n] }
    else e
  { s with lk := { s.lk with extents := l } }

/-- Whether a group of an LD whose region overlaps the range awaits its commit point: a release waits for it (R169). -/
def State.issuedOver (s : State) (n : Fin 16) (q : Range) : Bool :=
  let c := (s.ld n).cw
  decide (c.base < q.base + q.len) && decide (q.base < c.base + c.bytes) && (allFin 64).any fun w => (s.win n w).recIssued

/-- Whether a request of the LD to the range is past stage 1 and not completed, or a group of it there awaits its commit point. -/
def State.rangeBusy (s : State) (n : Fin 16) (q : Range) : Bool :=
  let has (line : Nat) : Bool := decide (q.base ≤ line * 64) && decide (line * 64 < q.base + q.len)
  (s.ld n).adm.any (fun (w : Write) => has w.line) || s.inflight.any (fun (w : Write) => w.src == .host && w.ld == n && has w.line) ||
  s.wp.cplQ.any (fun (c : Completion) => c.ld == n && has c.line) ||
  s.rp.tracker.any (fun (r : Read) => r.src == .host && r.ld == n && has r.line) ||
  s.rp.rsp.any (fun (r : Response) => r.ld == n && has r.line) ||
  s.issuedOver n q ||
  s.wp.tents.any (fun (t : TentRec) => t.ld == n && has t.line && s.groupIs n t.win t.gseq && (s.win n t.win).recIssued)

/-- The release ends: what no other LD holds becomes unwritten. -/
def State.releaseDone (s : State) (n : Fin 16) (q : Range) : State :=
  let mine := s.lk.extents.filter fun (e : Extent) => e.releasing.contains n && Range.inside e.range q
  let free := mine.filter fun (e : Extent) => e.holders.isEmpty && e.releasing == [n]
  let l := s.lk.extents.map fun (e : Extent) =>
    if e.releasing.contains n ∧ Range.inside e.range q then { e with releasing := e.releasing.filter (· ≠ n) } else e
  let s : State := { s with lk := { s.lk with extents := liveExtents l } }
  let has (g : Nat) : Bool := free.any fun (e : Extent) => decide (e.base ≤ g * 16384) && decide (g * 16384 < e.base + e.len)
  ((s.usedGrans.filter has).foldl State.unwriteGranule s).judgeMarks

/-- Releases that the power cut off end at the next start. -/
def State.releaseResume (s : State) : State :=
  s.lk.extents.foldl (fun (s : State) (e : Extent) => e.releasing.foldl (fun (s : State) n => s.releaseDone n e.range) s) s

end Sys2Proof.Machine
end

