-- ==== Sys2Proof/Machine/Mailbox.lean ====
section
/-! DEFINITION. How a mailbox command is taken, refused and answered: instances, routes, privilege, return codes, the last failure
record, sessions as a gate, and the management MAC engine (11_mailbox_and_sessions.md R267 to R281; 14_security_and_lifecycle.md
R338 to R342, R349). The order of the checks is log 15. -/

namespace Sys2Proof.Machine

/-! ### Answers (Tables 11-2 and 11-3) -/

/-- What a command answers: return code, reason, PARAM of Get Last Failure, output payload. -/
structure Ans where
  code : Nat
  reason : Nat
  param : Nat
  out : Payload
  deriving DecidableEq, Repr

/-- Success with an output. -/
def okOut (p : Payload) : Ans := ⟨0x0000, 0, 0, p⟩

/-- Success without output. -/
def okAns : Ans := okOut .none

/-- Background Command Started. -/
def startedAns : Ans := ⟨0x0001, 0, 0, .none⟩

/-- Invalid Input with a reason. -/
def badAns (reason : Nat) : Ans := ⟨0x0002, reason, 0, .none⟩

/-- Invalid Input, reason 0x0009: the byte offset of the first field out of range. -/
def rangeAns (param : Nat) : Ans := ⟨0x0002, 0x0009, param, .none⟩

/-- Unsupported, reason 0x0003. -/
def unsupportedAns : Ans := ⟨0x0003, 0x0003, 0, .none⟩

/-- Busy with a reason. -/
def busyAns (reason : Nat) : Ans := ⟨0x0006, reason, 0, .none⟩

/-- Any other code, with a reason. -/
def codeAns (code reason : Nat) : Ans := ⟨code, reason, 0, .none⟩

/-- A byte list of zeros. -/
def zeros (n : Nat) : List Byte := List.replicate n 0

/-! ### Routes (Tables 11-4 to 11-6, R272, R273) -/

/-- Privilege of a command (R280): none, a session of either role, an Owner session. -/
inductive Priv where
  | none
  | session
  | owner
  deriving DecidableEq, Repr

/-- Where a command is offered: on primary mailboxes, on the FM instances, by the keeper; whether it is device-wide (R272) and
whether it reads or changes media state. -/
structure Route where
  ld : Bool
  fm : Bool
  keeper : Bool
  priv : Priv
  wide : Bool
  media : Bool
  deriving DecidableEq, Repr

/-- Routes of the standard commands (Tables 11-4 and 11-5, R273). Which of them read or change media state: log 15. -/
def stdRoute (op : Nat) : Option Route :=
  if op = 0x0001 ∨ op = 0x0002 ∨ (0x0100 ≤ op ∧ op ≤ 0x0103) ∨ op = 0x0200 then some ⟨true, true, false, .none, false, false⟩
  else if op = 0x0201 ∨ op = 0x0202 then some ⟨true, true, false, .none, true, false⟩
  else if op = 0x4400 ∨ op = 0x4401 then some ⟨true, true, false, .none, true, true⟩
  else if op = 0x0005 ∨ op = 0x0300 ∨ op = 0x0301 ∨ op = 0x0400 ∨ op = 0x0401 ∨ op = 0x4000 ∨ op = 0x4100 ∨
      (0x4200 ≤ op ∧ op ≤ 0x4204) ∨ (0x4500 ≤ op ∧ op ≤ 0x4504) ∨ op = 0x4800 ∨ op = 0x4801 then
    some ⟨true, false, false, .none, false, false⟩
  else if op = 0x4102 ∨ op = 0x4103 ∨ (0x4300 ≤ op ∧ op ≤ 0x4305) ∨ op = 0x4505 ∨ op = 0x4802 ∨ op = 0x4803 then
    some ⟨true, false, false, .none, false, true⟩
  else if op = 0x5402 ∨ op = 0x5602 ∨ op = 0x5604 ∨ op = 0x5605 then some ⟨false, true, false, .none, false, true⟩
  else if (0x5400 ≤ op ∧ op ≤ 0x5409) ∨ (0x5600 ≤ op ∧ op ≤ 0x5605) then some ⟨false, true, false, .none, false, false⟩
  else none

/-- Routes of the vendor commands (Table 11-6). Provision Session Key checks its own privilege (R275). -/
def vendorRoute (op : Nat) : Option Route :=
  if op = 0xC000 ∨ op = 0xC001 ∨ op = 0xC003 ∨ op = 0xC004 ∨ op = 0xC100 ∨ op = 0xC504 ∨ op = 0xC800 then
    some ⟨true, true, true, .none, false, false⟩
  else if op = 0xC002 then some ⟨true, true, true, .session, false, false⟩
  else if op = 0xC008 ∨ op = 0xC400 ∨ op = 0xC500 ∨ op = 0xC604 ∨ op = 0xC605 then some ⟨false, true, true, .none, false, false⟩
  else if op = 0xC009 ∨ op = 0xC502 ∨ op = 0xC503 ∨ op = 0xC606 then some ⟨false, true, true, .owner, false, false⟩
  else if op = 0xC600 then some ⟨false, true, true, .session, false, false⟩
  else if op = 0xC110 then some ⟨true, true, false, .none, false, true⟩
  else if op = 0xC201 then some ⟨true, false, false, .none, false, true⟩
  else if op = 0xC702 ∨ op = 0xC711 ∨ op = 0xC802 then some ⟨false, true, false, .none, false, false⟩
  else if op = 0xC101 ∨ op = 0xC120 ∨ op = 0xC200 ∨ op = 0xC304 ∨ op = 0xC501 ∨ op = 0xC601 ∨ op = 0xC602 ∨ op = 0xC603 ∨
      op = 0xC610 ∨ op = 0xC611 ∨ op = 0xC700 ∨ op = 0xC710 then
    some ⟨false, true, false, .session, false, false⟩
  else if op = 0xC122 ∨ op = 0xC404 then some ⟨false, true, false, .session, false, true⟩
  else if op = 0xC00A ∨ op = 0xC401 ∨ op = 0xC406 ∨ op = 0xC505 ∨ op = 0xC801 ∨ op = 0xC803 then
    some ⟨false, true, false, .owner, false, false⟩
  else if op = 0xC121 ∨ op = 0xC300 ∨ op = 0xC301 ∨ op = 0xC302 ∨ op = 0xC303 ∨ op = 0xC402 ∨ op = 0xC403 ∨ op = 0xC405 then
    some ⟨false, true, false, .owner, false, true⟩
  else none

/-- The route of an opcode; `none` where it is not implemented (R272, R280). -/
def route (op : Nat) : Option Route := if op < 0xC000 then stdRoute op else vendorRoute op

/-! ### Who serves (R274, R338) -/

/-- Commands the boot ROM serves on the FM instances when no image is accepted (R338). -/
def romServes (op : Nat) : Bool := [0xC100, 0xC802, 0xC800, 0x0201, 0x0202].contains op

/-- Sets the session of the side that serves an instance. -/
def State.setSession (s : State) (i : Inst) (x : Option Session) : State :=
  if s.keeperServes i then { s with mb := { s.mb with keeperSess := x } } else s.modMb i fun m => { m with session := x }

/-- The waiting handle of the side that serves an instance. -/
def State.handle (s : State) (i : Inst) : Option Handle :=
  if s.keeperServes i then s.mb.keeperHandle else s.mb.inst[Inst.ix i].handle

/-- Sets the waiting handle of the side that serves an instance. -/
def State.setHandle (s : State) (i : Inst) (x : Option Handle) : State :=
  if s.keeperServes i then { s with mb := { s.mb with keeperHandle := x } } else s.modMb i fun m => { m with handle := x }

/-- Whether an instance has an Owner session. -/
def State.ownerOn (s : State) (i : Inst) : Bool := (s.session i).any fun x => x.role == 1

/-- Whether two waiting requests share an instance. -/
def sameInst (i : Inst) (c : Instr) : Bool := match request c with
  | some (r, _) => r.inst == i
  | none => false

/-- Whether an instance still has a command that completes later: a change of operating point (R16), Inject or Clear Poison (R253). -/
def State.instBusy (s : State) (i : Inst) : Bool :=
  s.pw.pointWaiters.any (fun x => x.1 == i) || s.inflight.any fun (w : Write) => !w.discard && (match w.src with
    | .inject j => j == i
    | .clear j => j == i
    | _ => false)

/-- Whether a request must wait (R269; 13_cache_and_on_chip_memory.md R319): in an outage, while its instance's command is not complete,
before the data die's firmware runs, while its
port's credits are withheld, or behind an earlier request of its instance. -/
def State.mustWait (s : State) (i : Inst) : Bool :=
  s.keeperServes i = false &&
    (s.mb.outage || s.instBusy i || (!s.fwUp && !s.sec.romOnly) ||
     (match i with
      | .ld n => s.ioHeld (whoOf n)
      | _ => false) ||
     s.held.any (sameInst i))

/-! ### Taking a command -/

/-- What becomes of a request before its own checks. -/
inductive Gate where
  /-- The instance cannot be reached: the data die is off. -/
  | unreachable
  /-- The request waits. -/
  | waits
  /-- Refused; `counts` where R279 counts it. -/
  | refused (a : Ans) (counts : Bool)
  /-- The command's own checks follow. -/
  | runs

/-- The media gate (R272, R349): Table 14-7's states, R235, then media ready. -/
def State.mediaGate (s : State) : Option Ans :=
  if s.sec.lc = .blank then some (busyAns 0x0007)
  else if s.sec.lc = .returned ∨ s.sec.lc = .decommissioned then some (badAns 0x0004)
  else if 2 ≤ s.kp.lostStacks.length then some (codeAns 0x0007 0)
  else if s.lk.mediaReady then none
  else some (busyAns 0x0007)

/-- Path, privilege, life cycle, media state and length, in that order (log 15). -/
def State.routeGate (s : State) (i : Inst) (n : Nat) (x : Route) (len : Option Nat) : Gate :=
  let path : Bool := match i with
    | .ld m => x.ld && (!x.wide || (s.lk.grant == some m && s.ownerOn i))
    | _ => x.fm
  if path = false then .refused unsupportedAns true
  else if x.priv ≠ .none ∧ s.session i = none then .refused (badAns 0x0001) true
  else if x.priv = .owner ∧ s.ownerOn i = false then .refused (badAns 0x0002) true
  else if s.sec.lc = .decommissioned ∧ x.priv ≠ .none then .refused (badAns 0x0004) false
  else
    let blocked := if x.media then s.mediaGate else none
    match blocked with
    | some a => .refused a false
    | none => if len.any (· ≠ n) then .refused (codeAns 0x0016 0) false else .runs

/-- What becomes of a request (R267, R269, R272 to R274, R279, R338). -/
def State.gate (s : State) (r : Req) (op : Nat) (len : Option Nat) : Gate :=
  if s.pw.dieUp = false ∧ (s.pw.alive = false ∨ r.inst ≠ .i3c) then .unreachable
  else if s.mustWait r.inst then .waits
  else if s.keeperServes r.inst ∧ (s.sec.romOnly && romServes op) = false then
    match route op with
    | some x => if x.keeper then s.routeGate r.inst r.len x len else .refused (busyAns 0x000F) false
    | none => .refused (busyAns 0x000F) false
  else if s.sec.romOnly ∧ (r.inst = .fm ∨ r.inst = .i3c) ∧ romServes op then
    if len.any (· ≠ r.len) then .refused (codeAns 0x0016 0) false else .runs
  else if s.sec.romOnly then .refused unsupportedAns false
  else match route op with
    | none => .refused unsupportedAns false
    | some x => s.routeGate r.inst r.len x len

/-- A command has been answered (R271, R278): the last failure record, the session's idle time, the reply. -/
def State.answer (s : State) (r : Req) (op : Nat) (a : Ans) : State :=
  let s := if a.code ≤ 1 ∨ op = 0xC004 then s
    else s.modMb r.inst fun m => { m with failure := ⟨op, a.code, a.reason, a.param⟩ }
  let s := match s.session r.inst with
    | some x => s.setSession r.inst (some { x with lastTick := s.now })
    | none => s
  (s.emit (.mbx r.inst op a.code a.out)).mbxSignal r.inst 1

/-- A mailbox command: `len` is the fixed length of its input, `body` its own checks and effect; no answer yet where it completes later. -/
def State.mbxLater (s : State) (c : Instr) (len : Option Nat) (body : State → Option Ans × State) : State :=
  match request c with
  | none => s
  | some (r, op) =>
    match s.gate r op len with
    | .unreachable => s
    | .waits => { s with held := s.held ++ [c] }
    | .refused a counts => (if counts then s.violate (Inst.who r.inst) 6 op else s).answer r op a
    | .runs => match body s with
      | (some a, t) => t.answer r op a
      | (none, t) => t

/-- A mailbox command that is answered at once. -/
def State.mbx (s : State) (c : Instr) (len : Option Nat) (body : State → Ans × State) : State :=
  s.mbxLater c len fun s => (some (body s).1, (body s).2)

/-- UNSUPPORTED_OPCODE (R267, R272, R280): an opcode not implemented, or not offered on its instance. One that is offered there is not this
event (log 3). -/
def execUnsupportedOpcode (r : Req) (opcode : Nat) (s : State) : Host.Outcome State Fault Refusal :=
  .next (match s.gate r opcode none with
    | .runs => s
    | _ => s.mbx (.unsupportedOpcode r opcode) none fun t => (unsupportedAns, t))

/-! ### Key unwrap -/

/-- Key unwrap under a session key slot (R275, R188): `none` where the engine refuses, or where the wrap fails its own check. -/
def State.unwrap (s : State) (slot : Fin 4) (w : BitVec 320) : Option Key × State :=
  let m : Fin 16 := ⟨slot.val, by omega⟩
  match s.sec.sessKeys[slot] with
  | none => (none, s)
  | some k => if s.macOk m then (Config.kwUnwrap k.key w, s.macUse m) else (none, s)

end Sys2Proof.Machine
end

