-- ==== Sys2Proof/Machine/Power.lean ====
section
/-! DEFINITION. The keeper's power states: sequence, orderly power-down, hardware flush, faults and hold-up; shared operations and the
happenings of the family (16_power_and_holdup.md R376 to R395; 15_lode_links_and_pools.md R371; 19_media_channels.md R440, R441). -/

namespace Sys2Proof.Machine

/-! ### Limits and windows -/

/-- VIN and VSUP beyond the absolute maximum ratings (Table 20-1; log 25). -/
def overSupply (mv : Nat) : Bool := decide (4000 < mv)

/-- VHOLD beyond the absolute maximum ratings (Table 20-1; log 25). -/
def overHold (mv : Nat) : Bool := decide (27000 < mv)

/-- The step of Table 16-2 at which a rail is brought up. -/
def railStep (r : Nat) : Nat :=
  if r = 0 then 2 else if r = 1 then 3 else if r = 2 then 4 else if r = 3 then 5 else if r ≤ 5 then 6 else if r ≤ 8 then 7 else 8

/-- What a point adds to the thresholds of VCORE, in mV above those of point E (R378). -/
def pointShift : Point → Nat
  | .e => 0
  | .n => 100
  | .p => 180

/-- The window of a running rail in mV: thresholds, shifted for VCORE by its point, wide during a change of point (R14, R378). -/
def State.railWindow (s : State) (r : Fin 12) : Nat × Nat :=
  let x := s.pw.rails[r]
  if r.val = 2 then
    let a := pointShift s.pw.present
    let b := match s.pw.target with
      | some t => pointShift t
      | none => a
    (x.low * 5 + min a b - 100, x.high * 5 + max a b - 100)
  else (x.low * 5, x.high * 5)

/-- ALERT_N is low (Table 15-7): the fabric manager's ring is not empty, or the keeper is in lockout or tamper hold. -/
def State.alertLow (s : State) : Bool :=
  s.nt.fm.prod != s.nt.fm.cons || s.pw.st == .lockout || s.pw.st == .tamperHold

/-! ### Life-cycle steps of the keeper (14_security_and_lifecycle.md R350, R351, Table 14-8) -/

/-- A sealed key left behind by an advance of the seal epoch cannot be unsealed. -/
def SealedKey.lose (k : SealedKey) : SealedKey := { k with key := none, loaded := false }

/-- The seal epoch advances and keeps at most session slot 0 (R345). -/
def State.sealAdvance (s : State) (keep0 : Bool) : State :=
  let k0 := if keep0 then s.sec.sessKeys[0] else none
  let s := { s with
    sec := { s.sec with sealEpoch := s.sec.sealEpoch + 1, sessKeys := #v[k0, none, none, none], keyTree := s.sec.keyTree.lose,
                        keyPlace := s.sec.keyPlace.lose, keyPass := s.sec.keyPass.lose, keyCust := s.sec.keyCust.lose },
    cr := { s.cr with regions := s.cr.regions.map fun (r : Region) => { r with keyA := r.keyA.lose, keyB := r.keyB.lose } },
    lo := { s.lo with tethers := s.lo.tethers.map fun (t : Tether) => { t with key := t.key.lose } },
    mb := { s.mb with keeperSess := none, keeperHandle := none } }
  s.saveCounter 2

/-- The customer partition is erased. -/
def State.eraseCustomer (s : State) : State := ({ s with kp := { s.kp with customer := [] } }).store 4 0 8

/-- Customer passwords and all passphrases are erased. -/
def State.erasePasswords (s : State) : State :=
  (({ s with kp := { s.kp with readPw := 0, writePw := 0 } }).mapLds fun l =>
    { l with pass := { l.pass with user := none, master := none, userPw := none, masterPw := none, locked := false } }).save 32

/-- The keeper's steps of a pending transition, with the data die off; repeating them changes nothing (R350). -/
def State.lcKeeper (s : State) : State :=
  match s.sec.pendingLC with
  | none => s
  | some t =>
    if s.sec.keepLC = t then s
    else
      let s := match t with
        | .deployed => ({ s with sec := { s.sec with frozenTamper := some s.sec.flashTamper }, ev := { s.ev with first := [] } }).save 33
        | .returned => ((s.sealAdvance true).eraseCustomer).erasePasswords
        | .decommissioned => (s.sealAdvance false).eraseCustomer
        | _ => s
      ({ s with sec := { s.sec with keepLC := t } }).save 34

/-! ### The sequence (R377 to R383) -/

/-- The sequence starts at step 2, VIN being in its window (Table 16-5, R391, R392): LAST_SHUTDOWN is derived and VHOLD charges. -/
def State.startSeq (s : State) : State :=
  let s := s.lcKeeper
  { s with
    kp := { s.kp with lastShutdown := s.kp.endRec.last },
    pw := { s.pw with st := .poweringUp, step := 3, railsUp := 0, charging := true, boostOn := true, chargeWarned := false, armed := false,
                      holdupReady := false, faultWait := false, faultRestartAt := none, coolingSince := none,
                      thermtripOut := false },
    th := { s.th with tripped := false } }

/-- The conditions of the first row of Table 16-5: VIN in its window for its dwell, the off latch clear, 50 ms since the rails fell; not
while a fault's 1 s (R385) or PFAIL_N's 50 ms (R371) is awaited. -/
def State.trySeq (s : State) : State :=
  if s.pw.alive ∧ s.pw.st = .off ∧ s.pw.vinGood ∧ s.pw.offLatch = false ∧ s.pw.offMinDone ∧ s.pw.faultWait = false ∧
      s.pw.pfailWait = false then s.startSeq else s

/-- VIN_DWELL_COMPLETE (R377, R379): VIN has stayed in its window for its dwell. -/
def execVinDwellComplete (vin : Nat) (s : State) : Host.Outcome State Fault Refusal :=
  if overSupply vin then .fault .beyondRatings
  else
    let w := s.railWindow 0
    if s.pw.alive ∧ w.1 ≤ vin ∧ vin ≤ w.2 then .next ({ s with pw := { s.pw with vin := vin, vinGood := true } }).trySeq else .next s

/-- OFF_MINIMUM_ELAPSED (Table 16-5): 50 ms since all rails fell. -/
def execOffMinimumElapsed (s : State) : Host.Outcome State Fault Refusal :=
  if s.pw.alive ∧ s.pw.offMinDone = false ∧ (s.pw.st = .off ∨ s.pw.st = .cooling) then
    let t := s.since s.now (msTicks 50)
    .next ({ t with pw := { t.pw with offMinDone := true } }).trySeq
  else .next s

/-- A failed sequence (R379, Table 16-5): reverse down, event 0x4005 with the failing step, one retry used; lockout when none is left. -/
def State.seqFail (s : State) (rail : Nat) : State :=
  let left := s.pw.retriesLeft
  let s := s.reverseDown (if left = 0 then .lockout else .off)
  let s := s.event 0x4005 3 (oUnit 3 rail) (railStep rail) 0 0 0
  if left = 0 then s.save 2 else { s with pw := { s.pw with retriesLeft := left - 1 } }

/-- RAIL_SEQUENCE_TIMEOUT (R379): the rail being brought up has not completed its dwell within its timeout. -/
def execRailSequenceTimeout (rail : Nat) (s : State) : Host.Outcome State Fault Refusal :=
  if s.pw.st = .poweringUp ∧ s.pw.railsUp < 11 ∧ rail = s.pw.railsUp + 1 then .next (s.seqFail rail) else .next s

/-- PSC_TRANSACTION_RETRY (R441): a transaction to a media stage is repeated once; a second failure is a rail that fails to settle. -/
def execPscTransactionRetry (rail : Nat) (ok : Bool) (s : State) : Host.Outcome State Fault Refusal :=
  if s.pw.st = .poweringUp ∧ 9 ≤ rail ∧ rail ≤ 11 ∧ rail = s.pw.railsUp + 1 then
    if ok then .next s else .next (s.seqFail rail)
  else .next s

/-! ### Ending a power-on (R384, R387 to R390) -/

/-- Admission stops (R384, R388): scrubs stop, committing groups whose writes are all acknowledged keep their commit record, every other
open or committing group closes with outcome 0x06 (R170). -/
def State.stopAdmission (s : State) : State :=
  if s.lk.mediaReady then
    let s := s.mapLds fun l => { l with wins := l.wins.map fun w => { w with pre := some (w.durGseq, w.durOutcome, w.durCount) } }
    (allFin 16).foldl (fun (s : State) n => s.closeAll n 6) s.scrubsStop
  else s

/-- An orderly power-down begins (R384). -/
def State.orderly (s : State) : State :=
  let s := s.stopAdmission
  { s with pw := { s.pw with st := .poweringDown, latched := .none } }

/-- The number of a flush's cause in event 0x4003 (R388). -/
def FlushCause.code : FlushCause → Nat
  | .none => 0
  | .vin => 1
  | .pfail => 2
  | .trip => 3

/-- The notice of a flush's start: recorded at once, appended to the persistent log by the keeper in step 5 (R388). -/
def State.flushEvent (s : State) (cause : Nat) : State :=
  let t := s.event 0x4003 1 oDev cause 0 0 0
  let r := t.ev.ring.head?.filter fun r => r.code = 0x4003
  { t with ev := { t.ev with log := s.ev.log }, kp := { t.kp with parts := t.kp.parts.set 3 s.kp.parts[3], logTokens := s.kp.logTokens,
                                                                   logTick := s.kp.logTick },
           pw := { t.pw with flushRec := r } }

/-- Requests waiting for a point are answered. -/
def State.answerPoint (s : State) (pt : Point) : State :=
  let mine := s.pw.pointWaiters.filter fun x => x.2 = pt
  let s := { s with pw := { s.pw with pointWaiters := s.pw.pointWaiters.filter fun x => x.2 ≠ pt } }
  mine.foldl (fun (s : State) x => s.lateAnswer x.1 0xC501) s

/-- A change of point begins: the VCORE window is widened (R14). -/
def State.beginPoint (s : State) (pt : Point) : State := { s with pw := { s.pw with target := some pt, wideWindow := true } }

/-- The hardware flush moves VCORE to point E (R14): the ramp under way and the point named after it are superseded, and requests for another
point than E have their answers (R16). -/
def State.flushPoint (s : State) : State :=
  let s := (s.answerPoint .n).answerPoint .p
  let s : State := { s with pw := { s.pw with nextPoint := none } }
  if s.pw.present = .e ∧ s.pw.target = none then s else s.beginPoint .e

/-- The hardware flush starts (R387, R388, R14): from VHOLD after a VIN collapse, otherwise from VIN; VCORE moves to point E. -/
def State.flushStart (s : State) (cause : FlushCause) : State :=
  let pre := !s.lk.mediaReady
  let s := (s.flushEvent cause.code).stopAdmission.flushPoint
  { s with pw := { s.pw with st := .flushing, flushCause := cause, flushFromVin := cause ≠ .vin, flushPre := pre, latched := .none,
                             pfailOut := s.pw.pfailOut || cause == .vin } }

/-- A write that reached stage 6 (Table 16-7): indexed and completed; one that awaits TCONF is indexed and sets its granule's bit
(R367). -/
def State.flushWrite (s : State) (w : Write) : State :=
  if w.partnerAck then s.stage7 w
  else
    let s := match w.win with
      | some v => s.tent7 w v
      | none => s.index7 w
    let s : State := { s with wp := { s.wp with ilocks := s.wp.ilocks.filter fun (l : ILock) => l.line ≠ w.line } }
    match s.tetherOf (s.regionOf w.line).val with
    | some t => s.setDirtyBit t (s.tetherGran t w.line)
    | none => s

/-- Whether the hardware flush writes, rather than an orderly power-down (Table 07-4 FLAGS bit 1, log 87). -/
def State.flushes (s : State) : Bool := s.pw.st == .flushing

/-- Commit records due are written, whatever the partner has confirmed (R170). -/
def State.flushCommits (s : State) : State :=
  (allFin 16).foldl (fun (s : State) n => (allFin 64).foldl (fun (s : State) w =>
    if (s.win n w).recIssued then (s.modWin n w fun v => { v with recLocal := true, recPartner := true }).tryCommit n w s.flushes else s) s) s

/-- Outcome records not yet durable are written by the flush or the power-down; FLAGS bit 1 marks those of a flush (R172, log 87). -/
def State.flushOutcomes (s : State) : State :=
  (allFin 16).foldl (fun (s : State) n => (allFin 64).foldl (fun (s : State) w =>
    if (s.win n w).closing.isSome then (s.modWin n w fun v => { v with dbWait := none }).outcomeDurable n w s.flushes else s) s) s

/-- Rekey watermarks become durable (R207). -/
def State.flushMarks (s : State) : State :=
  (allFin 256).foldl (fun (s : State) r =>
    let x := s.cr.regions[r]
    if x.state = .rekeying then (s.modRegion r fun y => { y with durW := some y.w }).metaRec (.watermark r.val x.w x.byExhaust) else s) s

/-- The content of Table 16-7. -/
def State.flushContent (s : State) : State :=
  let s := s.wp.progs.foldl (fun (s : State) (w : Write) => if w.localOk then s else s.verified w true true) s
  let q := s.wp.idxQ ++ s.wp.progs
  let s : State := { s with wp := { s.wp with idxQ := [], progs := [] } }
  let s := q.foldl State.flushWrite s
  let s := s.returnAll s.wp.cplQ.length
  let s := (s.flushCommits).flushOutcomes
  let s := (s.fo.bands.filter fun (b : Band) => b.phase = .committing).foldl State.commitBand s
  let s := (s.flushMarks).logRepeat
  { s with dr := { s.dr with durDies := s.dr.dies, durSegs := s.dr.segs, durBlocks := s.dr.blocks } }

/-- Content and seal, where media ready had been reached (R384, R388, R405). -/
def State.flushAll (s : State) (pre : Bool) : State := if pre then s else s.flushContent.sealRoots

/-- The rails fall at the end of a power-down or a flush: cooling after a trip, else off; what was latched is honoured (Table 16-5). -/
def State.endDown (s : State) : State :=
  let on := s.pw.latched ≠ .none
  let trip := s.pw.tripAfter
  let s := (s.reverseDown (if trip then .cooling else .off)).lcKeeper
  { s with pw := { s.pw with tripAfter := false, offLatch := s.pw.offLatch && !on, coolingSince := none } }

/-- ORDERLY_POWER_DOWN_COMPLETE (R384): content, seal, reverse down, shutdown record 0x00; nothing is sealed once the MAC engine's
known-answer test has failed, and then no record follows (R340). -/
def execOrderlyPowerDownComplete (s : State) : Host.Outcome State Fault Refusal :=
  if s.pw.st = .poweringDown then
    let bad := s.sec.katFailed
    let t := (s.flushAll (!s.lk.mediaReady)).endDown
    .next (if bad then t else t.shutdownRec 0)
  else .next s

/-- HARDWARE_FLUSH_COMPLETE (R388, R390): content, seal, the held event, rails off, shutdown record 0x01 or 0x04. -/
def execHardwareFlushComplete (s : State) : Host.Outcome State Fault Refusal :=
  if s.pw.st = .flushing then
    let bad := s.sec.katFailed
    let trip := s.pw.flushCause = .trip
    let wait := s.pw.flushCause = .pfail && s.pw.flushFromVin
    let t := s.flushAll s.pw.flushPre
    let t := match s.pw.flushRec with
      | some r => t.logAppend r
      | none => t
    let t := t.endDown
    let t := if bad then t else t.shutdownRec (if trip then 4 else 1)
    .next { t with pw := { t.pw with pfailWait := wait && t.pw.pfailIn } }
  else .next s

/-- VHOLD_EXHAUSTED (R389): VHOLD falls below 8.0 V before the flush has finished. -/
def execVholdExhausted (mv bytes : Nat) (s : State) : Host.Outcome State Fault Refusal :=
  if overHold mv then .fault .beyondRatings
  else if s.pw.st = .flushing ∧ mv < 8000 then
    let t := (({ s with pw := { s.pw with vhold := mv, tripAfter := false } }).endDown).event 0x4004 3 oDev bytes 0 0 0
    .next (t.shutdownRec 2)
  else .next s

/-- RAIL_FALL_TIMEOUT (Table 16-5): while powering down a rail does not fall; all outputs off, event 0x4005, no shutdown record, lockout. -/
def execRailFallTimeout (rail : Nat) (s : State) : Host.Outcome State Fault Refusal :=
  if s.pw.st = .poweringDown ∧ rail < 12 then
    .next (((s.powerOff .lockout).event 0x4005 3 (oUnit 3 rail) (railStep rail) 0 0 0).save 2)
  else .next s

/-- VIN_COLLAPSE (R387, Table 16-5): VIN is below its low threshold for its filter time. -/
def execVinCollapse (mv : Nat) (s : State) : Host.Outcome State Fault Refusal :=
  if (s.railWindow 0).1 ≤ mv ∨ s.pw.alive = false then .next s
  else
    let t := { s with pw := { s.pw with vin := mv, vinGood := false } }
    match s.pw.st with
    | .running => .next ({ t with pw := { t.pw with pfailOut := true } }.flushStart .vin)
    | .poweringUp => .next (t.reverseDown .off)
    | .poweringDown => .next { t with pw := { t.pw with pfailOut := true } }
    | .flushing => .next { t with pw := { t.pw with flushFromVin := false, pfailOut := true } }
    | _ => .next t

/-- PFAIL_N_LOW (R371, R387): another device of the board drives the line; the flush runs from the device's own VIN. -/
def execPfailNLow (s : State) : Host.Outcome State Fault Refusal :=
  if s.pw.alive then
    let t := { s with pw := { s.pw with pfailIn := true } }
    .next (if s.pw.st = .running then t.flushStart .pfail else t)
  else .next s

/-- PFAIL_N_HIGH_RESTART (R371): the line has been high for 50 ms. -/
def execPfailNHighRestart (s : State) : Host.Outcome State Fault Refusal :=
  if s.pw.pfailIn then .next ({ s with pw := { s.pw with pfailIn := false, pfailWait := false } }).trySeq else .next s

/-! ### Faults (R383, R385, R386, R395) -/

/-- RUNNING_RAIL_FAULT (R385, Table 16-5): a rail that has completed its dwell leaves its window. VIN below its window is a collapse. While
powering up it is a rail that fails (log 37). -/
def execRunningRailFault (rail mv : Nat) (s : State) : Host.Outcome State Fault Refusal :=
  if h : rail < 12 then
    let w := s.railWindow ⟨rail, h⟩
    if (rail ≠ 0 ∧ mv < w.1) ∨ w.2 < mv then
      let t := if rail = 0 then { s with pw := { s.pw with vin := mv, vinGood := false } } else s
      match s.pw.st with
      | .running => .next (t.railFault (oUnit 3 rail) mv)
      | .poweringDown => .next (t.railFault (oUnit 3 rail) mv)
      | .flushing => .next (t.railFault (oUnit 3 rail) mv)
      | .poweringUp => if rail ≤ s.pw.railsUp then .next (t.seqFail rail) else .next s
      | _ => .next t
    else .next s
  else .next s

/-- FAULT_RESTART (R383, R385): 1 s after the fault the keeper restarts with one sequence retry. -/
def execFaultRestart (s : State) : Host.Outcome State Fault Refusal :=
  match s.pw.faultRestartAt with
  | some t =>
    if s.pw.st = .off ∧ s.pw.faultWait then
      let s := s.advance t
      .next ({ s with pw := { s.pw with faultWait := false, faultRestartAt := none, offMinDone := true, retriesLeft := s.pw.retriesLeft - 1,
                                        lastFaultAt := some s.now } }).trySeq
    else .next s
  | none => .next s

/-- The keeper's RAM is lost with a restart of the keeper: its sessions and the count of wrong passwords (R402). -/
def State.keeperRam (s : State) : State :=
  { s with mb := { s.mb with keeperSess := none, keeperHandle := none }, kp := { s.kp with pwWrong := 0, pwUntil := none } }

/-- KEEPER_SRAM_ERROR (R386): handled as a running-rail fault, with VIN for the voltage (log 37), then the keeper restarts from its store. -/
def execKeeperSramError (s : State) : Host.Outcome State Fault Refusal :=
  if s.pw.alive = false then .next s
  else match s.pw.st with
    | .running => .next (s.railFault oDev s.pw.vin).keeperRam
    | .poweringUp => .next (s.railFault oDev s.pw.vin).keeperRam
    | .poweringDown => .next (s.railFault oDev s.pw.vin).keeperRam
    | .flushing => .next (s.railFault oDev s.pw.vin).keeperRam
    | _ => .next s.keeperRam

/-- VSUP_COLLAPSE (R395): every rail off, no flush, no new record; lockout and tamper hold survive, the rest of the keeper's flags do not. -/
def execVsupCollapse (mv : Nat) (s : State) : Host.Outcome State Fault Refusal :=
  if s.pw.alive ∧ mv < 1650 then
    let st := if s.pw.st = .lockout ∨ s.pw.st = .tamperHold then s.pw.st else .off
    let t := (s.powerOff st).keeperRam
    .next { t with pw := { t.pw with alive := false, vsup := mv, vinGood := false, offLatch := false, faultWait := false,
                                     faultRestartAt := none, lastFaultAt := none, tripAfter := false, pfailWait := false,
                                     pfailIn := false, thermtripOut := false, coolingSince := none, i3cDyn := none } }
  else .next s

/-- Advances a security counter by 2^16 (R401). -/
def State.advanceCounter (s : State) : SecCounter → State
  | .antiRollback => ({ s with sec := { s.sec with antiRollback := s.sec.antiRollback + 65536 } }).saveCounter 1
  | .macUsage k => ({ s with sec := { s.sec with macSlots := vmod s.sec.macSlots k fun m => { m with reserved := m.reserved + 65536 } } }).saveUsage k
  | .sealEpoch => ({ s with sec := { s.sec with sealEpoch := s.sec.sealEpoch + 65536 } }).saveCounter 2
  | .sealNumber => ({ s with sec := { s.sec with sealNumber := (s.sec.sealNumber + 65536) % 2 ^ 64 } }).saveCounter 3
  | .seqEpoch => ({ s with sec := { s.sec with seqEpoch := s.sec.seqEpoch + 65536 } }).saveCounter 4
  | .eventBlock => ({ s with sec := { s.sec with evReserve := s.sec.evReserve + 65536 } }).saveCounter 5

/-- Every security counter of Table 16-15. -/
def allCounters : List SecCounter :=
  [.antiRollback, .sealEpoch, .sealNumber, .seqEpoch, .eventBlock] ++ (allFin 16).map SecCounter.macUsage

/-- One bad record found at mount (R400, R401). -/
def State.mountBad (s : State) (b : BadRecord) : State :=
  if b.decodes = false then allCounters.foldl State.advanceCounter s
  else match b.counter with
    | some c => s.advanceCounter c
    | none => s

/-- The board configuration in force: the frozen copy in Deployed, else the flash block (R352). -/
def Sec.board (x : Sec) : Vector TamperCfg 4 :=
  match x.frozenTamper with
  | some v => if x.lc = .deployed then v else x.flashTamper
  | none => x.flashTamper

/-- KEEPER_ALIVE (R352, R377 step 1, R400, R450): VSUP above 1.70 V for 1 ms; straps sampled, the store mounted. -/
def execKeeperAlive (vsup : Nat) (straps : BitVec 4) (bad : List BadRecord) (s : State) : Host.Outcome State Fault Refusal :=
  if overSupply vsup then .fault .beyondRatings
  else if s.pw.alive = false ∧ 1700 < vsup then
    let t := { s with pw := { s.pw with alive := true, vsup := vsup, straps := straps, offMinDone := true, offLatch := false,
                                        i3cStatic := BitVec.ofNat 7 (0x30 + straps.toNat / 2), i3cDyn := none } }
    let t := { t with sec := { t.sec with tamper := t.sec.board } }
    .next (bad.foldl State.mountBad t)
  else .next s

/-! ### Hold-up (R392, R409, Table 16-9) -/

/-- HOLDUP_READY_ASSERTED (R392): VHOLD rises to 23.5 V. -/
def execHoldupReadyAsserted (mv : Nat) (s : State) : Host.Outcome State Fault Refusal :=
  if overHold mv then .fault .beyondRatings
  else if s.pw.armed ∧ s.pw.holdupReady = false ∧ 23500 ≤ mv then
    .next (({ s with pw := { s.pw with vhold := mv, holdupReady := true, charging := false } }).raise 0x31 0 0)
  else .next { s with pw := { s.pw with vhold := mv } }

/-- HOLDUP_READY_LOST (R67, R392): VHOLD falls below 22.0 V; while running a warning is recorded. -/
def execHoldupReadyLost (mv : Nat) (s : State) : Host.Outcome State Fault Refusal :=
  if overHold mv then .fault .beyondRatings
  else if s.pw.armed ∧ s.pw.holdupReady ∧ mv < 22000 then
    let t := ({ s with pw := { s.pw with vhold := mv, holdupReady := false } }).raise 0x31 0 0
    .next (if s.pw.st = .running then t.event 0x4001 2 oDev mv 0 0 0 else t)
  else .next { s with pw := { s.pw with vhold := mv } }

/-- VHOLD_OVERVOLTAGE (Table 16-9): the boost stops at 25.5 V. -/
def execVholdOvervoltage (mv : Nat) (s : State) : Host.Outcome State Fault Refusal :=
  if overHold mv then .fault .beyondRatings
  else .next { s with pw := { s.pw with vhold := mv, boostOn := s.pw.boostOn && decide (mv < 25500) } }

/-- BOOST_RESTART (Table 16-9): VHOLD falls below 24.5 V after an overvoltage and the boost runs again. -/
def execBoostRestart (mv : Nat) (s : State) : Host.Outcome State Fault Refusal :=
  if overHold mv then .fault .beyondRatings
  else
    let on : Bool := s.pw.st = .poweringUp ∨ s.pw.st = .running ∨ s.pw.st = .poweringDown
    .next { s with pw := { s.pw with vhold := mv, boostOn := s.pw.boostOn || (on && decide (mv < 24500)) } }

/-- CHARGE_TIMEOUT (Table 16-9): 20 s of charging without reaching 23.5 V. -/
def execChargeTimeout (mv : Nat) (s : State) : Host.Outcome State Fault Refusal :=
  if overHold mv then .fault .beyondRatings
  else if s.pw.charging ∧ s.pw.chargeWarned = false ∧ mv < 23500 then
    .next (({ s with pw := { s.pw with vhold := mv, chargeWarned := true } }).event 0x4001 2 oDev mv 0 0 0)
  else .next { s with pw := { s.pw with vhold := mv } }

/-! ### I3C addresses (20_electrical_and_package.md R452) -/

/-- SETDASA (R452): accepted from the static address. -/
def execSetdasa (addr : BitVec 7) (dyn : BitVec 7) (s : State) : Host.Outcome State Fault Refusal :=
  if s.pw.alive ∧ addr = s.pw.i3cStatic ∧ s.pw.i3cDyn = none then
    .next (({ s with pw := { s.pw with i3cDyn := some dyn } }).emit (.i3c true))
  else .next (s.emit (.i3c false))

/-- ENTDAA (R452): a target without a dynamic address takes the one assigned. -/
def execEntdaa (dyn : BitVec 7) (s : State) : Host.Outcome State Fault Refusal :=
  if s.pw.alive ∧ s.pw.i3cDyn = none then .next (({ s with pw := { s.pw with i3cDyn := some dyn } }).emit (.i3c true))
  else .next (s.emit (.i3c false))

/-! ### Operating points (01_architecture.md R14 to R16) -/

/-- The code of a point (Table 11-7). -/
def Point.code : Point → Nat
  | .e => 0
  | .n => 1
  | .p => 2

/-- An accepted request for a point from an instance, the data path being enabled (R16). During a hardware flush, which runs at E, a request
for another point is superseded at once (log 86). -/
def State.requestPoint (s : State) (i : Inst) (pt : Point) : State :=
  if s.pw.st = .flushing ∧ pt ≠ .e then s.lateAnswer i 0xC501
  else match s.pw.target with
  | none =>
    if s.pw.present = pt then s.lateAnswer i 0xC501
    else ({ s with pw := { s.pw with pointWaiters := s.pw.pointWaiters ++ [(i, pt)] } }).beginPoint pt
  | some t =>
    let s := match s.pw.nextPoint with
      | some q => if q = pt ∨ q = t then s else s.answerPoint q
      | none => s
    { s with pw := { s.pw with pointWaiters := s.pw.pointWaiters ++ [(i, pt)], nextPoint := some pt } }

/-- OPERATING_POINT_REACHED (R14, R16): ramp and dwell are complete; the window narrows, and the point named last follows. -/
def execOperatingPointReached (s : State) : Host.Outcome State Fault Refusal :=
  match s.pw.target with
  | none => .next s
  | some pt =>
    let t := ({ s with pw := { s.pw with present := pt, target := none, wideWindow := false, nextPoint := none } }).answerPoint pt
    match s.pw.nextPoint with
    | some q => .next (if q = pt then t else t.beginPoint q)
    | none => .next t

end Sys2Proof.Machine
end

