-- ==== Sys2Proof/Machine/Thermal.lean ====
section
/-! DEFINITION. Sensors, bands, refresh rates, throttle, trip and cooling: shared operations and the commands of the family
(18_thermal.md; 06_drift_and_scrub.md R131; 16_power_and_holdup.md Table 16-5). Temperatures are in tenths of a degree Celsius. -/

namespace Sys2Proof.Machine

/-! ### Limits (R418, R421, R424) -/

/-- The throttle threshold of a class. -/
def thrOf (media : Bool) : Int := if media then 800 else 1000

/-- The trip threshold of a class. -/
def tripOf (media : Bool) : Int := if media then 900 else 1150

/-- A temperature as an event parameter: whole degrees, a negative one in two's complement. -/
def degP (t : Int) : Nat := (t / 10 % 2 ^ 32).toNat

/-! ### One sensor (R419) -/

/-- What a measurement gives for a sensor: its own reading, else the one for the rest of its class. -/
def readingFor (rs : List Reading) (id : SensorId) (media : Bool) : Option Int :=
  match rs.find? fun (r : Reading) => r.sensor == id with
  | some r => r.temp
  | none => match rs.find? fun (r : Reading) => r.sensor == .rest media with
    | some r => r.temp
    | none => none

/-- A sensor after a measurement: its range, missing readings and their recovery. -/
def Sensor.take (x : Sensor) (v : Option Int) (first : Bool) : Sensor :=
  let ok := v.filter fun t => decide (-400 ≤ t) && decide (t ≤ 1500)
  match ok with
  | some t =>
    let n := x.validRun + 1
    { x with temp := some t, missing := 0, validRun := n, same := if x.temp = some t then x.same else none,
             broken := x.broken && (x.stuck.isSome || decide (n < 10)) }
  | none =>
    { x with temp := none, missing := x.missing + 1, validRun := 0, same := none, recent := [],
             broken := x.broken || v.isSome || first || decide (3 ≤ x.missing + 1) }

/-- The median of the other data-die sensors' valid readings. -/
def othersMedian (v : Vector Sensor 23) (i : Fin 23) : Option Int :=
  let l := (allFin 23).filterMap fun j => if j.val < 16 ∧ j ≠ i then v[j].temp else none
  if l.isEmpty then none else some (median l)

/-- Ten readings of a stuck sensor that follow the others (R419). -/
def unsticks (at0 : Int) (l : List (Int × Int)) : Bool :=
  match l.head?, l.getLast? with
  | some a, some b =>
    l.length == 10 && l.any (fun p => p.1 != at0) && decide ((b.1 - a.1) - (b.2 - a.2) ≤ 30) && decide (-30 ≤ (b.1 - a.1) - (b.2 - a.2))
  | _, _ => false

/-- Sticking of a data-die sensor: one reading for 30 s while the others' median moves by 4 °C, and its recovery (R419). -/
def Sensor.stick (x : Sensor) (now : Nat) (m : Option Int) : Sensor :=
  match x.temp, m with
  | some t, some m =>
    match x.stuck with
    | some at0 =>
      let l := (x.recent ++ [(t, m)]).drop (x.recent.length + 1 - 10)
      if unsticks at0 l then { x with broken := false, stuck := none, recent := [], same := none } else { x with recent := l }
    | none =>
      let (t0, lo, hi) := x.same.getD (now, m, m)
      let lo := min lo m
      let hi := max hi m
      let x := { x with same := some (t0, lo, hi) }
      if x.broken = false ∧ secTicks 30 ≤ now - t0 ∧ 40 ≤ hi - lo then { x with broken := true, stuck := some t, recent := [] } else x
  | _, _ => x

/-- What a sensor counts as: its class threshold when broken (R419). -/
def Sensor.eff (x : Sensor) (media : Bool) : Option Int := if x.broken then some (thrOf media) else x.temp

/-! ### The classes (R417, R418) -/

/-- The media dies that answer: of trained channels and units that are not isolated (Table 09-5). -/
def State.mediaDies (s : State) : List DieKey :=
  s.allDies.filter fun d => s.md.trained[d.chan] && !s.rd.chans[d.chan].gone && !s.md.lostDies.contains d

/-- The sensor of a media die. -/
def State.mediaSensor (s : State) (d : DieKey) : Sensor := tget Sensor.init s.th.media (dieCode d)

/-- Every sensor that is measured, with its origin (Table 12-7) and class. -/
def State.sensors (s : State) : List (Nat × Bool × Sensor) :=
  ((allFin 23).map fun i => (oUnit 4 i.val, false, s.th.ctl[i])) ++ s.mediaDies.map fun d => (oDie d, true, s.mediaSensor d)

/-- Broken data-die sensors (R420). -/
def State.brokenDies (s : State) : Nat := ((allFin 23).filter fun i => decide (i.val < 16) && s.th.ctl[i].broken).length

/-- The band of a reading (Table 06-1), with hysteresis from band `b`. -/
def tempBand (b : Nat) (t : Int) : Nat :=
  let up := if 750 ≤ t then 3 else if 550 ≤ t then 2 else if 300 ≤ t then 1 else 0
  let stay := if 730 ≤ t then 3 else if 530 ≤ t then 2 else if 280 ≤ t then 1 else 0
  max up (min b stay)

/-- The refresh rate of a stack (Table 18-4), with hysteresis from rate `r`. -/
def refreshOf (r : Nat) (t : Int) : Nat :=
  let up := if 950 ≤ t then 4 else if 850 ≤ t then 2 else 1
  let stay := if 930 ≤ t then 4 else if 830 ≤ t then 2 else 1
  max up (min r stay)

/-- The band of a media die after a measurement (R131, R414). -/
def State.bandDie (s : State) (d : DieKey) (first : Bool) : State :=
  let x := s.mediaSensor d
  let v := s.drDie d
  let b := if x.broken then 3 else match x.temp with
    | some t => tempBand (if first then 0 else v.band) t
    | none => v.band
  s.modDrDie d fun v => { v with band := b, hotNow := if first then b else max v.hotNow b }

/-- The refresh rate of a stack after a measurement (R426). -/
def State.refreshStack (s : State) (k : Fin 5) (first : Bool) : State :=
  let x := s.th.ctl[(⟨18 + k.val, by omega⟩ : Fin 23)]
  let r := if x.broken then 4 else match x.temp with
    | some t => refreshOf (if first then 1 else s.th.refresh[k]) t
    | none => s.th.refresh[k]
  { s with th := { s.th with refresh := s.th.refresh.set k r } }

/-- A sensor that becomes broken records event 0x5004. -/
def State.sensorEvent (s : State) (o : Nat) (before after : Sensor) : State :=
  if before.broken = false ∧ after.broken then s.event 0x5004 2 o 0 0 0 0 else s

/-- The controller class is measured. -/
def State.measureCtl (s : State) (rs : List Reading) (first : Bool) : State :=
  let a : Vector Sensor 23 := .ofFn fun i => s.th.ctl[i].take (readingFor rs (.ctl i) false) first
  let b : Vector Sensor 23 := .ofFn fun i => if i.val < 16 then a[i].stick s.now (othersMedian a i) else a[i]
  let old := s.th.ctl
  let s : State := { s with th := { s.th with ctl := b } }
  let s := if s.pw.dieUp then (allFin 5).foldl (fun (s : State) k => s.refreshStack k first) s else s
  (allFin 23).foldl (fun (s : State) i => s.sensorEvent (oUnit 4 i.val) old[i] b[i]) s

/-- The media class is measured. -/
def State.measureMedia (s : State) (rs : List Reading) (first : Bool) : State :=
  s.mediaDies.foldl (fun (s : State) d =>
    let x := s.mediaSensor d
    let y := x.take (readingFor rs (.media d) true) first
    let s : State := { s with th := { s.th with media := tput Sensor.init (dieCode d) y s.th.media } }
    (s.bandDie d first).sensorEvent (oDie d) x y) s

/-! ### Throttle (R421, R422) -/

/-- A sensor that counts as at or above its threshold. -/
def isHot (x : Nat × Bool × Sensor) : Bool := (x.2.2.eff x.2.1).any fun t => decide (thrOf x.2.1 ≤ t)

/-- The same by a valid reading. -/
def isHotValid (x : Nat × Bool × Sensor) : Bool := !x.2.2.broken && isHot x

/-- Both classes are clear and no sensor is broken. -/
def State.clear (s : State) : Bool :=
  s.sensors.all fun x => !x.2.2.broken && x.2.2.temp.all fun t => decide (t < thrOf x.2.1 - 30)

/-- The condition of Table 18-3 that holds at the present level: rising, falling, or none. -/
def State.thCond (s : State) : Option Bool :=
  if s.th.level = 0 then none
  else if s.clear then some false
  else if s.th.level = 1 ∧ s.sensors.any isHot then some true
  else if s.th.level = 2 ∧ s.sensors.any isHotValid then some true
  else none

/-- The condition's tick: kept while the same condition holds without a break. -/
def State.judgeTrend (s : State) : State :=
  let t := s.thCond.map fun up => match s.th.trend with
    | some (up', t0) => if up = up' then (up, t0) else (up, s.now)
    | none => (up, s.now)
  { s with th := { s.th with trend := t } }

/-- The level changes: source 0x032 and a new condition from now. -/
def State.setLevel (s : State) (n : Nat) : State :=
  ({ s with th := { s.th with level := n, trend := none } }.raise 0x32 0 0).judgeTrend

/-- The one of two that stands further above its limit. -/
def hotterOf (lim : Bool → Int) (m : Option (Nat × Int × Int)) (x : Nat × Bool × Sensor) : Option (Nat × Int × Int) :=
  match x.2.2.eff x.2.1, m with
  | none, m => m
  | some t, none => some (x.1, t, t - lim x.2.1)
  | some t, some (o, u, e) => if e < t - lim x.2.1 then some (x.1, t, t - lim x.2.1) else some (o, u, e)

/-- The sensor furthest above its limit, the first of equals (log 38). -/
def hottest (l : List (Nat × Bool × Sensor)) (lim : Bool → Int) : Option (Nat × Int) :=
  (l.foldl (hotterOf lim) none).map fun p => (p.1, p.2.1)

/-- Level 0 is left when a reading reaches its threshold or a sensor is broken. -/
def State.enterThrottle (s : State) : State :=
  if s.th.level = 0 then
    match hottest (s.sensors.filter isHot) thrOf with
    | some (o, t) => (s.event 0x5001 2 o (degP t) 0 0 0).setLevel 1
    | none => s
  else s.judgeTrend

/-- THROTTLE_GRACE_EXPIRY (R421, R422): a condition has held throughout one grace time. -/
def execThrottleGraceExpiry (s : State) : Host.Outcome State Fault Refusal :=
  match s.th.trend with
  | none => .next s
  | some (up, t0) =>
    let t := s.since t0 (msTicks s.th.grace)
    if up then s.done (t.setLevel (t.th.level + 1))
    else
      let t := if t.th.level = 1 then
          t.event 0x5002 1 oDev (((hottest t.sensors fun _ => 0).map fun p => degP p.2).getD 0) 0 0 0
        else t
      s.done (t.setLevel (t.th.level - 1))

/-! ### Trip and cooling (R420, R424, R425) -/

/-- What trips the device, with the origin and the reading of event 0x5003. -/
def State.tripHit (s : State) (media : Bool) : Option (Nat × Int) :=
  let l := s.sensors.filter fun x => x.2.1 == media && !x.2.2.broken && x.2.2.temp.any fun t => decide (tripOf media ≤ t)
  match hottest l tripOf with
  | some p => some p
  | none =>
    if 9 ≤ s.brokenDies then
      let v := (allFin 23).filterMap fun (i : Fin 23) => if i.val < 16 ∧ s.th.ctl[i].broken = false then s.th.ctl[i].temp else none
      some (oDev, v.foldl max (v.headD 0))
    else none

/-- The keeper trips the device, as Table 16-5 has it for the power state. -/
def State.trip (s : State) (p : Nat × Int) : State :=
  let s : State := { s with pw := { s.pw with thermtripOut := true } }
  let ev (s : State) : State := s.event 0x5003 3 p.1 (degP p.2) 0 0 0
  match s.pw.st with
  | .running => let t := s.flushStart .trip; ev { t with pw := { t.pw with tripAfter := true } }
  | .poweringUp => let t := s.reverseDown .cooling; ev { t with pw := { t.pw with coolingSince := none } }
  | _ => ev { s with pw := { s.pw with tripAfter := true } }

/-- Whether a trip acts in the present power state, none having acted. -/
def State.tripActs (s : State) : Bool :=
  !s.pw.tripAfter && (s.pw.st == .running || s.pw.st == .poweringUp || s.pw.st == .poweringDown || s.pw.st == .flushing)

/-- The controller condition of R425. -/
def State.ctlCool (s : State) : Bool :=
  decide (s.brokenDies < 9) && s.th.ctl.all fun x => x.broken || x.temp.all fun t => decide (t < 950)

/-- Every media die reads below 75 °C. -/
def State.mediaCool (s : State) : Bool := s.mediaDies.all fun d => ((s.mediaSensor d).eff true).all fun t => decide (t < 750)

/-- A condition's tick, kept while it holds. -/
def holdSince (c : Bool) (t : Option Nat) (now : Nat) : Option Nat := if c then some (t.getD now) else none

/-- When a class is measured next (R418): 1 ms while a valid reading lies within 5 °C of its threshold, else 8 ms. -/
def State.nextMeasure (s : State) (media : Bool) : Nat :=
  let near := s.sensors.any fun x => x.2.1 == media && !x.2.2.broken && x.2.2.temp.any fun t => decide (thrOf media - 50 ≤ t)
  s.now + msTicks (if near then 1 else 8)

/-- The image in a slot: A or B. -/
def Sec.img (x : Sec) (b : Bool) : Option Image := if b then x.imgB else x.imgA

/-- The running image. -/
def Sec.running (x : Sec) : Option Image := x.runImg

/-- Whether a start may enable the data path (R235, R373, R404): not in Blank, Returned or Decommissioned, with two stacks lost, or under an
image whose format level is below the device's. -/
def State.mayEnable (s : State) : Bool :=
  s.bt.kind != BootKind.firmwareOnly && decide (s.kp.lostStacks.length < 2) && s.sec.running.any fun i => decide (s.kp.formatLevel ≤ i.fmtLvl)

/-- The dirty shutdown count's record in the counter partition (R401, Table 16-14). -/
def State.dscRecord (s : State) (dirty : Bool) : State := if dirty then s.saveCounter 0 else s

/-- Step 10 of Table 16-2 (R13, R16, R40, R377, R391, R405): the selected point, the dirty shutdown count, the run record, the data path, and the
sequence retries again; a device that may not enable its data path keeps it disabled (R404). -/
def State.step10 (s : State) : State :=
  let kp := s.kp
  let dirty := dirtyEnd kp.lastShutdown
  let on := s.mayEnable
  (({ s with
    kp := { kp with dsc := if dirty then sat 0xFFFFFFFF (kp.dsc + 1) else kp.dsc, endRec := .run,
                    replayOwed := kp.replayOwed || s.bt.kind == BootKind.recovery },
    pw := { s.pw with st := .running, step := 10, retriesLeft := s.pw.retries, dataPath := on, present := s.pw.selected, mediaHold := none, mediaCool := none },
    th := { s.th with tripped := false },
    dr := { s.dr with sweep := s.bt.kind == BootKind.normal },
    bt := { s.bt with phase := .enabled } }).dscRecord dirty).save 1

/-- THERMAL_MEASUREMENT (R418): one class is measured at its tick. -/
def execThermalMeasurement (media : Bool) (readings : List Reading) (s : State) : Host.Outcome State Fault Refusal :=
  if s.pw.alive = false ∨ (media ∧ s.pw.dieUp = false) then .next s
  else
    let t := s.advance (if media then s.th.dueMedia else s.th.dueCtl)
    let t := if media then t.measureMedia readings false else t.measureCtl readings false
    let next := t.nextMeasure media
    let t := { t with th := if media then { t.th with dueMedia := next } else { t.th with dueCtl := next } }
    match (t.tripHit media).filter fun _ => t.tripActs with
    | some p => s.done (t.trip p)
    | none =>
      let judged := t.pw.dieUp && (t.bt.phase == .enabled || t.bt.phase == .trained || t.bt.phase == .done)
      let t := if judged then t.enterThrottle else t
      let t := if !media ∧ t.pw.st = .cooling then
          { t with pw := { t.pw with coolingSince := holdSince t.ctlCool t.pw.coolingSince t.now } } else t
      if media ∧ t.pw.mediaHold.isSome then
        let c := holdSince t.mediaCool t.pw.mediaCool t.now
        let t := { t with pw := { t.pw with mediaCool := c } }
        s.done (if c.any fun c => decide (secTicks 10 ≤ t.now - c) then t.step10 else t)
      else s.done t

/-- COOLING_RESTART (R425): the controller condition has held for 10 s with the off latch clear; without VIN the sequence ends at once. -/
def execCoolingRestart (s : State) : Host.Outcome State Fault Refusal :=
  match s.pw.coolingSince with
  | some t =>
    if s.pw.st = .cooling ∧ s.pw.offLatch = false then
      let u := s.since t (secTicks 10)
      if u.pw.vinGood then
        let v := u.startSeq
        .next { v with th := { v.th with tripped := true } }
      else .next { u with pw := { u.pw with st := .off, thermtripOut := false, coolingSince := none } }
    else .next s
  | none => .next s

/-- MEDIA_HOLD_TIMEOUT (R425): 60 s into the hold a media die still reads 75 °C or above. -/
def execMediaHoldTimeout (s : State) : Host.Outcome State Fault Refusal :=
  match s.pw.mediaHold with
  | some t =>
    if s.pw.mediaCool = none then
      let u := (s.since t (secTicks 60)).reverseDown .cooling
      .next { u with pw := { u.pw with coolingSince := none } }
    else .next s
  | none => .next s

/-! ### Get Thermal Status, Set Thermal Parameters -/

/-- A temperature as one byte of whole degrees. -/
def State.degByte (s : State) (t : Option Int) : Byte × State :=
  match t with
  | some x => (BitVec.ofInt 8 (x / 10), s)
  | none =>
    let (n, s) := s.draw
    (Config.freeTemp n, s)

/-- The highest of the readings. -/
def maxTemp (l : List (Option Int)) : Option Int :=
  l.foldl (fun m x => match m, x with
    | some a, some b => some (max a b)
    | none, b => b
    | a, none => a) none

/-- The hottest band held by a die of a set. -/
def State.setBand (s : State) (k : Fin 4) : Nat :=
  s.allDies.foldl (fun m d => if setOfChan d.chan = k then max m (s.drDie d).band else m) 0

/-- GET_THERMAL_STATUS (R419, R422, Table 11-7). -/
def execGetThermalStatus (r : Req) (s : State) : Host.Outcome State Fault Refusal :=
  .next (s.mbx (.getThermalStatus r) (some 0) fun s =>
    let ctl (lo hi : Nat) : Option Int :=
      maxTemp ((allFin 23).map fun i => if lo ≤ i.val ∧ i.val < hi then s.th.ctl[i].eff false else none)
    let media := maxTemp (s.mediaDies.map fun d => (s.mediaSensor d).eff true)
    let broken := s.sensors.any fun x => x.2.2.broken
    let bands := (allFin 4).foldl (fun n k => n + s.setBand k * 4 ^ k.val) 0
    let (a, s) := s.degByte (ctl 0 16)
    let (b, s) := s.degByte media
    let (c, s) := s.degByte (ctl 18 23)
    (okOut (.bytes ([a, b, c, BitVec.ofNat 8 (s.th.level + 4 * b2n broken)] ++ le 4 bands)), s))

/-- SET_THERMAL_PARAMETERS (R421): the grace time, 10 ms to 1,000 ms. -/
def execSetThermalParameters (r : Req) (grace : Nat) (s : State) : Host.Outcome State Fault Refusal :=
  .next (s.mbx (.setThermalParameters r grace) (some 2) fun s =>
    if 10 ≤ grace ∧ grace ≤ 1000 then (okAns, { s with th := { s.th with grace := grace } }) else (rangeAns 0, s))

end Sys2Proof.Machine
end

