-- ==== Sys2Proof/Machine/Boot.lean ====
section
/-! DEFINITION. Start-up: rails, boot ROM, channel training, normal boot, replay, first format: shared operations and the happenings of the
family (17_startup_and_recovery.md; 02_persistence_contract.md R36 to R43; 07 R179, R180, R183; 08 R201 to R203; 14 R336 to R338, R342 to
R350; 16 R377 to R379; 19 R436 to R441). -/

namespace Sys2Proof.Machine

/-! ### The data die comes up (R377, R404, R415) -/

/-- The kind of start of Table 17-1. -/
def State.bootKind (s : State) : BootKind :=
  if s.sec.lc ≠ .provisioned ∧ s.sec.lc ≠ .deployed then .firmwareOnly
  else if s.kp.formatDone = false then .format
  else if dirtyEnd s.kp.lastShutdown ∨ s.kp.replayOwed then .recovery
  else .normal

/-- The fuse of a pending state is blown before firmware starts, with event 0x8003 (R350). -/
def State.blowFuse (s : State) : State :=
  if s.sec.fuseLC.code < s.sec.keepLC.code then
    let old := s.sec.fuseLC.code
    ({ s with sec := { s.sec with fuseLC := s.sec.keepLC, pendingLC := none } }.save 35).event 0x8003 1 oDev old s.sec.keepLC.code 0 0
  else s

/-- Out of reset with every rail in its window (R301, R324, R331, R342, R352, R392): volatile state at its power-up values, a new event block,
MAC counts from the top of their blocks, hold-up supervision armed. -/
def State.diePowerUp (s : State) : State :=
  let s := { s with
    pw := { s.pw with dieUp := true, step := 9, armed := true },
    sec := { s.sec with macSlots := s.sec.macSlots.map fun (m : MacSlot) => { m with uses := m.reserved }, tamper := s.sec.board },
    th := { s.th with grace := 100, level := 0, trend := none },
    md := { s.md with retries := [], alerts := [], crcRun := .replicate 64 0 },
    ca := { Ca.init with en := s.kp.cacheEn && s.kp.lostStacks.isEmpty, stale := !s.kp.lostStacks.isEmpty, lock := !s.kp.lostStacks.isEmpty },
    ev := { s.ev with seq := s.sec.evReserve, blockEnd := s.sec.evReserve },
    bt := { s.bt with phase := .off } }
  let s := s.evBlock.blowFuse
  let s := { s with bt := { s.bt with kind := s.bootKind } }
  if 23500 ≤ s.pw.vhold then ({ s with pw := { s.pw with holdupReady := true, charging := false } }).raise 0x31 0 0 else s

/-- RAIL_DWELL_COMPLETE (R377, R379, R440, R441): the rail being brought up has stayed in its window for its dwell. -/
def execRailDwellComplete (rail : Nat) (s : State) : Host.Outcome State Fault Refusal :=
  if h : rail < 12 then
    if s.pw.st = .poweringUp ∧ s.pw.dieUp = false ∧ rail = s.pw.railsUp + 1 then
      let t := s.since s.now (usTicks s.pw.rails[rail].dwell)
      let t := { t with pw := { t.pw with railsUp := rail, step := if rail = 11 then 9 else railStep (rail + 1),
                                          meden := t.pw.meden || decide (8 ≤ rail) } }
      .next (if rail = 11 then t.diePowerUp else t.pscOn (rail + 1))
    else .next s
  else .next s

/-! ### Boot ROM and firmware start (R336 to R338, R344) -/

/-- The first check of R336 that an image fails, counted from 1; 0 when it is accepted. A slot without an image fails the first. -/
def Sec.imageCheck (x : Sec) : Option Image → Nat
  | none => 1
  | some i =>
    if !i.headerOk then 1
    else if !i.keyOk || x.revoked.getLsbD i.keyIndex.val then 2
    else if !i.sigOk then 3
    else if i.svn < x.antiRollback then 4
    else if !i.hashOk then 5
    else 0

/-- The protocol level in use: the lowest of the highest levels that this device and the members of its table report (R372). -/
def State.protoNow (s : State) : Nat :=
  s.lo.levels.foldl (fun n (l : MemberLevel) => min n l.proto) ((s.sec.running.map fun i => i.proto).getD 1)

/-- A sealed key is unsealed into the secure bank. -/
def SealedKey.load (k : SealedKey) : SealedKey := { k with loaded := k.key.isSome }

/-- Firmware starts (Table 17-2 step 4): keys unsealed, the cache index and wrap keys drawn, CXL ports released to train. -/
def State.fwStart (s : State) (b : Bool) : State :=
  let (ix, s) := s.newKey
  let (wrap, s) := s.newKey
  let s := { s with
    sec := { s.sec with runningB := b, runImg := s.sec.img b, romOnly := false, keyTree := s.sec.keyTree.load, keyPlace := s.sec.keyPlace.load,
                        keyPass := s.sec.keyPass.load, keyCust := s.sec.keyCust.load, keyCacheIx := some ix, keyWrap := ⟨some wrap, true⟩ },
    cr := { s.cr with regions := s.cr.regions.map fun (r : Region) => { r with keyA := r.keyA.load, keyB := r.keyB.load } },
    lo := { s.lo with tethers := s.lo.tethers.map fun (t : Tether) => { t with key := t.key.load } },
    bt := { s.bt with phase := .dieUp } }
  let s := { s with lo := { s.lo with proto := s.protoNow } }
  let s := s.macReset 6
  (allFin 2).foldl (fun (s : State) p => if s.portThere p then s.modPort p fun x => { x with mode := .training, perst := false } else s) s

/-- BOOT_ROM_IMAGE_CHECK (R336, R338): the preferred image, then the other; with neither accepted the ROM stays in control. -/
def execBootRomImageCheck (s : State) : Host.Outcome State Fault Refusal :=
  if s.pw.dieUp ∧ s.bt.phase = .off ∧ s.sec.romOnly = false then
    let b := s.sec.prefB
    let first := s.sec.imageCheck (s.sec.img b)
    let other := if first = 0 then 0 else s.sec.imageCheck (s.sec.img !b)
    let t := { s with sec := { s.sec with refA := if b then other else first, refB := if b then first else other } }
    if first = 0 then .next (t.fwStart b)
    else if other = 0 then .next (t.fwStart !b)
    else .next ({ t with sec := { t.sec with romOnly := true } }.event 0x7005 3 oDev t.sec.refA t.sec.refB 0 0)
  else .next s

/-- ANTI_ROLLBACK_RAISE (R337): 600 s after media ready with no restart of core 0. -/
def execAntiRollbackRaise (s : State) : Host.Outcome State Fault Refusal :=
  match s.sec.raiseAt, s.sec.running with
  | some t, some i =>
    if s.lk.mediaReady then
      let s := s.advance t
      let low := (allFin 4).foldl (fun (m : BitVec 4) k => if k.val < i.keyIndex.val then m ||| BitVec.ofNat 4 (2 ^ k.val) else m) 0
      let s := { s with sec := { s.sec with raiseAt := none } }
      if s.sec.antiRollback < i.svn then
        .next ({ s with sec := { s.sec with antiRollback := i.svn, revoked := s.sec.revoked ||| low } }.saveCounter 1)
      else .next s
    else .next s
  | _, _ => .next s

/-! ### Media channels (R414, R427, R428, R436 to R439) -/

/-- Number of a package in a table. -/
def pkgCode (c : Fin 64) (cs : Fin 4) : Nat := c.val * 4 + cs.val

/-- A package that R438 calls valid, for a device's grade (Table 19-1). -/
def pkgValid (g : Grade) (p : PackageFound) : Bool :=
  p.valid && ((p.part == 0x3105 && p.rev == 2) || (g == .c && p.part == 0x3104 && (p.rev == 1 || p.rev == 2)))

/-- Packages on each populated channel (Table 19-2). -/
def State.pkgs (s : State) : List (Fin 64 × Fin 4) :=
  (allFin 64).flatMap fun c => if c.val < s.hw.channels then (allFin 4).filterMap fun k => if k.val * 4 < s.hw.dies then some (c, k) else none
    else []

/-- Whether a supported population of valid packages was found (R439). -/
def State.populated (s : State) : Bool :=
  (s.hw.channels == 16 || s.hw.channels == 32 || s.hw.channels == 64) && (s.hw.dies == 4 || s.hw.dies == 8 || s.hw.dies == 16) &&
  s.pkgs.all fun p => match tfind s.md.packages (pkgCode p.1 p.2) with
    | some x => pkgValid s.hw.grade x && s.md.trained[p.1]
    | none => false

/-- Whether a channel's recorded packages are not all there again (R439). -/
def State.chanMissing (s : State) (c : Fin 64) : Bool :=
  s.kp.chanSerials.any fun p => p.1 / 4 == c.val && match tfind s.md.packages p.1 with
    | some x => !(pkgValid s.hw.grade x && x.serial == p.2 && s.md.trained[c])
    | none => true

/-- Channels at power-up (Table 09-5, R439): failing, or without their recorded packages, become out. -/
def State.chansUp (s : State) : State :=
  (allFin 64).foldl (fun (s : State) c =>
    if c.val < s.hw.channels ∧ s.rd.chans[c].gone = false ∧ (s.rd.chans[c] = .failing ∨ s.chanMissing c) then
      s.mediaOut (.channel c) (setOfChan c) none
    else s) s

/-- CHANNEL_TRAINING_COMPLETE (R414, R425, R436 to R439): descriptors, the first reading of every sensor, then step 10, a trip, or the hold
of a start that follows cooling. -/
def execChannelTrainingComplete (found : List PackageFound) (failed : List Nat) (readings : List Reading) (s : State) :
    Host.Outcome State Fault Refusal :=
  if s.pw.st = .poweringUp ∧ s.bt.phase = .dieUp then
    let pk := found.foldl (fun m (p : PackageFound) => tins (pkgCode p.chan p.cs) p m) []
    let t := { s with md := { s.md with packages := pk,
                                        trained := .ofFn fun c : Fin 64 => decide (c.val < s.hw.channels) && !failed.contains c.val },
                      bt := { s.bt with phase := .trained } }
    let t := if t.kp.formatDone then t.chansUp else t
    let t := (t.measureCtl readings true).measureMedia readings true
    let t := { t with th := { t.th with dueCtl := t.nextMeasure false, dueMedia := t.nextMeasure true } }
    match (match t.tripHit true with
      | some p => some p
      | none => t.tripHit false) with
    | some p => .next (t.trip p)
    | none =>
      let t := t.enterThrottle
      if t.th.tripped then
        .next { t with pw := { t.pw with mediaHold := some t.now, mediaCool := holdSince t.mediaCool none t.now } }
      else .next t.step10
  else .next s

/-! ### Media ready (R250, R405, R407) -/

/-- The record of Get Group Outcomes for one window (Table 07-16, R180): what was durable before the shutdown, and what its flush or replay
closed. -/
def groupRec (g : GroupRec) (w : Win) : GroupRec :=
  let (a, b, c) := w.pre.getD (w.durGseq, w.durOutcome, w.durCount)
  if a = w.durGseq then { g with lastGseq := a, lastOutcome := b, lastCount := c, infGseq := 0, infOutcome := 0, infCount := 0 }
  else { g with lastGseq := a, lastOutcome := b, lastCount := c, infGseq := w.durGseq, infOutcome := w.durOutcome,
                infCount := w.durCount }

/-- A group of the partner's whose commit record this replica holds: it is neither committed nor dropped here (R181). -/
def State.replicaWin (s : State) (n : Fin 16) (w : Fin 64) : Bool :=
  (s.win n w).recIssued && (s.win n w).recLocal && s.replicaGroup n w

/-- Windows settle and the report of Get Group Outcomes is written; tentative entries left are discarded (R179, R180). -/
def State.settleWins (s : State) (bootType : Nat) : State :=
  let held := s.wp.tents.filter fun (t : TentRec) => s.replicaWin t.ld t.win
  let mine : Vector (Vector Bool 64) 16 := .ofFn fun n => .ofFn fun w => s.replicaWin n w
  let s := (s.wp.tents.filter fun (t : TentRec) => !held.contains t).foldl (fun (s : State) (t : TentRec) => s.kill t.place) s
  { s with
    wp := { s.wp with tents := held },
    kp := { s.kp with groupBoot := bootType,
                      groupReport := .ofFn fun n => .ofFn fun w => groupRec (s.kp.groupReport[n])[w] (s.win n w) },
    lds := .ofFn fun n => { s.ld n with wins := .ofFn fun w => if (mine[n])[w] then s.win n w else (s.win n w).settled } }

/-- A die with the clock of its newest durable copy, or none: its band and what it has measured in this power-on stay (R131, R134, R143). -/
def State.durDie (s : State) (d : DieKey) : DriftDie :=
  let x := s.drDie d
  let y := tget DriftDie.init s.dr.durDies (dieCode d)
  { x with wclk := y.wclk, hotPrev := y.hotPrev }

/-- Drift tables and die clocks from their newest durable copy (R134); no block has an estimate or a pilot read in flight (R137). OFS is that
of the durable copy (log 83). -/
def State.restoreDrift (s : State) : State :=
  let blocks := s.dr.durBlocks.map fun (b : Nat × DriftBlk) => (b.1, { b.2 with est := false, pend := false })
  { s with dr := { s.dr with dies := s.allDies.foldl (fun m d => tput DriftDie.init (dieCode d) (s.durDie d) m) [],
                             segs := s.dr.durSegs, blocks := blocks } }

/-- The recovery report with its counts at zero. -/
def State.emptyReport (s : State) (bootType : Nat) : RecoveryReport :=
  { RecoveryReport.init with bootType := bootType, lastShutdown := s.kp.lastShutdown, dsc := s.kp.dsc }

/-- What the host sees of media ready (R250), the 600 s of R337 begun. -/
def State.mediaFlags (s : State) : State :=
  { s with
    lk := { s.lk with mediaReady := true, mediaStatus := .ready, memActive := true },
    sec := { s.sec with raiseAt := some (s.now + secTicks 600) },
    bt := { s.bt with phase := .done } }

/-- An interrupted Sanitize or Secure Erase is carried out (Table 02-6). -/
def State.eraseResume (s : State) : State := match s.mb.sanitize with
  | some (i, op) => ({ s.eraseAll with mb := { s.eraseAll.mb with sanitize := none } }).modMb i fun m => { m with bg := some ⟨op, 100, false, 0, false⟩ }
  | none => s

/-- Draining channels resume (R230). -/
def State.drainsResume (s : State) : State :=
  (allFin 64).foldl (fun (s : State) c => if s.rd.chans[c] = .draining then s.startDrain c else s) s

/-- Media ready (R250, R337): status, Mem_Active, credits; an interrupted Sanitize completes first (Table 02-6), and a release (log 46); draining channels and scrub
summaries resume (R156, R230). -/
def State.mediaUp (s : State) : State :=
  (s.eraseResume.releaseResume.scrubsSettle.drainsResume.mediaFlags.save 36).judgeMarks.drainWrites.drainReads

/-- The roots of the durable seal are loaded (R199). -/
def State.loadRoots (s : State) : State :=
  { s with cr := { s.cr with nodes := (s.cr.nodes.filter fun p => p.1 / 2 ^ 40 ≠ 6) ++ s.cr.sealedRoots } }

/-- NORMAL_BOOT_COMPLETE (R407): roots loaded, tables rebuilt, report at zero, media ready. -/
def execNormalBootComplete (s : State) : Host.Outcome State Fault Refusal :=
  if s.pw.st = .running ∧ s.pw.dataPath ∧ s.bt.phase = .enabled ∧ s.bt.kind = .normal then
    let t := (s.loadRoots.settleWins 0).restoreDrift
    let t : State := { t with kp := { t.kp with report := t.emptyReport 0 } }
    .next t.mediaUp
  else .next s

/-! ### Replay (R36 to R43, R179, R183, R201 to R203, R410) -/

/-- What replay counts as it goes. -/
structure RpCount where
  again : Nat
  torn : List TornRec
  tornTotal : Nat
  poisoned : Nat
  deriving DecidableEq, Repr

/-- The pages of entries in the counter domain that were in flight (R203). -/
def State.flightPages (s : State) : List Nat :=
  (s.wp.entries.filterMap fun e =>
    if e.2.dead = false ∧ e.2.win.isNone ∧ e.2.psn = false ∧ (tfind s.wp.index e.2.line).all (fun r => s.recPlace e.2.line r ≠ placeOf e.1) then
      some (pageOf e.2.line) else none).dedup

/-- A torn entry is listed (R43, Table 02-5): at most 4,096. -/
def tornRec (r : ReplayEntry) (e : Entry) : TornRec :=
  { line := if r.dpaV then e.line else 0, seq := if r.seqV then e.seq else 0, ld := if r.ldV then e.ld else 0, dpaV := r.dpaV,
    seqV := r.seqV, ldV := r.ldV, win := e.win, reason := if r.programmed1 then 0 else 1 }

/-- The place of a replay entry. -/
def rpPlace (r : ReplayEntry) : Place := ⟨r.set, r.pair, r.slot⟩

/-- A line that replay has lost: event, mark, list (R35, R84). -/
def State.replayLost (s : State) (e : Entry) (tag : Bool) : State :=
  (s.event (if tag then 0x3001 else 0x1001) 3 oDev (lo32 (e.line * 64)) (hi32 (e.line * 64)) (if tag then 2 else e.ld.val) 0).markPoison e.ld
    e.line .internal

/-- A torn entry is counted, and listed while the list has room (R43). -/
def RpCount.addTorn (n : RpCount) (t : TornRec) : RpCount :=
  { n with tornTotal := n.tornTotal + 1, torn := if n.torn.length < 4096 then n.torn ++ [t] else n.torn }

/-- A Shallows entry none of whose copies verifies (Table 02-3, R35, R168): the line is lost where the index names it; a tentative line whose
commit record is issued is lost with its commit; any other is torn. -/
def State.replayNone (s : State) (n : RpCount) (r : ReplayEntry) (p : Place) (e : Entry) : State × RpCount :=
  if (tfind s.wp.index e.line).any fun i => s.recPlace e.line i == p then
    ((s.kill p).replayLost e false, { n with poisoned := n.poisoned + 1 })
  else match s.wp.tents.find? fun (t : TentRec) => t.place == p with
    | some t =>
      if (s.win t.ld t.win).recIssued then (s.tentGone t, n)
      else ({ s.kill p with wp := { (s.kill p).wp with tents := s.wp.tents.filter (· ≠ t) } }, n.addTorn (tornRec r e))
    | none => (s.kill p, n.addTorn (tornRec r e))

/-- One Shallows entry that replay could not take as it stood (Table 02-3, R202): one whose counter is not found is a failed tag where it would
be the line's newest version. -/
def State.replayEntry (x : State × RpCount) (r : ReplayEntry) : State × RpCount :=
  let (s, n) := x
  let p := rpPlace r
  match s.entryAt p with
  | none => x
  | some e =>
    if e.dead ∨ e.released then x
    else if r.ok0 = false ∧ r.ok1 = false then s.replayNone n r p e
    else if e.win.isNone ∧ e.psn = false ∧ r.counterFound = false then
      if s.takes e.line e.seq then ((s.kill p).replayLost e true, { n with poisoned := n.poisoned + 1 }) else (s.kill p, n)
    else (s.modEntry p fun e => { e with ok0 := r.ok0, ok1 := r.ok1, written := true }, n)

/-- The order of the log: pairs as they were opened, slots in order (log 55). -/
def State.logOrder (s : State) (r : ReplayEntry) : Nat :=
  s.wp.pairs.findIdx (fun (x : Pair) => x.set == r.set && x.num == r.pair) * 512 + r.slot

/-- The entries that replay could not take as they stood, from the oldest slot to the newest (R43). -/
def State.inLogOrder (s : State) (l : List ReplayEntry) : List ReplayEntry :=
  l.insertionSort fun a b => s.logOrder a ≤ s.logOrder b

/-- Whether the index or a tentative record names the entry at a place. -/
def State.named (s : State) (p : Place) (e : Entry) : Bool :=
  (tfind s.wp.index e.line).any (fun i => s.recPlace e.line i == p) || s.wp.tents.any fun (t : TentRec) => t.place == p

/-- An entry applied from one surviving copy is placed again in two, and counted (R36, R57). -/
def State.replayAgain (x : State × RpCount) (r : ReplayEntry) : State × RpCount :=
  let (s, n) := x
  match s.entryAt (rpPlace r) with
  | none => x
  | some e =>
    if r.ok0 ≠ r.ok1 ∧ e.dead = false ∧ e.released = false ∧ s.named (rpPlace r) e then
      match s.placeAgain (rpPlace r) with
      | (true, t) => (t, { n with again := n.again + 1 })
      | (false, t) => (t, n)
    else x

/-- Entries in flight that replay did not name were never programmed: nothing is found of them. -/
def State.dropUnseen (s : State) : State :=
  { s with wp := { s.wp with entries := s.wp.entries.map fun e => if e.2.written then e else (e.1, { e.2 with dead := true }) } }

/-- A plain entry that verified and was not yet indexed is applied where it is the line's newest version (R36 to R38); its counter is the one
after the named version's, as R202 finds it. -/
def State.applyPlain (s : State) (p : Place) (e : Entry) : State :=
  if s.takes e.line e.seq = false then s.kill p else
  let s := if e.psn then s else s.bump e.line
  let s := s.indexLine e.line p e.seq e.psn
  if e.psn then s.poisonAdd e.line 1 .external else s.poisonDrop e.line 1

/-- Every plain entry that stands is in the index. -/
def State.applyPlains (s : State) : State :=
  let ready := s.wp.entries.filter fun e => !e.2.dead && !e.2.released && e.2.written && e.2.win.isNone &&
    (tfind s.wp.index e.2.line).all fun r => s.recPlace e.2.line r ≠ placeOf e.1
  ready.foldl (fun (s : State) (e : Nat × Entry) => s.applyPlain (placeOf e.1) e.2) s

/-- Whether a sequence number lies from one to another (R46). -/
def seqFrom (first last q : Nat) : Bool := !newer first q && !newer q last

/-- The verified entries of a window whose numbers lie from FIRST to LAST of its present group, dead ones among them. -/
def State.windowFound (s : State) (n : Fin 16) (w : Fin 64) : List (Nat × Entry) :=
  let v := s.win n w
  s.wp.entries.filter fun e => e.2.written && (e.2.ok0 || e.2.ok1) && !e.2.released && e.2.ld == n && e.2.win == some w &&
    decide (0 < v.arrived) && seqFrom v.first v.last e.2.seq

/-- Tentative entries of a window that verified and whose record was lost with the power: those of its present group. -/
def State.windowEntries (s : State) (n : Fin 16) (w : Fin 64) : List (Nat × Entry) := (s.windowFound n w).filter fun e => !e.2.dead

/-- Tentative entries that are not yet in the table of tentative records join it (R36). -/
def State.joinTents (s : State) (n : Fin 16) (w : Fin 64) : State :=
  (s.windowEntries n w).foldl (fun (s : State) (e : Nat × Entry) =>
    let p := placeOf e.1
    let x := e.2
    if s.named p x then s
    else
      let t : TentRec := ⟨n, w, (s.win n w).gseq, x.line, x.seq, p, x.psn, s.seqNonce x.line x.seq x.posB, x.data, false, false⟩
      let old := s.wp.tents.filter fun (o : TentRec) => o.ld = n && o.win = w && o.line = x.line
      if old.any fun (o : TentRec) => newer o.seq x.seq then s
      else { s with wp := { s.wp with tents := (s.wp.tents.filter fun (o : TentRec) => !old.contains o) ++ [t] } }) s

/-- Whether a window's group in flight commits at replay (R179, R183): its commit record has a verified copy here, or the partner holds one. -/
def State.groupCommits (s : State) (res : ReplayResult) (n : Fin 16) (w : Fin 64) : Bool :=
  let v := s.win n w
  v.state == .committing && v.recIssued &&
    (v.recLocal || res.commitHas.contains (n, w) || (v.teth.isSome && (res.partnerHas.contains (n, w) || v.recPartner)))

/-- A group commits at replay: its record stands where both copies verified, else it is placed again; one that only the partner held is written
anew (R179, R183). -/
def State.replayCommit (s : State) (res : ReplayResult) (n : Fin 16) (w : Fin 64) : State :=
  let v := s.win n w
  let mine := v.recLocal || res.commitHas.contains (n, w)
  let item : MetaRec := .outcome n w v.gseq v.first v.last v.arrived 1 (outFlags v.teth.isSome false (!mine))
  let s := s.commitApply n w
  let s : State :=
    if v.recLocal then { s with wp := { s.wp with reserve := ⟨v.recSeq, item, v.recPlace, s.wp.seq⟩ :: s.wp.reserve } }
    else if mine then
      let (p, s) := s.allocMeta v.recSeq false
      { s with wp := { s.wp with reserve := ⟨v.recSeq, item, p, s.wp.seq⟩ :: s.wp.reserve } }
    else s.metaRec item
  s.modWin n w fun v => { v with closing := none, durGseq := v.gseq, durOutcome := 1, durCount := v.arrived }

/-- A group of a window is decided (R179, R183): committed, or closed 0x07 where its region was enabled. With the COUNT of the record of 0x07,
and the lines that the commit leaves poisoned. -/
def State.decideGroup (s : State) (res : ReplayResult) (n : Fin 16) (w : Fin 64) : State × Nat × Nat :=
  if s.replicaWin n w then (s, 0, 0) else
  let s := if (s.win n w).active then s.joinTents n w else s
  let commits := s.groupCommits res n w
  let lost := if commits then (s.wp.tents.filter fun (t : TentRec) => t.ld = n && t.win = w && t.lost && s.takes t.line (s.win n w).recSeq).length else 0
  let s := if commits then s.replayCommit res n w else s
  if (s.kp.groupReport[n])[w].enabled then
    let v := s.win n w
    let found := if v.gseq = v.durGseq then [] else (s.windowFound n w).map fun e => e.2.seq
    let g := (v.durGseq + 1) % 2 ^ 48
    let first := if found.isEmpty then 0 else v.first
    let last := if found.isEmpty then 0 else v.last
    let s := s.metaRec (.outcome n w g first last found.length 7 (outFlags v.teth.isSome false true))
    (s.modWin n w fun v => { v with pre := some (v.durGseq, v.durOutcome, v.durCount), durGseq := g, durOutcome := 7, durCount := found.length,
                                    closing := none }, found.length, lost)
  else (s, 0, lost)

/-- Every group is decided: whether one of the records of 0x07 has a count above 0, and the lines that commits leave poisoned. -/
def State.decideGroups (s : State) (res : ReplayResult) : State × Bool × Nat :=
  (allFin 16).foldl (fun (x : State × Bool × Nat) n => (allFin 64).foldl (fun (x : State × Bool × Nat) w =>
    let (t, c, l) := x.1.decideGroup res n w
    (t, x.2.1 || decide (0 < c), x.2.2 + l)) x) (s, false, 0)

/-- Granules of groups in flight whose partner could not be asked join the bitmap of their tether (R183); so does every tethered granule
with a live entry above the confirmed mark (R367). -/
def State.replayBitmaps (s : State) (unreached : List (Fin 8)) : State :=
  s.wp.entries.foldl (fun (s : State) (e : Nat × Entry) =>
    match s.tetherOf (s.regionOf e.2.line).val with
    | some t =>
      let x := s.lo.tethers[t]
      let live := !e.2.dead && (tfind s.wp.index e.2.line).any fun r => s.recPlace e.2.line r == placeOf e.1
      let open? := e.2.win.any fun w => (s.win e.2.ld w).active && unreached.contains t
      if x.replica = false ∧ ((live && newer e.2.seq x.confirmed) || open?) then s.setDirtyBit t (s.tetherGran t e.2.line) else s
    | none => s) s

/-- A page is re-encrypted with a MAJOR 2 above the highest found; past the top it moves to the next key (R203). -/
def State.replayPage (s : State) (page : Nat) : State :=
  let b := s.block page
  let line := page * 64
  if b.major + 2 < 2 ^ 32 then s.reencPage page (b.major + 2) (s.keyPos line) b.early
  else
    let r := s.regionOf line
    (if s.cr.regions[r].state = .active then s.startRekey r true else s).earlyPage line

/-- A set that was restoring is degraded, and rebuilds where it is asked to (R227, R410). -/
def State.restoringEnds (t : State) : State :=
  (allFin 4).foldl (fun (t : State) k => if t.rd.sets[k].state = .restoring then
      let u := (t.restorePairs k).setTo k .degraded
      if u.rd.sets[k].mayRebuild then u.rebuildStart k else u
    else t) t

/-- The Shallows found and applied: entries, bitmaps, groups, second copies; with the counts, and whether an outcome 7 was recorded. -/
def State.replayFound (s : State) (res : ReplayResult) : State × RpCount × Bool :=
  let x := (s.inLogOrder res.entries).foldl State.replayEntry (s, ⟨0, [], 0, 0⟩)
  let y := (x.1.dropUnseen.applyPlains.replayBitmaps res.unreached).decideGroups res
  let z := res.entries.foldl State.replayAgain (y.1.settleWins 1, { x.2 with poisoned := x.2.poisoned + y.2.2 })
  (z.1.restoreDrift.restoringEnds, z.2, y.2.1)

/-- The sequence numbers of the entries that replay applied: the index, lost with the package DRAM, is built of them; those that replay made itself
come after the number reached before it (R21, R42, log 55). -/
def State.replayed (t : State) (from_ : Nat) : List Nat :=
  t.wp.index.filterMap fun p => (t.entryAt (t.recPlace p.1 p.2)).bind fun e => if newer e.seq from_ then none else some e.seq

/-- The highest of several sequence numbers (R46); 0 of none. -/
def highSeq (l : List Nat) : Nat := l.tail.foldl (fun m q => if newer q m then q else m) (l.headD 0)

/-- The pages in flight, and those whose durable counters are behind, are verified and sealed again (R201 to R203); the time it took passes. -/
def State.replayPages (t : State) (fly : List Nat) (ticks : Nat) : State :=
  let stale := (t.cr.blocks.filterMap fun b => if tget CBlock.zero t.cr.durBlocks b.1 = b.2 then none else some b.1)
  let u := (((fly ++ stale).dedup).foldl State.replayPage t).sealRoots
  u.since u.now ticks

/-- The recovery report of a replay (R42). -/
def State.replayReport (t : State) (n : RpCount) (some7 : Bool) (applied high ticks : Nat) : RecoveryReport :=
  { bootType := 1, lastShutdown := t.kp.lastShutdown, dsc := t.kp.dsc, replayed := applied, reduplicated := n.again,
    tornTotal := n.tornTotal, flags := b2n (decide (4096 < n.tornTotal)) + 2 * b2n (decide (0 < n.poisoned)) + 4 * b2n some7,
    poisoned := n.poisoned, replayTicks := ticks, highSeq := high, torn := n.torn }

/-- The report stands, nothing is owed to replay, the warm-up sweep begins; event 0x7001. -/
def State.replayEnd (t : State) (n : RpCount) (rep : RecoveryReport) : State :=
  ({ t with kp := { t.kp with report := rep, replayOwed := false }, dr := { t.dr with sweep := true } }).event 0x7001 1 oDev n.tornTotal
    n.poisoned 0 0

/-- REPLAY_COMPLETE (R410, Table 17-4): entries, groups, second copies and restoration, pages, new roots, report, event 0x7001, media
ready. -/
def execReplayComplete (res : ReplayResult) (s : State) : Host.Outcome State Fault Refusal :=
  if s.pw.st = .running ∧ s.pw.dataPath ∧ s.bt.phase = .enabled ∧ s.bt.kind = .recovery then
    let x := s.replayFound res
    let t := x.1.replayPages s.flightPages res.ticks
    let l := x.1.replayed s.wp.seq
    .next (t.replayEnd x.2.1 (t.replayReport x.2.1 x.2.2 l.length (highSeq l) res.ticks)).mediaUp
  else .next s

/-! ### First format (R412, R413, R439) -/

/-- Segments of a lane that its queue holds at least (R19): 1 s of fold output at the highest of the set's sequential rates, 7.7 GB/s,
shared over its lanes (log 39). -/
def laneLevel (dies : Nat) : Nat := (7700000000 + dies * 1146880 - 1) / (max 1 dies * 1146880)

/-- Folding after a first format: every segment reset and free, spare assigned per die, about 5 % of its blocks (log 21), bad blocks retired
and replaced from it (R123, Table 05-10). -/
def State.formatBlocks (s : State) (bad : List BlockKey) : State :=
  let spare : Vector Spare 4 := .ofFn fun k =>
    let n := if k.val < s.numSets then 16 * s.hw.dies * dieSpares else 0
    let b := (bad.filter fun (x : BlockKey) => x.seg.set = k).length
    ⟨n, n - b, b⟩
  let used (i : Fin 64) : Bool := decide (i.val / 16 < s.numSets) && decide (i.val % 16 < s.hw.dies)
  let dies := bad.map blockDie
  { s with fo := { Fo.init with retired := bad, spare := spare,
                                dieUsed := dies.foldl (fun m d => tput 0 (dieCode d) (min dieSpares (dies.count d)) m) [],
                                level := .ofFn fun i => if used i then laneLevel s.hw.dies else 0,
                                queued := .ofFn fun i => if used i then s.segsPerLane else 0 } }

/-- FIRST_FORMAT_COMPLETE (Table 17-5, R412, R413). -/
def execFirstFormatComplete (badBlocks : List BlockKey) (s : State) : Host.Outcome State Fault Refusal :=
  if s.pw.st = .running ∧ s.pw.dataPath ∧ s.bt.phase = .enabled ∧ s.bt.kind = .format ∧ s.populated then
    let clocks := s.dr.dies.map fun (d : Nat × DriftDie) => (d.1, { d.2 with wclk := 0 })
    let t := { s with
      wp := { Wp.init with rx := s.wp.rx }, dr := { Dr.init with params := s.dr.params, dies := clocks },
      cr := .init, sec := { s.sec with seqEpoch := 0 },
      lk := { s.lk with dcRegions := .replicate 8 ⟨0, 0, false⟩, extents := [], poison := [], poisonOverflow := none },
      lds := s.lds.map fun (l : LD) => { l with partBase := 0, partSize := 0 } }
    let t : State := t.formatBlocks badBlocks
    let (tree, t) := t.drawKey 2
    let (place, t) := t.drawKey 3
    let (pass, t) := t.drawKey 4
    let (cust, t) := t.drawKey 5
    let t := { t with sec := { t.sec with keyTree := tree, keyPlace := place, keyPass := pass, keyCust := cust } }
    let t := (t.newRegionKeys 0).modRegion 0 fun x => { x with base := 0, size := t.capacity }
    let t := t.sealRoots.settleWins 2
    let serials := t.pkgs.filterMap fun (p : Fin 64 × Fin 4) =>
      (tfind t.md.packages (pkgCode p.1 p.2)).map fun (x : PackageFound) => (pkgCode p.1 p.2, x.serial)
    let t := { t with kp := { t.kp with report := t.emptyReport 2, formatDone := true, formatLevel := 1,
                                        chanSerials := serials.foldl (fun m (p : Nat × Nat) => tins p.1 p.2 m) [] } }
    .next ((t.saveCounter 4).save 37).mediaUp
  else .next s

end Sys2Proof.Machine
end

