-- ==== Sys2Proof/Machine/Sessions.lean ====
section
/-! DEFINITION. Management sessions and session keys, the last failure record, the device-control grant and the violation counters: shared
operations and the commands of the family (11_mailbox_and_sessions.md R271, R275 to R278, R284, R285; 10_cxl_interface.md R265). -/

namespace Sys2Proof.Machine

/-! ### Opening (R276, R277) -/

/-- Whether Open Session on a slot is held off by its back-off period. -/
def State.backedOff (s : State) (slot : Fin 4) : Bool := match s.sec.backoffUntil[slot] with
  | some t => decide (s.now < t)
  | none => false

/-- A handle and a device nonce are drawn; an earlier handle of the instance is void. -/
def State.openHandle (s : State) (i : Inst) (slot : Fin 4) (hn : BitVec 128) : Ans × State :=
  let (h, s) := s.draw
  let (d, s) := s.draw
  let hd : Handle := ⟨Config.freeHandle h, slot, hn, Config.freeNonce d, s.now + secTicks 5⟩
  (okOut (.bytes (le 4 hd.handle.toNat ++ le 16 hd.dn.toNat)), s.setHandle i (some hd))

/-- OPEN_SESSION (R276, R277): the slot and the host nonce give a handle and a device nonce. -/
def execOpenSession (r : Req) (slot : Nat) (hn : BitVec 128) (s : State) : Host.Outcome State Fault Refusal :=
  .next (s.mbx (.openSession r slot hn) (some 32) fun s =>
    let s := s.setHandle r.inst none
    if h : slot < 4 then
      let k : Fin 4 := ⟨slot, h⟩
      let m : Fin 16 := ⟨slot, by omega⟩
      if s.backedOff k then (busyAns 0x000E, s)
      else if s.sec.macSlots[m].limit ≤ s.sec.macSlots[m].uses then (badAns 0x0006, s)
      else if s.sec.sessKeys[k].isNone then (badAns 0x000A, s)
      else s.openHandle r.inst k hn
    else (rangeAns 0, s))

/-- The 2-byte instance identity of Table 11-1. -/
def Inst.mbxId : Inst → Nat
  | .ld n => n.val
  | .fm => 0x0100
  | .i3c => 0x0101

/-- The message under a session key: tag, SLOT, HANDLE, MBX, HN, DN (R276). -/
def sessMsg (tag : Nat) (i : Inst) (h : Handle) : List Byte :=
  le 1 tag ++ le 1 h.slot.val ++ le 4 h.handle.toNat ++ le 2 (Inst.mbxId i) ++ le 16 h.hn.toNat ++ le 16 h.dn.toNat

/-- A failed authentication counts on its slot; from the fourth consecutive one a back-off of 60 s, doubling to 3,840 s, starts (R277). -/
def State.authFail (s : State) (slot : Fin 4) : State :=
  let n := s.sec.authFails[slot] + 1
  let s := ({ s with sec := { s.sec with authFails := s.sec.authFails.set slot n } }).save (16 + slot.val)
  if n < 4 then s
  else
    let secs := min 3840 (60 * 2 ^ (n - 4))
    ({ s with sec := { s.sec with backoffSecs := s.sec.backoffSecs.set slot secs,
                                  backoffUntil := s.sec.backoffUntil.set slot (some (s.now + secTicks secs)) } }).event 0x8004 2 oDev slot.val secs 0 0

/-- A success clears the slot's count (R277). -/
def State.authGood (s : State) (slot : Fin 4) : State :=
  ({ s with sec := { s.sec with authFails := s.sec.authFails.set slot 0, backoffSecs := s.sec.backoffSecs.set slot 0,
                                backoffUntil := s.sec.backoffUntil.set slot none } }).save (16 + slot.val)

/-- RESP is checked under the slot's key and, when it matches, the session opens and DPROOF is returned. The keeper computes with its sealed
copy and not with the MAC engine (R274). -/
def State.authCheck (s : State) (i : Inst) (h : Handle) (k : SessKey) (resp : BitVec 128) : Ans × State :=
  let m : Fin 16 := ⟨h.slot.val, by omega⟩
  let eng := !s.keeperServes i
  match s.macValue eng m k.key (sessMsg 1 i h) with
  | (none, s) => (badAns 0x000A, s)
  | (some v, s) =>
    if v = resp then
      match s.macValue eng m k.key (sessMsg 2 i h) with
      | (none, s) => (badAns 0x000A, s)
      | (some proof, s) =>
        let s := (s.authGood h.slot).setSession i (some ⟨h.slot, k.role, s.now⟩)
        (okOut (.bytes (le 16 proof.toNat)), s)
    else (badAns 0x000D, s.authFail h.slot)

/-- AUTHENTICATE_SESSION (R276, R277, R340): the handle is void after any attempt; a mismatch of the MAC engine's two computations is no
failure of the caller. A handle that is not waiting names no slot and counts on none (log 15). -/
def execAuthenticateSession (r : Req) (handle : BitVec 32) (resp : BitVec 128) (mac : MacFault) (s : State) :
    Host.Outcome State Fault Refusal :=
  .next (s.mbx (.authenticateSession r handle resp mac) (some 20) fun s =>
    match (s.handle r.inst).filter fun h => h.handle = handle && decide (s.now ≤ h.voidAt) with
    | none => (badAns 0x000D, s.setHandle r.inst none)
    | some h =>
      let s := s.setHandle r.inst none
      let m : Fin 16 := ⟨h.slot.val, by omega⟩
      match s.sec.sessKeys[h.slot] with
      | none => (badAns 0x000D, s.authFail h.slot)
      | some k =>
        if s.keeperServes r.inst then s.authCheck r.inst h k resp
        else if s.macOk m = false then (badAns (if s.sec.katFailed then 0x000A else 0x0006), s)
        else match mac with
          | .mismatch katOk => (badAns 0x000A, s.macMismatch m katOk)
          | .agree => s.authCheck r.inst h k resp)

/-- HANDLE_TIMEOUT (R276): 5 s have passed since Open Session. -/
def execHandleTimeout (inst : Inst) (s : State) : Host.Outcome State Fault Refusal :=
  match s.handle inst with
  | some h => .next ((s.since h.voidAt 1).setHandle inst none)
  | none => .next s

/-- CLOSE_SESSION (R278). -/
def execCloseSession (r : Req) (s : State) : Host.Outcome State Fault Refusal :=
  .next (s.mbx (.closeSession r) (some 0) fun s => (okAns, s.setSession r.inst none))

/-- The session stored for the side that serves an instance, expired or not. -/
def State.storedSession (s : State) (i : Inst) : Option Session :=
  if s.keeperServes i then s.mb.keeperSess else s.mb.inst[Inst.ix i].session

/-- SESSION_IDLE_TIMEOUT (R278): 30 s after the last command's completion, with no background command running. -/
def execSessionIdleTimeout (inst : Inst) (s : State) : Host.Outcome State Fault Refusal :=
  let busy : Bool := !s.keeperServes inst && s.mb.inst[Inst.ix inst].bg.any (·.running)
  match s.storedSession inst with
  | some x => if busy then .next s else .next ((s.since x.lastTick (secTicks 30 + 1)).setSession inst none)
  | none => .next s

/-- GET_SESSION_STATUS (Table 11-7). -/
def execGetSessionStatus (r : Req) (s : State) : Host.Outcome State Fault Refusal :=
  .next (s.mbx (.getSessionStatus r) (some 0) fun s =>
    (okOut (.bytes (match s.session r.inst with
      | some x => le 1 1 ++ le 1 x.slot.val ++ le 1 x.role ++ le 1 0 ++ le 4 ((secTicks 30 - (s.now - x.lastTick)) / secTicks 1)
      | none => zeros 8)), s))

/-- GET_LAST_FAILURE (R271). -/
def execGetLastFailure (r : Req) (s : State) : Host.Outcome State Fault Refusal :=
  .next (s.mbx (.getLastFailure r) (some 0) fun s =>
    let f := s.mb.inst[Inst.ix r.inst].failure
    (okOut (.bytes (le 2 f.opcode ++ le 2 f.code ++ le 2 f.reason ++ le 2 0 ++ le 8 f.param)), s))

/-! ### Session keys (R275) -/

/-- Every session and handle opened with a slot ends. -/
def State.endSlot (s : State) (slot : Fin 4) : State :=
  let keep (x : Option Session) : Option Session := x.filter fun y => y.slot ≠ slot
  let keepH (x : Option Handle) : Option Handle := x.filter fun y => y.slot ≠ slot
  { s with mb := { s.mb with inst := s.mb.inst.map fun m => { m with session := keep m.session, handle := keepH m.handle },
                             keeperSess := keep s.mb.keeperSess, keeperHandle := keepH s.mb.keeperHandle } }

/-- A key enters a session key slot: sealed, its usage count from 0, its sessions ended; slot 0 is always Owner. -/
def State.setSessKey (s : State) (slot : Fin 4) (role : Nat) (k : Key) : State :=
  let s := { s with sec := { s.sec with sessKeys := s.sec.sessKeys.set slot (some ⟨if slot.val = 0 then 1 else role, k⟩) } }
  ((s.store 1 (16 + slot.val) 48).macReset ⟨slot.val, by omega⟩).endSlot slot

/-- PROVISION_SESSION_KEY (R275): in Blank with slot 0 empty, in plaintext without a session; otherwise wrapped under the key of the Owner
session's slot. -/
def execProvisionSessionKey (r : Req) (slot : Nat) (role : Nat) (key : BitVec 320) (s : State) : Host.Outcome State Fault Refusal :=
  .next (s.mbx (.provisionSessionKey r slot role key) (some 48) fun s =>
    let plain : Bool := s.sec.fuseLC == .blank && s.sec.sessKeys[0].isNone && slot == 0
    let refuse (reason : Nat) : Ans × State := (badAns reason, s.violate (Inst.who r.inst) 6 0xC008)
    match s.session r.inst, plain with
    | none, false => refuse 0x0001
    | sess, _ =>
      if plain = false ∧ s.ownerOn r.inst = false then refuse 0x0002
      else if h : slot < 4 then
        if 1 < role ∨ (slot = 0 ∧ role ≠ 1) then (rangeAns 1, s)
        else if plain then
          if key.toNat < 2 ^ 256 then (okAns, s.setSessKey ⟨slot, h⟩ 1 (key.setWidth 256)) else (rangeAns 8, s)
        else match sess with
          | none => (badAns 0x0001, s)
          | some x => match s.unwrap x.slot key with
            | (some k, s) => (okAns, s.setSessKey ⟨slot, h⟩ role k)
            | (none, s) => (badAns (if s.macOk ⟨x.slot.val, by omega⟩ then 0x000D else 0x0006), s)
      else (rangeAns 0, s))

/-- REVOKE_SESSION_KEY (R275): refuses slot 0 and the slot of the session that issues it. -/
def execRevokeSessionKey (r : Req) (slot : Nat) (s : State) : Host.Outcome State Fault Refusal :=
  .next (s.mbx (.revokeSessionKey r slot) (some 1) fun s =>
    if h : slot < 4 then
      let k : Fin 4 := ⟨slot, h⟩
      if slot = 0 ∨ (s.session r.inst).any (fun x => x.slot == k) then (badAns 0x000A, s)
      else (okAns, (({ s with sec := { s.sec with sessKeys := s.sec.sessKeys.set k none } }).store 1 (16 + slot) 48).endSlot k)
    else (rangeAns 0, s))

/-- GRANT_DEVICE_CONTROL (R265, Table 11-7): replaces the previous grant. -/
def execGrantDeviceControl (r : Req) (ld : Nat) (s : State) : Host.Outcome State Fault Refusal :=
  .next (s.mbx (.grantDeviceControl r ld) (some 1) fun s =>
    if h : ld < 16 then (okAns, { s with lk := { s.lk with grant := some ⟨ld, h⟩ } })
    else if ld = 0xFF then (okAns, { s with lk := { s.lk with grant := none } })
    else (rangeAns 0, s))

/-! ### The violation counters (R284) and register access for the fabric manager (R285) -/

/-- The 16 bytes of a violation counter (Table 11-7). -/
def Violation.bytes (v : Violation) : List Byte :=
  le 4 v.total ++ le 1 v.kinds.toNat ++ le 1 v.lastKind ++ le 2 0 ++ le 8 v.lastAddr

/-- GET_VIOLATION_COUNTERS (R284): CLEAR takes effect after the output is taken. -/
def execGetViolationCounters (r : Req) (clear : Bool) (s : State) : Host.Outcome State Fault Refusal :=
  .next (s.mbx (.getViolationCounters r clear) (some 1) fun s =>
    let out := okOut (.bytes (s.mb.viol.toList.flatMap Violation.bytes))
    (out, if clear then { s with mb := { s.mb with viol := s.mb.viol.map fun v => { v with total := 0, lastKind := 0, lastAddr := 0 } } } else s))

/-- The size of a view of R285: the blocks of Table 10-10; the scratchpad bank with its aliases. -/
def viewSize (block : Nat) : Nat := if block = 3 then 0xC0000 else 0x100000

/-- The range checks of R285: the byte offset of the first field out of range. -/
def fmRange (block width count offset top : Nat) : Option Nat :=
  if 3 < block then some 0
  else if width ≠ 4 ∧ width ≠ 8 then some 1
  else if count = 0 ∨ top < count then some 2
  else if offset % width ≠ 0 ∨ viewSize block < offset + count * width then some 4
  else none

/-- LAST_ADDR of the fabric manager's counter holds the block and the offset of an access that R5 handled: block in bits [63:56] (log 15). -/
def State.fmAddr (before after : State) (block off : Nat) : State :=
  if after.mb.viol[16] = before.mb.viol[16] then after
  else { after with mb := { after.mb with viol := vmod after.mb.viol 16 fun v => { v with lastAddr := block * 2 ^ 56 + off } } }

/-- COUNT reads of WIDTH bytes, in order. -/
def State.readFmAll (s : State) (block width offset : Nat) : Nat → List Byte × State
  | 0 => ([], s)
  | n + 1 =>
    let (v, t) := s.readFm block offset width
    let (rest, s) := State.readFmAll (s.fmAddr t block offset) block width (offset + width) n
    (le width v ++ rest, s)

/-- READ_DEVICE_REGISTERS (R285). -/
def execReadDeviceRegisters (r : Req) (block width count offset : Nat) (s : State) : Host.Outcome State Fault Refusal :=
  .next (s.mbx (.readDeviceRegisters r block width count offset) (some 8) fun s =>
    match fmRange block width count offset 2048 with
    | some p => (rangeAns p, s)
    | none =>
      let (l, s) := s.readFmAll block width offset count
      (okOut (.bytes l), s))

/-- Writes of WIDTH bytes, in order. -/
def State.writeFmAll (s : State) (block width offset : Nat) : List Nat → State
  | [] => s
  | v :: vs => State.writeFmAll (s.fmAddr (s.writeFm block offset width v) block offset) block width (offset + width) vs

/-- WRITE_DEVICE_REGISTERS (R285): the input carries COUNT × WIDTH bytes of data. -/
def execWriteDeviceRegisters (r : Req) (block width count offset : Nat) (data : List Nat) (s : State) :
    Host.Outcome State Fault Refusal :=
  .next (s.mbx (.writeDeviceRegisters r block width count offset data) (some (8 + count * width)) fun s =>
    match fmRange block width count offset 2047 with
    | some p => (rangeAns p, s)
    | none => (okAns, s.writeFmAll block width offset (data.take count)))

end Sys2Proof.Machine
end

