-- ==== Sys2Proof/Machine/Lode.lean ====
section
/-! DEFINITION. Lode ports, tethers, mirrored writes and groups, resync, failover, pool commands and levels: shared operations and the commands
of the family (15_lode_links_and_pools.md R356 to R375; 07_commit_groups.md R181 to R183; 08_inline_encryption.md R214; 09 R238). What the
manual leaves open of the exchange between the ends: log 40. -/

namespace Sys2Proof.Machine

/-! ### Ports (Table 15-2) -/

/-- The running image's highest levels: protocol and format. -/
def State.topProto (s : State) : Nat := (s.sec.running.map fun i => i.proto).getD 1

/-- The running image's highest format level. -/
def State.topFmt (s : State) : Nat := (s.sec.running.map fun i => i.fmtLvl).getD 1

/-- The protocol level in use: the lowest highest level in the table of R372. -/
def State.protoInUse (s : State) : Nat := s.lo.levels.foldl (fun n (l : MemberLevel) => min n l.proto) s.topProto

/-- A port is down; it trains again (R214, R357). -/
def State.lodeDown (s : State) (p : Fin 4) : State := s.modLode p fun x => { x with state := .down, keyed := false, txKey := 0, rxKey := 0 }

/-- A message that fails its tag (R214, R358): discarded, warning 0x6004, the port trains again with new keys. -/
def State.tagFail (s : State) (p : Fin 4) : State :=
  (s.event 0x6004 2 (oUnit 2 p.val) (lo32 s.lo.ports[p].rxCtr) 0 0 0).lodeDown p

/-- A protected message that arrives on an Up port: its tag is checked, then `f` acts. -/
def State.lodeRecv (s : State) (h : LodeHdr) (f : State → State) : State :=
  let x := s.lo.ports[h.port]
  if x.state ≠ .up ∨ x.keyed = false then s
  else if h.tagOk = false then s.tagFail h.port
  else f (s.modLode h.port fun x => { x with rxCtr := x.rxCtr + 1, lastRx := s.now })

/-- Whether a tether takes the messages of a port's partner (R358, R366): of this port and this partner, and not after a declaration. -/
def State.tetherTakes (s : State) (h : LodeHdr) : Bool :=
  let x := s.lo.tethers[h.tether]
  x.state ≠ .free && x.state ≠ .absent && x.state ≠ .refused && x.ports.getLsbD h.port.val && x.partner == s.lo.ports[h.port].partner

/-- A message of a tether. -/
def State.tetherRecv (s : State) (h : LodeHdr) (f : State → State) : State :=
  s.lodeRecv h fun s => if s.tetherTakes h then f s else s

/-- Whether this end's region has DATA (R361). -/
def State.tetherData (s : State) (t : Fin 8) : Bool :=
  let r := s.cr.regions[regIx s.lo.tethers[t].region]
  s.hasData r.base r.size

/-- A tethered region's size in units of 256 MiB. -/
def State.tetherUnits (s : State) (t : Fin 8) : Nat := s.cr.regions[regIx s.lo.tethers[t].region].size / 2 ^ 28

/-- A tether's entry in HELLO (Table 15-4). -/
def State.helloEntry (s : State) (t : Fin 8) : TetherEntry :=
  let x := s.lo.tethers[t]
  if x.state = .free then ⟨0, 0, false, false, false, false, false, 0⟩
  else ⟨x.partner, x.epoch, true, x.replica, s.tetherData t, x.full, x.part, s.tetherUnits t⟩

/-- The HELLO of a port. -/
def State.helloMsg (s : State) (p : Fin 4) : LodeMsg :=
  .hello s.kp.poolId s.kp.memberId.toNat s.topProto s.topFmt s.lo.ports[p].nonce ((allFin 8).map s.helloEntry)

/-- HELLO goes out, unprotected. -/
def State.helloSend (s : State) (p : Fin 4) : State := s.emit (.lode p 0 (s.helloMsg p))

/-- What LEVEL reports: this member, then the members of its table (R372, Table 15-4). -/
def State.levelTable (s : State) : List MemberLevel := (⟨s.kp.memberId.toNat, s.topProto, s.topFmt⟩ :: s.lo.levels).take 8

/-- Up ports. -/
def State.upPorts (s : State) : List (Fin 4) := (allFin 4).filter fun p => s.lo.ports[p].state == .up && s.lo.ports[p].keyed

/-- LODE_TRAINING_RESULT (R356, R357): on success a new bring-up nonce and HELLO; else it is tried again. -/
def execLodeTrainingResult (port : Fin 4) (ok : Bool) (lanes : Nat) (s : State) : Host.Outcome State Fault Refusal :=
  if s.fwUp ∧ s.lo.ports[port].state = .down ∧ ok ∧ (lanes = 1 ∨ lanes = 2) then
    let (n, t) := s.draw
    let t := t.modLode port fun x => { x with state := .discovery, lanes := lanes, lost := if lanes = 2 then 0 else x.lost,
                                              nonce := Config.freeNonce n, keyed := false, derived := 0 }
    .next (t.helloSend port)
  else .next s

/-- HELLO_REPEAT (R357). -/
def execHelloRepeat (port : Fin 4) (s : State) : Host.Outcome State Fault Refusal :=
  .next (if s.lo.ports[port].state = .discovery then s.helloSend port else s)

/-- KEEPALIVE_SEND (R357). -/
def execKeepaliveSend (port : Fin 4) (s : State) : Host.Outcome State Fault Refusal :=
  .next (if s.lo.ports[port].state = .up then s.lodeSend port 0 .keepalive else s)

/-- KEEPALIVE (R357): the port has heard its partner. -/
def execKeepalive (h : LodeHdr) (s : State) : Host.Outcome State Fault Refusal := .next (s.lodeRecv h fun s => s)

/-- LODE_SILENCE_TIMEOUT (R357): 1 ms without a message. -/
def execLodeSilenceTimeout (port : Fin 4) (s : State) : Host.Outcome State Fault Refusal :=
  if s.lo.ports[port].state = .up then .next ((s.since s.lo.ports[port].lastRx (msTicks 1)).lodeDown port) else .next s

/-- LODE_LANE_FAILURE (R238, Table 15-2): the port goes on at ×1; with both lanes lost it is down. -/
def execLodeLaneFailure (port : Fin 4) (lane : Fin 2) (s : State) : Host.Outcome State Fault Refusal :=
  let x := s.lo.ports[port]
  if x.state = .down ∨ x.lost.getLsbD lane.val then .next s
  else
    let t := s.modLode port fun x => { x with lost := x.lost ||| BitVec.ofNat 2 (2 ^ lane.val), lanes := x.lanes - 1 }
    let t := t.event 0x6002 2 (oUnit 2 port.val) 0 0 0 0
    .next (if t.lo.ports[port].lost = 3 ∨ t.lo.ports[port].lanes = 0 then t.lodeDown port else t)

/-- UNKNOWN_LODE_MESSAGE_TYPE (R358): a type not listed, or above the level in use, is handled as a tag failure. -/
def execUnknownLodeMessageType (h : LodeHdr) (type : Byte) (s : State) : Host.Outcome State Fault Refusal :=
  let known := [0x01, 0x03, 0x04, 0x05, 0x10, 0x11, 0x12, 0x13, 0x14, 0x15, 0x16, 0x20, 0x21, 0x22, 0x30, 0x31].contains type.toNat
  .next (if known then s else s.lodeRecv { h with tagOk := false } fun s => s)

/-- The lowest-numbered tether that uses a port with its partner. -/
def State.portTether (s : State) (p : Fin 4) : Option (Fin 8) :=
  (allFin 8).find? fun t => s.lo.tethers[t].state ≠ .free && s.lo.tethers[t].ports.getLsbD p.val &&
    s.lo.tethers[t].partner == s.lo.ports[p].partner

/-- Whether this end has the lower member ID of the two on a port. -/
def State.lowEnd (s : State) (p : Fin 4) : Bool := decide (s.kp.memberId.toNat < s.lo.ports[p].partner)

/-- The bring-up nonces of both ends of a port, that of the lower member first (log 97). -/
def State.portNonces (s : State) (p : Fin 4) : List Byte :=
  let x := s.lo.ports[p]
  if s.lowEnd p then le 16 x.nonce.toNat ++ le 16 x.peerNonce.toNat else le 16 x.peerNonce.toNat ++ le 16 x.nonce.toNat

/-- A port's keys and message counters from their start: of each two keys derived the first is the lower member's to send with (log 97). -/
def State.keyPort (s : State) (p : Fin 4) (pairing : Key) : State :=
  let m := s.portNonces p
  let low := s.lowEnd p
  s.modLode p fun x =>
    { x with keyed := true, derived := x.derived + 1, txKey := Config.cmacCounter pairing m (2 * x.derived + b2n !low),
             rxKey := Config.cmacCounter pairing m (2 * x.derived + b2n low), msgCtr := 0, rxCtr := 0, lastRx := s.now }

/-- The keys of a port are derived from the pairing key of the lowest-numbered tether that uses it (R214): one request of its MAC slot over both
ends' nonces, and message counters from 0. Where the engine refuses the request (R342) no keys are derived; a port that no tether uses any more only restarts
its counters. -/
def State.deriveKeys (s : State) (p : Fin 4) : State :=
  match s.portTether p with
  | some t =>
    let k := s.lo.tethers[t].key.get
    let (v, s) := s.macRun ⟨8 + t.val, by omega⟩ k (s.portNonces p)
    if v.isSome then s.keyPort p k else s
  | none => s.modLode p fun x => { x with keyed := true, msgCtr := 0, rxCtr := 0, lastRx := s.now }

/-- LODE_KEY_REDERIVE (R214). -/
def execLodeKeyRederive (port : Fin 4) (s : State) : Host.Outcome State Fault Refusal :=
  .next (if s.lo.ports[port].state = .up ∧ s.lo.ports[port].keyed then s.deriveKeys port else s)

/-! ### Levels (R372) -/

/-- LEVEL goes out on every Up port. -/
def State.levelSend (s : State) : State := s.upPorts.foldl (fun (s : State) p => s.lodeSend p 0 (.level s.levelTable)) s

/-- The level in use follows the table; a change exchanges SWITCH on every Up port. -/
def State.relevel (s : State) : State :=
  let n := s.protoInUse
  if n = s.lo.proto then s
  else
    let s := { s with lo := { s.lo with proto := n } }
    s.upPorts.foldl (fun (s : State) p => s.lodeSend p 0 (.switch n)) s

/-- A member's levels enter the table. -/
def putLevel (l : List MemberLevel) (m : MemberLevel) : List MemberLevel :=
  if l.any fun x => x.member == m.member then l.map fun x => if x.member = m.member then m else x else l ++ [m]

/-- LEVEL (R372): the table takes what the message reports of other members; a table that changes is sent on. -/
def execLevel (h : LodeHdr) (entries : List MemberLevel) (s : State) : Host.Outcome State Fault Refusal :=
  .next (s.lodeRecv h fun s =>
    let es := (entries.take 8).filter fun m => m.member ≠ s.kp.memberId.toNat && decide (m.member < 2 ^ 14)
    let l := es.foldl putLevel s.lo.levels
    if l = s.lo.levels then s else ({ s with lo := { s.lo with levels := l } }).levelSend.relevel)

/-- SWITCH (R372): messages after it use the new level. -/
def execSwitch (h : LodeHdr) (level : Nat) (s : State) : Host.Outcome State Fault Refusal :=
  .next (s.lodeRecv h fun s => s.modLode h.port fun x => { x with level := level })

/-! ### Resync (R368) -/

/-- Granules of a tethered region. -/
def State.tetherGrans (s : State) (t : Fin 8) : Nat := s.cr.regions[regIx s.lo.tethers[t].region].size / 16384

/-- The granule number of a granule of a tethered region. -/
def State.granAt (s : State) (t : Fin 8) (g : Nat) : Nat := s.cr.regions[regIx s.lo.tethers[t].region].base / 16384 + g

/-- The next granule that resync takes from `g` on: every one when FULL is set, else the first whose bit is set. -/
def State.nextGran (s : State) (t : Fin 8) (g : Nat) : Option Nat :=
  let x := s.lo.tethers[t]
  if x.walkAll then (if g < s.tetherGrans t then some g else none)
  else x.bitmap.foldl (fun m b => match m with
    | none => some b
    | some a => some (min a b)) none

/-- One line is sent as RSLINE under its interlock entry, or stays to be sent while a write holds that entry. -/
def State.sendRs (s : State) (t : Fin 8) (line : Nat) : State :=
  match s.ilock line with
  | some _ => s.modTether t fun x => { x with unsent := x.unsent ++ [line] }
  | none =>
    let (q, s) := s.nextSeq
    let psn : Bool := s.version line == .poison
    let data : Line := if psn then 0 else (s.plain line).getD 0
    let s := { s with wp := { s.wp with ilocks := s.wp.ilocks ++ [(⟨line, q, true, s.blockNonce line, []⟩ : ILock)] } }
    (s.modTether t fun x => { x with rs := x.rs ++ [(q, line)] }).tetherSend t (.rsline (s.tetherOff t line) psn data q)

/-- Whether a granule has no written line. -/
def State.granBlank (s : State) (g : Nat) : Bool := (s.mapEnt g).state == .unwritten && (granLines g).all fun l => (tfind s.wp.index l).isNone

/-- A granule's copy begins: RSMARK for an unwritten or poisoned one, else its 256 lines. -/
def State.startGran (s : State) (t : Fin 8) (g : Nat) : State :=
  let s := s.modTether t fun x => { x with pos := g }
  let n := s.granAt t g
  if (s.mapEnt n).state = .poisoned then s.tetherSend t (.rsmark g true)
  else if s.granBlank n then s.tetherSend t (.rsmark g false)
  else (granLines n).foldl (fun (s : State) l => s.sendRs t l) s

/-- Resync is complete: FULL and PARTIAL are cleared, and the tether is in sync (Table 15-6). -/
def State.resyncDone (s : State) (t : Fin 8) : State :=
  ((s.modTether t fun x => { x with full := false, part := false, walkAll := false, bitmap := [] }).tetherTo t .inSync).saveTether t

/-- A primary starts its resync. -/
def State.resyncStart (s : State) (t : Fin 8) (all : Bool) : State :=
  let s := (s.tetherTo t .syncing).modTether t fun x => { x with walkAll := all, unsent := [], rs := [] }
  match s.nextGran t 0 with
  | some g => s.startGran t g
  | none => s.resyncDone t

/-- A granule is copied: its bit is cleared with a record of MKIND 0x51, and resync goes on (R367, R368). -/
def State.granDone (s : State) (t : Fin 8) : State :=
  let g := s.lo.tethers[t].pos
  let s := if s.lo.tethers[t].bitmap.contains g then
      (s.modTether t fun x => { x with bitmap := x.bitmap.filter (· ≠ g) }).metaRec (.bitClear t g)
    else s
  match s.nextGran t (g + 1) with
  | some g => s.startGran t g
  | none => s.resyncDone t

/-- RESYNC_GRANULE (R368): at the primary, with every line of the granule confirmed, the next one follows; lines that had to wait for a write
are sent. At the replica it is the end of the resync (log 40). -/
def execResyncGranule (t : Fin 8) (s : State) : Host.Outcome State Fault Refusal :=
  let x := s.lo.tethers[t]
  if x.state ≠ .syncing then .next s
  else if x.replica then .next (s.resyncDone t)
  else if x.unsent ≠ [] then
    let u := s.modTether t fun y => { y with unsent := [] }
    .next (x.unsent.foldl (fun (s : State) l => s.sendRs t l) u)
  else if x.rs ≠ [] then .next s
  else .next (s.granDone t)

/-! ### Pairing (Table 15-5) -/

/-- What Table 15-5 decides for this end. -/
inductive Pairing where
  | refused
  | primary (full : Bool)
  | replica (epoch : Nat) (full : Bool) (sends : Bool)
  | kept
  deriving DecidableEq, Repr

/-- The rows of Table 15-5 in order: `d` whether this end has DATA, `units` its size in units of 256 MiB. -/
def pairing (x : Tether) (me : Nat) (d : Bool) (units : Nat) (e : TetherEntry) : Pairing :=
  if units ≠ e.units then .refused
  else if x.epoch = 0 ∧ e.epoch = 0 then
    if d ∧ e.hasData then .refused
    else if d then .primary true
    else if e.hasData then .replica 0 true false
    else if me < x.partner then .primary false
    else .replica 0 false false
  else if x.epoch < e.epoch then
    if x.epoch = 0 ∧ d then .refused else .replica e.epoch (x.epoch = 0) true
  else if e.epoch < x.epoch then
    if e.epoch = 0 ∧ e.hasData then .refused else .primary (e.epoch = 0)
  else if x.replica = false ∧ e.replica = false then .refused
  else .kept

/-- The BITMAP messages of an end that becomes replica: one for each granule set. -/
def State.sendBitmap (s : State) (t : Fin 8) : State :=
  s.lo.tethers[t].bitmap.foldl (fun (s : State) g => s.tetherSend t (.bitmap g [true])) s

/-- A primary is paired: in sync with nothing to copy, else resync starts. -/
def State.asPrimary (s : State) (t : Fin 8) (all : Bool) : State :=
  let s := (s.modTether t fun x => { x with replica := false }).saveTether t
  if all ∨ s.lo.tethers[t].bitmap ≠ [] then s.resyncStart t all else s.tetherTo t .inSync

/-- A replica is paired. -/
def State.asReplica (s : State) (t : Fin 8) (epoch : Nat) (full sends : Bool) : State :=
  let s := s.modTether t fun x => { x with replica := true, epoch := epoch, full := x.full || full }
  let s := if sends then s.sendBitmap t else s
  let x := s.lo.tethers[t]
  if x.full ∨ x.bitmap ≠ [] then ((s.modTether t fun y => { y with part := true }).tetherTo t .syncing).saveTether t
  else (s.tetherTo t .inSync).saveTether t

/-- Both ends of a tether meet. -/
def State.pair (s : State) (t : Fin 8) (e : TetherEntry) : State :=
  let s := s.modTether t fun x => { x with partnerReplica := e.replica, removed := false }
  let x := s.lo.tethers[t]
  match pairing x s.kp.memberId.toNat (s.tetherData t) (s.tetherUnits t) e with
  | .refused => s.tetherTo t .refused
  | .primary all => s.asPrimary t (all || e.full || x.full)
  | .replica ep full sends => s.asReplica t ep full sends
  | .kept => if x.replica then s.asReplica t x.epoch false false else s.asPrimary t (e.full || x.full)

/-- Whether a tether and an entry of the partner's HELLO name each other. -/
def State.meets (s : State) (p : Fin 4) (t : Fin 8) (m : HelloMsg) : Option TetherEntry :=
  let x := s.lo.tethers[t]
  if x.state = .free ∨ x.ports.getLsbD p.val = false ∨ x.partner ≠ m.member then none
  else (m.entries[t.val]?).filter fun e => e.configured && e.partner == s.kp.memberId.toNat

/-- Tethers that HELLO makes this end decide: not yet paired or absent, or paired under another epoch. -/
def State.deciding (s : State) (p : Fin 4) (m : HelloMsg) : List (Fin 8 × TetherEntry) :=
  (allFin 8).filterMap fun t => (s.meets p t m).bind fun e =>
    let x := s.lo.tethers[t]
    if x.state = .pairing ∨ x.state = .absent ∨ ((x.state = .inSync ∨ x.state = .syncing) ∧ x.epoch ≠ e.epoch) then some (t, e) else none

/-- Every tether that is to decide does. -/
def State.pairAll (s : State) (l : List (Fin 8 × TetherEntry)) : State := l.foldl (fun (s : State) x => s.pair x.1 x.2) s

/-- A bring-up whose first tag fails: the port trains again; the third in a row leaves it in Discovery (R357). -/
def State.bringUpFails (s : State) (p : Fin 4) : State :=
  let n := s.lo.ports[p].firstTagFails + 1
  let s := s.tagFail p
  s.modLode p fun x => { x with firstTagFails := n, stuck := decide (3 ≤ n), state := if 3 ≤ n then .discovery else .down }

/-- The port is up with its partner: keys, then the levels, then the tethers that meet on it. -/
def State.bringUp (s : State) (p : Fin 4) (m : HelloMsg) : State :=
  let s := s.modLode p fun x => { x with state := .up, partner := m.member, peerNonce := m.nonce, level := s.lo.proto, firstTagFails := 0, stuck := false }
  let s := s.deriveKeys p
  let s := s.lodeSend p 0 (.level s.levelTable)
  s.pairAll (s.deciding p m)

/-- HELLO (R357, R359, R361): in Discovery a matching one brings the port up; on an Up port the tethers that are absent meet again, and
HELLO is answered. -/
def execHello (h : LodeHdr) (msg : HelloMsg) (s : State) : Host.Outcome State Fault Refusal :=
  let p := h.port
  let x := s.lo.ports[p]
  if x.state = .discovery then
    let same := s.kp.poolId ≠ 0 ∧ msg.pool = s.kp.poolId ∧ msg.member ≠ s.kp.memberId.toNat
    if same ∧ (allFin 8).any (fun t => (s.meets p t msg).isSome) ∧ (x.stuck = false ∨ msg.keysMatch) then
      if msg.keysMatch then .next (s.bringUp p msg) else .next (s.bringUpFails p)
    else .next s
  else if x.state = .up ∧ x.partner = msg.member ∧ msg.pool = s.kp.poolId then
    let l := s.deciding p msg
    if l = [] then .next s else .next ((s.helloSend p).pairAll l)
  else .next s

/-- ABSENT_RETRY (R363): an absent tether with an Up shared port offers HELLO again. -/
def execAbsentRetry (t : Fin 8) (s : State) : Host.Outcome State Fault Refusal :=
  let x := s.lo.tethers[t]
  match s.upPorts.find? fun p => x.ports.getLsbD p.val && s.lo.ports[p].partner == x.partner with
  | some p => .next (if x.state = .absent then s.helloSend p else s)
  | none => .next s

/-- BITMAP (R361): the primary takes the new replica's bits into its own; a tether in sync copies them. -/
def execBitmap (h : LodeHdr) (first : Nat) (bits : List Bool) (s : State) : Host.Outcome State Fault Refusal :=
  .next (s.tetherRecv h fun s =>
    let t := h.tether
    if s.lo.tethers[t].replica then s
    else
      let gs := (List.range (min 960 bits.length)).filterMap fun i =>
        if bits.getD i false ∧ first + i < s.tetherGrans t then some (first + i) else none
      let s := gs.foldl (fun (s : State) g => s.setDirtyBit t g) s
      if s.lo.tethers[t].state = .inSync ∧ gs ≠ [] then s.resyncStart t false else s)

/-! ### Mirrored lines and groups at the replica (R364, R181) -/

/-- The LD that holds a region. -/
def State.regionLd (s : State) (r : Fin 256) : Fin 16 := ((allFin 16).find? fun n => s.holds n s.cr.regions[r].base).getD 0

/-- The line at an offset of a tethered region. -/
def State.tetherLine (s : State) (t : Fin 8) (off : Nat) : Nat := s.cr.regions[regIx s.lo.tethers[t].region].base / 64 + off

/-- A mirrored line enters the receive queue of 256; a full queue has withheld the credits for it. -/
def State.mirror (s : State) (t : Fin 8) (off : Nat) (win : Option (Fin 64)) (psn : Bool) (data : Line) (src : WSrc) : State :=
  let x := s.lo.tethers[t]
  if x.replica = false ∨ 256 ≤ x.rxq.length ∨ s.cr.regions[regIx x.region].size ≤ off * 64 then s
  else
    let (q, s) := s.nextSeq
    let w := newWrite q (s.regionLd (regIx x.region)) (s.tetherLine t off) win (BitVec.allOnes 64) data psn src
    s.modTether t fun y => { y with rxq := y.rxq ++ [w] }

/-- TWRITE (R364). -/
def execTwrite (h : LodeHdr) (off : Nat) (win : Option (Fin 64)) (psn : Bool) (data : Line) (s : State) : Host.Outcome State Fault Refusal :=
  .next (s.tetherRecv h fun s => s.mirror h.tether off win psn data (.partner h.tether h.seq))

/-- A resync reaches the replica: it is syncing, and partial until the resync ends (Table 15-6). -/
def State.resyncSeen (s : State) (t : Fin 8) : State :=
  if s.lo.tethers[t].state = .inSync then ((s.modTether t fun x => { x with part := true }).tetherTo t .syncing).saveTether t else s

/-- RSLINE (R364, R368). -/
def execRsline (h : LodeHdr) (off : Nat) (psn : Bool) (data : Line) (s : State) : Host.Outcome State Fault Refusal :=
  .next (s.tetherRecv h fun s =>
    if s.lo.tethers[h.tether].replica then (s.resyncSeen h.tether).mirror h.tether off none psn data (.resync h.tether h.seq) else s)

/-- RSMARK (R368): the granule is unwritten or poisoned at the replica too. -/
def execRsmark (h : LodeHdr) (granule : Nat) (poisoned : Bool) (s : State) : Host.Outcome State Fault Refusal :=
  .next (s.tetherRecv h fun s =>
    let t := h.tether
    if s.lo.tethers[t].replica = false ∨ s.tetherGrans t ≤ granule then s
    else
      let s := s.resyncSeen t
      (if poisoned then s.poisonGranule (s.granAt t granule) .external else s.unwriteGranule (s.granAt t granule)).judgeMarks)

/-- One confirmation: a resync line gives up its interlock entry, a tethered write or commit record goes on (R68, R181, R368). -/
def State.confirm (s : State) (t : Fin 8) (q : Nat) : State :=
  match s.lo.tethers[t].rs.find? fun x => x.1 == q with
  | some x => ((s.modTether t fun y => { y with rs := y.rs.filter fun z => z.1 ≠ q }).releaseLock x.2).runEnc
  | none =>
    let ack (w : Write) : Write := if w.seq = q ∧ s.awaits t w then { w with partnerAck := true } else w
    let s := s.modTether t fun y => { y with sent := y.sent.filter fun z => z.1 ≠ q }
    let s := { s with wp := { s.wp with progs := s.wp.progs.map ack, allocQ := s.wp.allocQ.map ack } }
    (allFin 16).foldl (fun (s : State) n => (allFin 64).foldl (fun (s : State) w =>
      if (s.win n w).recIssued ∧ (s.win n w).recSeq = q ∧ (s.win n w).teth = some t then
        (s.modWin n w fun v => { v with recPartner := true }).tryCommit n w false
      else s) s) s.toIndex

/-- TCONF (R68, R364). -/
def execTconf (h : LodeHdr) (seqs : List Nat) (s : State) : Host.Outcome State Fault Refusal :=
  .next (s.tetherRecv h fun s => (seqs.take 8).foldl (fun (s : State) q => s.confirm h.tether q) s)

/-- The LD of the replica's end of a tether. -/
def State.tetherLd (s : State) (t : Fin 8) : Fin 16 := s.regionLd (regIx s.lo.tethers[t].region)

/-- TCOMMIT (R181): the partner's commit record is programmed here; TCONF follows when both copies verify. -/
def execTcommit (h : LodeHdr) (win : Fin 64) (gseq first last count : Nat) (s : State) : Host.Outcome State Fault Refusal :=
  .next (s.tetherRecv h fun s =>
    if s.lo.tethers[h.tether].replica then
      let (q, s) := s.nextSeq
      let (p, s) := s.allocMeta q false
      let s := s.modWin (s.tetherLd h.tether) win fun v =>
        { v with state := .committing, gseq := gseq, first := first, last := last, count := count, arrived := count, recIssued := true, recSeq := q,
                 recPlace := p, recLocal := false, recPartner := false }
      s.modTether h.tether fun x => { x with recs := (x.recs.filter fun r => r.1 ≠ win) ++ [(win, h.seq)] }
    else s)

/-- A group of the partner's is committed here: its lines move to the index under its commit record, which is its outcome record (R164, R172,
R181). -/
def State.replicaCommit (s : State) (n : Fin 16) (w : Fin 64) : State :=
  let v := s.win n w
  let mine := s.wp.tents.filter fun (t : TentRec) => t.ld = n && t.win = w
  let s := mine.foldl (fun (s : State) t => s.commitLine v.recSeq t) s
  let s := { s with wp := { s.wp with
    tents := s.wp.tents.filter fun (t : TentRec) => !(t.ld == n && t.win == w)
    reserve := ⟨v.recSeq, .outcome n w v.gseq v.first v.last v.arrived 1 (outFlags true false false), v.recPlace, s.wp.seq⟩ ::
      s.wp.reserve } }
  s.modWin n w fun v => { v with state := .committed, outcome := 1, recIssued := false, durGseq := v.gseq, durOutcome := 1,
                                 durCount := v.arrived }

/-- Mirrored writes of a tether through a window that have not become tentative lines come to nothing: those not yet admitted leave the receive
queue, and those in the pipeline leave their slots dead (R181). -/
def State.dropMirrored (s : State) (t : Fin 8) (wins : List (Fin 64)) : State :=
  let mine (w : Write) : Bool := w.win.any fun v => wins.contains v
  let s := s.modTether t fun x => { x with rxq := x.rxq.filter fun (w : Write) => !mine w }
  s.mapWrites fun w => match w.src with
    | .partner u _ => if u = t ∧ mine w then { w with discard := true } else w
    | _ => w

/-- TPOINT (R181): the partner has reached its commit point, and the group is marked committed here. -/
def execTpoint (h : LodeHdr) (win : Fin 64) (gseq : Nat) (s : State) : Host.Outcome State Fault Refusal :=
  .next (s.tetherRecv h fun s =>
    let n := s.tetherLd h.tether
    let v := s.win n win
    if s.lo.tethers[h.tether].replica ∧ v.recIssued ∧ v.gseq = gseq then
      (s.replicaCommit n win).judgeMarks
    else s)

/-- TABORT (R181): the group's tentative lines are discarded, those still on their way among them: they came before it on the port. -/
def execTabort (h : LodeHdr) (win : Fin 64) (outcome gseq : Nat) (s : State) : Host.Outcome State Fault Refusal :=
  .next (s.tetherRecv h fun s =>
    if s.lo.tethers[h.tether].replica then
      let n := s.tetherLd h.tether
      let s := (s.dropMirrored h.tether [win]).dropTents n win
      (s.modWin n win fun v => { v with state := if outcome = 3 then .timedOut else .aborted, outcome := outcome, gseq := gseq,
                                        recIssued := false }).judgeMarks
    else s)

/-- Whether this end holds a verified commit record of a group (R183). -/
def State.holdsCommit (s : State) (n : Fin 16) (w : Fin 64) (gseq : Nat) : Bool :=
  let v := s.win n w
  (v.recIssued && v.recLocal && v.gseq == gseq) || (v.durGseq == gseq && v.durOutcome == 1)

/-- TQUERY (R183): answered by TQANS on the port it came by. -/
def execTquery (h : LodeHdr) (win : Fin 64) (gseq : Nat) (s : State) : Host.Outcome State Fault Refusal :=
  .next (s.tetherRecv h fun s => s.lodeSend h.port h.tether (.tqans win (s.holdsCommit (s.tetherLd h.tether) win gseq) gseq))

/-- TQANS (R183): the partner holds a verified commit record for a group in flight; replay applies it. -/
def execTqans (h : LodeHdr) (win : Fin 64) (answer : Bool) (gseq : Nat) (s : State) : Host.Outcome State Fault Refusal :=
  .next (s.tetherRecv h fun s =>
    let n := s.tetherLd h.tether
    let v := s.win n win
    if answer ∧ v.recIssued ∧ v.gseq = gseq then (s.modWin n win fun v => { v with recPartner := true }).tryCommit n win false else s)

/-- ROLE (R369): the partner's new role; a higher epoch of it is decided at the next HELLO. -/
def execRole (h : LodeHdr) (replica : Bool) (epoch : Nat) (s : State) : Host.Outcome State Fault Refusal :=
  .next (s.tetherRecv h fun s => s.modTether h.tether fun x => { x with partnerReplica := if x.epoch ≤ epoch then replica else x.partnerReplica })

/-- REMOVED (R366, R370): the partner is absent; a port whose last tether is gone returns to Discovery. -/
def execRemoved (h : LodeHdr) (s : State) : Host.Outcome State Fault Refusal :=
  .next (s.tetherRecv h fun s =>
    ((s.declareAbsent h.tether).modTether h.tether fun x => { x with removed := true }).portsIdle)

/-! ### Absence and marks (R366, R367) -/

/-- The tick at which the oldest write or commit record that awaits TCONF was sent. -/
def State.oldestSent (s : State) (t : Fin 8) : Option Nat := (s.lo.tethers[t].sent.map (·.2)).min?

/-- Whether a commit record of a tether awaits the partner. -/
def State.recWaits (s : State) (t : Fin 8) : Bool :=
  (allFin 16).any fun n => (allFin 64).any fun w => (s.win n w).teth == some t && (s.win n w).recIssued && !(s.win n w).recPartner

/-- PARTNER_ABSENT_TIMEOUT (R366): 20 ms without TCONF, or with every port of the mask out of Up. -/
def execPartnerAbsentTimeout (t : Fin 8) (s : State) : Host.Outcome State Fault Refusal :=
  match s.oldestSent t with
  | some k => .next ((s.since k (msTicks 20)).declareAbsent t)
  | none =>
    if s.recWaits t ∨ (s.tetherPort t).isNone then .next ((s.since s.now (msTicks 20)).declareAbsent t) else .next s

/-- CONFIRMED_MARK (R367): the sequence number below which every tethered write has its TCONF, for each primary. -/
def execConfirmedMark (s : State) : Host.Outcome State Fault Refusal :=
  .next ((allFin 8).foldl (fun (s : State) t =>
    let x := s.lo.tethers[t]
    if x.state = .free ∨ x.replica then s
    else
      let v := ((x.sent.map (·.1)).min?).getD s.wp.seq
      (s.modTether t fun y => { y with confirmed := v }).metaRec (.confirmed t v)) s)

/-! ### Pool commands (R359, R360, R363, R369, R370, R373, Table 11-7) -/

/-- The state code of Get Pool Status. -/
def TetherState.code : TetherState → Nat
  | .free => 0
  | .pairing => 1
  | .syncing => 2
  | .inSync => 3
  | .absent => 4
  | .refused => 5

/-- The 8 bytes of a tether (Table 11-7, R363). -/
def State.tetherBytes (s : State) (t : Fin 8) : List Byte :=
  let x := s.lo.tethers[t]
  let up := (allFin 4).foldl (fun n p => if x.ports.getLsbD p.val ∧ s.lo.ports[p].state = .up then n + 2 ^ p.val else n) 0
  le 1 t.val ++ le 1 (x.state.code + 32 * b2n x.part + 64 * b2n x.full + 128 * b2n x.replica) ++ le 2 x.partner ++
    le 1 (x.ports.toNat + 16 * up) ++ le 1 x.region ++ zeros 2

/-- GET_POOL_STATUS (R363, R372, R373). -/
def execGetPoolStatus (r : Req) (s : State) : Host.Outcome State Fault Refusal :=
  .next (s.mbx (.getPoolStatus r) (some 0) fun s =>
    let ts := (allFin 8).filter fun t => s.lo.tethers[t].state ≠ .free
    (okOut (.bytes (le 8 s.kp.poolId.toNat ++ le 2 s.kp.memberId.toNat ++ le 2 s.lo.proto ++ le 2 s.topProto ++ le 2 s.kp.formatLevel ++
      le 2 s.topFmt ++ le 1 ts.length ++ zeros 5 ++ ts.flatMap s.tetherBytes)), s))

/-- SET_POOL_IDENTITY (R359). -/
def execSetPoolIdentity (r : Req) (pool : BitVec 64) (member : Nat) (s : State) : Host.Outcome State Fault Refusal :=
  .next (s.mbx (.setPoolIdentity r pool member) (some 10) fun s =>
    if 2 ^ 14 ≤ member then (rangeAns 8, s)
    else if s.lo.tethers.any (fun x => x.state != .free) then (badAns 0x000A, s)
    else (okAns, ({ s with kp := { s.kp with poolId := pool, memberId := BitVec.ofNat 14 member } }).save 40))

/-- The refusal of a wrapped key: the slot's usage limit, the engine's failed known-answer test, or a wrap that fails its own check. -/
def State.unwrapAns (s : State) (slot : Fin 4) : Ans :=
  if s.sec.katFailed then badAns 0x000A
  else if s.macOk ⟨slot.val, by omega⟩ then badAns 0x000D
  else badAns 0x0006

/-- The refusals of Configure Tether that need no key (R360). -/
def State.tetherRefused (s : State) (t : Fin 8) (region partner ports : Nat) : Bool :=
  s.lo.tethers[t].state ≠ .free || region == 0 || s.cr.regions[regIx region].state == .free || (s.tetherOf region).isSome ||
  partner == s.kp.memberId.toNat || ports == 0

/-- An accepted Configure Tether (Table 15-6, R357): pairing, its ports free to try again; HELLO offers it on ports already up. -/
def State.newTether (s : State) (t : Fin 8) (region partner : Nat) (ports : BitVec 4) (k : Key) : State :=
  let s := (s.sealUse).store 1 (64 + t.val) 48
  let s := { s with lo := { s.lo with
    tethers := s.lo.tethers.set t { Tether.init with region := region, partner := partner, ports := ports, key := ⟨some k, true⟩ },
    ports := .ofFn fun p => let x := s.lo.ports[p]; if ports.getLsbD p.val then { x with stuck := false, firstTagFails := 0 } else x } }
  let s := ((s.tetherTo t .pairing).macReset ⟨8 + t.val, by omega⟩).saveTether t
  s.upPorts.foldl (fun (s : State) p => if ports.getLsbD p.val ∧ s.lo.ports[p].partner = partner then s.helloSend p else s) s

/-- CONFIGURE_TETHER (R360). -/
def execConfigureTether (r : Req) (tether region partner ports : Nat) (key : BitVec 320) (s : State) : Host.Outcome State Fault Refusal :=
  .next (s.mbx (.configureTether r tether region partner ports key) (some 48) fun s =>
    if h : tether < 8 then
      let t : Fin 8 := ⟨tether, h⟩
      if 255 < region then (rangeAns 1, s)
      else if 2 ^ 14 ≤ partner then (rangeAns 2, s)
      else if 15 < ports then (rangeAns 4, s)
      else if s.tetherRefused t region partner ports then (badAns 0x000A, s)
      else match s.session r.inst with
        | none => (badAns 0x0001, s)
        | some x => match s.unwrap x.slot key with
          | (none, s) => (s.unwrapAns x.slot, s)
          | (some k, s) =>
            if (allFin 8).any fun u => s.lo.tethers[u].state ≠ .free && s.lo.tethers[u].partner == partner && s.lo.tethers[u].key.get ≠ k then
              (badAns 0x000A, s)
            else (okAns, s.newTether t region partner (BitVec.ofNat 4 ports) k)
    else (rangeAns 0, s))

/-- REMOVE_TETHER (R370). -/
def execRemoveTether (r : Req) (tether : Nat) (s : State) : Host.Outcome State Fault Refusal :=
  .next (s.mbx (.removeTether r tether) (some 1) fun s =>
    if h : tether < 8 then
      if s.lo.tethers[(⟨tether, h⟩ : Fin 8)].state = .free then (badAns 0x000A, s) else (okAns, (s.removeTether ⟨tether, h⟩ true).relevel)
    else (rangeAns 0, s))

/-- DECLARE_PARTNER_ABSENT (R366). -/
def execDeclarePartnerAbsent (r : Req) (tether : Nat) (s : State) : Host.Outcome State Fault Refusal :=
  .next (s.mbx (.declarePartnerAbsent r tether) (some 1) fun s =>
    if h : tether < 8 then
      if s.lo.tethers[(⟨tether, h⟩ : Fin 8)].state = .free then (badAns 0x000A, s) else (okAns, s.declareAbsent ⟨tether, h⟩)
    else (rangeAns 0, s))

/-- Groups of the partner at a failover (R369): those with a verified commit record are applied, every other closes with 0x07 as step 3 of
R179 has it. -/
def State.failoverWin (s : State) (n : Fin 16) (w : Fin 64) : State :=
  let s := s.modWin n w fun v => { v with pre := some (v.durGseq, v.durOutcome, v.durCount) }
  let v := s.win n w
  let mine := s.wp.tents.filter fun (t : TentRec) => t.ld = n && t.win = w
  if v.recIssued ∧ v.recLocal then
    s.replicaCommit n w
  else if mine = [] then s
  else
    let g := (v.durGseq + 1) % 2 ^ 48
    ((s.dropTents n w).metaRec (.outcome n w g v.first v.last mine.length 7 5)).modWin n w fun v =>
      { v with state := .aborted, outcome := 7, gseq := g, arrived := mine.length, recIssued := false, durGseq := g, durOutcome := 7,
               durCount := mine.length }

/-- The record of Get Group Outcomes after a failover (R180, R369). -/
def failoverRec (g : GroupRec) (v : Win) : GroupRec :=
  let (a, b, c) := v.pre.getD (v.durGseq, v.durOutcome, v.durCount)
  let same := a = v.durGseq
  { g with lastGseq := a, lastOutcome := b, lastCount := c, infGseq := if same then 0 else v.durGseq,
           infOutcome := if same then 0 else v.durOutcome, infCount := if same then 0 else v.durCount }

/-- Failover ROLE 0: the replica becomes primary (R369). -/
def State.becomePrimary (s : State) (t : Fin 8) : State :=
  let s := (s.modTether t fun x => { x with epoch := x.epoch + 1 }).saveTether t
  let n := s.tetherLd t
  let s := (s.dropMirrored t (allFin 64))
  let s := (allFin 64).foldl (fun (s : State) w => s.failoverWin n w) s
  let rep : Vector GroupRec 64 := .ofFn fun w => failoverRec (s.kp.groupReport[n])[w] (s.win n w)
  let s := { s with kp := { s.kp with groupReport := s.kp.groupReport.set n rep } }
  let s := s.modLd n fun l => { l with wins := l.wins.map fun v => { v with pre := none } }
  let s := s.modTether t fun x => { x with replica := false, bitmap := [], recs := [], part := false }
  ((s.tetherTo t .absent).saveTether t).judgeMarks

/-- Failover ROLE 1: the primary becomes replica and sends ROLE (R369). -/
def State.becomeReplica (s : State) (t : Fin 8) : State :=
  let s := ((s.resyncStop t).modTether t fun x => { x with replica := true }).saveTether t
  s.tetherSend t (.role true s.lo.tethers[t].epoch)

/-- FAILOVER (R369). -/
def execFailover (r : Req) (tether role : Nat) (s : State) : Host.Outcome State Fault Refusal :=
  .next (s.mbx (.failover r tether role) (some 2) fun s =>
    if h : tether < 8 then
      let t : Fin 8 := ⟨tether, h⟩
      let x := s.lo.tethers[t]
      if 1 < role then (rangeAns 1, s)
      else if x.state = .free then (badAns 0x000A, s)
      else if role = 0 then
        if x.replica ∧ x.state ≠ .syncing ∧ x.part = false ∧ (x.state = .absent ∨ x.partnerReplica) then (okAns, s.becomePrimary t)
        else (badAns 0x000A, s)
      else if x.replica then (badAns 0x000A, s)
      else (okAns, s.becomeReplica t)
    else (rangeAns 0, s))

/-- RAISE_FORMAT_LEVEL (R373): its checks in their order, then the level durable. -/
def execRaiseFormatLevel (r : Req) (level : Nat) (s : State) : Host.Outcome State Fault Refusal :=
  .next (s.mbx (.raiseFormatLevel r level) (some 2) fun s =>
    let has (i : Option Image) : Bool := i.any fun x => decide (level ≤ x.fmtLvl)
    if level ≤ s.kp.formatLevel then (badAns 0x000C, s)
    else if s.lo.levels.any fun m => decide (m.fmt < level) then (badAns 0x000B, s)
    else if has s.sec.running && has s.sec.imgA && has s.sec.imgB then
      (okAns, ({ s with kp := { s.kp with formatLevel := level } }).save 38)
    else (badAns 0x000A, s))

end Sys2Proof.Machine
end

