-- ==== Sys2Proof/Machine/Cores.lean ====
section
/-! DEFINITION. Control-core restarts and SRAM parity errors: shared operations and the happenings of the family
(09_redundancy_and_degraded.md R236; 11 R269, R278; 13_cache_and_on_chip_memory.md R331, R332; 14 R346). -/

namespace Sys2Proof.Machine

/-! ### Restart of a core (R236, Table 01-6) -/

/-- Whether a mailbox is carried out by the role: 1 for LDs 0 to 7 and the FM API, 2 for LDs 8 to 15. -/
def Inst.ofRole (i : Inst) (role : Nat) : Bool := match i with
  | .ld n => if n.val < 8 then role == 1 else role == 2
  | _ => role == 1

/-- Every mailbox instance. -/
def allInst : List Inst := (allFin 16).map Inst.ld ++ [.fm, .i3c]

/-- Internal Error for a command that answers later, on an instance whose core has restarted. -/
def State.lateError (s : State) (i : Inst) (op : Nat) : State :=
  let s := s.modMb i fun m => { m with failure := ⟨op, 0x0004, 0, 0⟩ }
  (s.emit (.mbx i op 0x0004 .none)).mbxSignal i 1

/-- A background command that is not a scan ends with its core. -/
def State.bgLost (s : State) (i : Inst) : State :=
  ({ s with mb := { s.mb with sanitize := s.mb.sanitize.filter fun x => x.1 ≠ i } }).bgEnd i 0x0004

/-- Commands accepted by the hung core end with Internal Error; the change itself goes on. -/
def State.mailboxLost (s : State) (role : Nat) : State :=
  let mine (i : Inst) : Bool := Inst.ofRole i role
  let late : List (Inst × Nat) := (s.pw.pointWaiters.map fun x => (x.1, 0xC501)) ++ s.inflight.filterMap fun (w : Write) =>
    if w.discard then none else match w.src with
      | .inject i => some (i, 0x4301)
      | .clear i => some (i, 0x4302)
      | _ => none
  let s := (late.filter fun x => mine x.1).foldl (fun (s : State) x => s.lateError x.1 x.2) s
  let s := { s with pw := { s.pw with pointWaiters := s.pw.pointWaiters.filter fun x => !mine x.1 } }
  let s := s.mapWrites (cutWrite mine)
  (allInst.filter mine).foldl (fun (s : State) i =>
    match s.mb.inst[Inst.ix i].bg with
    | some b => if b.running = false then s
      else match i with
        | .ld n => if b.opcode = 0x4304 then s.scanStop n (scrubFlags false false true false) 0x0004 else s.bgLost i
        | _ => s.bgLost i
    | none => s) s

/-- Every session and handle that the data die holds ends (R236, R278). -/
def State.endSessions (s : State) : State :=
  { s with mb := { s.mb with inst := s.mb.inst.map fun m => { m with session := none, handle := none } } }

/-- The standby core, if one is free. -/
def State.standby (s : State) (c : Fin 12) : Option (Fin 12) :=
  (allFin 12).find? fun j => j ≠ c && s.rd.cores[j].inService && s.rd.cores[j].role == none

/-- The roles after a core restarts: the standby takes its role and it becomes the standby; with none free core 0 carries the role, and core 0
keeps its own. -/
def State.moveRole (s : State) (c : Fin 12) (out : Bool) (log : List Nat) : State :=
  let x := s.rd.cores[c]
  let mine : Option (Fin 12) := match s.standby c with
    | some _ => none
    | none => if x.role = some 0 then some 0 else none
  let cores := s.rd.cores.set c ⟨mine, !out, log⟩
  let cores := match s.standby c with
    | some j => vmod cores j fun y => { y with role := x.role }
    | none => cores
  { s with rd := { s.rd with cores := cores },
           sec := { s.sec with raiseAt := if x.role == some 0 && s.sec.raiseAt.isSome then some (s.now + secTicks 600) else s.sec.raiseAt } }

/-- A core is restarted (R236): warning 0x7002 with its role, its commands and sessions end, scrubs stop (R156); at the third restart within 1 h
it is left out of service, with 0x7003. -/
def State.coreRestart (s : State) (c : Fin 12) : State :=
  let x := s.rd.cores[c]
  if s.fwUp = false ∨ x.inService = false then s
  else
    let role : Nat := match x.role with
      | some r => r.val
      | none => 11
    let log := s.now :: x.restarts.filter fun t => decide (s.now - t < secTicks 3600)
    let out := decide (3 ≤ log.length)
    let s := s.event 0x7002 2 (oCore c) role 0 0 0
    let s := if out then s.event 0x7003 3 (oCore c) role 0 0 0 else s
    let s := s.moveRole c out log
    let s := if role = 1 ∨ role = 2 then s.mailboxLost role else s
    let s := if role = 2 then s.endSessions else s
    s.scrubsStop.scrubsSettle

/-- WATCHDOG_EXPIRY (R236). -/
def execWatchdogExpiry (core : Fin 12) (s : State) : Host.Outcome State Fault Refusal := .next (s.coreRestart core)

/-! ### Parity errors (Tables 13-8 and 13-9) -/

/-- The memory code of event 0x2007. -/
def Parity.code : Parity → Nat
  | .coreSram _ => 1
  | .secureBank _ => 2
  | .scratchpad _ => 3
  | .validBitmap => 4
  | .predictor => 5
  | .hwRing => 6
  | .notif _ => 7
  | .pmonCounter _ => 8
  | .sampleBank .. => 8
  | .writeData _ => 9
  | .readData _ => 10
  | .other => 11

/-- The cache index key is drawn again: the cache is disabled, invalidated whole and enabled again (R346). -/
def State.newCacheKey (s : State) : State :=
  let (k, s) := s.newKey
  { s with sec := { s.sec with keyCacheIx := some k }, ca := { s.ca with lines := [], stale := s.ca.stale && s.ca.lock } }

/-- One IDE key of Table 14-5 is lost: a pending one is cleared, a current one ends its stream as an integrity failure does (R213, R346). -/
def State.ideKeyLost (s : State) (i : Nat) : State :=
  let p : Fin 2 := ⟨i / 4 % 2, by omega⟩
  let x := s.lk.ports[p].ide
  if i % 2 = 1 then
    s.modPort p fun y => { y with ide := if i / 2 % 2 = 0 then { y.ide with pendTx := none } else { y.ide with pendRx := none } }
  else if (if i / 2 % 2 = 0 then x.tx.isSome else x.rx.isSome) then
    ((s.modPort p fun y => { y with ide := { y.ide with tx := none, rx := none } }).emit (.err none 2)).event 0x6003 3 (oUnit 1 p.val) 0 0 0 0
  else s

/-- An entry of the secure bank is cleared, by its offset (Table 14-5); a sealed key is unsealed again at once, one not sealed is replaced
(R346). -/
def State.bankEntry (s : State) (off : Nat) : State :=
  if 0x4640 ≤ off ∧ off < 0x4660 then s.newCacheKey
  else if 0x4700 ≤ off ∧ off < 0x4800 then s.ideKeyLost ((off - 0x4700) / 32)
  else if 0x4800 ≤ off ∧ off < 0x4900 then
    let p : Fin 4 := ⟨(off - 0x4800) / 64 % 4, by omega⟩
    if s.lo.ports[p].state = .up then s.lodeDown p else s
  else if 0x4A00 ≤ off ∧ off < 0x4E00 then
    let k : Fin 4 := ⟨(off - 0x4A00) / 256 % 4, by omega⟩
    { s with sec := { s.sec with spdm := s.sec.spdm.set k .free } }
  else if 0x44C0 ≤ off ∧ off < 0x44E0 then
    let (k, s) := s.newKey
    ({ s with sec := { s.sec with keyWrap := ⟨some k, true⟩ } }).macReset 6
  else s

/-- A write before stage 6 whose data has bad parity: it goes on with PSN 1 and zero data, its poison the device's own (R52, R332). -/
def State.writeBad (s : State) (q : Nat) : State :=
  let bad (w : Write) : Write := if w.seq = q then { w with psn := true, data := 0, ct := 0, tag := 0, intern := true } else w
  let s := s.mapLds fun l => { l with adm := l.adm.map bad }
  let merging := s.wp.mergeQ.filter fun (w : Write) => w.seq = q
  let s := { s with wp := { s.wp with mergeQ := s.wp.mergeQ.filter (fun (w : Write) => w.seq ≠ q), encQ := s.wp.encQ.map bad,
                                      allocQ := s.wp.allocQ.map bad,
                                      ilocks := s.wp.ilocks.map fun (l : ILock) => { l with waiting := l.waiting.map bad } } }
  merging.foldl (fun (s : State) (w : Write) => s.stage4 (bad w)) s

/-- A read after stage 5 whose data has bad parity: its response carries poison, and it fills nothing. -/
def State.readBad (s : State) (id : Nat) : State :=
  s.modRead id fun r => { r with poison := true, data := 0, fillOk := false }

/-- What a parity error does besides its event. -/
def State.parityAct (s : State) (m : Parity) (addr : Nat) : State :=
  match m with
  | .coreSram c => s.coreRestart c
  | .secureBank e => s.bankEntry e
  | .scratchpad b => { s with sp := { s.sp with bad := if s.sp.bad.contains (b.val, addr) then s.sp.bad else (b.val, addr) :: s.sp.bad } }
  | .validBitmap => s
  | .predictor => { s with rp := { s.rp with predictor := tdel addr s.rp.predictor } }
  | .hwRing => s
  | .notif (some c) => s.mismatch c
  | .notif none => s.queueReset
  | .pmonCounter n =>
    let s := { s with pm := { s.pm with cnt := s.pm.cnt.set n 0, ovf := s.pm.ovf ||| BitVec.ofNat 64 (2 ^ n.val) } }
    if s.pm.ovfen.getLsbD n.val then s.raise 0x40 0 0 else s
  | .sampleBank b k =>
    let z (l : List Sample) : List Sample := l.modify k fun _ => ⟨0, 0, 0, 0, false, false, false, 0, 0, 0, 0, 0⟩
    { s with pm := if b = 0 then { s.pm with bank0 := z s.pm.bank0 } else { s.pm with bank1 := z s.pm.bank1 } }
  | .writeData q => s.writeBad q
  | .readData i => s.readBad i
  | .other => s.pathFault

/-- The hardware ring drops the record whose byte is bad, by its place in the ring, newest first (log 36). -/
def State.ringDrop (s : State) (m : Parity) (addr : Nat) : State :=
  if m = .hwRing ∧ addr / 32 < s.ev.ring.length then
    ({ s with ev := { s.ev with ring := s.ev.ring.eraseIdx (addr / 32), dropped := s.ev.dropped + 1 } }).pmCount 0x011 noTag
  else s

/-- SRAM_PARITY_ERROR (R332): warning 0x2007 with the memory code and the address, and the action of its memory. -/
def execSramParityError (mem : Parity) (addr : Nat) (s : State) : Host.Outcome State Fault Refusal :=
  if s.pw.dieUp then s.done (((s.ringDrop mem addr).event 0x2007 2 oDev (Parity.code mem) (lo32 addr) 0 0).parityAct mem addr)
  else .next s

end Sys2Proof.Machine
end

