-- ==== Sys2Proof/Machine/PowerCmds.lean ====
section
/-! DEFINITION. Power, rail and operating-point commands and the customer partition (16_power_and_holdup.md R380, R382, R402;
01_architecture.md R6, R14 to R16; Table 11-7). -/

namespace Sys2Proof.Machine

/-! ### Power (Table 16-5) -/

/-- Codes of the power states (Table 16-4). -/
def PowerState.code : PowerState → Nat
  | .off => 0
  | .poweringUp => 1
  | .running => 2
  | .poweringDown => 3
  | .flushing => 4
  | .cooling => 5
  | .lockout => 6
  | .tamperHold => 7

/-- GET_POWER_STATUS (Table 11-7). -/
def execGetPowerStatus (r : Req) (s : State) : Host.Outcome State Fault Refusal :=
  .next (s.mbx (.getPowerStatus r) (some 0) fun s =>
    let p := s.pw
    (okOut (.bytes (le 1 p.st.code ++ le 1 (b2n p.holdupReady + 2 * b2n (p.st == .lockout)) ++ le 2 p.vin ++ le 2 p.vhold ++
      le 1 p.retriesLeft ++ le 1 0 ++ le 4 s.kp.dsc)), s))

/-- Power Request OP 1: on. It clears the off latch; off it starts the sequence, in lockout it restores the retries first, and a power-down
or a flush takes it up when complete. In tamper hold it leads off once no respond-mode input is active (14_security_and_lifecycle.md
R354). -/
def State.powerOn (s : State) : State :=
  let s := { s with pw := { s.pw with offLatch := false } }
  match s.pw.st with
  | .off => s.trySeq
  | .poweringDown => { s with pw := { s.pw with latched := .on } }
  | .flushing => { s with pw := { s.pw with latched := .on } }
  | .lockout => ({ s with pw := { s.pw with st := .off, retriesLeft := s.pw.retries, lastFaultAt := none } }.save 2).trySeq
  | .tamperHold => ({ s with pw := { s.pw with st := .off } }.save 2).trySeq
  | _ => s

/-- Power Request OP 2: orderly off, with the off latch set. -/
def State.powerOffReq (s : State) : State :=
  let s := { s with pw := { s.pw with offLatch := true } }
  match s.pw.st with
  | .poweringUp => s.reverseDown .off
  | .running => s.orderly
  | .poweringDown => { s with pw := { s.pw with latched := .none } }
  | .flushing => { s with pw := { s.pw with latched := .none } }
  | _ => s

/-- Power Request OP 3: restart. -/
def State.powerRestart (s : State) : State :=
  match s.pw.st with
  | .poweringUp => s.reverseDown .off
  | .running => let t := s.orderly; { t with pw := { t.pw with latched := .restart } }
  | .poweringDown => { s with pw := { s.pw with latched := .restart } }
  | .flushing => { s with pw := { s.pw with latched := .restart } }
  | _ => s

/-- Whether an input in respond mode (Table 14-9: MODE 3 is treated as 2) has been reported active. -/
def State.tamperSeen (s : State) : Bool :=
  (allFin 4).any fun i => s.sec.tamperActive.getLsbD i.val && decide (2 ≤ s.sec.tamper[i].mode)

/-- Whether an input in respond mode is still active (R354). No command says that an input has gone inactive: whether one that was reported
active still is, is a free value (log 41). -/
def State.tamperHolds (s : State) : Bool × State :=
  if s.tamperSeen then
    let (n, t) := s.draw
    if Config.freePick n % 2 = 1 then (true, t) else (false, { t with sec := { t.sec with tamperActive := 0 } })
  else (false, s)

/-- POWER_REQUEST (R382): the answer goes out before the power falls. -/
def execPowerRequest (r : Req) (op : Nat) (s : State) : Host.Outcome State Fault Refusal :=
  .next (s.mbxLater (.powerRequest r op) (some 1) fun s =>
    let go (f : State → State) : Option Ans × State := (none, f (s.answer r 0xC502 okAns))
    if op = 1 then
      if s.pw.st = .tamperHold then
        let (on, t) := s.tamperHolds
        if on then (some (badAns 0x000A), t) else (none, (t.answer r 0xC502 okAns).powerOn)
      else go State.powerOn
    else if op = 2 then go State.powerOffReq
    else if op = 3 then go State.powerRestart
    else (some (rangeAns 0), s))

/-! ### Rails (R380) -/

/-- Nominal rail voltages in mV (Table 16-2), from rail 1. -/
def railNominal : List Nat := [1800, 720, 800, 850, 1200, 1800, 1050, 500, 1200, 2500, 4500]

/-- Whether a threshold in steps of 5 mV lies in the range of R380. -/
def thresholdFits (rail step : Nat) : Bool :=
  if rail = 0 then decide (1500 ≤ step * 5 ∧ step * 5 ≤ 3800)
  else
    let n := railNominal.getD (rail - 1) 0
    decide (n * 85 ≤ step * 500 ∧ step * 500 ≤ n * 115)

/-- The byte offset of the first field out of range of Set Rail Parameters. -/
def railRange (rail filter low high dwell timeout retries : Nat) : Option Nat :=
  if 11 < rail then some 0
  else if 7 < filter then some 1
  else if thresholdFits rail low = false then some 2
  else if thresholdFits rail high = false ∨ high ≤ low then some 4
  else if dwell < 50 ∨ 10000 < dwell then some 6
  else if timeout < 2 * dwell ∨ 50000 < timeout then some 8
  else if 7 < retries then some 10
  else none

/-- SET_RAIL_PARAMETERS (R380). -/
def execSetRailParameters (r : Req) (rail filter low high dwell timeout retries : Nat) (s : State) : Host.Outcome State Fault Refusal :=
  .next (s.mbx (.setRailParameters r rail filter low high dwell timeout retries) (some 12) fun s =>
    match railRange rail filter low high dwell timeout retries with
    | some p => (rangeAns p, s)
    | none =>
      if h : rail < 12 then
        (okAns, ({ s with pw := { s.pw with rails := s.pw.rails.set rail ⟨low, high, filter, dwell, timeout⟩, retries := retries } }).save (112 + rail))
      else (rangeAns 0, s))

/-! ### Operating points (R6, R14 to R16) -/

/-- The point of a code (Table 11-7). -/
def pointOf (n : Nat) : Point := if n = 0 then .e else if n = 1 then .n else .p

/-- SET_OPERATING_POINT (R6, R16): the selected point is kept, and the answer comes when it is reached or superseded; before the data path is
enabled it is only stored. A power-down under way, or a flush from good VIN, refuses nothing (log 86). -/
def execSetOperatingPoint (r : Req) (point : Nat) (s : State) : Host.Outcome State Fault Refusal :=
  .next (s.mbxLater (.setOperatingPoint r point) (some 1) fun s =>
    if 2 < point then (some (rangeAns 0), s)
    else if point = 2 ∧ s.hw.bin = .s then (some (badAns 0x000A), s)
    else if s.pw.vinGood = false then (some (busyAns 0x0008), s)
    else
      let pt := pointOf point
      let t := ({ s with pw := { s.pw with selected := pt } }).save 39
      if s.pw.dataPath then (none, t.requestPoint r.inst pt) else (some okAns, t))

/-! ### Customer partition (R402; the count after a back-off: log 36) -/

/-- The range checks of Read and Write Customer Partition. -/
def customerRange (offset length : Nat) : Option Nat :=
  if 65536 ≤ offset then some 0
  else if length = 0 ∨ 16352 < length ∨ 65536 < offset + length then some 4
  else none

/-- A password judged: `none` where it is right. A right one clears the count; the fifth wrong one starts 60 s of back-off. -/
def State.customerPw (s : State) (i : Inst) (stored given : Key) : Option Ans × State :=
  let eng := !s.keeperServes i
  if stored = 0 then (none, s)
  else match s.checkOf eng 5 s.sec.keyCust.get given with
  | (none, t) => (some (badAns (if t.sec.katFailed then 0x000A else 0x0006)), t)
  | (some v, t) =>
    if v = checkValue s.sec.keyCust.get stored then (none, { t with kp := { t.kp with pwWrong := 0 } })
    else
      let n := t.kp.pwWrong + 1
      (some (codeAns 0x0014 0),
        { t with kp := { t.kp with pwWrong := if n < 5 then n else 0,
                                   pwUntil := if n < 5 then t.kp.pwUntil else some (t.now + secTicks 60) } })

/-- Back-off, ranges and password of the two commands. -/
def State.customerGate (s : State) (i : Inst) (offset length : Nat) (stored given : Key) : Option Ans × State :=
  if s.kp.pwUntil.any fun t => decide (s.now < t) then (some (busyAns 0x000E), s)
  else match customerRange offset length with
    | some p => (some (rangeAns p), s)
    | none => s.customerPw i stored given

/-- READ_CUSTOMER_PARTITION (R402). -/
def execReadCustomerPartition (r : Req) (offset length : Nat) (pass : Key) (s : State) : Host.Outcome State Fault Refusal :=
  .next (s.mbx (.readCustomerPartition r offset length pass) (some 40) fun s =>
    match s.customerGate r.inst offset length s.kp.readPw pass with
    | (some a, t) => (a, t)
    | (none, t) => (okOut (.bytes (Mem.readBytes t.kp.customer offset length)), t))

/-- A write's data records and its commit record (R402). -/
def State.customerStore (s : State) (offset length : Nat) : State :=
  ((List.range ((length + 4047) / 4048)).foldl
    (fun (s : State) i => s.store 4 (1 + offset + i * 4048) (min 4048 (length - i * 4048))) s).store 4 0 16

/-- WRITE_CUSTOMER_PARTITION (R402): all of the bytes or none. -/
def execWriteCustomerPartition (r : Req) (offset length : Nat) (pass : Key) (data : List Byte) (s : State) :
    Host.Outcome State Fault Refusal :=
  .next (s.mbx (.writeCustomerPartition r offset length pass data) (some (40 + length)) fun s =>
    match s.customerGate r.inst offset length s.kp.writePw pass with
    | (some a, t) => (a, t)
    | (none, t) =>
      let m := Mem.writeBytes t.kp.customer offset (data.take length)
      (okAns, ({ t with kp := { t.kp with customer := m } }).customerStore offset length))

/-- SET_CUSTOMER_PASSWORDS (R402): both are replaced; the check values take MAC slot 5 and the sealed copies slot 7 where the data die
serves. -/
def execSetCustomerPasswords (r : Req) (readPw writePw : Key) (s : State) : Host.Outcome State Fault Refusal :=
  .next (s.mbx (.setCustomerPasswords r readPw writePw) (some 64) fun s =>
    let eng := !s.keeperServes r.inst
    match s.checkOf eng 5 s.sec.keyCust.get readPw with
    | (none, t) => (badAns (if t.sec.katFailed then 0x000A else 0x0006), t)
    | (some _, t) =>
      match t.checkOf eng 5 t.sec.keyCust.get writePw with
      | (none, t) => (badAns 0x0006, t)
      | (some _, t) =>
        let t := if eng then t.sealUse.sealUse else t
        (okAns, ((({ t with kp := { t.kp with readPw := readPw, writePw := writePw } }).save 32).store 1 32 48).store 1 33 48))

end Sys2Proof.Machine
end

