-- ==== Sys2Proof/Machine/Security.lean ====
section
/-! DEFINITION. Life cycle, boot status, attestation, IDE key programming and tamper inputs (14_security_and_lifecycle.md R336, R347 to R355;
08_inline_encryption.md R213). -/

namespace Sys2Proof.Machine

/-! ### Life cycle (R349 to R351) -/

/-- GET_LIFE_CYCLE_STATE (R349). -/
def execGetLifeCycleState (r : Req) (s : State) : Host.Outcome State Fault Refusal :=
  .next (s.mbx (.getLifeCycleState r) (some 0) fun s => (okOut (.bytes (le 1 s.sec.lc.code)), s))

/-- Whether Table 14-8 lists a transition. -/
def lcStep (now target : LifeCycle) : Bool :=
  match now, target with
  | .blank, .provisioned => true
  | .provisioned, .deployed => true
  | .blank, .returned => true
  | .provisioned, .returned => true
  | .deployed, .returned => true
  | .decommissioned, _ => false
  | _, .decommissioned => true
  | _, _ => false

/-- The accepted transition (R350): pending, every session over, then an orderly power-down from which the keeper powers up again. -/
def State.lcBegin (s : State) (t : LifeCycle) : State :=
  (({ s with sec := { s.sec with pendingLC := some t } }.save 34).endSessions).powerRestart

/-- SET_LIFE_CYCLE_STATE (R349 to R351): entry to Provisioned from Blank needs the session of slot 0. The pending state is durable, and
Success goes out, before the power falls. -/
def execSetLifeCycleState (r : Req) (target : Nat) (s : State) : Host.Outcome State Fault Refusal :=
  .next (s.mbxLater (.setLifeCycleState r target) (some 1) fun s =>
    let t := lcOf target
    if 4 < target then (some (rangeAns 0), s)
    else if s.sec.pendingLC.isSome then (some (busyAns 0x000A), s)
    else if lcStep s.sec.lc t = false then (some (badAns 0x0004), s)
    else if t = .provisioned ∧ (s.session r.inst).any (fun x => x.slot ≠ 0) then (some (badAns 0x000A), s)
    else (none, (s.answer r 0xC801 okAns).lcBegin t))

/-! ### Boot status (R336) -/

/-- The version of an image slot; 0 where the slot is empty. -/
def imageVersion : Option Image → Nat
  | some i => i.version.toNat
  | none => 0

/-- GET_BOOT_STATUS (Table 11-7). -/
def execGetBootStatus (r : Req) (s : State) : Host.Outcome State Fault Refusal :=
  .next (s.mbx (.getBootStatus r) (some 0) fun s =>
    let x := s.sec
    (okOut (.bytes (le 1 (b2n x.runningB) ++ le 1 (b2n x.prefB) ++ le 8 (imageVersion x.imgA) ++ le 8 (imageVersion x.imgB) ++
      le 4 x.antiRollback)), s))

/-- SET_BOOT_IMAGE_PREFERENCE (R336): kept in the keeper's boot parameters. -/
def execSetBootImagePreference (r : Req) (image : Nat) (s : State) : Host.Outcome State Fault Refusal :=
  .next (s.mbx (.setBootImagePreference r image) (some 1) fun s =>
    if 1 < image then (rangeAns 0, s)
    else (okAns, { s with sec := { s.sec with prefB := image == 1 } }.save 41))

/-! ### The board configuration block (Table 14-9) -/

/-- The 4 bytes of a tamper input's configuration. -/
def TamperCfg.bytes (c : TamperCfg) : List Byte := le 1 (c.mode % 4 + 4 * b2n c.pol) ++ le 1 c.filter ++ le 2 0

/-- The 4 bytes of a usage limit: 0 stands for 2^32. -/
def limitBytes (m : MacSlot) : List Byte := le 4 (m.limit % 2 ^ 32)

/-- One byte taken into a CRC-32 of the IEEE 802.3 polynomial, least significant bit first. -/
def crc32Byte (crc : BitVec 32) (b : Byte) : BitVec 32 :=
  (List.range 8).foldl (fun (c : BitVec 32) (_ : Nat) => if c.getLsbD 0 then (c >>> 1) ^^^ 0xEDB88320 else c >>> 1) (crc ^^^ b.setWidth 32)

/-- CRC-32 of a list of bytes. -/
def crc32 (l : List Byte) : BitVec 32 := ~~~(l.foldl crc32Byte (BitVec.allOnes 32))

/-- The block in force. -/
def Sec.boardBytes (x : Sec) : List Byte :=
  let body := le 2 1 ++ le 2 0 ++ x.board.toList.flatMap TamperCfg.bytes ++ x.macSlots.toList.flatMap limitBytes ++ zeros 168
  body ++ le 4 (crc32 body).toNat

/-! ### Attestation (R347, R348; message codes and errors of SPDM 1.2: log 42) -/

/-- Whether the responder answers on a path: DOE of an LD, or MCTP on an FM instance. -/
def State.spdmUp (s : State) : Bool := s.fwUp

/-- The negotiation of a path. -/
def State.phase (s : State) (via : Inst) : SpdmPhase := s.sec.spdmPhase[Inst.ix via]

/-- The negotiation of a path set. -/
def State.setPhase (s : State) (via : Inst) (p : SpdmPhase) : State :=
  { s with sec := { s.sec with spdmPhase := s.sec.spdmPhase.set (Inst.ix via) p } }

/-- A response. -/
def State.spdmSay (s : State) (via : Inst) (code : Nat) (l : List (String × Nat)) : State := s.emit (.spdm via code (.fields l))

/-- An SPDM ERROR. -/
def State.spdmError (s : State) (via : Inst) (code : Nat) : State := s.spdmSay via 0x7F [("error", code)]

/-- UnexpectedRequest. -/
def spdmUnexpected : Nat := 0x04

/-- InvalidSession. -/
def spdmInvalidSession : Nat := 0x02

/-- SessionLimitExceeded. -/
def spdmLimit : Nat := 0x0A

/-- Busy. -/
def spdmBusy : Nat := 0x03

/-- A request while the responder is not up: no reply by DOE or on the CXL link; on I3C the keeper, whose target answers MCTP in every power
state (R8), answers Busy, a code the spec does not name (DESIGN CHOICE, log 42). -/
def State.spdmDown (s : State) (via : Inst) : State :=
  if s.pw.alive = true ∧ via = .i3c then s.spdmError via spdmBusy else s

/-- A request that needs the negotiation to have come to `need`. -/
def State.spdm (s : State) (via : Inst) (need : SpdmPhase) (f : State → State) : State :=
  if s.spdmUp = false then s.spdmDown via
  else if s.phase via = need then f s else s.spdmError via spdmUnexpected

/-- A signature of the responder. -/
def State.spdmSign (s : State) : Nat × State :=
  let (n, s) := s.draw
  ((Config.freeSig n).toNat, s)

/-- SPDM_GET_VERSION (R347): version 1.2; the negotiation of the path starts again. -/
def execSpdmGetVersion (via : Inst) (s : State) : Host.Outcome State Fault Refusal :=
  .next (if s.spdmUp then (s.setPhase via .version).spdmSay via 0x04 [("version", 0x12)] else s.spdmDown via)

/-- SPDM_GET_CAPABILITIES (R347): CERT, CHAL, MEAS with signature, ENCRYPT, MAC, KEY_EX, HBEAT, KEY_UPD. -/
def execSpdmGetCapabilities (via : Inst) (s : State) : Host.Outcome State Fault Refusal :=
  .next (s.spdm via .version fun s => (s.setPhase via .capabilities).spdmSay via 0x61
    [("cert", 1), ("chal", 1), ("measSig", 1), ("keyEx", 1), ("encrypt", 1), ("mac", 1), ("hbeat", 1), ("keyUpd", 1), ("mutAuth", 0), ("psk", 0)])

/-- SPDM_NEGOTIATE_ALGORITHMS (R347): ECDSA P-384, SHA-384, secp384r1, AES-256-GCM, the SPDM key schedule. -/
def execSpdmNegotiateAlgorithms (via : Inst) (s : State) : Host.Outcome State Fault Refusal :=
  .next (s.spdm via .capabilities fun s => (s.setPhase via .algorithms).spdmSay via 0x63
    [("ecdsaP384", 1), ("sha384", 1), ("secp384r1", 1), ("aes256Gcm", 1), ("spdmKeySchedule", 1)])

/-- SPDM_GET_DIGESTS (R347): one chain, in slot 0. -/
def execSpdmGetDigests (via : Inst) (s : State) : Host.Outcome State Fault Refusal :=
  .next (s.spdm via .algorithms fun s => s.spdmSay via 0x01 [("slotMask", 1), ("digest", (Config.certDigest s.hw.serial).toNat)])

/-- SPDM_GET_CERTIFICATE (R347): three certificates; that of the device carries the serial number. -/
def execSpdmGetCertificate (via : Inst) (s : State) : Host.Outcome State Fault Refusal :=
  .next (s.spdm via .algorithms fun s => s.spdmSay via 0x02
    [("slot", 0), ("certificates", 3), ("digest", (Config.certDigest s.hw.serial).toNat), ("serial", s.hw.serial.toNat)])

/-- SPDM_CHALLENGE (R347): signed with the identity key over the requester's nonce. -/
def execSpdmChallenge (via : Inst) (nonce : Key) (s : State) : Host.Outcome State Fault Refusal :=
  .next (s.spdm via .algorithms fun s =>
    let (sig, s) := s.spdmSign
    s.spdmSay via 0x03 [("slot", 0), ("digest", (Config.certDigest s.hw.serial).toNat), ("nonce", nonce.toNat), ("signature", sig)])

/-- The running image's part of block 2: CODE_HASH, VERSION, SVN. -/
def codeBlock : Option Image → List (String × Nat)
  | some i => [("codeHash", (Config.codeHash i.version i.svn).toNat), ("version", i.version.toNat), ("svn", i.svn)]
  | none => []

/-- Whether the debug port is open (Table 14-7). -/
def Sec.debugOpen (x : Sec) : Bool := x.lc == .blank || x.lc == .returned

/-- The blocks of Table 14-6. -/
def State.measurements (s : State) : List (String × Nat) :=
  [("romHash", Config.romHash.toNat)] ++ codeBlock s.sec.running ++
  [("boardHash", (Config.sha384 s.sec.boardBytes).toNat), ("lifeCycle", s.sec.lc.code), ("debugOpen", b2n s.sec.debugOpen),
   ("antiRollback", s.sec.antiRollback), ("sealEpoch", s.sec.sealEpoch), ("protocolLevel", s.lo.proto), ("formatLevel", s.kp.formatLevel)]

/-- SPDM_GET_MEASUREMENTS (R348): the blocks, signed together with the requester's nonce. -/
def execSpdmGetMeasurements (via : Inst) (nonce : Key) (s : State) : Host.Outcome State Fault Refusal :=
  .next (s.spdm via .algorithms fun s =>
    let (sig, s) := s.spdmSign
    s.spdmSay via 0x60 (s.measurements ++ [("nonce", nonce.toNat), ("signature", sig)]))

/-- A session's phase set. -/
def State.setSpdm (s : State) (k : Fin 4) (x : SpdmSess) : State := { s with sec := { s.sec with spdm := s.sec.spdm.set k x } }

/-- SPDM_KEY_EXCHANGE (R347): a session in its handshake; a fifth one receives SessionLimitExceeded. -/
def execSpdmKeyExchange (via : Inst) (s : State) : Host.Outcome State Fault Refusal :=
  .next (s.spdm via .algorithms fun s => match (allFin 4).find? fun k => s.sec.spdm[k] = .free with
    | none => s.spdmError via spdmLimit
    | some k =>
      let (sig, s) := s.spdmSign
      (s.setSpdm k .handshake).spdmSay via 0x64 [("session", k.val), ("signature", sig)])

/-- A request inside a session of the device, which must stand at `need`. -/
def State.spdmIn (s : State) (via : Inst) (k : Fin 4) (need : SpdmSess) (f : State → State) : State :=
  if s.spdmUp = false then s.spdmDown via
  else if s.sec.spdm[k] = .free then s.spdmError via spdmInvalidSession
  else if s.sec.spdm[k] = need then f s else s.spdmError via spdmUnexpected

/-- SPDM_FINISH: the handshake ends and the session is established (R347). -/
def execSpdmFinish (via : Inst) (session : Fin 4) (s : State) : Host.Outcome State Fault Refusal :=
  .next (s.spdmIn via session .handshake fun s => (s.setSpdm session .established).spdmSay via 0x65 [("session", session.val)])

/-- SPDM_HEARTBEAT (R347). -/
def execSpdmHeartbeat (via : Inst) (session : Fin 4) (s : State) : Host.Outcome State Fault Refusal :=
  .next (s.spdmIn via session .established fun s => s.spdmSay via 0x68 [("session", session.val)])

/-- SPDM_KEY_UPDATE (R347): the session goes on under new secrets. -/
def execSpdmKeyUpdate (via : Inst) (session : Fin 4) (s : State) : Host.Outcome State Fault Refusal :=
  .next (s.spdmIn via session .established fun s => s.spdmSay via 0x69 [("session", session.val)])

/-- SPDM_END_SESSION (R344, R347): the session's secrets are destroyed. -/
def execSpdmEndSession (via : Inst) (session : Fin 4) (s : State) : Host.Outcome State Fault Refusal :=
  .next (s.spdmIn via session .established fun s => (s.setSpdm session .free).spdmSay via 0x6C [("session", session.val)])

/-! ### IDE key management (R213; message codes: log 42) -/

/-- The path on which a port's stream is managed: the DOE mailbox of the port's first LD. -/
def State.idePath (s : State) (p : Fin 2) : Inst := .ld ((s.portLds p).headD 0)

/-- An IDE_KM request in an SPDM secure session over DOE, for a port the device has. -/
def State.ideKm (s : State) (k : Fin 4) (p : Fin 2) (f : State → State) : State :=
  s.spdmIn (s.idePath p) k .established fun s => if s.portThere p then f s else s.spdmSay (s.idePath p) 0x03 [("port", p.val), ("status", 2)]

/-- IDE_KM_KEY_PROG (R213): a pending key of the port's stream. -/
def execIdeKmKeyProg (session : Fin 4) (port : Fin 2) (tx : Bool) (key : Key) (s : State) : Host.Outcome State Fault Refusal :=
  .next (s.ideKm session port fun s =>
    (s.modPort port fun p => { p with ide := if tx then { p.ide with pendTx := some key } else { p.ide with pendRx := some key } }).spdmSay
      (s.idePath port) 0x03 [("port", port.val), ("status", 0)])

/-- IDE_KM_K_SET_GO (R213): the stream starts, or is refreshed, with the key set programmed for it; nothing starts without both keys. -/
def execIdeKmKSetGo (session : Fin 4) (port : Fin 2) (s : State) : Host.Outcome State Fault Refusal :=
  .next (s.ideKm session port fun s =>
    let i := s.lk.ports[port].ide
    let s := if i.pendTx.isSome ∧ i.pendRx.isSome then s.modPort port fun p => { p with ide := ⟨none, none, i.pendTx, i.pendRx⟩ } else s
    s.spdmSay (s.idePath port) 0x06 [("port", port.val)])

/-- IDE_KM_K_SET_STOP (R213): the stream's key set is stopped. -/
def execIdeKmKSetStop (session : Fin 4) (port : Fin 2) (s : State) : Host.Outcome State Fault Refusal :=
  .next (s.ideKm session port fun s =>
    (s.modPort port fun p => { p with ide := { p.ide with tx := none, rx := none } }).spdmSay (s.idePath port) 0x06 [("port", port.val)])

/-! ### Tamper inputs (R352 to R355) -/

/-- The response of Table 14-10: the secure bank and the rails go at once, with no flush; the record and the hold are durable. -/
def State.tamperRespond (s : State) : State :=
  let s := (s.powerOff .tamperHold).shutdownRec 5
  { s with pw := { s.pw with tripAfter := false, flushFromVin := false, faultWait := false, faultRestartAt := none, coolingSince := none,
                             thermtripOut := false },
           mb := { s.mb with keeperSess := none, keeperHandle := none } }.save 2

/-- TAMPER_INPUT_ACTIVE (R353 to R355): event 0x8002 for each input; one in respond mode wipes and holds. A further input active during the
hold adds its event. -/
def execTamperInputActive (input : Fin 4) (s : State) : Host.Outcome State Fault Refusal :=
  let mode := s.sec.tamper[input].mode
  if s.pw.alive = false ∨ mode = 0 then .next s
  else
    let t := { s with sec := { s.sec with tamperActive := s.sec.tamperActive ||| BitVec.ofNat 4 (2 ^ input.val) } }
    if mode = 1 then .next (t.event 0x8002 3 oDev (input.val + 0x100) 0 0 0)
    else
      let t := t.event 0x8002 3 oDev input.val 0 0 0
      .next (if s.pw.st = .tamperHold then t else t.tamperRespond)

end Sys2Proof.Machine
end

