-- ==== Sys2Proof/Machine/Firmware.lean ====
section
/-! DEFINITION. Firmware transfer and live activation (11_mailbox_and_sessions.md R269, R272; 14_security_and_lifecycle.md R336 to R338;
15_lode_links_and_pools.md R372 to R374; 17_startup_and_recovery.md R416). -/

namespace Sys2Proof.Machine

/-! ### Return codes of CXL 3.1 for firmware (Table 11-2) -/

/-- FW Transfer in Progress. -/
def fwInProgress : Ans := codeAns 0x0008 0

/-- FW Transfer Out of Order. -/
def fwOutOfOrder : Ans := codeAns 0x0009 0

/-- FW Verification Failed. -/
def fwVerification : Ans := codeAns 0x000A 0

/-- Invalid Slot. -/
def fwInvalidSlot : Ans := codeAns 0x000B 0

/-- Activation Failed, FW Rolled Back. -/
def fwRolledBack : Ans := codeAns 0x000C 0

/-- GET_FW_INFO (R272): slot 1 is image A, slot 2 is image B; online activation is supported. -/
def execGetFwInfo (r : Req) (s : State) : Host.Outcome State Fault Refusal :=
  .next (s.mbx (.getFwInfo r) (some 0) fun s =>
    (okOut (.fields [("slots", 2), ("activeSlot", 1 + b2n s.sec.runningB), ("onlineActivation", 1), ("slot1Version", imageVersion s.sec.imgA),
      ("slot2Version", imageVersion s.sec.imgB)]), s))

/-! ### Transfer (R373) -/

/-- An image enters the flash slot. -/
def State.putImage (s : State) (slot : Nat) (i : Image) : State :=
  { s with sec := if slot = 1 then { s.sec with imgA := some i } else { s.sec with imgB := some i } }

/-- A whole image for a slot: an unknown slot and a format level below the device's are refused (R373). -/
def State.storeImage (s : State) (slot : Nat) (i : Image) : Ans × State :=
  if slot ≠ 1 ∧ slot ≠ 2 then (fwInvalidSlot, s)
  else if i.fmtLvl < s.kp.formatLevel then (fwVerification, s)
  else (okAns, s.putImage slot i)

/-- TRANSFER_FW (R272, R373; the parts of a transfer as CXL 3.1 orders them: log 43): 0 a full transfer, 1 its start, 2 its continuation, 3 its
end, 4 its abort. -/
def execTransferFw (r : Req) (action slot : Nat) (image : Image) (s : State) : Host.Outcome State Fault Refusal :=
  .next (s.mbx (.transferFw r action slot image) none fun s =>
    let mine : Bool := s.mb.transfer == some r.inst
    let drop (s : State) : State := { s with mb := { s.mb with transfer := none } }
    match action with
    | 0 => if s.mb.transfer.isSome then (fwInProgress, s) else s.storeImage slot image
    | 1 => if s.mb.transfer.isSome then (fwInProgress, s) else (okAns, { s with mb := { s.mb with transfer := some r.inst } })
    | 2 => if mine then (okAns, s) else (fwOutOfOrder, s)
    | 3 => if mine then (drop s).storeImage slot image else (fwOutOfOrder, s)
    | 4 => if mine then (okAns, drop s) else (fwOutOfOrder, s)
    | _ => (rangeAns 0, s))

/-! ### Activation (R374, Table 15-8) -/

/-- A switch to a lower protocol level before the cores restart (R372, Table 15-8 step 3). -/
def State.lowerProto (s : State) (n : Nat) : State :=
  if n < s.lo.proto then
    let s := { s with lo := { s.lo with proto := n } }
    s.upPorts.foldl (fun (s : State) p => s.lodeSend p 0 (.switch n)) s
  else s

/-- Steps 2 to 4: mailbox service stops, sessions end, the protocol level falls where the image asks it. -/
def State.activateBegin (s : State) (i : Inst) (b : Bool) (img : Image) : State :=
  ({ s with mb := { s.mb with outage := true, activate := some (i, b) } }.endSessions).lowerProto img.proto

/-- ACTIVATE_FW (R338, R374): under the ROM the boot starts again; else the image is checked under R336 and R373 and the live activation
begins. Activation is online only (R272). -/
def execActivateFw (r : Req) (action slot : Nat) (s : State) : Host.Outcome State Fault Refusal :=
  .next (s.mbxLater (.activateFw r action slot) (some 2) fun s =>
    let b : Bool := slot == 2
    if s.mb.transfer.isSome then (some fwInProgress, s)
    else if slot ≠ 1 ∧ slot ≠ 2 then (some fwInvalidSlot, s)
    else if s.sec.romOnly then
      let t := s.answer r 0x0202 okAns
      (none, { t with sec := { t.sec with romOnly := false } })
    else if action ≠ 0 then (some (rangeAns 0), s)
    else match s.sec.img b with
      | none => (some fwInvalidSlot, s)
      | some img =>
        if s.sec.imageCheck (some img) ≠ 0 ∨ img.fmtLvl < s.kp.formatLevel then (some fwVerification, s)
        else (none, s.activateBegin r.inst b img))

/-- The new code runs (steps 6 and 7): its levels are reported and the level in use follows, the preferred image is set, event 0x7004 and
source 0x037; the 600 s of R337 start again. -/
def State.activated (s : State) (b : Bool) : State :=
  let s := { s with sec := { s.sec with runningB := b, runImg := s.sec.img b, prefB := b,
                                        raiseAt := if s.lk.mediaReady then some (s.now + secTicks 600) else none } }.save 41
  let s := s.levelSend.relevel
  let v := imageVersion s.sec.runImg
  let t := s.event 0x7004 1 oDev (lo32 v) 0 0 0
  t.raise 0x37 0 0

/-- Whether every foreground command in progress has completed (R269). -/
def State.drained (s : State) (i : Inst) : Bool := allInst.all fun j => j == i || !s.instBusy j

/-- FIRMWARE_ACTIVATION_COMPLETE (R374, R416): the cores have restarted; on the previous image where the new code failed to start. -/
def execFirmwareActivationComplete (started : Bool) (s : State) : Host.Outcome State Fault Refusal :=
  match s.mb.activate with
  | none => .next s
  | some (i, b) =>
    if s.drained i then
      let t := { s with mb := { s.mb with outage := false, activate := none } }
      let r : Req := ⟨i, 2⟩
      .next (if started then (t.activated b).answer r 0x0202 okAns else t.relevel.answer r 0x0202 fwRolledBack)
    else .next s

end Sys2Proof.Machine
end

