-- ==== Sys2Proof/Machine/StdCmds.lean ====
section
/-! DEFINITION. The standard commands of the primary mailboxes (11_mailbox_and_sessions.md R268, R269, R272, R273, R282, R283;
10_cxl_interface.md R252 to R254, R260; 02_persistence_contract.md R41; 05 R128). Outputs that CXL 3.1 lays out are named fields (log 16). -/

namespace Sys2Proof.Machine

/-! ### Identity and background operations -/

/-- The LD of a primary mailbox. -/
def Inst.ldN : Inst → Fin 16
  | .ld n => n
  | .fm => 0
  | .i3c => 0

/-- IDENTIFY (R272). -/
def execIdentify (r : Req) (s : State) : Host.Outcome State Fault Refusal :=
  .next (s.mbx (.identify r) (some 0) fun s =>
    (okOut (.fields [("vendorId", Config.vendorId.toNat), ("componentType", 3), ("serial", s.hw.serial.toNat)]), s))

/-- BACKGROUND_OPERATION_STATUS (R269, R272): per instance. -/
def execBackgroundOperationStatus (r : Req) (s : State) : Host.Outcome State Fault Refusal :=
  .next (s.mbx (.backgroundOperationStatus r) (some 0) fun s =>
    (okOut (.fields (match s.mb.inst[Inst.ix r.inst].bg with
      | some b => [("running", b2n b.running), ("percent", b.percent), ("opcode", b.opcode), ("code", b.code)]
      | none => [("running", 0), ("percent", 0), ("opcode", 0), ("code", 0)])), s))

/-- Whether an instance already runs a background command (R269). -/
def State.bgBusy (s : State) (i : Inst) : Bool := s.mb.inst[Inst.ix i].bg.any (·.running)

/-- A background command begins. -/
def State.bgStart (s : State) (i : Inst) (op : Nat) : State := s.modMb i fun m => { m with bg := some ⟨op, 0, true, 0, false⟩ }

/-- REQUEST_ABORT_BACKGROUND_OPERATION (R272): Scan Media only. -/
def execRequestAbortBackgroundOperation (r : Req) (s : State) : Host.Outcome State Fault Refusal :=
  .next (s.mbx (.requestAbortBackgroundOperation r) (some 0) fun s =>
    match s.mb.inst[Inst.ix r.inst].bg with
    | some b =>
      if b.running ∧ b.opcode = 0x4304 then (okAns, s.scanStop (Inst.ldN r.inst) (scrubFlags false true false false) 0x0012)
      else (unsupportedAns, s)
    | none => (unsupportedAns, s))

/-! ### Event records (R260) -/

/-- The record type of a native event: 0 General Media, 1 DRAM, 2 Memory Module, 3 Vendor Specific. -/
def cxlType (code : Nat) : Nat :=
  if code / 4096 = 1 then 0
  else if code = 0x2004 ∨ code = 0x2005 then 1
  else if code / 4096 = 4 ∨ code / 4096 = 5 then 2
  else 3

/-- The fields of a record: bytes 5:0 of its vendor-specific area hold the native sequence number. -/
def LogRec.fields (r : LogRec) : List (String × Nat) :=
  [("handle", r.handle), ("timestamp", r.stamp), ("type", cxlType r.ev.code), ("nativeSeq", r.ev.seq), ("code", r.ev.code),
   ("origin", r.ev.origin), ("p0", r.ev.p0), ("p1", r.ev.p1), ("p2", r.ev.p2), ("p3", r.ev.p3)]

/-- The log of an instance; the fabric manager's instances have none of their own (log 45). -/
def State.evLog (s : State) (i : Inst) (k : Fin 4) : EvLog := match i with
  | .ld n => (s.ld n).evLogs[k]
  | _ => .init

/-- Sets a log of an instance. -/
def State.setEvLog (s : State) (i : Inst) (k : Fin 4) (l : EvLog) : State := match i with
  | .ld n => s.modLd n fun d => { d with evLogs := d.evLogs.set k l }
  | _ => s

/-- GET_EVENT_RECORDS (R260): oldest first, with the count of an overflow. -/
def execGetEventRecords (r : Req) (log : Fin 4) (s : State) : Host.Outcome State Fault Refusal :=
  .next (s.mbx (.getEventRecords r log) (some 1) fun s =>
    let l := s.evLog r.inst log
    (okOut (.fields ([("count", l.recs.length), ("overflow", l.overflow)] ++ l.recs.flatMap LogRec.fields)), s))

/-- CLEAR_EVENT_RECORDS (R260): all of a log, or its oldest records in order; the overflow is over. -/
def execClearEventRecords (r : Req) (log : Fin 4) (all : Bool) (handles : List Nat) (s : State) : Host.Outcome State Fault Refusal :=
  .next (s.mbx (.clearEventRecords r log all handles) (some (6 + 2 * handles.length)) fun s =>
    let l := s.evLog r.inst log
    if all then (okAns, s.setEvLog r.inst log { l with recs := [], overflow := 0 })
    else if (l.recs.take handles.length).map (fun (x : LogRec) => x.handle) = handles then
      (okAns, s.setEvLog r.inst log { l with recs := l.recs.drop handles.length, overflow := 0 })
    else (badAns 0x000A, s))

/-- The interrupt policy of an instance. -/
def State.evPolicy (s : State) (i : Inst) : Vector Byte 4 := match i with
  | .ld n => (s.ld n).evPolicy
  | _ => s.ev.fmPolicy

/-- GET_EVENT_INTERRUPT_POLICY (R260). -/
def execGetEventInterruptPolicy (r : Req) (s : State) : Host.Outcome State Fault Refusal :=
  .next (s.mbx (.getEventInterruptPolicy r) (some 0) fun s => (okOut (.bytes (s.evPolicy r.inst).toList), s))

/-- SET_EVENT_INTERRUPT_POLICY (R260). -/
def execSetEventInterruptPolicy (r : Req) (info warning failure fatal : Byte) (s : State) : Host.Outcome State Fault Refusal :=
  .next (s.mbx (.setEventInterruptPolicy r info warning failure fatal) (some 4) fun s =>
    let v : Vector Byte 4 := #v[info, warning, failure, fatal]
    (okAns, match r.inst with
      | .ld n => s.modLd n fun l => { l with evPolicy := v }
      | _ => { s with ev := { s.ev with fmPolicy := v } }))

/-! ### Timestamp and logs -/

/-- GET_TIMESTAMP (R272): 0 until it has been set. -/
def execGetTimestamp (r : Req) (s : State) : Host.Outcome State Fault Refusal :=
  .next (s.mbx (.getTimestamp r) (some 0) fun s => (okOut (.bytes (le 8 (s.stamp (Inst.ldN r.inst)))), s))

/-- SET_TIMESTAMP (R272): in nanoseconds; only the timestamps of CXL event records use it. -/
def execSetTimestamp (r : Req) (time : BitVec 64) (s : State) : Host.Outcome State Fault Refusal :=
  .next (s.mbx (.setTimestamp r time) (some 8) fun s =>
    (okAns, s.modLd (Inst.ldN r.inst) fun l => { l with tsBase := time.toNat, tsTick := s.now }))

/-- The opcodes a primary mailbox may offer. -/
def ldOpcodes : List Nat :=
  ([0x0001, 0x0002, 0x0005, 0x0100, 0x0101, 0x0102, 0x0103, 0x0200, 0x0201, 0x0202, 0x0300, 0x0301, 0x0400, 0x0401, 0x4000, 0x4100, 0x4102,
    0x4103, 0x4200, 0x4201, 0x4202, 0x4203, 0x4204, 0x4300, 0x4301, 0x4302, 0x4303, 0x4304, 0x4305, 0x4400, 0x4401, 0x4500, 0x4501, 0x4502,
    0x4503, 0x4504, 0x4505, 0x4800, 0x4801, 0x4802, 0x4803] : List Nat) ++
  [0xC000, 0xC001, 0xC002, 0xC003, 0xC004, 0xC100, 0xC110, 0xC201, 0xC504, 0xC800]

/-- The Command Effects Log: opcode and effects of each command (log 16). -/
def celBytes : List Byte := ldOpcodes.flatMap fun o => le 2 o ++ le 2 (Config.cmdEffect o).toNat

/-- GET_SUPPORTED_LOGS (R272): the Command Effects Log only. -/
def execGetSupportedLogs (r : Req) (s : State) : Host.Outcome State Fault Refusal :=
  .next (s.mbx (.getSupportedLogs r) (some 0) fun s => (okOut (.fields [("logs", 1), ("celSize", celBytes.length)]), s))

/-- GET_LOG (R272). -/
def execGetLog (r : Req) (cel : Bool) (offset length : Nat) (s : State) : Host.Outcome State Fault Refusal :=
  .next (s.mbx (.getLog r cel offset length) (some 24) fun s =>
    if cel = false then (rangeAns 0, s)
    else if celBytes.length ≤ offset then (rangeAns 16, s)
    else if celBytes.length < offset + length then (rangeAns 20, s)
    else (okOut (.bytes ((celBytes.drop offset).take length)), s))

/-! ### The memory device -/

/-- IDENTIFY_MEMORY_DEVICE (R272); capacities in multiples of 256 MiB. -/
def execIdentifyMemoryDevice (r : Req) (s : State) : Host.Outcome State Fault Refusal :=
  .next (s.mbx (.identifyMemoryDevice r) (some 0) fun s =>
    let p := (s.ld (Inst.ldN r.inst)).partSize / 2 ^ 28
    (okOut (.fields [("total", p), ("volatile", 0), ("persistent", p), ("lsaSize", 262144), ("poisonMax", 32768), ("injectLimit", 256)]), s))

/-- GET_PARTITION_INFO (R272): all capacity is persistent. -/
def execGetPartitionInfo (r : Req) (s : State) : Host.Outcome State Fault Refusal :=
  .next (s.mbx (.getPartitionInfo r) (some 0) fun s =>
    (okOut (.fields [("activeVolatile", 0), ("activePersistent", (s.ld (Inst.ldN r.inst)).partSize / 2 ^ 28), ("nextVolatile", 0),
      ("nextPersistent", 0)]), s))

/-- SET_PARTITION_INFO (R272): Unsupported. -/
def execSetPartitionInfo (r : Req) (s : State) : Host.Outcome State Fault Refusal :=
  .next (s.mbx (.setPartitionInfo r) none fun s => (unsupportedAns, s))

/-- GET_LSA (R272): 256 KiB. -/
def execGetLsa (r : Req) (offset length : Nat) (s : State) : Host.Outcome State Fault Refusal :=
  .next (s.mbx (.getLsa r offset length) (some 8) fun s =>
    if 262144 ≤ offset then (rangeAns 0, s)
    else if 16384 < length ∨ 262144 < offset + length then (rangeAns 4, s)
    else (okOut (.bytes (Mem.readBytes (s.ld (Inst.ldN r.inst)).lsa offset length)), s))

/-- SET_LSA (R272): durable when it completes. -/
def execSetLsa (r : Req) (offset : Nat) (data : List Byte) (s : State) : Host.Outcome State Fault Refusal :=
  .next (s.mbx (.setLsa r offset data) (some (8 + data.length)) fun s =>
    if 262144 < offset + data.length then (rangeAns 0, s)
    else (okAns, s.modLd (Inst.ldN r.inst) fun l => { l with lsa := Mem.writeBytes l.lsa offset data }))

/-- A signed 16-bit field. -/
def i16 (x : Int) : Nat := (BitVec.ofInt 16 x).toNat

/-- The highest valid data-die sensor, in tenths of a degree (R272). -/
def State.devTemp (s : State) : Option Int := maxTemp ((allFin 16).map fun i => (s.th.ctl[(⟨i.val, by omega⟩ : Fin 23)]).eff false)

/-- GET_HEALTH_INFO (R40, R128, R272): life used, dirty shutdowns, the device temperature, and the warnings of the alert thresholds. -/
def execGetHealthInfo (r : Req) (s : State) : Host.Outcome State Fault Refusal :=
  .next (s.mbx (.getHealthInfo r) (some 0) fun s =>
    let l := s.ld (Inst.ldN r.inst)
    let t := s.devTemp
    (okOut (.fields [("lifeUsed", s.lifeUsed), ("temperature", (t.map fun x => i16 (x / 10)).getD 0x7FFF), ("dirtyShutdowns", s.kp.dsc), ("readOnly", b2n s.lk.readOnly),
      ("lifeWarning", b2n (decide (l.lifeWarn ≤ s.lifeUsed))), ("hotWarning", b2n (t.any fun x => decide (l.hotWarn ≤ x / 10))),
      ("coldWarning", b2n (t.any fun x => decide (x / 10 ≤ l.coldWarn)))]), s))

/-- GET_ALERT_CONFIGURATION (R272). -/
def execGetAlertConfiguration (r : Req) (s : State) : Host.Outcome State Fault Refusal :=
  .next (s.mbx (.getAlertConfiguration r) (some 0) fun s =>
    let l := s.ld (Inst.ldN r.inst)
    (okOut (.fields [("lifeUsed", l.lifeWarn), ("overTemperature", i16 l.hotWarn), ("underTemperature", i16 l.coldWarn)]), s))

/-- SET_ALERT_CONFIGURATION (R272): thresholds in per cent and in degrees Celsius. -/
def execSetAlertConfiguration (r : Req) (life : Nat) (hot cold : Int) (s : State) : Host.Outcome State Fault Refusal :=
  .next (s.mbx (.setAlertConfiguration r life hot cold) (some 12) fun s =>
    if 100 < life then (rangeAns 2, s)
    else if hot < -32768 ∨ 32767 < hot then (rangeAns 4, s)
    else if cold < -32768 ∨ 32767 < cold then (rangeAns 6, s)
    else (okAns, s.modLd (Inst.ldN r.inst) fun l => { l with lifeWarn := life, hotWarn := hot, coldWarn := cold }))

/-- GET_SHUTDOWN_STATE (R41). -/
def execGetShutdownState (r : Req) (s : State) : Host.Outcome State Fault Refusal :=
  .next (s.mbx (.getShutdownState r) (some 0) fun s => (okOut (.bytes [s.kp.shutdownState]), s))

/-- SET_SHUTDOWN_STATE (R41): stored, and never changed by the device. -/
def execSetShutdownState (r : Req) (state : Byte) (s : State) : Host.Outcome State Fault Refusal :=
  .next (s.mbx (.setShutdownState r state) (some 1) fun s => (okAns, { s with kp := { s.kp with shutdownState := state } }.save 43))

/-! ### Poison (R252, R253) -/

/-- The source of a record as CXL 3.1 codes it. -/
def PoisonSrc.code : PoisonSrc → Nat
  | .external => 1
  | .internal => 2
  | .injected => 3
  | .vendor => 7

/-- Records of the list that fall in an LD's allocated capacity. -/
def State.poisonOf (s : State) (n : Fin 16) : List PoisonRec := s.lk.poison.filter fun (p : PoisonRec) => s.allocated n p.line

/-- GET_POISON_LIST (R252): records of the LD's allocated capacity within the range. -/
def execGetPoisonList (r : Req) (dpa lines : Nat) (s : State) : Host.Outcome State Fault Refusal :=
  .next (s.mbx (.getPoisonList r dpa lines) (some 16) fun s =>
    let l := (s.poisonOf (Inst.ldN r.inst)).filter fun (p : PoisonRec) => decide (dpa / 64 < p.line + p.lines) && decide (p.line < dpa / 64 + lines)
    (okOut (.fields ([("overflow", b2n s.lk.poisonOverflow.isSome), ("overflowTime", s.lk.poisonOverflow.getD 0), ("count", l.length)] ++
      l.flatMap fun (p : PoisonRec) => [("dpa", p.line * 64), ("lines", p.lines), ("source", PoisonSrc.code p.src)])), s))

/-- What refuses Inject and Clear Poison: hold-up ready absent, the stop mark, capacity not allocated, the limit of injected records. -/
def State.poisonRefusal (s : State) (n : Fin 16) (dpa : Nat) (inject : Bool) : Option Ans :=
  if s.userLine (dpa / 64) = false ∨ s.allocated n (dpa / 64) = false then some (codeAns 0x000F 0)
  else if s.pw.holdupReady = false ∨ s.wp.marks[5] then some (busyAns 0x000A)
  else if inject ∧ 256 ≤ ((s.poisonOf n).filter fun (p : PoisonRec) => p.src = .injected).length then some (badAns 0x000A)
  else if inject = false ∧ (s.mapEnt (granOf (dpa / 64))).state = .poisoned then some (badAns 0x000A)
  else none

/-- An internal write of a mailbox command takes a sequence number and its line's interlock entry (R47, R253). -/
def State.mbxWrite (s : State) (n : Fin 16) (line : Nat) (data : Line) (psn : Bool) (src : WSrc) : State :=
  let (q, s) := s.nextSeq
  s.takeLock (newWrite q n line none (BitVec.allOnes 64) data psn src)

/-- The internal write of Inject or Clear Poison, unless it is refused. -/
def State.poisonWrite (s : State) (n : Fin 16) (line : Nat) (data : Line) (psn : Bool) (src : WSrc) : Option Ans → Option Ans × State
  | some a => (some a, s)
  | none => (none, s.mbxWrite n line data psn src)

/-- INJECT_POISON (R253): a line entry with PSN 1; answered when it is durable. -/
def execInjectPoison (r : Req) (dpa : Nat) (s : State) : Host.Outcome State Fault Refusal :=
  .next (s.mbxLater (.injectPoison r dpa) (some 8) fun s =>
    s.poisonWrite (Inst.ldN r.inst) (dpa / 64) 0 true (.inject r.inst) (s.poisonRefusal (Inst.ldN r.inst) dpa true))

/-- CLEAR_POISON (R30, R253): a whole-line write of the bytes given. -/
def execClearPoison (r : Req) (dpa : Nat) (data : Line) (s : State) : Host.Outcome State Fault Refusal :=
  .next (s.mbxLater (.clearPoison r dpa data) (some 72) fun s =>
    s.poisonWrite (Inst.ldN r.inst) (dpa / 64) data false (.clear r.inst) (s.poisonRefusal (Inst.ldN r.inst) dpa false))

/-! ### Scan Media (R254) -/

/-- GET_SCAN_MEDIA_CAPABILITIES: the estimated time is not stated (log 5). -/
def execGetScanMediaCapabilities (r : Req) (dpa lines : Nat) (s : State) : Host.Outcome State Fault Refusal :=
  .next (s.mbx (.getScanMediaCapabilities r dpa lines) (some 16) fun s =>
    let (n, s) := s.draw
    (okOut (.fields [("estimate", Config.freePick n)]), s))

/-- SCAN_MEDIA (R254): on the LD's scrub engine, in check-only mode. -/
def execScanMedia (r : Req) (dpa lines : Nat) (s : State) : Host.Outcome State Fault Refusal :=
  .next (s.mbx (.scanMedia r dpa lines) (some 17) fun s =>
    let n := Inst.ldN r.inst
    if lines = 0 then (rangeAns 8, s)
    else if s.bgBusy r.inst ∨ (s.ld n).scrub.busy then (busyAns 0x000A, s)
    else
      let s := s.modScrub n fun x => { x with busy := true, scan := true, aborting := false, counts := scrubZero, progress := 0,
                                              startTick := s.now, incomplete := false, sumBase := dpa / 64 * 64, sumLen := lines * 64 }
      (startedAns, (s.modLd n fun l => { l with scanResults := [] }).bgStart r.inst 0x4304))

/-- GET_SCAN_MEDIA_RESULTS (R254): the lines poisoned by the last scan. -/
def execGetScanMediaResults (r : Req) (s : State) : Host.Outcome State Fault Refusal :=
  .next (s.mbx (.getScanMediaResults r) (some 0) fun s =>
    (okOut (.fields ((s.ld (Inst.ldN r.inst)).scanResults.flatMap fun (p : Nat × Nat) => [("dpa", p.1 * 64), ("lines", p.2)])), s))

/-- Whether a range covers all of an LD's allocated capacity (R252). -/
def State.coversAll (s : State) (n : Fin 16) (base len : Nat) : Bool :=
  let l := s.ld n
  let inside (b k : Nat) : Bool := k == 0 || (decide (base ≤ b) && decide (b + k ≤ base + len))
  inside l.partBase l.partSize && s.lk.extents.all fun (e : Extent) => !e.holders.contains n || inside e.base e.len

/-- Whether a scan poisons a line: its version is not poisoned before, and is once the line has been checked. -/
def State.newlyPoisoned (before after : State) (line : Nat) : Bool := before.version line ≠ .poison && after.version line == .poison

/-- The scan has reached its end, its lines checked without repair: the list's overflow ends once all of the LD has been covered, and the
lines poisoned are kept for Get Scan Media Results; it ends as a scrub ends (R155, log 84). -/
def State.scanEnd (s before : State) (n : Fin 16) (found : List LineFound) : State :=
  let x := (s.ld n).scrub
  let s := if s.coversAll n x.sumBase x.sumLen then { s with lk := { s.lk with poisonOverflow := none } } else s
  let lost := (inScrub x.sumBase x.sumLen found).filter fun f => before.newlyPoisoned s f.line
  ((s.scrubFinish n (scrubFlags true false false x.counts.skipped)).modScrub n fun x => { x with scan := false }).modLd n fun l =>
    { l with scanResults := lost.map fun f => (f.line, 1) }

/-! ### Sanitize and Secure Erase (R272; 02_persistence_contract.md Table 02-6) -/

/-- A device-wide erasure begins; it is durable, so that a loss of power lets it resume. -/
def State.eraseCmd (s : State) (i : Inst) (op : Nat) : Ans × State :=
  if s.bgBusy i ∨ s.mb.sanitize.isSome then (busyAns 0x000A, s)
  else (startedAns, (({ s with mb := { s.mb with sanitize := some (i, op) } }).save 42).bgStart i op)

/-- SANITIZE (R272). -/
def execSanitize (r : Req) (s : State) : Host.Outcome State Fault Refusal :=
  .next (s.mbx (.sanitize r) (some 0) fun s => s.eraseCmd r.inst 0x4400)

/-- SECURE_ERASE (R272). -/
def execSecureErase (r : Req) (s : State) : Host.Outcome State Fault Refusal :=
  .next (s.mbx (.secureErase r) (some 0) fun s => s.eraseCmd r.inst 0x4401)

/-- The erasure of an instance is carried out. -/
def State.eraseDone (s : State) (i : Inst) : State :=
  if s.mb.sanitize.any fun x => x.1 == i then (({ s with mb := { s.mb with sanitize := none } }).eraseAll).save 42 else s

/-- BACKGROUND_COMMAND_COMPLETE (R254, R269, R272): the instance's background command ends and reports its completion. A scan first
awaits the pilot reads of the blocks it reads (R141). -/
def execBackgroundCommandComplete (inst : Inst) (found lost : List LineFound) (s : State) : Host.Outcome State Fault Refusal :=
  match s.mb.inst[Inst.ix inst].bg with
  | some b =>
    if b.running ∧ s.lk.mediaReady then
      if b.opcode = 0x4304 then
        match s.scrubLines (Inst.ldN inst) false (found ++ lost) with
        | (none, t) => s.done t
        | (some t, _) => s.done ((t.scanEnd s (Inst.ldN inst) (found ++ lost)).bgEnd inst 0).judgeMarks
      else s.done ((s.eraseDone inst).bgEnd inst 0)
    else .next s
  | none => .next s

/-! ### Passphrases (R282, R283) -/

/-- Invalid Security State: 0x0005 frozen or locked, 0x000A otherwise. -/
def secState (reason : Nat) : Ans := codeAns 0x0013 reason

/-- The stored check value of a passphrase. -/
def Pass.check (p : Pass) (master : Bool) : Option Block128 := if master then p.master else p.user

/-- Failed attempts at a passphrase. -/
def Pass.tries (p : Pass) (master : Bool) : Nat := if master then p.masterTries else p.userTries

/-- A failed attempt. -/
def Pass.miss (p : Pass) (master : Bool) : Pass :=
  if master then { p with masterTries := p.masterTries + 1 } else { p with userTries := p.userTries + 1 }

/-- A passphrase set or removed: its check value, and its sealed record. -/
def Pass.put (p : Pass) (master : Bool) (c : Option Block128) (pw : Option Key) : Pass :=
  if master then { p with master := c, masterPw := pw } else { p with user := c, userPw := pw }

/-- One LD's passphrase state changed. -/
def State.modPass (s : State) (n : Fin 16) (f : Pass → Pass) : State := s.modLd n fun l => { l with pass := f l.pass }

/-- A passphrase judged; `none` where it is right. It allows 5 failed attempts. -/
def State.judgePass (s : State) (n : Fin 16) (master : Bool) (pw : Key) : Option Ans × State :=
  let p := (s.ld n).pass
  match p.check master with
  | none => (some (secState 0x000A), s)
  | some c =>
    if 5 ≤ p.tries master then (some (secState 0x000A), s)
    else match s.checkOf true 4 s.sec.keyPass.get pw with
      | (none, t) => (some (badAns (if t.sec.katFailed then 0x000A else 0x0006)), t)
      | (some v, t) => if v = c then (none, t) else (some (codeAns 0x0014 0), t.modPass n fun p => p.miss master)

/-- A new passphrase takes its check value and its sealed record. -/
def State.storePass (s : State) (n : Fin 16) (master : Bool) (pw : Key) : Ans × State :=
  match s.checkOf true 4 s.sec.keyPass.get pw with
  | (none, t) => (badAns (if t.sec.katFailed then 0x000A else 0x0006), t)
  | (some _, t) =>
    let t := t.sealUse
    (okAns, (t.modPass n fun p => p.put master (some (checkValue t.sec.keyPass.get pw)) (some pw)).save (512 + n.val))

/-- GET_SECURITY_STATE (R282). -/
def execGetSecurityState (r : Req) (s : State) : Host.Outcome State Fault Refusal :=
  .next (s.mbx (.getSecurityState r) (some 0) fun s =>
    let p := (s.ld (Inst.ldN r.inst)).pass
    (okOut (.bytes (le 4 (b2n p.user.isSome + 2 * b2n p.master.isSome + 4 * b2n p.locked + 8 * b2n p.frozen +
      16 * b2n (decide (5 ≤ p.userTries)) + 32 * b2n (decide (5 ≤ p.masterTries))))), s))

/-- SET_PASSPHRASE (R282): a passphrase already set is given first. -/
def execSetPassphrase (r : Req) (master : Bool) (old new : Key) (s : State) : Host.Outcome State Fault Refusal :=
  .next (s.mbx (.setPassphrase r master old new) (some 96) fun s =>
    let n := Inst.ldN r.inst
    let p := (s.ld n).pass
    if p.frozen ∨ p.locked then (secState 0x0005, s)
    else if (p.check master).isSome then
      match s.judgePass n master old with
      | (some a, s) => (a, s)
      | (none, s) => s.storePass n master new
    else s.storePass n master new)

/-- DISABLE_PASSPHRASE (R282). -/
def execDisablePassphrase (r : Req) (master : Bool) (pass : Key) (s : State) : Host.Outcome State Fault Refusal :=
  .next (s.mbx (.disablePassphrase r master pass) (some 64) fun s =>
    let n := Inst.ldN r.inst
    let p := (s.ld n).pass
    if p.frozen ∨ p.locked then (secState 0x0005, s)
    else match s.judgePass n master pass with
      | (some a, s) => (a, s)
      | (none, s) => (okAns, (s.modPass n fun p => p.put master none none).save (512 + n.val)))

/-- UNLOCK (R282). -/
def execUnlock (r : Req) (pass : Key) (s : State) : Host.Outcome State Fault Refusal :=
  .next (s.mbx (.unlock r pass) (some 32) fun s =>
    let n := Inst.ldN r.inst
    let p := (s.ld n).pass
    if p.frozen then (secState 0x0005, s)
    else if p.locked = false then (secState 0x000A, s)
    else match s.judgePass n false pass with
      | (some a, s) => (a, s)
      | (none, s) => (okAns, s.modPass n fun p => { p with locked := false }))

/-- FREEZE_SECURITY_STATE (R282): until the next conventional reset of the LD's port. -/
def execFreezeSecurityState (r : Req) (s : State) : Host.Outcome State Fault Refusal :=
  .next (s.mbx (.freezeSecurityState r) (some 0) fun s => (okAns, s.modPass (Inst.ldN r.inst) fun p => { p with frozen := true }))

/-- PASSPHRASE_SECURE_ERASE (R283): the command completes once the LD's capacity is erased and it is unlocked. -/
def execPassphraseSecureErase (r : Req) (master : Bool) (pass : Key) (s : State) : Host.Outcome State Fault Refusal :=
  .next (s.mbx (.passphraseSecureErase r master pass) (some 64) fun s =>
    let n := Inst.ldN r.inst
    if (s.ld n).pass.frozen then (secState 0x0005, s)
    else match s.judgePass n master pass with
      | (some a, s) => (a, s)
      | (none, s) => (okAns, s.eraseLd n))

/-- SECURITY_SEND (R272): Unsupported. -/
def execSecuritySend (r : Req) (s : State) : Host.Outcome State Fault Refusal :=
  .next (s.mbx (.securitySend r) none fun s => (unsupportedAns, s))

/-- SECURITY_RECEIVE (R272): Unsupported. -/
def execSecurityReceive (r : Req) (s : State) : Host.Outcome State Fault Refusal :=
  .next (s.mbx (.securityReceive r) none fun s => (unsupportedAns, s))

end Sys2Proof.Machine
end

