-- ==== Sys2Proof/Machine/DcCmds.lean ====
section
/-! DEFINITION. Dynamic capacity and the FM API: how capacity is divided, offered, accepted and released, and QoS
(10_cxl_interface.md R244, R246 to R248, R256; 11_mailbox_and_sessions.md R273). -/

namespace Sys2Proof.Machine

/-- 256 MiB. -/
def blk256 : Nat := 2 ^ 28

/-! ### Division of the capacity (R244) -/

/-- Bases of consecutive pieces from `at0` on. -/
def basesFrom (at0 : Nat) : List Nat → List Nat
  | [] => []
  | n :: l => at0 :: basesFrom (at0 + n) l

/-- Sizes of the static partitions. -/
def State.partSizes (s : State) : List Nat := s.lds.toList.map fun (l : LD) => l.partSize

/-- Lengths of the DC regions. -/
def State.dcLens (s : State) : List Nat := s.lk.dcRegions.toList.map fun (d : DcRegion) => d.len

/-- Whether a piece that moves or shrinks holds a granule that is not unwritten. -/
def State.pieceHeld (s : State) (base len base' len' : Nat) : Bool := (base ≠ base' || decide (len' < len)) && s.hasData base len

/-- Whether a new division must be refused: it does not fit, or it moves or shrinks a partition or a region in use. -/
def State.divisionBad (s : State) (parts dcs : List Nat) : Bool :=
  let pb := basesFrom 0 parts
  let db := basesFrom parts.sum dcs
  decide (s.capacity < parts.sum + dcs.sum) ||
  (allFin 16).any (fun n => s.pieceHeld (s.ld n).partBase (s.ld n).partSize (pb.getD n.val 0) (parts.getD n.val 0)) ||
  (allFin 8).any fun k =>
    let d := s.lk.dcRegions[k]
    s.pieceHeld d.base d.len (db.getD k.val 0) (dcs.getD k.val 0) ||
    ((d.base ≠ db.getD k.val 0 || decide (dcs.getD k.val 0 < d.len)) && s.lk.extents.any fun (e : Extent) => e.region == k.val)

/-- The new division takes effect; an LD whose transactional region it takes away loses that region as by a release (R169). -/
def State.divide (s : State) (parts dcs : List Nat) : State :=
  let pb := basesFrom 0 parts
  let db := basesFrom parts.sum dcs
  let old := s.lds
  let s : State := { s with
    lds := .ofFn fun n => { s.lds[n] with partBase := pb.getD n.val 0, partSize := parts.getD n.val 0 },
    lk := { s.lk with dcRegions := .ofFn fun k => { s.lk.dcRegions[k] with base := db.getD k.val 0, len := dcs.getD k.val 0 } } }
  let s := (allFin 16).foldl (fun (s : State) n =>
    let c := (s.ld n).cw
    if c.en ∧ (old[n].partBase ≠ (s.ld n).partBase ∨ old[n].partSize ≠ (s.ld n).partSize) ∧ s.rangeHeld n c.base c.bytes = false then
      (s.regionDisable n).modCw n fun c => { c with cfgerr := true }
    else s) s
  (s.save 44).save 45

/-- GET_LD_INFO (R273). -/
def execGetLdInfo (r : Req) (s : State) : Host.Outcome State Fault Refusal :=
  .next (s.mbx (.getLdInfo r) (some 0) fun s =>
    (okOut (.fields [("memorySize", s.capacity), ("ldCount", 16), ("granularity", blk256), ("epcCapable", 0), ("ttrCapable", 0)]), s))

/-- GET_LD_ALLOCATIONS (R244, R273): static partitions in multiples of 256 MiB. -/
def execGetLdAllocations (r : Req) (s : State) : Host.Outcome State Fault Refusal :=
  .next (s.mbx (.getLdAllocations r) none fun s =>
    (okOut (.fields ([("granularity", blk256)] ++ s.partSizes.map fun n => ("units", n / blk256))), s))

/-- SET_LD_ALLOCATIONS (R244): sizes of the LDs from `start` on. -/
def execSetLdAllocations (r : Req) (start : Nat) (units : List Nat) (s : State) : Host.Outcome State Fault Refusal :=
  .next (s.mbx (.setLdAllocations r start units) (some (4 + 16 * units.length)) fun s =>
    if 16 < start + units.length then (rangeAns 1, s)
    else
      let parts := (s.partSizes.take start) ++ (units.map (· * blk256)) ++ s.partSizes.drop (start + units.length)
      if s.divisionBad parts s.dcLens then (badAns 0x000A, s) else (okAns, s.divide parts s.dcLens))

/-- GET_DCD_INFO (R246). -/
def execGetDcdInfo (r : Req) (s : State) : Host.Outcome State Fault Refusal :=
  .next (s.mbx (.getDcdInfo r) (some 0) fun s =>
    (okOut (.fields [("hosts", 16), ("regions", 8), ("blockSize", blk256), ("sanitizeOnRelease", 1), ("capacity", s.capacity),
      ("extentsPerLd", 512), ("extents", 4096)]), s))

/-- The fields of the 8 DC regions. -/
def State.regionFields (s : State) : List (String × Nat) :=
  s.lk.dcRegions.toList.flatMap fun (d : DcRegion) => [("base", d.base), ("len", d.len), ("blockSize", blk256), ("sharable", b2n d.sharable),
    ("sanitizeOnRelease", 1)]

/-- GET_HOST_DC_REGION_CONFIG (R246, R273). -/
def execGetHostDcRegionConfig (r : Req) (ld : Nat) (s : State) : Host.Outcome State Fault Refusal :=
  .next (s.mbx (.getHostDcRegionConfig r ld) none fun s =>
    if 16 ≤ ld then (rangeAns 0, s) else (okOut (.fields s.regionFields), s))

/-- SET_DC_REGION_CONFIG (R244, R246). -/
def execSetDcRegionConfig (r : Req) (region units : Nat) (sharable : Bool) (s : State) : Host.Outcome State Fault Refusal :=
  .next (s.mbx (.setDcRegionConfig r region units sharable) none fun s =>
    if h : region < 8 then
      let dcs := s.dcLens.set region (units * blk256)
      if s.divisionBad s.partSizes dcs then (badAns 0x000A, s)
      else
        let s := s.divide s.partSizes dcs
        (okAns, { s with lk := { s.lk with dcRegions := vmod s.lk.dcRegions (⟨region, h⟩ : Fin 8) fun d => { d with sharable := sharable } } })
    else (rangeAns 0, s))

/-! ### Extents (R246 to R248) -/

/-- Extents that an LD holds. -/
def State.heldExtents (s : State) (n : Fin 16) : List Extent := s.lk.extents.filter fun (e : Extent) => e.holders.contains n

/-- The fields of a list of extents. -/
def extentFields (l : List Extent) : List (String × Nat) := l.flatMap fun (e : Extent) => [("base", e.base), ("len", e.len), ("region", e.region)]

/-- GET_DC_CONFIG (R246): the regions of the LD. -/
def execGetDcConfig (r : Req) (s : State) : Host.Outcome State Fault Refusal :=
  .next (s.mbx (.getDcConfig r) none fun s =>
    (okOut (.fields ([("regions", 8), ("extents", 512), ("available", 512 - (s.heldExtents (Inst.ldN r.inst)).length)] ++ s.regionFields)), s))

/-- GET_DC_EXTENT_LIST (R246). -/
def execGetDcExtentList (r : Req) (start count : Nat) (s : State) : Host.Outcome State Fault Refusal :=
  .next (s.mbx (.getDcExtentList r start count) (some 8) fun s =>
    let l := s.heldExtents (Inst.ldN r.inst)
    (okOut (.fields ([("total", l.length)] ++ extentFields ((l.drop start).take count))), s))

/-- GET_DC_REGION_EXTENT_LISTS (R246, R273). -/
def execGetDcRegionExtentLists (r : Req) (ld : Nat) (s : State) : Host.Outcome State Fault Refusal :=
  .next (s.mbx (.getDcRegionExtentLists r ld) none fun s =>
    if h : ld < 16 then (okOut (.fields (extentFields (s.heldExtents ⟨ld, h⟩))), s) else (rangeAns 0, s))

/-- The DC region that covers a range of whole blocks. -/
def State.dcOf (s : State) (q : Range) : Option (Fin 8) :=
  if q.len = 0 ∨ q.base % blk256 ≠ 0 ∨ q.len % blk256 ≠ 0 then none
  else (allFin 8).find? fun k => Range.inside q ⟨s.lk.dcRegions[k].base, s.lk.dcRegions[k].len⟩

/-- An extent offered to an LD: a new one, or another offer of an extent of a sharable region; `none` where it cannot be. -/
def State.offer (s : State) (n : Fin 16) (q : Range) (k : Fin 8) : Option State :=
  let near := s.lk.extents.filter fun (e : Extent) => decide (e.base < q.base + q.len) && decide (q.base < e.base + e.len)
  match near with
  | [] =>
    if s.lk.extents.length < 4096 then some { s with lk := { s.lk with extents := s.lk.extents ++ [⟨q.base, q.len, k.val, [], [n], []⟩] } }
    else none
  | [e] =>
    if e.range = q ∧ s.lk.dcRegions[k].sharable ∧ (e.holders ++ e.offered ++ e.releasing).contains n = false then
      some { s with lk := { s.lk with extents := s.lk.extents.map fun (x : Extent) => if x = e then { x with offered := x.offered ++ [n] } else x } }
    else none
  | _ => none

/-- INITIATE_DC_ADD (R246, R247): capacity is offered; the LD's response allocates it. -/
def execInitiateDcAdd (r : Req) (ld : Nat) (range : Range) (s : State) : Host.Outcome State Fault Refusal :=
  .next (s.mbx (.initiateDcAdd r ld range) none fun s =>
    if h : ld < 16 then
      match s.dcOf range with
      | none => (badAns 0x000A, s)
      | some k => match s.offer ⟨ld, h⟩ range k with
        | some t => (okAns, t)
        | none => (badAns 0x000A, s)
    else (rangeAns 0, s))

/-- Whether a range lies in an extent offered to an LD. -/
def State.offered (s : State) (n : Fin 16) (q : Range) : Bool :=
  decide (0 < q.len) && q.base % blk256 == 0 && q.len % blk256 == 0 &&
    s.lk.extents.any fun (e : Extent) => e.offered.contains n && Range.inside q e.range

/-- The extents after an LD's response: what it accepts is its own, what it was offered besides is withdrawn. -/
def acceptExtents (n : Fin 16) (accept : List Range) (l : List Extent) : List Extent :=
  let cut := accept.foldl (fun (l : List Extent) q => l.flatMap (cutExtent q)) l
  liveExtents (cut.map fun (e : Extent) =>
    if e.offered.contains n then
      { e with offered := e.offered.filter (· ≠ n),
               holders := if accept.any fun q => Range.inside e.range q then e.holders ++ [n] else e.holders }
    else e)

/-- ADD_DC_RESPONSE (R246, R247): the accepted extents are allocated to the LD from here on. -/
def execAddDcResponse (r : Req) (accept : List Range) (s : State) : Host.Outcome State Fault Refusal :=
  .next (s.mbx (.addDcResponse r accept) (some (8 + 32 * accept.length)) fun s =>
    let n := Inst.ldN r.inst
    if accept.all (s.offered n) = false then (badAns 0x000A, s)
    else
      let l := acceptExtents n accept s.lk.extents
      if 512 < (l.filter fun (e : Extent) => e.holders.contains n).length then (badAns 0x000A, s)
      else (okAns, { s with lk := { s.lk with extents := l } }))

/-- A release of ranges of an LD (R248): begun at once, ended once its requests there have completed; until then the command is held. -/
def State.dcRelease (s : State) (c : Instr) (n : Fin 16) (qs : List Range) : Option Ans × State :=
  let begun := qs.all (s.releasing n)
  if begun = false ∧ qs.all (s.mayRelease n) = false then (some (badAns 0x000A), s)
  else
    let s := if begun then s else qs.foldl (fun (s : State) q => s.releaseBegin n q) s
    if qs.any (s.rangeBusy n) then (none, { s with held := s.held ++ [c] })
    else (some okAns, qs.foldl (fun (s : State) q => s.releaseDone n q) s)

/-- RELEASE_DC (R248). -/
def execReleaseDc (r : Req) (ranges : List Range) (s : State) : Host.Outcome State Fault Refusal :=
  .next (s.mbxLater (.releaseDc r ranges) (some (8 + 32 * ranges.length)) fun s =>
    s.dcRelease (.releaseDc r ranges) (Inst.ldN r.inst) ranges)

/-- INITIATE_DC_RELEASE (R248): a forced release acts as the LD's own; another only asks the host. -/
def execInitiateDcRelease (r : Req) (ld : Nat) (range : Range) (force : Bool) (s : State) : Host.Outcome State Fault Refusal :=
  .next (s.mbxLater (.initiateDcRelease r ld range force) none fun s =>
    if h : ld < 16 then
      if force then s.dcRelease (.initiateDcRelease r ld range force) ⟨ld, h⟩ [range]
      else if s.mayRelease ⟨ld, h⟩ range then (some okAns, s)
      else (some (badAns 0x000A), s)
    else (some (rangeAns 0), s))

/-- Whether a held release still waits for requests of its LD (R248). -/
def State.releaseWaits (s : State) (c : Instr) : Bool := match c with
  | .releaseDc r ranges => ranges.any (s.rangeBusy (Inst.ldN r.inst)) && ranges.all (s.releasing (Inst.ldN r.inst))
  | .initiateDcRelease _ ld range true => if h : ld < 16 then s.rangeBusy ⟨ld, h⟩ range && s.releasing ⟨ld, h⟩ range else false
  | _ => false

/-! ### QoS (R256, R273) -/

/-- GET_QOS_CONTROL (R273). -/
def execGetQosControl (r : Req) (s : State) : Host.Outcome State Fault Refusal :=
  .next (s.mbx (.getQosControl r) (some 0) fun s =>
    (okOut (.fields [("egressCongestion", b2n s.lk.epcEn), ("throughputReduction", b2n s.lk.ttrEn), ("value", s.lk.qosValue)]), s))

/-- SET_QOS_CONTROL (R273): Egress Port Congestion and Temporary Throughput Reduction must be 0. -/
def execSetQosControl (r : Req) (epc ttr : Bool) (value : Nat) (s : State) : Host.Outcome State Fault Refusal :=
  .next (s.mbx (.setQosControl r epc ttr value) (some 7) fun s =>
    if epc ∨ ttr then (badAns 0x000A, s)
    else (okAns, { s with lk := { s.lk with epcEn := epc, ttrEn := ttr, qosValue := value } }))

/-- GET_QOS_STATUS (R273): the highest DevLoad of any LD. -/
def execGetQosStatus (r : Req) (s : State) : Host.Outcome State Fault Refusal :=
  .next (s.mbx (.getQosStatus r) (some 0) fun s =>
    (okOut (.fields [("devLoad", (allFin 16).foldl (fun m n => max m (s.devLoad n)) 0)]), s))

/-- GET_QOS_ALLOCATED_BW (R256). -/
def execGetQosAllocatedBw (r : Req) (s : State) : Host.Outcome State Fault Refusal :=
  .next (s.mbx (.getQosAllocatedBw r) none fun s => (okOut (.bytes (s.lds.toList.map fun (l : LD) => BitVec.ofNat 8 l.weightF)), s))

/-- A fraction set for each LD from `start` on. -/
def State.setFractions (s : State) (start : Nat) (fractions : List Byte) (f : LD → Nat → LD) : State :=
  { s with lds := .ofFn fun n => if start ≤ n.val ∧ n.val < start + fractions.length then f s.lds[n] (fractions.getD (n.val - start) 0).toNat
                                 else s.lds[n] }

/-- SET_QOS_ALLOCATED_BW (R256). -/
def execSetQosAllocatedBw (r : Req) (start : Nat) (fractions : List Byte) (s : State) : Host.Outcome State Fault Refusal :=
  .next (s.mbx (.setQosAllocatedBw r start fractions) (some (2 + fractions.length)) fun s =>
    if 16 < start + fractions.length then (rangeAns 1, s)
    else (okAns, s.setFractions start fractions fun l x => { l with weightF := x }))

/-- GET_QOS_BW_LIMIT (R256). -/
def execGetQosBwLimit (r : Req) (s : State) : Host.Outcome State Fault Refusal :=
  .next (s.mbx (.getQosBwLimit r) none fun s => (okOut (.bytes (s.lds.toList.map fun (l : LD) => BitVec.ofNat 8 l.limitN)), s))

/-- SET_QOS_BW_LIMIT (R256). -/
def execSetQosBwLimit (r : Req) (start : Nat) (fractions : List Byte) (s : State) : Host.Outcome State Fault Refusal :=
  .next (s.mbx (.setQosBwLimit r start fractions) (some (2 + fractions.length)) fun s =>
    if 16 < start + fractions.length then (rangeAns 1, s)
    else (okAns, s.setFractions start fractions fun l x => { l with limitN := x }))

end Sys2Proof.Machine
end

