-- ==== Sys2Proof/Machine/MediaChan.lean ====
section
/-! DEFINITION. What the channel controller reads when a die pulls RDY_N or ALERT_N (19_media_channels.md R431 to R434; 09 R219, R230). -/

namespace Sys2Proof.Machine

/-- Number of a tile in the table of status bytes. -/
def tileCode (d : DieKey) (t : Fin 8) : Nat := dieCode d * 8 + t.val

/-- A STATUS read returns the byte and clears DONE, REJ, CRCERR and CORR in the die (Table 19-5); a burst that the die refused for its CRC is sent
again, which is one bus retry (R434). -/
def State.statusRead (s : State) (d : DieKey) (t : Fin 8) (st : Byte) : State :=
  let s := s.vyvon ⟨d, t.val, 0, false⟩ .status
  let m := { s.md with status := tput 0 (tileCode d t) (st &&& 0xC6) s.md.status }
  { s with md := if st.getLsbD 4 then { m with retries := noteAt s.now d.chan 1 m.retries } else m }

/-- A FATAL status is the die indication of Table 09-2: of the whole die where SCOPE is set, else of the tile (R433). -/
def State.fatalRead (s : State) (d : DieKey) (t : Fin 8) (st : Byte) : State :=
  if st.getLsbD 6 then
    let u : FUnit := if st.getLsbD 7 then .die d else .tile d t
    if s.unitOut u then s else s.faultJoin u true
  else s

/-- Whether a die can be read: the data die runs, the channel and die are populated and the channel is not isolated (Table 09-5). -/
def State.dieThere (s : State) (d : DieKey) : Bool :=
  s.pw.dieUp && decide (d.chan.val < s.hw.channels) && decide (d.die.val < s.hw.dies) && !s.rd.chans[d.chan].gone && !s.md.lostDies.contains d

/-- RDY_N_FALL (R433): the status of the tile is read at once. -/
def execRdyNFall (chan : Fin 64) (die : Fin 16) (tile : Fin 8) (status : Byte) (s : State) : Host.Outcome State Fault Refusal :=
  let d : DieKey := ⟨chan, die⟩
  .next (if s.dieThere d then (s.statusRead d tile status).fatalRead d tile status else s)

/-- ALERT_N_FALL (R433): one report for Table 09-5, and the status is read. -/
def execAlertNFall (chan : Fin 64) (die : Fin 16) (tile : Fin 8) (status : Byte) (s : State) : Host.Outcome State Fault Refusal :=
  let d : DieKey := ⟨chan, die⟩
  if s.dieThere d then
    let t := { s with md := { s.md with alerts := noteAt s.now chan 1 s.md.alerts } }
    .next ((t.statusRead d tile status).fatalRead d tile status)
  else .next s

end Sys2Proof.Machine
end

