-- ==== Sys2Proof/Machine/VendorCmds.lean ====
section
/-! DEFINITION. The vendor commands of identity, channels, recovery, groups, regions, logs, cache and patrol (11_mailbox_and_sessions.md
R281, Table 11-7, and the chapters named at each). -/

namespace Sys2Proof.Machine

/-! ### Identity and population (00_scope.md R6, R7) -/

/-- GET_DEVICE_IDENTITY (R6, Table 11-7): the version is that of the running image, 0 while none runs. -/
def execGetDeviceIdentity (r : Req) (s : State) : Host.Outcome State Fault Refusal :=
  .next (s.mbx (.getDeviceIdentity r) (some 0) fun s =>
    let h := s.hw
    (okOut (.bytes (le 1 (b2n (h.bin == .p)) ++ le 1 (b2n (h.grade == .x)) ++ le 1 h.channels ++ le 1 h.dies ++ le 1 s.numSets ++
      le 1 (Point.code s.pw.selected) ++ le 1 (Point.code s.pw.present) ++ le 1 0 ++ le 8 (imageVersion s.sec.running) ++
      le 8 h.serial.toNat ++ le 2 s.lo.proto ++ le 2 s.kp.formatLevel ++ le 8 s.kp.poolId.toNat ++ le 2 s.kp.memberId.toNat)), s))

/-- Codes of channel states (Table 11-7). -/
def ChanState.code : ChanState → Nat
  | .inService => 0
  | .suspect => 1
  | .failing => 2
  | .out => 3
  | .draining => 4
  | .replaced => 5

/-- Dies of a channel in service. -/
def State.chanDies (s : State) (c : Fin 64) : List DieKey :=
  (allFin 16).filterMap fun d =>
    if d.val < s.hw.dies ∧ s.rd.chans[c].gone = false ∧ s.md.lostDies.contains ⟨c, d⟩ = false then some ⟨c, d⟩ else none

/-- The 8 bytes of a channel (Table 11-7): its hottest die is a free value while none has been measured. -/
def State.chanBytes (s : State) (c : Fin 64) : List Byte × State :=
  if c.val < s.hw.channels then
    let (t, s) := s.degByte (maxTemp ((s.chanDies c).map fun d => (s.mediaSensor d).eff true))
    let n := ((lastSec s.now s.md.retries).filter fun x => x.1 = c).length
    (le 1 s.rd.chans[c].code ++ le 1 (s.chanDies c).length ++ [t] ++ zeros 1 ++ le 4 n, s)
  else (le 1 0xFF ++ zeros 7, s)

/-- The bytes of several channels, in order. -/
def State.chansBytes (s : State) : List (Fin 64) → List Byte × State
  | [] => ([], s)
  | c :: cs =>
    let (a, s) := s.chanBytes c
    let (b, s) := State.chansBytes s cs
    (a ++ b, s)

/-- GET_CHANNEL_STATUS (R281). -/
def execGetChannelStatus (r : Req) (first count : Nat) (s : State) : Host.Outcome State Fault Refusal :=
  .next (s.mbx (.getChannelStatus r first count) (some 2) fun s =>
    if 63 < first then (rangeAns 0, s)
    else if count = 0 ∨ 64 < count ∨ 64 < first + count then (rangeAns 1, s)
    else
      let (l, s) := s.chansBytes ((allFin 64).filter fun c => first ≤ c.val ∧ c.val < first + count)
      (okOut (.bytes l), s))

/-! ### Recovery report and group outcomes (02_persistence_contract.md R42; 07_commit_groups.md R180) -/

/-- A torn-entry record (Table 02-5). -/
def TornRec.bytes (t : TornRec) : List Byte :=
  le 8 (t.line * 64) ++ le 6 t.seq ++
  le 1 (t.ld.val + 16 * b2n t.dpaV + 32 * b2n t.seqV + 64 * b2n t.ldV + 128 * b2n t.win.isSome) ++
  le 1 ((t.win.map fun w => w.val).getD 0 + 64 * t.reason)

/-- The header of the recovery report (Table 02-4). -/
def RecoveryReport.header (x : RecoveryReport) (listed first returned : Nat) : List Byte :=
  le 2 1 ++ le 1 x.bootType ++ le 1 x.lastShutdown ++ le 4 x.dsc ++ le 8 x.replayed ++ le 4 x.reduplicated ++ le 4 x.tornTotal ++
  le 2 listed ++ le 1 x.flags ++ zeros 1 ++ le 4 x.poisoned ++ le 8 x.replayTicks ++ le 6 x.highSeq ++ le 2 first ++ le 2 returned ++ zeros 14

/-- The torn entries that an instance is shown: a primary mailbox leaves out those of another LD (Table 11-7). -/
def State.tornFor (s : State) (i : Inst) : List TornRec :=
  match i with
  | .ld n => s.kp.report.torn.filter fun t => !t.ldV || t.ld == n
  | _ => s.kp.report.torn

/-- GET_RECOVERY_REPORT (R42): the header, and up to 1,020 records from FIRST. -/
def execGetRecoveryReport (r : Req) (first : Nat) (s : State) : Host.Outcome State Fault Refusal :=
  .next (s.mbx (.getRecoveryReport r first) (some 2) fun s =>
    if 4095 < first then (rangeAns 0, s)
    else
      let l := s.tornFor r.inst
      let page := (l.drop first).take 1020
      (okOut (.bytes (s.kp.report.header l.length first page.length ++ page.flatMap TornRec.bytes)), s))

/-- One record of Table 07-16. -/
def GroupRec.bytes (g : GroupRec) (w : Fin 64) : List Byte :=
  le 6 g.lastGseq ++ le 1 g.lastOutcome ++ le 1 (w.val + 64 * b2n g.enabled) ++ le 3 g.lastCount ++ zeros 1 ++ le 6 g.infGseq ++
  le 1 g.infOutcome ++ le 3 g.infCount ++ zeros 10

/-- GET_GROUP_OUTCOMES (R180): an input that is not empty is Invalid Input. -/
def execGetGroupOutcomes (r : Req) (s : State) : Host.Outcome State Fault Refusal :=
  .next (s.mbx (.getGroupOutcomes r) none fun s =>
    if r.len ≠ 0 then (badAns 0x000A, s)
    else
      let recs := (allFin 64).flatMap fun w => GroupRec.bytes (s.kp.groupReport[Inst.ldN r.inst])[w] w
      (okOut (.bytes (le 2 1 ++ le 1 s.kp.groupBoot ++ zeros 13 ++ recs)), s))

/-- SET_GROUP_QUOTA (R166, Table 11-7): a quota below the present count is accepted. -/
def execSetGroupQuota (r : Req) (ld quota : Nat) (s : State) : Host.Outcome State Fault Refusal :=
  .next (s.mbx (.setGroupQuota r ld quota) (some 8) fun s =>
    if h : ld < 16 then
      if 2 ^ 24 < quota then (rangeAns 4, s) else (okAns, s.modCw ⟨ld, h⟩ fun c => { c with quota := quota })
    else (rangeAns 0, s))

/-! ### Stripe sets (09_redundancy_and_degraded.md R227, R229) -/

/-- The positions of a set whose channel is out. -/
def State.outPos (s : State) (k : Fin 4) : List (Fin 16) := (allFin 16).filter fun p => s.rd.chans[chanOf k p] = .out

/-- GET_STRIPE_SET_STATUS (R227, Table 11-7). -/
def execGetStripeSetStatus (r : Req) (set : Nat) (s : State) : Host.Outcome State Fault Refusal :=
  .next (s.mbx (.getStripeSetStatus r set) (some 1) fun s =>
    if h : set < 4 then
      if s.numSets ≤ set then (rangeAns 0, s)
      else
        let k : Fin 4 := ⟨set, h⟩
        let x := s.rd.sets[k]
        let out := s.outPos k
        (okOut (.bytes (le 1 x.state.code ++ le 1 out.length ++ le 2 (out.foldl (fun n p => n + 2 ^ p.val) 0) ++ le 1 (b2n x.auto) ++
          le 1 x.prio ++ le 1 (b2n (s.kp.eolSets.contains k)) ++ zeros 1 ++ le 4 s.fo.spare[k].usable ++ le 4 x.rebuilt ++
          le 4 x.toRebuild)), s)
    else (rangeAns 0, s))

/-- Whether Retire Channel is accepted (R229). -/
def State.mayRetire (s : State) (c : Fin 64) : Bool :=
  let k := setOfChan c
  let gone := (allFin 16).filter fun p => s.rd.chans[chanOf k p].gone || s.rd.chans[chanOf k p] == .draining
  s.rd.chans[c].serves && (s.rd.sets[k].state == .optimal || s.rd.sets[k].state == .rebuilt) && decide (gone.length < 2)

/-- RETIRE_CHANNEL (R229). -/
def execRetireChannel (r : Req) (chan : Nat) (s : State) : Host.Outcome State Fault Refusal :=
  .next (s.mbx (.retireChannel r chan) (some 1) fun s =>
    if h : chan < 64 then
      if s.hw.channels ≤ chan then (rangeAns 0, s)
      else if s.mayRetire ⟨chan, h⟩ then (okAns, (s.startDrain ⟨chan, h⟩).judgeMarks)
      else (badAns 0x000A, s)
    else (rangeAns 0, s))

/-- START accepted (R227): rebuild starts in a degraded set that is not rebuilding, and when restoration ends in one that is restoring, before
which no rebuild work is taken (R34). -/
def State.startCommand (s : State) (k : Fin 4) : State :=
  let x := s.rd.sets[k]
  if x.rebuilding then s
  else if x.state = .degraded then s.rebuildStart k
  else if x.state = .restoring then s.modSet k fun y => { y with asked := true }
  else s

/-- SET_REBUILD_CONTROL (R227). -/
def execSetRebuildControl (r : Req) (set : Nat) (auto start : Bool) (prio : Nat) (s : State) : Host.Outcome State Fault Refusal :=
  .next (s.mbx (.setRebuildControl r set auto start prio) (some 3) fun s =>
    if h : set < 4 then
      let k : Fin 4 := ⟨set, h⟩
      if s.numSets ≤ set then (rangeAns 0, s)
      else if 2 < prio then (rangeAns 2, s)
      else if start ∧ (s.rd.sets[k].state = .exposed ∨ (s.outPos k).isEmpty) then (badAns 0x000A, s)
      else
        let s := s.modSet k fun x => { x with auto := auto, prio := prio }
        (okAns, if start then s.startCommand k else s)
    else (rangeAns 0, s))

/-! ### Regions (08_inline_encryption.md R186 to R188, R204 to R207) -/

/-- Whether a range lies in the capacity allocated to one LD, or in one shared extent (R186). -/
def State.ownRange (s : State) (base size : Nat) : Bool :=
  (allFin 16).any fun n =>
    (s.ld n).partBase ≤ base && base + size ≤ (s.ld n).partBase + (s.ld n).partSize ||
    s.rangeHeld n base size && s.lk.extents.all (fun e => decide (e.base + e.len ≤ base) || decide (base + size ≤ e.base) ||
      decide (e.holders.length ≤ 1) || (decide (e.base ≤ base) && decide (base + size ≤ e.base + e.len)))

/-- Whether a range meets a region other than region 0. -/
def State.regionMeets (s : State) (base size : Nat) : Bool :=
  (allFin 256).any fun r => r.val ≠ 0 && s.cr.regions[r].state ≠ .free && s.cr.regions[r].base < base + size &&
    base < s.cr.regions[r].base + s.cr.regions[r].size

/-- Pages of a range that region 0 left under its next key are plain pages of the region that takes them. -/
def State.clearEarly (s : State) (base size : Nat) : State :=
  let pages := s.cr.blocks.filter fun b => b.2.early && decide (base ≤ b.1 * 4096) && decide (b.1 * 4096 < base + size)
  let s := pages.foldl (fun (s : State) b => s.setBlock b.1 { b.2 with early := false }) s
  s.modRegion 0 fun x => { x with early := x.early - pages.length }

/-- A region enters Active with both keys drawn and sealed (Table 08-2). -/
def State.makeRegion (s : State) (r : Fin 256) (base size : Nat) : State :=
  let (a, s) := (s.clearEarly base size).drawKey (1024 + 2 * r.val)
  let (b, s) := s.drawKey (1025 + 2 * r.val)
  s.modRegion r fun _ => { Region.init with state := .active, base := base, size := size, keyA := a, keyB := b }

/-- CONFIGURE_REGION (R186, R187). -/
def execConfigureRegion (r : Req) (region base size : Nat) (s : State) : Host.Outcome State Fault Refusal :=
  .next (s.mbx (.configureRegion r region base size) (some 24) fun s =>
    if h : region < 256 then
      let x := s.cr.regions[region]
      if region = 0 then (rangeAns 0, s)
      else if base % 2 ^ 28 ≠ 0 then (rangeAns 8, s)
      else if size % 2 ^ 28 ≠ 0 ∨ size = 0 then (rangeAns 16, s)
      else if x.state = .rekeying then (busyAns 0x000A, s)
      else if x.state = .active ∨ s.ownRange base size = false ∨ s.regionMeets base size ∨ s.hasData base size then (badAns 0x000A, s)
      else (okAns, s.makeRegion ⟨region, h⟩ base size)
    else (rangeAns 0, s))

/-- A region is freed: both keys are wiped from the secure bank and the keeper store. -/
def State.freeRegion (s : State) (r : Fin 256) : State :=
  ((s.modRegion r fun _ => Region.init).store 1 (1024 + 2 * r.val) 48).store 1 (1025 + 2 * r.val) 48

/-- REMOVE_REGION (R187): region 0 is never free. -/
def execRemoveRegion (r : Req) (region : Nat) (s : State) : Host.Outcome State Fault Refusal :=
  .next (s.mbx (.removeRegion r region) (some 1) fun s =>
    if h : region < 256 then
      let x := s.cr.regions[region]
      if region = 0 then (rangeAns 0, s)
      else if x.state = .rekeying then (busyAns 0x000A, s)
      else if x.state = .free ∨ s.hasData x.base x.size then (badAns 0x000A, s)
      else (okAns, s.freeRegion ⟨region, h⟩)
    else (rangeAns 0, s))

/-- The next key of a region is replaced (R187). -/
def State.putNextKey (s : State) (r : Fin 256) (k : SealedKey) : State :=
  s.modRegion r fun x => if x.cur then { x with keyA := k } else { x with keyB := k }

/-- The store item of a region's next key. -/
def State.nextKeyItem (s : State) (r : Fin 256) : Nat := 1024 + 2 * r.val + b2n (!s.cr.regions[r].cur)

/-- SET_NEXT_KEY (R187, R188): generated, or imported under the session's slot key. -/
def execSetNextKey (r : Req) (region mode : Nat) (key : BitVec 320) (s : State) : Host.Outcome State Fault Refusal :=
  .next (s.mbx (.setNextKey r region mode key) (some 48) fun s =>
    if h : region < 256 then
      let n : Fin 256 := ⟨region, h⟩
      if 1 < mode then (rangeAns 1, s)
      else if mode = 0 ∧ key ≠ 0 then (rangeAns 8, s)
      else if s.cr.regions[n].state = .rekeying then (busyAns 0x000A, s)
      else if s.cr.regions[n].state = .free then (badAns 0x000A, s)
      else if mode = 0 then
        let (k, s) := s.drawKey (s.nextKeyItem n)
        (okAns, s.putNextKey n k)
      else match s.session r.inst with
        | none => (badAns 0x0001, s)
        | some x => match s.unwrap x.slot key with
          | (none, s) => (s.unwrapAns x.slot, s)
          | (some k, s) => (okAns, ((s.sealUse).store 1 (s.nextKeyItem n) 48).putNextKey n ⟨some k, true⟩)
    else (rangeAns 0, s))

/-- START_REKEY (R187, R207): Success once the first watermark record is durable. -/
def execStartRekey (r : Req) (region : Nat) (s : State) : Host.Outcome State Fault Refusal :=
  .next (s.mbx (.startRekey r region) (some 1) fun s =>
    if h : region < 256 then
      let n : Fin 256 := ⟨region, h⟩
      match s.cr.regions[n].state with
      | .rekeying => (busyAns 0x000A, s)
      | .free => (badAns 0x000A, s)
      | .active => (okAns, s.startRekey n false)
    else (rangeAns 0, s))

/-- Codes of region states (Table 11-7). -/
def RegState.code : RegState → Nat
  | .free => 0
  | .active => 1
  | .rekeying => 2

/-- GET_REGION_STATUS (R187, Table 11-7). -/
def execGetRegionStatus (r : Req) (region : Nat) (s : State) : Host.Outcome State Fault Refusal :=
  .next (s.mbx (.getRegionStatus r region) (some 1) fun s =>
    if h : region < 256 then
      let x := s.cr.regions[region]
      (okOut (.bytes (le 1 x.state.code ++ le 1 (b2n x.cur) ++ zeros 6 ++ le 8 x.base ++ le 8 x.size ++ le 8 x.w ++ le 4 x.early)), s)
    else (rangeAns 0, s))

/-! ### Event records (12_notifications_events_counters.md R300, R306, R307) -/

/-- CRC-16 with polynomial 0x1021 over one more byte (Table 12-6). -/
def crc16Byte (crc : BitVec 16) (b : Byte) : BitVec 16 :=
  (List.range 8).foldl (fun (c : BitVec 16) (_ : Nat) => if c.getLsbD 15 then (c <<< 1) ^^^ 0x1021 else c <<< 1) (crc ^^^ (b.setWidth 16 <<< 8))

/-- CRC-16 from 0xFFFF (Table 12-6). -/
def crc16 (l : List Byte) : BitVec 16 := l.foldl crc16Byte 0xFFFF

/-- The 32 bytes of an event record (Table 12-6). -/
def EventRec.bytes (e : EventRec) : List Byte :=
  let body := le 6 e.seq ++ le 2 e.code ++ le 1 (e.sev + e.flags) ++ le 1 e.count ++ le 4 e.p0 ++ le 4 e.p1 ++ le 4 e.p2 ++ le 4 e.p3 ++
    le 2 e.origin ++ zeros 2
  body ++ le 2 (crc16 body).toNat

/-- Records from a sequence number on, in order, at most `top` of them; a log is newest first. -/
def recsFrom (l : List EventRec) (first top : Nat) : List EventRec :=
  ((l.filter fun e => decide (first ≤ e.seq)).reverse).take top

/-- The output of Read Persistent Log and Read Hardware Ring (Table 11-7). -/
def recsOut (l : List EventRec) : Payload := .bytes (le 2 l.length ++ zeros 14 ++ l.flatMap EventRec.bytes)

/-- READ_PERSISTENT_LOG (R305, R306): the main log or the first-fault area. -/
def execReadPersistentLog (r : Req) (area first top : Nat) (s : State) : Host.Outcome State Fault Refusal :=
  .next (s.mbx (.readPersistentLog r area first top) (some 10) fun s =>
    if 1 < area then (rangeAns 0, s)
    else if top = 0 ∨ 511 < top then (rangeAns 8, s)
    else (okOut (recsOut (recsFrom (if area = 0 then s.ev.log else s.ev.first) first top)), s))

/-- READ_HARDWARE_RING (R304, R306): the records of the ring at this tick; the ring has no first-fault area. -/
def execReadHardwareRing (r : Req) (area first top : Nat) (s : State) : Host.Outcome State Fault Refusal :=
  .next (s.mbx (.readHardwareRing r area first top) (some 10) fun s =>
    if area ≠ 0 then (rangeAns 0, s)
    else if top = 0 ∨ 511 < top then (rangeAns 8, s)
    else (okOut (recsOut (recsFrom s.ev.ring first top)), s))

/-- Whether a code is listed in Table 12-8. -/
def codeListed (c : Nat) : Bool :=
  let n := c % 0x1000
  1 ≤ n && match c / 0x1000 with
    | 1 => n ≤ 0xC
    | 2 => n ≤ 7
    | 3 => n ≤ 7
    | 4 => n ≤ 5
    | 5 => n ≤ 4
    | 6 => n ≤ 5
    | 7 => n ≤ 5
    | 8 => n ≤ 4
    | _ => false

/-- SET_EVENT_RATE_LIMIT (R307): 0 brings the default of 32 back. -/
def execSetEventRateLimit (r : Req) (code limit : Nat) (s : State) : Host.Outcome State Fault Refusal :=
  .next (s.mbx (.setEventRateLimit r code limit) (some 4) fun s =>
    if codeListed code = false then (rangeAns 0, s)
    else if 65535 < limit then (rangeAns 2, s)
    else (okAns, ({ s with kp := { s.kp with rateLimits := tput 32 code (if limit = 0 then 32 else limit) s.kp.rateLimits } }).save (65536 + code)))

/-! ### Cache policy (13_cache_and_on_chip_memory.md R324; 04_read_path.md R92) -/

/-- The reason for which an enable is refused (Table 13-6); 0 for none. -/
def State.enableCause (s : State) (force : Bool) : Nat :=
  if s.ca.lock then 0x0011
  else if s.ca.stale = false then 0
  else if force = false then 0x0010
  else if s.sec.lc = .deployed then 0x0004
  else 0

/-- SET_CACHE_POLICY (R92, R324, Table 11-7): bit 0 CACHE_EN, bit 1 FORCE, bit 2 PF_EN, bits 3 and 4 what applies. -/
def execSetCachePolicy (r : Req) (ld : Nat) (flags : Byte) (s : State) : Host.Outcome State Fault Refusal :=
  .next (s.mbx (.setCachePolicy r ld flags) (some 2) fun s =>
    let en := flags.getLsbD 0
    let cause := if flags.getLsbD 3 ∧ en then s.enableCause (flags.getLsbD 1) else 0
    if 15 < ld ∧ ld ≠ 0xFF then (rangeAns 0, s)
    else if cause ≠ 0 then (badAns cause, s)
    else
      let s := if flags.getLsbD 3 then
          ({ s with ca := { s.ca with en := en }, kp := { s.kp with cacheEn := en } }).save 46
        else s
      let s := if flags.getLsbD 4 then
          { s with lds := .ofFn fun n => if ld = 0xFF ∨ n.val = ld then { s.lds[n] with prefetch := flags.getLsbD 2 } else s.lds[n] }
        else s
      (okAns, s))

/-- GET_CACHE_STATUS (R281). -/
def execGetCacheStatus (r : Req) (s : State) : Host.Outcome State Fault Refusal :=
  .next (s.mbx (.getCacheStatus r) (some 0) fun s =>
    let pf := (allFin 16).foldl (fun n k => n + b2n (s.ld k).prefetch * 2 ^ k.val) 0
    (okOut (.bytes (le 1 (b2n s.ca.en + 2 * b2n s.ca.stale + 4 * b2n s.ca.rbusy) ++ zeros 1 ++ le 2 pf)), s))

/-! ### Patrol (06_drift_and_scrub.md R145, R147) -/

/-- The offset of the first parameter outside the range of Table 06-5; pass periods in minutes, T in 10^-6. -/
def PatrolParams.outside (p : PatrolParams) : Option Nat :=
  if p.t0 < 1440 ∨ 43200 < p.t0 then some 0
  else if p.t1 < 480 ∨ 20160 < p.t1 then some 4
  else if p.t2 < 120 ∨ 10080 < p.t2 then some 8
  else if p.t3 < 60 ∨ 2880 < p.t3 then some 12
  else if p.threshold < 100 ∨ 5000 < p.threshold then some 16
  else if p.ageLog < 10 ∨ 16 < p.ageLog then some 18
  else if p.disturbLog < 16 ∨ 23 < p.disturbLog then some 19
  else if p.busShare < 1 ∨ 10 < p.busShare then some 20
  else none

/-- Bytes that one patrol pass reads of a set: every slot of every unit of its blocks, 96 bytes each (R145; Table 05-1, log 8). -/
def State.passBytes (s : State) : Nat := 16 * s.hw.dies * 393216 * 1337 * 96

/-- Whether a pass of so many minutes needs more than a share, in per cent, of a set's 51.2 GB/s of bus (R147, R227). -/
def State.passTooFast (s : State) (mins share : Nat) : Bool := decide (share * mins * 60 * 51200000000 < 100 * s.passBytes)

/-- SET_PATROL_PARAMETERS (R147): also refused when a pass period at the set's population needs more than the bus share. -/
def execSetPatrolParameters (r : Req) (p : PatrolInput) (busShare : Nat) (s : State) : Host.Outcome State Fault Refusal :=
  .next (s.mbx (.setPatrolParameters r p busShare) (some 21) fun s =>
    let p : PatrolParams := { p with busShare := busShare }
    match PatrolParams.outside p with
    | some o => (rangeAns o, s)
    | none =>
      if [p.t0, p.t1, p.t2, p.t3].any fun m => s.passTooFast m p.busShare then (badAns 0x000A, s)
      else (okAns, { s with dr := { s.dr with params := p } }))

/-- GET_PATROL_STATUS (R281): 8 bytes per set. -/
def execGetPatrolStatus (r : Req) (s : State) : Host.Outcome State Fault Refusal :=
  .next (s.mbx (.getPatrolStatus r) (some 0) fun s =>
    (okOut (.bytes (s.setList.flatMap fun k => le 4 s.dr.patrol[k].visited ++ le 4 s.dr.patrol[k].total)), s))

end Sys2Proof.Machine
end

