-- ==== Sys2Proof/Machine/Dispatch.lean ====
section
/-! DEFINITION. Dispatch: the one arm of each command. -/

namespace Sys2Proof.Machine

/-- A command's effect on everything but the queue. -/
def exec (i : Instr) (s : State) : Host.Outcome State Fault Refusal :=
  match i with
  | .setOperatingPoint r point => Sys2Proof.Machine.execSetOperatingPoint r point s
  | .operatingPointReached => Sys2Proof.Machine.execOperatingPointReached s
  | .autonomousFold set => Sys2Proof.Machine.execAutonomousFold set s
  | .memWr ld addr data poison => Sys2Proof.Machine.execMemWr ld addr data poison s
  | .memWrPtl ld addr be data poison => Sys2Proof.Machine.execMemWrPtl ld addr be data poison s
  | .writeAdmission => Sys2Proof.Machine.execWriteAdmission s
  | .mergeReadComplete seq sense => Sys2Proof.Machine.execMergeReadComplete seq sense s
  | .sequenceCounterWrap => Sys2Proof.Machine.execSequenceCounterWrap s
  | .seqAgeFold => Sys2Proof.Machine.execSeqAgeFold s
  | .slotAllocation => Sys2Proof.Machine.execSlotAllocation s
  | .shallowsPlacementVerified seq ok0 ok1 => Sys2Proof.Machine.execShallowsPlacementVerified seq ok0 ok1 s
  | .indexUpdate => Sys2Proof.Machine.execIndexUpdate s
  | .ndrReturn => Sys2Proof.Machine.execNdrReturn s
  | .memRd ld addr => Sys2Proof.Machine.execMemRd ld addr s
  | .memRdData ld addr => Sys2Proof.Machine.execMemRdData ld addr s
  | .memSpecRd ld addr => Sys2Proof.Machine.execMemSpecRd ld addr s
  | .memInv ld addr => Sys2Proof.Machine.execMemInv ld addr s
  | .memInvNt ld addr => Sys2Proof.Machine.execMemInvNt ld addr s
  | .detectorTimeout ld line => Sys2Proof.Machine.execDetectorTimeout ld line s
  | .lookupSettled id dram => Sys2Proof.Machine.execLookupSettled id dram s
  | .slotSenseComplete id sense crcFails => Sys2Proof.Machine.execSlotSenseComplete id sense crcFails s
  | .readCutoff id => Sys2Proof.Machine.execReadCutoff id s
  | .slowSenseReconstruct id => Sys2Proof.Machine.execSlowSenseReconstruct id s
  | .foldOrder set granule lane => Sys2Proof.Machine.execFoldOrder set granule lane s
  | .foldGather set => Sys2Proof.Machine.execFoldGather set s
  | .foldReadsComplete id lost => Sys2Proof.Machine.execFoldReadsComplete id lost s
  | .bandFillTimeout band => Sys2Proof.Machine.execBandFillTimeout band s
  | .openSegmentForceClose seg => Sys2Proof.Machine.execOpenSegmentForceClose seg s
  | .bandProgramComplete band failed retried => Sys2Proof.Machine.execBandProgramComplete band failed retried s
  | .bandCommitVerified band => Sys2Proof.Machine.execBandCommitVerified band s
  | .slotRelease => Sys2Proof.Machine.execSlotRelease s
  | .checkpointPieceWrite piece => Sys2Proof.Machine.execCheckpointPieceWrite piece s
  | .copyOrder seg => Sys2Proof.Machine.execCopyOrder seg s
  | .wearLevelCopy set lane => Sys2Proof.Machine.execWearLevelCopy set lane s
  | .segmentReset seg => Sys2Proof.Machine.execSegmentReset seg s
  | .segmentResetComplete seg failed => Sys2Proof.Machine.execSegmentResetComplete seg failed s
  | .hotspotDetect chan ticksOver progQ readQ => Sys2Proof.Machine.execHotspotDetect chan ticksOver progQ readQ s
  | .driftEpochEnd => Sys2Proof.Machine.execDriftEpochEnd s
  | .pilotReadComplete blk report => Sys2Proof.Machine.execPilotReadComplete blk report s
  | .gapEstimate die => Sys2Proof.Machine.execGapEstimate die s
  | .patrolVisit seg visit => Sys2Proof.Machine.execPatrolVisit seg visit s
  | .shallowsPatrol set reads => Sys2Proof.Machine.execShallowsPatrol set reads s
  | .readDisturbVisit seg => Sys2Proof.Machine.execReadDisturbVisit seg s
  | .warmUpSweepEnd => Sys2Proof.Machine.execWarmUpSweepEnd s
  | .scrubStart ld => Sys2Proof.Machine.execScrubStart ld s
  | .scrubAbort ld => Sys2Proof.Machine.execScrubAbort ld s
  | .scrubEnd ld found lost => Sys2Proof.Machine.execScrubEnd ld found lost s
  | .scrubProgressRecord ld found lost => Sys2Proof.Machine.execScrubProgressRecord ld found lost s
  | .commitDoorbell ld win width value => Sys2Proof.Machine.execCommitDoorbell ld win width value s
  | .abortDoorbell ld win width value => Sys2Proof.Machine.execAbortDoorbell ld win width value s
  | .commitTimerExpiry ld win => Sys2Proof.Machine.execCommitTimerExpiry ld win s
  | .commitPoint ld win => Sys2Proof.Machine.execCommitPoint ld win s
  | .outcomeRecordDurable ld win => Sys2Proof.Machine.execOutcomeRecordDurable ld win s
  | .regionEnable ld => Sys2Proof.Machine.execRegionEnable ld s
  | .regionDisable ld => Sys2Proof.Machine.execRegionDisable ld s
  | .rekeyPageStep region => Sys2Proof.Machine.execRekeyPageStep region s
  | .rekeyComplete region => Sys2Proof.Machine.execRekeyComplete region s
  | .rootSeal => Sys2Proof.Machine.execRootSeal s
  | .ideIntegrityFailure port => Sys2Proof.Machine.execIdeIntegrityFailure port s
  | .lodeKeyRederive port => Sys2Proof.Machine.execLodeKeyRederive port s
  | .faultIndication row unit => Sys2Proof.Machine.execFaultIndication row unit s
  | .statusProbeAnswer unit ticks => Sys2Proof.Machine.execStatusProbeAnswer unit ticks s
  | .probeSilenceConfirmed unit => Sys2Proof.Machine.execProbeSilenceConfirmed unit s
  | .faultWindowClose win => Sys2Proof.Machine.execFaultWindowClose win s
  | .shallowsRestorationComplete set => Sys2Proof.Machine.execShallowsRestorationComplete set s
  | .rebuildSegmentComplete seg pos => Sys2Proof.Machine.execRebuildSegmentComplete seg pos s
  | .channelSuspect chan retries alerts => Sys2Proof.Machine.execChannelSuspect chan retries alerts s
  | .channelSuspectClear chan => Sys2Proof.Machine.execChannelSuspectClear chan s
  | .secondStackLoss stack => Sys2Proof.Machine.execSecondStackLoss stack s
  | .watchdogExpiry core => Sys2Proof.Machine.execWatchdogExpiry core s
  | .cxlLaneFailure port lane => Sys2Proof.Machine.execCxlLaneFailure port lane s
  | .lodeLaneFailure port lane => Sys2Proof.Machine.execLodeLaneFailure port lane s
  | .linkTrainingResult port result => Sys2Proof.Machine.execLinkTrainingResult port result s
  | .conventionalReset port => Sys2Proof.Machine.execConventionalReset port s
  | .hotReset port => Sys2Proof.Machine.execHotReset port s
  | .flr ld => Sys2Proof.Machine.execFlr ld s
  | .cxlReset ld memClr => Sys2Proof.Machine.execCxlReset ld memClr s
  | .gpfPhase1Request port => Sys2Proof.Machine.execGpfPhase1Request port s
  | .gpfPhase2Request port => Sys2Proof.Machine.execGpfPhase2Request port s
  | .hdmDecoderCommit ld dec cfg => Sys2Proof.Machine.execHdmDecoderCommit ld dec cfg s
  | .registerWrite ld bar off width value => Sys2Proof.Machine.execRegisterWrite ld bar off width value s
  | .identify r => Sys2Proof.Machine.execIdentify r s
  | .backgroundOperationStatus r => Sys2Proof.Machine.execBackgroundOperationStatus r s
  | .requestAbortBackgroundOperation r => Sys2Proof.Machine.execRequestAbortBackgroundOperation r s
  | .getEventRecords r log => Sys2Proof.Machine.execGetEventRecords r log s
  | .clearEventRecords r log all handles => Sys2Proof.Machine.execClearEventRecords r log all handles s
  | .getEventInterruptPolicy r => Sys2Proof.Machine.execGetEventInterruptPolicy r s
  | .setEventInterruptPolicy r info warning failure fatal => Sys2Proof.Machine.execSetEventInterruptPolicy r info warning failure fatal s
  | .getFwInfo r => Sys2Proof.Machine.execGetFwInfo r s
  | .transferFw r action slot image => Sys2Proof.Machine.execTransferFw r action slot image s
  | .activateFw r action slot => Sys2Proof.Machine.execActivateFw r action slot s
  | .getTimestamp r => Sys2Proof.Machine.execGetTimestamp r s
  | .setTimestamp r time => Sys2Proof.Machine.execSetTimestamp r time s
  | .getSupportedLogs r => Sys2Proof.Machine.execGetSupportedLogs r s
  | .getLog r cel offset length => Sys2Proof.Machine.execGetLog r cel offset length s
  | .identifyMemoryDevice r => Sys2Proof.Machine.execIdentifyMemoryDevice r s
  | .getPartitionInfo r => Sys2Proof.Machine.execGetPartitionInfo r s
  | .setPartitionInfo r => Sys2Proof.Machine.execSetPartitionInfo r s
  | .getLsa r offset length => Sys2Proof.Machine.execGetLsa r offset length s
  | .setLsa r offset data => Sys2Proof.Machine.execSetLsa r offset data s
  | .getHealthInfo r => Sys2Proof.Machine.execGetHealthInfo r s
  | .getAlertConfiguration r => Sys2Proof.Machine.execGetAlertConfiguration r s
  | .setAlertConfiguration r life hot cold => Sys2Proof.Machine.execSetAlertConfiguration r life hot cold s
  | .getShutdownState r => Sys2Proof.Machine.execGetShutdownState r s
  | .setShutdownState r state => Sys2Proof.Machine.execSetShutdownState r state s
  | .getPoisonList r dpa lines => Sys2Proof.Machine.execGetPoisonList r dpa lines s
  | .injectPoison r dpa => Sys2Proof.Machine.execInjectPoison r dpa s
  | .clearPoison r dpa data => Sys2Proof.Machine.execClearPoison r dpa data s
  | .getScanMediaCapabilities r dpa lines => Sys2Proof.Machine.execGetScanMediaCapabilities r dpa lines s
  | .scanMedia r dpa lines => Sys2Proof.Machine.execScanMedia r dpa lines s
  | .getScanMediaResults r => Sys2Proof.Machine.execGetScanMediaResults r s
  | .sanitize r => Sys2Proof.Machine.execSanitize r s
  | .secureErase r => Sys2Proof.Machine.execSecureErase r s
  | .backgroundCommandComplete inst found lost => Sys2Proof.Machine.execBackgroundCommandComplete inst found lost s
  | .getSecurityState r => Sys2Proof.Machine.execGetSecurityState r s
  | .setPassphrase r master old new => Sys2Proof.Machine.execSetPassphrase r master old new s
  | .disablePassphrase r master pass => Sys2Proof.Machine.execDisablePassphrase r master pass s
  | .unlock r pass => Sys2Proof.Machine.execUnlock r pass s
  | .freezeSecurityState r => Sys2Proof.Machine.execFreezeSecurityState r s
  | .passphraseSecureErase r master pass => Sys2Proof.Machine.execPassphraseSecureErase r master pass s
  | .securitySend r => Sys2Proof.Machine.execSecuritySend r s
  | .securityReceive r => Sys2Proof.Machine.execSecurityReceive r s
  | .getDcConfig r => Sys2Proof.Machine.execGetDcConfig r s
  | .getDcExtentList r start count => Sys2Proof.Machine.execGetDcExtentList r start count s
  | .addDcResponse r accept => Sys2Proof.Machine.execAddDcResponse r accept s
  | .releaseDc r ranges => Sys2Proof.Machine.execReleaseDc r ranges s
  | .getLdInfo r => Sys2Proof.Machine.execGetLdInfo r s
  | .getLdAllocations r => Sys2Proof.Machine.execGetLdAllocations r s
  | .setLdAllocations r start units => Sys2Proof.Machine.execSetLdAllocations r start units s
  | .getQosControl r => Sys2Proof.Machine.execGetQosControl r s
  | .setQosControl r epc ttr value => Sys2Proof.Machine.execSetQosControl r epc ttr value s
  | .getQosStatus r => Sys2Proof.Machine.execGetQosStatus r s
  | .getQosAllocatedBw r => Sys2Proof.Machine.execGetQosAllocatedBw r s
  | .setQosAllocatedBw r start fractions => Sys2Proof.Machine.execSetQosAllocatedBw r start fractions s
  | .getQosBwLimit r => Sys2Proof.Machine.execGetQosBwLimit r s
  | .setQosBwLimit r start fractions => Sys2Proof.Machine.execSetQosBwLimit r start fractions s
  | .getDcdInfo r => Sys2Proof.Machine.execGetDcdInfo r s
  | .getHostDcRegionConfig r ld => Sys2Proof.Machine.execGetHostDcRegionConfig r ld s
  | .setDcRegionConfig r region units sharable => Sys2Proof.Machine.execSetDcRegionConfig r region units sharable s
  | .getDcRegionExtentLists r ld => Sys2Proof.Machine.execGetDcRegionExtentLists r ld s
  | .initiateDcAdd r ld range => Sys2Proof.Machine.execInitiateDcAdd r ld range s
  | .initiateDcRelease r ld range force => Sys2Proof.Machine.execInitiateDcRelease r ld range force s
  | .openSession r slot hn => Sys2Proof.Machine.execOpenSession r slot hn s
  | .authenticateSession r handle resp mac => Sys2Proof.Machine.execAuthenticateSession r handle resp mac s
  | .handleTimeout inst => Sys2Proof.Machine.execHandleTimeout inst s
  | .closeSession r => Sys2Proof.Machine.execCloseSession r s
  | .sessionIdleTimeout inst => Sys2Proof.Machine.execSessionIdleTimeout inst s
  | .getSessionStatus r => Sys2Proof.Machine.execGetSessionStatus r s
  | .getLastFailure r => Sys2Proof.Machine.execGetLastFailure r s
  | .provisionSessionKey r slot role key => Sys2Proof.Machine.execProvisionSessionKey r slot role key s
  | .revokeSessionKey r slot => Sys2Proof.Machine.execRevokeSessionKey r slot s
  | .grantDeviceControl r ld => Sys2Proof.Machine.execGrantDeviceControl r ld s
  | .getDeviceIdentity r => Sys2Proof.Machine.execGetDeviceIdentity r s
  | .getChannelStatus r first count => Sys2Proof.Machine.execGetChannelStatus r first count s
  | .getRecoveryReport r first => Sys2Proof.Machine.execGetRecoveryReport r first s
  | .getStripeSetStatus r set => Sys2Proof.Machine.execGetStripeSetStatus r set s
  | .retireChannel r chan => Sys2Proof.Machine.execRetireChannel r chan s
  | .setRebuildControl r set auto start prio => Sys2Proof.Machine.execSetRebuildControl r set auto start prio s
  | .setGroupQuota r ld quota => Sys2Proof.Machine.execSetGroupQuota r ld quota s
  | .getGroupOutcomes r => Sys2Proof.Machine.execGetGroupOutcomes r s
  | .configureRegion r region base size => Sys2Proof.Machine.execConfigureRegion r region base size s
  | .removeRegion r region => Sys2Proof.Machine.execRemoveRegion r region s
  | .setNextKey r region mode key => Sys2Proof.Machine.execSetNextKey r region mode key s
  | .startRekey r region => Sys2Proof.Machine.execStartRekey r region s
  | .getRegionStatus r region => Sys2Proof.Machine.execGetRegionStatus r region s
  | .getPoolStatus r => Sys2Proof.Machine.execGetPoolStatus r s
  | .setPoolIdentity r pool member => Sys2Proof.Machine.execSetPoolIdentity r pool member s
  | .configureTether r tether region partner ports key => Sys2Proof.Machine.execConfigureTether r tether region partner ports key s
  | .removeTether r tether => Sys2Proof.Machine.execRemoveTether r tether s
  | .declarePartnerAbsent r tether => Sys2Proof.Machine.execDeclarePartnerAbsent r tether s
  | .failover r tether role => Sys2Proof.Machine.execFailover r tether role s
  | .raiseFormatLevel r level => Sys2Proof.Machine.execRaiseFormatLevel r level s
  | .getPowerStatus r => Sys2Proof.Machine.execGetPowerStatus r s
  | .powerRequest r op => Sys2Proof.Machine.execPowerRequest r op s
  | .setRailParameters r rail filter low high dwell timeout retries => Sys2Proof.Machine.execSetRailParameters r rail filter low high dwell timeout retries s
  | .getThermalStatus r => Sys2Proof.Machine.execGetThermalStatus r s
  | .setThermalParameters r grace => Sys2Proof.Machine.execSetThermalParameters r grace s
  | .readPersistentLog r area first max => Sys2Proof.Machine.execReadPersistentLog r area first max s
  | .getViolationCounters r clear => Sys2Proof.Machine.execGetViolationCounters r clear s
  | .setEventRateLimit r code limit => Sys2Proof.Machine.execSetEventRateLimit r code limit s
  | .readHardwareRing r area first max => Sys2Proof.Machine.execReadHardwareRing r area first max s
  | .readCustomerPartition r offset length pass => Sys2Proof.Machine.execReadCustomerPartition r offset length pass s
  | .writeCustomerPartition r offset length pass data => Sys2Proof.Machine.execWriteCustomerPartition r offset length pass data s
  | .setCustomerPasswords r readPw writePw => Sys2Proof.Machine.execSetCustomerPasswords r readPw writePw s
  | .readDeviceRegisters r block width count offset => Sys2Proof.Machine.execReadDeviceRegisters r block width count offset s
  | .writeDeviceRegisters r block width count offset data => Sys2Proof.Machine.execWriteDeviceRegisters r block width count offset data s
  | .setCachePolicy r ld flags => Sys2Proof.Machine.execSetCachePolicy r ld flags s
  | .getCacheStatus r => Sys2Proof.Machine.execGetCacheStatus r s
  | .setPatrolParameters r p busShare => Sys2Proof.Machine.execSetPatrolParameters r p busShare s
  | .getPatrolStatus r => Sys2Proof.Machine.execGetPatrolStatus r s
  | .getLifeCycleState r => Sys2Proof.Machine.execGetLifeCycleState r s
  | .setLifeCycleState r target => Sys2Proof.Machine.execSetLifeCycleState r target s
  | .getBootStatus r => Sys2Proof.Machine.execGetBootStatus r s
  | .setBootImagePreference r image => Sys2Proof.Machine.execSetBootImagePreference r image s
  | .unsupportedOpcode r opcode => Sys2Proof.Machine.execUnsupportedOpcode r opcode s
  | .notifDeliver corrupt => Sys2Proof.Machine.execNotifDeliver corrupt s
  | .notifClaim who width => Sys2Proof.Machine.execNotifClaim who width s
  | .notifEoi who src => Sys2Proof.Machine.execNotifEoi who src s
  | .notifQconsWrite ld value => Sys2Proof.Machine.execNotifQconsWrite ld value s
  | .fmConsWrite value => Sys2Proof.Machine.execFmConsWrite value s
  | .notifQueueEnable ld => Sys2Proof.Machine.execNotifQueueEnable ld s
  | .clrlost ld => Sys2Proof.Machine.execClrlost ld s
  | .unwind who => Sys2Proof.Machine.execUnwind who s
  | .notifSwset value => Sys2Proof.Machine.execNotifSwset value s
  | .pmonSnapshot who => Sys2Proof.Machine.execPmonSnapshot who s
  | .pmonClear who => Sys2Proof.Machine.execPmonClear who s
  | .pmonCounterWrap n => Sys2Proof.Machine.execPmonCounterWrap n s
  | .pmonSample rec => Sys2Proof.Machine.execPmonSample rec s
  | .sampleBankRelease who bits => Sys2Proof.Machine.execSampleBankRelease who bits s
  | .samplingEnable who => Sys2Proof.Machine.execSamplingEnable who s
  | .cleanByAddress who dpa => Sys2Proof.Machine.execCleanByAddress who dpa s
  | .invalidateByAddress who dpa => Sys2Proof.Machine.execInvalidateByAddress who dpa s
  | .cleanInvalidateByAddress who dpa => Sys2Proof.Machine.execCleanInvalidateByAddress who dpa s
  | .cleanBySetWay who set way => Sys2Proof.Machine.execCleanBySetWay who set way s
  | .invalidateBySetWay who set way => Sys2Proof.Machine.execInvalidateBySetWay who set way s
  | .cleanInvalidateBySetWay who set way => Sys2Proof.Machine.execCleanInvalidateBySetWay who set way s
  | .maintenanceOpExecute => Sys2Proof.Machine.execMaintenanceOpExecute s
  | .cleanComplete => Sys2Proof.Machine.execCleanComplete s
  | .cacheSync who width => Sys2Proof.Machine.execCacheSync who width s
  | .rangeStart who => Sys2Proof.Machine.execRangeStart who s
  | .rangeAbort who => Sys2Proof.Machine.execRangeAbort who s
  | .rangeComplete => Sys2Proof.Machine.execRangeComplete s
  | .spadAddWrite who off width value => Sys2Proof.Machine.execSpadAddWrite who off width value s
  | .spadSwapWrite who off width value => Sys2Proof.Machine.execSpadSwapWrite who off width value s
  | .atomicFetchAdd ld off width value => Sys2Proof.Machine.execAtomicFetchAdd ld off width value s
  | .atomicSwap ld off width value => Sys2Proof.Machine.execAtomicSwap ld off width value s
  | .atomicCompareAndSwap ld off width => Sys2Proof.Machine.execAtomicCompareAndSwap ld off width s
  | .sramParityError mem addr => Sys2Proof.Machine.execSramParityError mem addr s
  | .bootRomImageCheck => Sys2Proof.Machine.execBootRomImageCheck s
  | .antiRollbackRaise => Sys2Proof.Machine.execAntiRollbackRaise s
  | .spdmGetVersion via => Sys2Proof.Machine.execSpdmGetVersion via s
  | .spdmGetCapabilities via => Sys2Proof.Machine.execSpdmGetCapabilities via s
  | .spdmNegotiateAlgorithms via => Sys2Proof.Machine.execSpdmNegotiateAlgorithms via s
  | .spdmGetDigests via => Sys2Proof.Machine.execSpdmGetDigests via s
  | .spdmGetCertificate via => Sys2Proof.Machine.execSpdmGetCertificate via s
  | .spdmChallenge via nonce => Sys2Proof.Machine.execSpdmChallenge via nonce s
  | .spdmGetMeasurements via nonce => Sys2Proof.Machine.execSpdmGetMeasurements via nonce s
  | .spdmKeyExchange via => Sys2Proof.Machine.execSpdmKeyExchange via s
  | .spdmFinish via session => Sys2Proof.Machine.execSpdmFinish via session s
  | .spdmHeartbeat via session => Sys2Proof.Machine.execSpdmHeartbeat via session s
  | .spdmKeyUpdate via session => Sys2Proof.Machine.execSpdmKeyUpdate via session s
  | .spdmEndSession via session => Sys2Proof.Machine.execSpdmEndSession via session s
  | .ideKmKeyProg session port tx key => Sys2Proof.Machine.execIdeKmKeyProg session port tx key s
  | .ideKmKSetGo session port => Sys2Proof.Machine.execIdeKmKSetGo session port s
  | .ideKmKSetStop session port => Sys2Proof.Machine.execIdeKmKSetStop session port s
  | .tamperInputActive input => Sys2Proof.Machine.execTamperInputActive input s
  | .lodeTrainingResult port ok lanes => Sys2Proof.Machine.execLodeTrainingResult port ok lanes s
  | .hello h msg => Sys2Proof.Machine.execHello h msg s
  | .helloRepeat port => Sys2Proof.Machine.execHelloRepeat port s
  | .keepaliveSend port => Sys2Proof.Machine.execKeepaliveSend port s
  | .keepalive h => Sys2Proof.Machine.execKeepalive h s
  | .lodeSilenceTimeout port => Sys2Proof.Machine.execLodeSilenceTimeout port s
  | .level h entries => Sys2Proof.Machine.execLevel h entries s
  | .switch h level => Sys2Proof.Machine.execSwitch h level s
  | .twrite h off win psn data => Sys2Proof.Machine.execTwrite h off win psn data s
  | .tconf h seqs => Sys2Proof.Machine.execTconf h seqs s
  | .tcommit h win gseq first last count => Sys2Proof.Machine.execTcommit h win gseq first last count s
  | .tpoint h win gseq => Sys2Proof.Machine.execTpoint h win gseq s
  | .tabort h win outcome gseq => Sys2Proof.Machine.execTabort h win outcome gseq s
  | .tquery h win gseq => Sys2Proof.Machine.execTquery h win gseq s
  | .tqans h win answer gseq => Sys2Proof.Machine.execTqans h win answer gseq s
  | .rsline h off psn data => Sys2Proof.Machine.execRsline h off psn data s
  | .rsmark h granule poisoned => Sys2Proof.Machine.execRsmark h granule poisoned s
  | .bitmap h first bits => Sys2Proof.Machine.execBitmap h first bits s
  | .role h replica epoch => Sys2Proof.Machine.execRole h replica epoch s
  | .removed h => Sys2Proof.Machine.execRemoved h s
  | .partnerAbsentTimeout t => Sys2Proof.Machine.execPartnerAbsentTimeout t s
  | .absentRetry t => Sys2Proof.Machine.execAbsentRetry t s
  | .confirmedMark => Sys2Proof.Machine.execConfirmedMark s
  | .resyncGranule t => Sys2Proof.Machine.execResyncGranule t s
  | .keeperAlive vsup straps bad => Sys2Proof.Machine.execKeeperAlive vsup straps bad s
  | .vinDwellComplete vin => Sys2Proof.Machine.execVinDwellComplete vin s
  | .railDwellComplete rail => Sys2Proof.Machine.execRailDwellComplete rail s
  | .pscTransactionRetry rail ok => Sys2Proof.Machine.execPscTransactionRetry rail ok s
  | .railSequenceTimeout rail => Sys2Proof.Machine.execRailSequenceTimeout rail s
  | .channelTrainingComplete found failed readings => Sys2Proof.Machine.execChannelTrainingComplete found failed readings s
  | .normalBootComplete => Sys2Proof.Machine.execNormalBootComplete s
  | .replayComplete res => Sys2Proof.Machine.execReplayComplete res s
  | .firstFormatComplete badBlocks => Sys2Proof.Machine.execFirstFormatComplete badBlocks s
  | .runningRailFault rail mv => Sys2Proof.Machine.execRunningRailFault rail mv s
  | .faultRestart => Sys2Proof.Machine.execFaultRestart s
  | .keeperSramError => Sys2Proof.Machine.execKeeperSramError s
  | .vinCollapse mv => Sys2Proof.Machine.execVinCollapse mv s
  | .pfailNLow => Sys2Proof.Machine.execPfailNLow s
  | .pfailNHighRestart => Sys2Proof.Machine.execPfailNHighRestart s
  | .hardwareFlushComplete => Sys2Proof.Machine.execHardwareFlushComplete s
  | .vholdExhausted mv bytes => Sys2Proof.Machine.execVholdExhausted mv bytes s
  | .orderlyPowerDownComplete => Sys2Proof.Machine.execOrderlyPowerDownComplete s
  | .railFallTimeout rail => Sys2Proof.Machine.execRailFallTimeout rail s
  | .offMinimumElapsed => Sys2Proof.Machine.execOffMinimumElapsed s
  | .holdupReadyAsserted mv => Sys2Proof.Machine.execHoldupReadyAsserted mv s
  | .holdupReadyLost mv => Sys2Proof.Machine.execHoldupReadyLost mv s
  | .vholdOvervoltage mv => Sys2Proof.Machine.execVholdOvervoltage mv s
  | .chargeTimeout mv => Sys2Proof.Machine.execChargeTimeout mv s
  | .vsupCollapse mv => Sys2Proof.Machine.execVsupCollapse mv s
  | .thermalMeasurement media readings => Sys2Proof.Machine.execThermalMeasurement media readings s
  | .throttleGraceExpiry => Sys2Proof.Machine.execThrottleGraceExpiry s
  | .coolingRestart => Sys2Proof.Machine.execCoolingRestart s
  | .mediaHoldTimeout => Sys2Proof.Machine.execMediaHoldTimeout s
  | .rdyNFall chan die tile status => Sys2Proof.Machine.execRdyNFall chan die tile status s
  | .alertNFall chan die tile status => Sys2Proof.Machine.execAlertNFall chan die tile status s
  | .cdatTableAccess ld => Sys2Proof.Machine.execCdatTableAccess ld s
  | .setdasa addr dyn => Sys2Proof.Machine.execSetdasa addr dyn s
  | .entdaa dyn => Sys2Proof.Machine.execEntdaa dyn s
  | .drsReturn => Sys2Proof.Machine.execDrsReturn s
  | .firmwareActivationComplete started => Sys2Proof.Machine.execFirmwareActivationComplete started s
  | .cxlResetComplete ld => Sys2Proof.Machine.execCxlResetComplete ld s
  | .boostRestart mv => Sys2Proof.Machine.execBoostRestart mv s
  | .unknownLodeMessageType h type => Sys2Proof.Machine.execUnknownLodeMessageType h type s

end Sys2Proof.Machine
end

