-- ==== Sys2Proof/Machine/Waiting.lean ====
section
/-! DEFINITION. What the block does while no new command is pending: a waiting command that can run now runs, else one tick passes
(11_mailbox_and_sessions.md R269; 13_cache_and_on_chip_memory.md R319, R320; log 1). -/

namespace Sys2Proof.Machine

/-- The state as a waiting command sees it: only the commands before it wait, and a port's credits are withheld only by those. -/
def State.behind (s : State) (before : List Instr) : State :=
  { s with held := before, lk := { s.lk with ports := .ofFn fun p => { s.lk.ports[p] with withheld := before.any (posted s p) } } }

/-- Whether a waiting command can run behind those before it. -/
def State.canRun (s : State) (before : List Instr) (c : Instr) : Bool :=
  let v := s.behind before
  match request c with
  | some (r, _) => !v.mustWait r.inst && !v.releaseWaits c
  | none => match ioWho c with
    | none => true
    | some who => !v.ioHeld who &&
      (if maintWrite c then decide (s.opCount < 256) && !before.any maintWrite
       else match c with
         | .cacheSync .. => s.opCount == 0
         | _ => true)

/-- The first waiting command that can run, with those before and after it. -/
def State.nextHeld (s : State) (before : List Instr) : List Instr → Option (List Instr × Instr × List Instr)
  | [] => none
  | c :: after => if s.canRun before c then some (before, c, after) else State.nextHeld s (before ++ [c]) after

/-- After a waiting command has run, the commands behind it wait on; those that the data die took with it are gone. -/
def State.rejoin (s : State) (dieWas : Bool) (after : List Instr) : State :=
  let after := if dieWas ∧ s.pw.dieUp = false then after.filter keeperWaits else after
  { s with
    held := s.held ++ after
    lk := { s.lk with ports := .ofFn fun p =>
      { s.lk.ports[p] with withheld := s.lk.ports[p].withheld || after.any (posted s p) } } }

/-- The node cache holds at most 512 MiB of dirty counter lines, 2^23 of them: beyond that they are written back (R198, log 99). -/
def State.boundDirty (s : State) : State := if 2 ^ 23 < s.cr.dirty.length then s.writeDirty else s

/-- One tick of the timebase passes, and requests that wait in the receive buffers, and GPF completions, move on where they
can (log 1, log 82). -/
def State.tick (s : State) : State := (s.since s.now 1).drainWrites.drainReads.gpfEnds.boundDirty

/-- A step on an empty queue (log 1). -/
def State.idle (s : State) : Host.Outcome State Fault Refusal :=
  match s.nextHeld [] s.held with
  | none => .next s.tick
  | some (before, c, after) => match exec c (s.behind before) with
    | .next t => .next (t.rejoin s.pw.dieUp after)
    | .fault r => .fault r
    | .refused r => .refused r

end Sys2Proof.Machine
end

