-- ==== Sys2Proof/Safety.lean ====
section
/-! DEFINITION. What counts as a safe run, and the terms in which the statements speak of a command. -/

namespace Sys2Proof.Machine

/-- A mailbox command passes what is checked before its own checks (Table 11-1 to 11-6, R267 to R280): its instance is reached and serves it
now, its privilege and path hold, and its input has the command's length. -/
abbrev State.Taken (s : State) (r : Req) (op : Nat) (len : Option Nat) : Prop := s.gate r op len = .runs

/-- A request of a claimant reaches the registers at once: its port's posted credits are not withheld (R319). -/
abbrev State.Reaches (s : State) (who : Fin 17) : Prop := s.ioHeld who = false

/-- The MAC engine's slot of a session key slot (R275). -/
def macOfSlot (k : Fin 4) : Fin 16 := ⟨k.val, by omega⟩

/-- Every byte memory of the device is in canonical form: the customer partition, the label storage areas, the scratchpad banks. -/
structure State.RamsCanonical (s : State) : Prop where
  customer : Memory.wf s.kp.customer
  labels : ∀ n : Fin 16, Memory.wf s.lds[n].lsa
  banks : ∀ b : Fin 17, Memory.wf s.sp.banks[b]

/-- Whether a command carries a supply voltage beyond the absolute maximum ratings of Table 20-1 (log 25). -/
def beyondMaximum : Instr → Bool
  | .keeperAlive mv _ _ => overSupply mv
  | .vinDwellComplete mv => overSupply mv
  | .vholdExhausted mv _ => overHold mv
  | .holdupReadyAsserted mv => overHold mv
  | .holdupReadyLost mv => overHold mv
  | .vholdOvervoltage mv => overHold mv
  | .boostRestart mv => overHold mv
  | .chargeTimeout mv => overHold mv
  | _ => false

/-- A safe step: the block answers a next state. A fault is a supply voltage beyond the absolute maximum ratings; a refusal never happens. -/
def State.Safe (s : State) : Prop := ∃ t, step s = .next t

end Sys2Proof.Machine
end

