-- ==== Sys2Proof/Certificates/Slice0/Obligations.lean ====
section
/-! DEFINITION. The statements for the provers. Each docstring says the rule it formalises; where a statement rests on a choice of the model, its
docstring names the log entry. -/

open Sys2Proof Sys2Proof.Machine

/-- For every command c, every queue rest and every state s: a step of s with c at the front of its queue is exec of c on s with the
rest as its queue. The queue is the model's (log 1). (95_what_each_step_holds.md, 11_mailbox_and_sessions.md R269) -/
def Obligations.StepTakesTheFrontCommand : Prop :=
  ∀ (c : Instr) (rest : List Instr) (s : State), step { s with pending := c :: rest } = exec c { s with pending := rest }

/-- With no command pending and none waiting, a step answers a next state whose queue is still empty and whose timebase stands one
tick further, where nothing waits in the receive buffers (model's choice, log 1). While at most 2^23 counter lines are dirty,
security state, keeper state and encryption state stay; beyond that no counter line of levels 1 to 5 stays dirty (R198; the moment
is the model's, log 99). (00_scope.md Table 00-4, 12_notifications_events_counters.md R308, 08_inline_encryption.md R198) -/
def Obligations.EmptyQueueLetsATickPass : Prop :=
  ∀ s : State, s.pending = [] → s.held = [] → s.wp.rx = [] → s.rp.rx = [] →
    ∃ t, step s = .next t ∧ t.now = s.now + 1 ∧ t.pending = [] ∧ t.hw = s.hw ∧
      (s.cr.dirty.length ≤ 2 ^ 23 → t.sec = s.sec ∧ t.kp = s.kp ∧ t.cr = s.cr) ∧
      (2 ^ 23 < s.cr.dirty.length → ∀ p ∈ t.cr.dirty, p.1 = 0 ∨ 5 < p.1)

/-- For every state and every command: exec refuses nothing; exec faults exactly when the command carries a supply voltage beyond the
absolute maximum ratings of Table 20-1, and then with that fault (log 25); every other command answers a next state. So a step of
a state whose pending and waiting commands carry no such voltage answers a next state. (20_electrical_and_package.md R443,
95_what_each_step_holds.md) -/
def Obligations.EveryStepAnswers : Prop :=
  (∀ (c : Instr) (s : State), beyondMaximum c = false → ∃ t, exec c s = .next t) ∧
  (∀ (c : Instr) (s : State), beyondMaximum c = true → exec c s = .fault .beyondRatings) ∧
  ∀ s : State, (s.pending ++ s.held).all (fun c => !beyondMaximum c) = true → s.Safe

/-- Whatever the state and whatever the command: when a step answers a next state, the queue of waiting commands is the old one
without its front; on an empty queue it stays empty. No command's effect, and no command that had waited, adds to the queue,
removes from it or reorders it (the queue is the model's, log 1). (11_mailbox_and_sessions.md R269, 95_what_each_step_holds.md) -/
def Obligations.QueueIsFirstInFirstOut : Prop :=
  (∀ s t : State, step s = .next t → t.pending = s.pending.tail) ∧
  ∀ (c : Instr) (s t : State), exec c s = .next t → t.pending = s.pending

/-- Right after reset no command waits, the keeper is not alive and the data die is off, the fuse life cycle is Blank, no session key
is held, every static partition and DC region is empty, every byte of the scratchpads, the label storage areas and the customer
partition reads zero, the limit fraction of every LD is 255 and its allocated fraction 0, the fabric manager's ring is enabled and
the path to media is not ready. (The state before the first supply is the model's, log 4.) (16_power_and_holdup.md R377,
14_security_and_lifecycle.md R349, 12_notifications_events_counters.md R298, 13_cache_and_on_chip_memory.md R330,
10_cxl_interface.md R244) -/
def Obligations.ResetLeavesTheDeviceUnpowered : Prop :=
  let s := State.reset
  s.pending = [] ∧ s.held = [] ∧ s.out = [] ∧ s.pw.alive = false ∧ s.pw.dieUp = false ∧ s.pw.st = .off ∧
  s.sec.fuseLC = .blank ∧ (∀ k : Fin 4, s.sec.sessKeys[k] = none) ∧
  (∀ n : Fin 16, s.lds[n].partSize = 0 ∧ s.lds[n].limitN = 255 ∧ s.lds[n].weightF = 0) ∧
  (∀ k : Fin 8, s.lk.dcRegions[k].len = 0) ∧ s.lk.mediaReady = false ∧ s.lk.memActive = false ∧ s.nt.fm.en = true ∧
  (∀ a : Nat, s.kp.customer.read a = 0) ∧ (∀ (n : Fin 16) (a : Nat), s.lds[n].lsa.read a = 0) ∧
  ∀ (b : Fin 17) (a : Nat), s.sp.banks[b].read a = 0

/-- For the byte memories of the device (label storage areas, scratchpad banks, customer partition): after a list of bytes is written
from an address, the i-th of them reads back at that address plus i, every address outside them reads as before, and a canonical
memory (addresses strictly rising, no entry equal to what an unlisted byte reads as) stays canonical. The canonical form of reset
holds. (That an unwritten byte of the label storage areas and the customer partition reads zero is the model's choice, log 22.)
(11_mailbox_and_sessions.md R272, 13_cache_and_on_chip_memory.md R330, 16_power_and_holdup.md R402, 00_scope.md Table 00-4) -/
def Obligations.ByteMemoriesReadBackAndStayCanonical : Prop :=
  (∀ (m : Mem) (a : Nat) (l : List Byte), Memory.wf m →
    Memory.wf (m.writeBytes a l) ∧ (∀ i, i < l.length → (m.writeBytes a l).read (a + i) = l.getD i 0) ∧
    ∀ b, b < a ∨ a + l.length ≤ b → (m.writeBytes a l).read b = m.read b) ∧
  State.reset.RamsCanonical

/-- For every mailbox command of opcode op, while the data die's firmware runs and the request need not wait: where the opcode is
implemented but not offered on the instance it is answered Unsupported, reason 0x0003; where it needs a session and the instance
has none, Invalid Input, reason 0x0001; where it needs an Owner session and the session's role is Operator, Invalid Input, reason
0x0002. In each case the next state is the old one with one violation of kind 0x6 and that opcode counted for the caller, and the
answer given: the command has none of its effect. (The order path, privilege, then the rest is the model's choice, log 15.)
(11_mailbox_and_sessions.md R279, R271, R284, Table 11-3, Table 11-6) -/
def Obligations.MailboxRefusalsNameTheirReason : Prop :=
  ∀ (c : Instr) (r : Req) (op : Nat) (x : Route) (s : State), request c = some (r, op) → s.pw.dieUp = true → s.fwUp = true →
    s.mustWait r.inst = false → route op = some x →
    let offered := match r.inst with
      | .ld m => x.ld && (!x.wide || (s.lk.grant == some m && s.ownerOn r.inst))
      | _ => x.fm
    let refusedWith (a : Ans) := exec c s = .next ((s.violate (Inst.who r.inst) 6 op).answer r op a)
    (offered = false → refusedWith ⟨0x0003, 0x0003, 0, .none⟩) ∧
    (offered = true → x.priv ≠ .none → s.session r.inst = none → refusedWith ⟨0x0002, 0x0001, 0, .none⟩) ∧
    (offered = true → x.priv = .owner → s.session r.inst ≠ none → s.ownerOn r.inst = false → refusedWith ⟨0x0002, 0x0002, 0, .none⟩)

/-- For every state, request, opcode and answer: after the answer, every component of the state is as before except the output, the
mailboxes and the LDs; the output has the reply of that instance with the opcode, code and payload, with at most an MSI-X vector
above it; in the mailboxes only the failure record of that instance and a session's idle time may differ, the failure record only
for a code above 0x0001 of an opcode other than Get Last Failure, and then it holds the opcode, the code and the reason with its
PARAM; of the LDs only pending bits of vectors may differ, so every byte of every label storage area reads as before.
(11_mailbox_and_sessions.md R271, R278, 10_cxl_interface.md R266) -/
def Obligations.AnswersChangeOnlyTheMailbox : Prop :=
  ∀ (s : State) (r : Req) (op : Nat) (a : Ans),
    let t := s.answer r op a
    t = { s with out := t.out, mb := t.mb, lds := t.lds } ∧
    (t.out = .mbx r.inst op a.code a.out :: s.out ∨ ∃ n, t.out = .msix n 0 :: .mbx r.inst op a.code a.out :: s.out) ∧
    (∀ n : Fin 16, t.lds[n] = { s.lds[n] with vecPending := t.lds[n].vecPending }) ∧
    t.mb.viol = s.mb.viol ∧ t.mb.outage = s.mb.outage ∧ t.mb.activate = s.mb.activate ∧ t.mb.transfer = s.mb.transfer ∧
    t.mb.sanitize = s.mb.sanitize ∧ t.mb.keeperHandle = s.mb.keeperHandle ∧
    (∀ i : Fin 18, i ≠ Inst.ix r.inst → t.mb.inst[i] = s.mb.inst[i]) ∧
    t.mb.inst[Inst.ix r.inst].bg = s.mb.inst[Inst.ix r.inst].bg ∧ t.mb.inst[Inst.ix r.inst].handle = s.mb.inst[Inst.ix r.inst].handle ∧
    t.mb.inst[Inst.ix r.inst].failure =
      (if a.code ≤ 1 ∨ op = 0xC004 then s.mb.inst[Inst.ix r.inst].failure else ⟨op, a.code, a.reason, a.param⟩)

/-- A taken request of one of these commands is answered Success at once with the output named, and changes nothing but what an answer
changes. IDENTIFY gives Svawald's vendor ID, component type 3 and the serial number; BACKGROUND_OPERATION_STATUS the instance's
own background command; GET_FW_INFO two slots, the running one and the versions of images A and B; GET_TIMESTAMP the LD's event
timestamp; GET_SUPPORTED_LOGS the Command Effects Log alone; GET_LOG the bytes asked of that log. (The fields' layout is CXL
3.1's, log 16.) (11_mailbox_and_sessions.md R272, R269, Table 11-4, 14_security_and_lifecycle.md R336) -/
def Obligations.IdentityAndLogReadsAnswer : Prop :=
  ∀ (s : State) (r : Req),
    (s.Taken r 0x0001 (some 0) → exec (.identify r) s = .next (s.answer r 0x0001
      (okOut (.fields [("vendorId", Config.vendorId.toNat), ("componentType", 3), ("serial", s.hw.serial.toNat)])))) ∧
    (s.Taken r 0x0002 (some 0) → ∃ l, exec (.backgroundOperationStatus r) s = .next (s.answer r 0x0002 (okOut (.fields l))) ∧
      ∀ b, s.mb.inst[Inst.ix r.inst].bg = some b →
        l = [("running", b2n b.running), ("percent", b.percent), ("opcode", b.opcode), ("code", b.code)]) ∧
    (s.Taken r 0x0200 (some 0) → exec (.getFwInfo r) s = .next (s.answer r 0x0200
      (okOut (.fields [("slots", 2), ("activeSlot", if s.sec.runningB then 2 else 1), ("onlineActivation", 1),
        ("slot1Version", imageVersion s.sec.imgA), ("slot2Version", imageVersion s.sec.imgB)])))) ∧
    (s.Taken r 0x0300 (some 0) → exec (.getTimestamp r) s = .next (s.answer r 0x0300 (okOut (.bytes (le 8 (s.stamp (Inst.ldN r.inst))))))) ∧
    (s.Taken r 0x0400 (some 0) → exec (.getSupportedLogs r) s = .next (s.answer r 0x0400
      (okOut (.fields [("logs", 1), ("celSize", celBytes.length)])))) ∧
    (∀ offset length, s.Taken r 0x0401 (some 24) → offset < celBytes.length → offset + length ≤ celBytes.length →
      exec (.getLog r true offset length) s = .next (s.answer r 0x0401 (okOut (.bytes ((celBytes.drop offset).take length)))))

/-- A taken request of one of these commands is answered Success at once with the output named and changes nothing but what an answer
changes. Sizes are in multiples of 256 MiB with all capacity persistent; LSA 256 KiB, 32,768 poison records, 256 injected; the
shutdown state is the stored one; GET_LSA gives the bytes of the LD's label storage area; GET_EVENT_RECORDS the records of the
LD's log with its overflow count; GET_POISON_LIST the records in the LD's allocated capacity that meet the range;
GET_SCAN_MEDIA_RESULTS the lines of the last scan; GET_SCAN_MEDIA_CAPABILITIES a time that the spec does not state (a free value,
log 5). (11_mailbox_and_sessions.md R272, 02_persistence_contract.md R40, R41, 05_folding_and_wear.md R128, 10_cxl_interface.md
R252, R254, R260) -/
def Obligations.MemoryDeviceReadsAnswer : Prop :=
  ∀ (s : State) (n : Fin 16) (len : Nat), let r : Req := ⟨.ld n, len⟩
    (s.Taken r 0x4000 (some 0) → exec (.identifyMemoryDevice r) s = .next (s.answer r 0x4000
      (okOut (.fields [("total", s.lds[n].partSize / 2 ^ 28), ("volatile", 0), ("persistent", s.lds[n].partSize / 2 ^ 28), ("lsaSize", 262144),
        ("poisonMax", 32768), ("injectLimit", 256)])))) ∧
    (s.Taken r 0x4100 (some 0) → exec (.getPartitionInfo r) s = .next (s.answer r 0x4100
      (okOut (.fields [("activeVolatile", 0), ("activePersistent", s.lds[n].partSize / 2 ^ 28), ("nextVolatile", 0), ("nextPersistent", 0)])))) ∧
    (∀ offset length, s.Taken r 0x4102 (some 8) → offset < 262144 → length ≤ 16384 → offset + length ≤ 262144 →
      exec (.getLsa r offset length) s = .next (s.answer r 0x4102
        (okOut (.bytes ((List.range length).map fun i => s.lds[n].lsa.read (offset + i)))))) ∧
    (s.Taken r 0x4200 (some 0) → ∃ l, exec (.getHealthInfo r) s = .next (s.answer r 0x4200 (okOut (.fields l))) ∧
      ("lifeUsed", s.lifeUsed) ∈ l ∧ ("dirtyShutdowns", s.kp.dsc) ∈ l ∧ (s.devTemp.isSome → ∃ t, s.devTemp = some t ∧ ("temperature", i16 (t / 10)) ∈ l)) ∧
    (s.Taken r 0x4201 (some 0) → exec (.getAlertConfiguration r) s = .next (s.answer r 0x4201
      (okOut (.fields [("lifeUsed", s.lds[n].lifeWarn), ("overTemperature", i16 s.lds[n].hotWarn), ("underTemperature", i16 s.lds[n].coldWarn)])))) ∧
    (s.Taken r 0x4203 (some 0) → exec (.getShutdownState r) s = .next (s.answer r 0x4203 (okOut (.bytes [s.kp.shutdownState])))) ∧
    (∀ k : Fin 4, s.Taken r 0x0100 (some 1) → exec (.getEventRecords r k) s = .next (s.answer r 0x0100
      (okOut (.fields ([("count", s.lds[n].evLogs[k].recs.length), ("overflow", s.lds[n].evLogs[k].overflow)] ++
        s.lds[n].evLogs[k].recs.flatMap LogRec.fields))))) ∧
    (s.Taken r 0x0102 (some 0) → exec (.getEventInterruptPolicy r) s = .next (s.answer r 0x0102 (okOut (.bytes s.lds[n].evPolicy.toList)))) ∧
    (∀ dpa lines, s.Taken r 0x4300 (some 16) → ∃ l, exec (.getPoisonList r dpa lines) s = .next (s.answer r 0x4300 (okOut (.fields l))) ∧
      ∀ p ∈ s.lk.poison, s.allocated n p.line = true → dpa / 64 < p.line + p.lines → p.line < dpa / 64 + lines →
        ("dpa", p.line * 64) ∈ l ∧ ("lines", p.lines) ∈ l ∧ ("source", PoisonSrc.code p.src) ∈ l) ∧
    (∀ dpa lines, s.Taken r 0x4303 (some 16) → exec (.getScanMediaCapabilities r dpa lines) s =
      .next ({ s with freeIx := s.freeIx + 1 }.answer r 0x4303 (okOut (.fields [("estimate", Config.freePick s.freeIx)])))) ∧
    (s.Taken r 0x4305 (some 0) → exec (.getScanMediaResults r) s = .next (s.answer r 0x4305
      (okOut (.fields (s.lds[n].scanResults.flatMap fun p => [("dpa", p.1 * 64), ("lines", p.2)])))))

/-- A taken request within its field ranges is answered Success, and the next state is the old one with exactly the named setting
changed: the LD's timestamp base and tick, its alert thresholds, its event interrupt policy, the bytes of its label storage area,
an event log cleared whole or of its oldest records in order (the order is the model's choice, log 16), or the device's shutdown
state, which becomes durable. (11_mailbox_and_sessions.md R272, 10_cxl_interface.md R260, 02_persistence_contract.md R41) -/
def Obligations.StandardSettingsAreStored : Prop :=
  ∀ (s : State) (n : Fin 16) (len : Nat), let r : Req := ⟨.ld n, len⟩
    (∀ time, s.Taken r 0x0301 (some 8) → exec (.setTimestamp r time) s =
      .next ((s.modLd n fun l => { l with tsBase := time.toNat, tsTick := s.now }).answer r 0x0301 okAns)) ∧
    (∀ life (hot cold : Int), s.Taken r 0x4202 (some 12) → life ≤ 100 → -32768 ≤ hot → hot ≤ 32767 → -32768 ≤ cold → cold ≤ 32767 →
      exec (.setAlertConfiguration r life hot cold) s =
        .next ((s.modLd n fun l => { l with lifeWarn := life, hotWarn := hot, coldWarn := cold }).answer r 0x4202 okAns)) ∧
    (∀ a b c d, s.Taken r 0x0103 (some 4) → exec (.setEventInterruptPolicy r a b c d) s =
      .next ((s.modLd n fun l => { l with evPolicy := #v[a, b, c, d] }).answer r 0x0103 okAns)) ∧
    (∀ offset (data : List Byte), s.Taken r 0x4103 (some (8 + data.length)) → offset + data.length ≤ 262144 →
      exec (.setLsa r offset data) s = .next ((s.modLd n fun l => { l with lsa := l.lsa.writeBytes offset data }).answer r 0x4103 okAns)) ∧
    (∀ k : Fin 4, ∀ hs, s.Taken r 0x0101 (some (6 + 2 * hs.length)) → exec (.clearEventRecords r k true hs) s =
      .next ((s.modLd n fun l => { l with evLogs := l.evLogs.set k ⟨[], l.evLogs[k].next, 0⟩ }).answer r 0x0101 okAns)) ∧
    (∀ k : Fin 4, ∀ hs, s.Taken r 0x0101 (some (6 + 2 * hs.length)) →
      (s.lds[n].evLogs[k].recs.take hs.length).map (fun x => x.handle) = hs → exec (.clearEventRecords r k false hs) s =
      .next ((s.modLd n fun l => { l with evLogs := l.evLogs.set k ⟨l.evLogs[k].recs.drop hs.length, l.evLogs[k].next, 0⟩ }).answer r 0x0101 okAns)) ∧
    (∀ b, s.Taken r 0x4204 (some 1) →
      exec (.setShutdownState r b) s = .next (({ s with kp := { s.kp with shutdownState := b } }.save 43).answer r 0x4204 okAns))

/-- A taken SET_SHUTDOWN_STATE answers Success and a taken GET_SHUTDOWN_STATE afterwards reports the byte that was stored; step 10 of
a start, which increments the dirty shutdown count, leaves the stored byte as it is. (02_persistence_contract.md R41) -/
def Obligations.ShutdownStateIsStoredAndReported : Prop :=
  ∀ (s : State) (r r' : Req) (b : Byte), s.Taken r 0x4204 (some 1) →
    ∃ t, exec (.setShutdownState r b) s = .next t ∧ t.kp.shutdownState = b ∧ t.out.contains (.mbx r.inst 0x4204 0x0000 .none) = true ∧
      (t.Taken r' 0x4203 (some 0) → ∃ u, exec (.getShutdownState r') t = .next u ∧ u.out.contains (.mbx r'.inst 0x4203 0x0000 (.bytes [b])) = true) ∧
      ∀ w : State, w.step10.kp.shutdownState = w.kp.shutdownState

/-- While the data die's firmware runs and the request need not wait, SET_PARTITION_INFO, SECURITY_SEND, SECURITY_RECEIVE and any
opcode that Tables 11-4 to 11-6 do not list are answered Unsupported, reason 0x0003; nothing but the answer changes.
(11_mailbox_and_sessions.md R272, R280, R267) -/
def Obligations.UnimplementedStandardCommandsAreUnsupported : Prop :=
  ∀ (s : State) (r : Req), s.pw.dieUp = true → s.fwUp = true → s.mustWait r.inst = false →
    let no (op : Nat) := s.answer r op ⟨0x0003, 0x0003, 0, .none⟩
    exec (.setPartitionInfo r) s = .next (no 0x4101) ∧ exec (.securitySend r) s = .next (no 0x4600) ∧
    exec (.securityReceive r) s = .next (no 0x4601) ∧
    ∀ op, route op = none → exec (.unsupportedOpcode r op) s = .next (no op)

/-- On a primary mailbox whose request is taken: a first passphrase is stored as the keyed check value under MAC slot 4 with a sealed
record, unless the LD is frozen or locked; a right passphrase (fewer than five failures, its check value equal) disables itself or
unlocks a locked LD; a wrong one answers Incorrect Passphrase and counts one failure; Freeze freezes; Get Security State reports
the state. In the frozen state Set, Disable, Unlock and Passphrase Secure Erase answer Invalid Security State, reason 0x0005, and
change nothing but the answer. (What CXL 3.1 leaves to the device in the order of these checks is the model's choice, log 47.)
(11_mailbox_and_sessions.md R282, 14_security_and_lifecycle.md R342, R345) -/
def Obligations.PassphraseCommandsTakeEffect : Prop :=
  ∀ (s : State) (n : Fin 16) (len : Nat) (m : Bool) (old new : Key), let r : Req := ⟨.ld n, len⟩
    let p := s.lds[n].pass
    let right (master : Bool) (pw : Key) := p.check master = some (checkValue s.sec.keyPass.get pw) ∧ p.tries master < 5 ∧ s.macOk 4 = true
    (s.Taken r 0x4501 (some 96) → p.frozen = false → p.locked = false → p.check m = none → s.macOk 4 = true →
      exec (.setPassphrase r m old new) s = .next (((((s.macUse 4).sealUse).modPass n fun q =>
        q.put m (some (checkValue (s.macUse 4).sealUse.sec.keyPass.get new)) (some new)).save (512 + n.val)).answer r 0x4501 okAns)) ∧
    (s.Taken r 0x4502 (some 64) → p.frozen = false → p.locked = false → right m old →
      exec (.disablePassphrase r m old) s =
        .next ((((s.macUse 4).modPass n fun q => q.put m none none).save (512 + n.val)).answer r 0x4502 okAns)) ∧
    (s.Taken r 0x4503 (some 32) → p.frozen = false → p.locked = true → right false old →
      exec (.unlock r old) s = .next (((s.macUse 4).modPass n fun q => { q with locked := false }).answer r 0x4503 okAns)) ∧
    (∀ c, s.Taken r 0x4503 (some 32) → p.frozen = false → p.locked = true → p.user = some c → p.userTries < 5 → s.macOk 4 = true →
      checkValue s.sec.keyPass.get old ≠ c → exec (.unlock r old) s =
        .next (((s.macUse 4).modPass n fun q => { q with userTries := q.userTries + 1 }).answer r 0x4503 ⟨0x0014, 0, 0, .none⟩)) ∧
    (s.Taken r 0x4504 (some 0) → exec (.freezeSecurityState r) s =
      .next ((s.modPass n fun q => { q with frozen := true }).answer r 0x4504 okAns)) ∧
    (s.Taken r 0x4500 (some 0) → ∃ v, exec (.getSecurityState r) s = .next (s.answer r 0x4500 (okOut (.bytes (le 4 v)))) ∧
      v.testBit 0 = p.user.isSome ∧ v.testBit 1 = p.master.isSome ∧ v.testBit 2 = p.locked ∧ v.testBit 3 = p.frozen) ∧
    (p.frozen = true → let no (op : Nat) : Host.Outcome State Fault Refusal := .next (s.answer r op ⟨0x0013, 0x0005, 0, .none⟩)
      (s.Taken r 0x4501 (some 96) → exec (.setPassphrase r m old new) s = no 0x4501) ∧
      (s.Taken r 0x4502 (some 64) → exec (.disablePassphrase r m old) s = no 0x4502) ∧
      (s.Taken r 0x4503 (some 32) → exec (.unlock r old) s = no 0x4503) ∧
      (s.Taken r 0x4505 (some 64) → exec (.passphraseSecureErase r m old) s = no 0x4505))

/-- A taken SANITIZE or SECURE_ERASE with no background command running and no erasure under way answers Background Command Started,
records durably that it is under way and runs in the background; SCAN_MEDIA likewise where the LD's scrub engine is idle. While
one runs, a second answers Busy. BACKGROUND_COMMAND_COMPLETE of a running erasure, with the media ready, erases the device and
reports return code 0 at 100 per cent; of a running scan, likewise with the lines the scan poisoned as its results once no block
it reads awaits a pilot read; a scan that found every line good leaves no result. REQUEST_ABORT ends a running scan and answers
Success, and answers Unsupported for any other operation. A right PASSPHRASE_SECURE_ERASE answers Success once the LD's capacity
is erased. (11_mailbox_and_sessions.md R269, R272, R283, 10_cxl_interface.md R254, 02_persistence_contract.md Table 02-6) -/
def Obligations.ErasureCommandsRun : Prop :=
  ∀ (s : State) (r : Req),
    (∀ op, (op = 0x4400 ∨ op = 0x4401) → s.Taken r op (some 0) → s.bgBusy r.inst = false → s.mb.sanitize = none →
      exec (if op = 0x4400 then .sanitize r else .secureErase r) s =
        .next ((({ s with mb := { s.mb with sanitize := some (r.inst, op) } }.save 42).modMb r.inst fun m =>
          { m with bg := some ⟨op, 0, true, 0, false⟩ }).answer r op ⟨0x0001, 0, 0, .none⟩)) ∧
    (s.bgBusy r.inst = true →
      (s.Taken r 0x4400 (some 0) → exec (.sanitize r) s = .next (s.answer r 0x4400 ⟨0x0006, 0x000A, 0, .none⟩)) ∧
      (s.Taken r 0x4401 (some 0) → exec (.secureErase r) s = .next (s.answer r 0x4401 ⟨0x0006, 0x000A, 0, .none⟩))) ∧
    (∀ (n : Fin 16) (dpa lines : Nat), r.inst = .ld n → s.Taken r 0x4304 (some 17) → 0 < lines → s.bgBusy r.inst = false →
      s.lds[n].scrub.busy = false → ∃ t, exec (.scanMedia r dpa lines) s = .next t ∧
        t.mb.inst[Inst.ix r.inst].bg = some ⟨0x4304, 0, true, 0, false⟩ ∧ t.lds[n].scrub.busy = true ∧ t.lds[n].scrub.scan = true ∧
        t.lds[n].scanResults = [] ∧ .mbx r.inst 0x4304 0x0001 .none ∈ t.out) ∧
    (∀ (n : Fin 16) (dpa lines : Nat), r.inst = .ld n → s.Taken r 0x4304 (some 17) → 0 < lines → s.lds[n].scrub.busy = true →
      exec (.scanMedia r dpa lines) s = .next (s.answer r 0x4304 ⟨0x0006, 0x000A, 0, .none⟩)) ∧
    (∀ (b : Background) (found lost : List LineFound), s.mb.inst[Inst.ix r.inst].bg = some b → b.running = true → s.lk.mediaReady = true →
      b.opcode ≠ 0x4304 → exec (.backgroundCommandComplete r.inst found lost) s = .next (s.pmEdges ((s.eraseDone r.inst).bgEnd r.inst 0))) ∧
    (∀ (n : Fin 16) (b : Background), r.inst = .ld n → s.mb.inst[Inst.ix r.inst].bg = some b → b.running = true → s.lk.mediaReady = true →
      b.opcode = 0x4304 → b.discard = false → s.lds[n].scrub.busy = true → ∃ t, exec (.backgroundCommandComplete r.inst [] []) s = .next t ∧
        t.mb.inst[Inst.ix r.inst].bg = some { b with running := false, percent := 100, code := 0 } ∧ t.lds[n].scrub.busy = false ∧
        t.lds[n].scrub.scan = false ∧ t.lds[n].scanResults = []) ∧
    (∀ (b : Background) (found lost : List LineFound) (u : State), s.mb.inst[Inst.ix r.inst].bg = some b → b.running = true →
      s.lk.mediaReady = true → b.opcode = 0x4304 → (s.scrubLines (Inst.ldN r.inst) false (found ++ lost)).1 = some u →
      exec (.backgroundCommandComplete r.inst found lost) s = .next (s.pmEdges ((u.scanEnd s (Inst.ldN r.inst) (found ++ lost)).bgEnd r.inst 0).judgeMarks)) ∧
    (∀ b : Background, s.Taken r 0x0005 (some 0) → s.mb.inst[Inst.ix r.inst].bg = some b → b.running = true →
      exec (.requestAbortBackgroundOperation r) s = .next (if b.opcode = 0x4304
        then (s.scanStop (Inst.ldN r.inst) 2 0x0012).answer r 0x0005 okAns
        else s.answer r 0x0005 ⟨0x0003, 0x0003, 0, .none⟩)) ∧
    (∀ (n : Fin 16) (m : Bool) (pw : Key), r.inst = .ld n → s.Taken r 0x4505 (some 64) → s.lds[n].pass.frozen = false →
      s.lds[n].pass.check m = some (checkValue s.sec.keyPass.get pw) → s.lds[n].pass.tries m < 5 → s.macOk 4 = true →
      exec (.passphraseSecureErase r m pw) s = .next (((s.macUse 4).eraseLd n).answer r 0x4505 okAns))

/-- On allocated capacity, with hold-up ready and the stop mark not in effect (for Inject, below the LD's 256 injected records; for
Clear, where the granule is not poisoned in the map), a taken INJECT_POISON makes a whole-line internal write with PSN 1 and
CLEAR_POISON one of the 64 bytes given, with the next sequence number, through the line's interlock entry; neither is answered
before it is durable. On capacity not allocated to the LD both answer Invalid Physical Address; with hold-up ready absent or the
stop mark in effect, Busy, reason 0x000A; Clear Poison on a granule poisoned in the map answers Invalid Input: each changes
nothing but the answer. (10_cxl_interface.md R253, 03_write_path.md R47) -/
def Obligations.PoisonCommandsEnterTheWritePath : Prop :=
  ∀ (s : State) (n : Fin 16) (len dpa line : Nat) (data : Line), dpa / 64 = line → let r : Req := ⟨.ld n, len⟩
    let may := s.allocated n line = true ∧ s.pw.holdupReady = true ∧ s.wp.marks[5] = false
    (s.Taken r 0x4301 (some 8) → may → ((s.poisonOf n).filter fun p => p.src = .injected).length < 256 →
      exec (.injectPoison r dpa) s =
        .next (s.nextSeq.2.takeLock (newWrite s.nextSeq.1 n line none (BitVec.allOnes 64) 0 true (.inject r.inst)))) ∧
    (s.Taken r 0x4302 (some 72) → may → (s.mapEnt (granOf line)).state ≠ .poisoned →
      exec (.clearPoison r dpa data) s =
        .next (s.nextSeq.2.takeLock (newWrite s.nextSeq.1 n line none (BitVec.allOnes 64) data false (.clear r.inst)))) ∧
    (s.allocated n line = false →
      (s.Taken r 0x4301 (some 8) → exec (.injectPoison r dpa) s = .next (s.answer r 0x4301 ⟨0x000F, 0, 0, .none⟩)) ∧
      (s.Taken r 0x4302 (some 72) → exec (.clearPoison r dpa data) s = .next (s.answer r 0x4302 ⟨0x000F, 0, 0, .none⟩))) ∧
    (s.allocated n line = true → (s.pw.holdupReady = false ∨ s.wp.marks[5] = true) →
      (s.Taken r 0x4301 (some 8) → exec (.injectPoison r dpa) s = .next (s.answer r 0x4301 ⟨0x0006, 0x000A, 0, .none⟩)) ∧
      (s.Taken r 0x4302 (some 72) → exec (.clearPoison r dpa data) s = .next (s.answer r 0x4302 ⟨0x0006, 0x000A, 0, .none⟩))) ∧
    (s.Taken r 0x4302 (some 72) → may → (s.mapEnt (granOf line)).state = .poisoned →
      exec (.clearPoison r dpa data) s = .next (s.answer r 0x4302 ⟨0x0002, 0x000A, 0, .none⟩))

/-- A taken request of one of these commands is answered Success at once with the output named, and changes nothing but what an answer
changes: 16 LDs of granularity 256 MiB with neither egress congestion nor throughput reduction; the static partitions in units of
256 MiB; 8 DC regions with block size 256 MiB and Sanitize on Release 1, 512 extents per LD and 4,096 per device; the extents an
LD holds. (The fields' layout is CXL 3.1's, log 16.) (11_mailbox_and_sessions.md R273, Table 11-5, 10_cxl_interface.md R244, R246) -/
def Obligations.CapacityReadsAnswer : Prop :=
  ∀ (s : State) (r : Req),
    (s.Taken r 0x5400 (some 0) → exec (.getLdInfo r) s = .next (s.answer r 0x5400
      (okOut (.fields [("memorySize", s.capacity), ("ldCount", 16), ("granularity", 2 ^ 28), ("epcCapable", 0), ("ttrCapable", 0)])))) ∧
    (s.Taken r 0x5401 none → exec (.getLdAllocations r) s = .next (s.answer r 0x5401
      (okOut (.fields ([("granularity", 2 ^ 28)] ++ s.lds.toList.map fun l => ("units", l.partSize / 2 ^ 28)))))) ∧
    (s.Taken r 0x5600 (some 0) → exec (.getDcdInfo r) s = .next (s.answer r 0x5600
      (okOut (.fields [("hosts", 16), ("regions", 8), ("blockSize", 2 ^ 28), ("sanitizeOnRelease", 1), ("capacity", s.capacity),
        ("extentsPerLd", 512), ("extents", 4096)])))) ∧
    (∀ ld, ld < 16 → s.Taken r 0x5601 none → ∃ l, exec (.getHostDcRegionConfig r ld) s = .next (s.answer r 0x5601 (okOut (.fields l))) ∧
      ∀ k : Fin 8, ("base", s.lk.dcRegions[k].base) ∈ l ∧ ("len", s.lk.dcRegions[k].len) ∈ l) ∧
    (∀ (n : Fin 16) (len : Nat), r = ⟨.ld n, len⟩ → s.Taken r 0x4800 none →
      ∃ l, exec (.getDcConfig r) s = .next (s.answer r 0x4800 (okOut (.fields l))) ∧ ("regions", 8) ∈ l ∧ ("extents", 512) ∈ l ∧
        ∀ k : Fin 8, ("base", s.lk.dcRegions[k].base) ∈ l ∧ ("len", s.lk.dcRegions[k].len) ∈ l) ∧
    (∀ (n : Fin 16) (len start count : Nat), r = ⟨.ld n, len⟩ → s.Taken r 0x4801 (some 8) →
      exec (.getDcExtentList r start count) s = .next (s.answer r 0x4801 (okOut (.fields
        ([("total", (s.lk.extents.filter fun e => e.holders.contains n).length)] ++
          extentFields (((s.lk.extents.filter fun e => e.holders.contains n).drop start).take count)))))) ∧
    (∀ (n : Fin 16), s.Taken r 0x5603 none → exec (.getDcRegionExtentLists r n.val) s = .next (s.answer r 0x5603
      (okOut (.fields (extentFields (s.lk.extents.filter fun e => e.holders.contains n))))))

/-- A taken SET_LD_ALLOCATIONS within the 16 LDs gives each named LD its size, and a taken SET_DC_REGION_CONFIG its region: when the
change fits the capacity and moves or shrinks nothing that holds a granule that is not unwritten or an extent, it is answered
Success, and every LD's static partition then stands at the sum of the sizes before it and every DC region at the sum of the
partitions and of the regions before it; a change refused by that rule is answered Invalid Input, reason 0x000A, with nothing else
changed. (10_cxl_interface.md R244, R246, R248) -/
def Obligations.CapacityIsDividedAsAsked : Prop :=
  (∀ (s : State) (r : Req) (start : Nat) (units : List Nat), s.Taken r 0x5402 (some (4 + 16 * units.length)) → start + units.length ≤ 16 →
    let parts := (s.partSizes.take start) ++ (units.map (· * 2 ^ 28)) ++ s.partSizes.drop (start + units.length)
    (s.divisionBad parts s.dcLens = false →
      exec (.setLdAllocations r start units) s = .next ((s.divide parts s.dcLens).answer r 0x5402 okAns)) ∧
    (s.divisionBad parts s.dcLens = true → exec (.setLdAllocations r start units) s = .next (s.answer r 0x5402 ⟨0x0002, 0x000A, 0, .none⟩))) ∧
  (∀ (s : State) (r : Req) (k : Fin 8) (units : Nat) (share : Bool), s.Taken r 0x5602 none →
    let dcs := s.dcLens.set k.val (units * 2 ^ 28)
    (s.divisionBad s.partSizes dcs = false → ∃ t, exec (.setDcRegionConfig r k.val units share) s = .next t ∧
      t.lk.dcRegions[k].sharable = share ∧ .mbx r.inst 0x5602 0x0000 .none ∈ t.out) ∧
    (s.divisionBad s.partSizes dcs = true → exec (.setDcRegionConfig r k.val units share) s = .next (s.answer r 0x5602 ⟨0x0002, 0x000A, 0, .none⟩))) ∧
  ∀ (s : State) (parts dcs : List Nat), parts.length = 16 → dcs.length = 8 → (∀ n : Fin 16, s.lds[n].cw.en = false) →
    (∀ n : Fin 16, (s.divide parts dcs).lds[n].partSize = parts.getD n.val 0 ∧ (s.divide parts dcs).lds[n].partBase = (parts.take n.val).sum) ∧
    ∀ k : Fin 8, (s.divide parts dcs).lk.dcRegions[k].len = dcs.getD k.val 0 ∧
      (s.divide parts dcs).lk.dcRegions[k].base = parts.sum + (dcs.take k.val).sum

/-- A taken INITIATE_DC_ADD of whole blocks inside one DC region that meets no extent offers it to the LD; the LD does not hold it
yet. A taken ADD_DC_RESPONSE whose ranges all lie in extents offered to the LD allocates them at once, unless the LD would hold
more than 512. A taken RELEASE_DC, or a forced INITIATE_DC_RELEASE, of a range the LD holds is accepted at once: from then on the
range is not allocated to it; when none of its requests there is still under way the release ends in the same step, otherwise the
command waits for them. A release that is not forced only asks, and changes nothing. (10_cxl_interface.md R246, R247, R248) -/
def Obligations.ExtentsAreOfferedAcceptedAndReleased : Prop :=
  ∀ (s : State) (r : Req) (n : Fin 16),
    (∀ (q : Range) (k : Fin 8), s.Taken r 0x5604 none → s.dcOf q = some k →
      (∀ e ∈ s.lk.extents, e.base + e.len ≤ q.base ∨ q.base + q.len ≤ e.base) → s.lk.extents.length < 4096 →
      exec (.initiateDcAdd r n.val q) s =
        .next ({ s with lk := { s.lk with extents := s.lk.extents ++ [(⟨q.base, q.len, k.val, [], [n], []⟩ : Extent)] } }.answer r 0x5604 okAns)) ∧
    (∀ (len : Nat) (accept : List Range), r = ⟨.ld n, len⟩ → s.Taken r 0x4802 (some (8 + 32 * accept.length)) → accept.all (s.offered n) = true →
      ((acceptExtents n accept s.lk.extents).filter fun e => e.holders.contains n).length ≤ 512 →
      exec (.addDcResponse r accept) s =
        .next ({ s with lk := { s.lk with extents := acceptExtents n accept s.lk.extents } }.answer r 0x4802 okAns)) ∧
    (∀ (len : Nat) (q : Range), r = ⟨.ld n, len⟩ → s.Taken r 0x4803 (some 40) → s.releasing n q = false → s.mayRelease n q = true →
      let t := s.releaseBegin n q
      exec (.releaseDc r [q]) s = .next (if t.rangeBusy n q then { t with held := t.held ++ [.releaseDc r [q]] }
        else (t.releaseDone n q).answer r 0x4803 okAns)) ∧
    (∀ q : Range, s.Taken r 0x5605 none → s.mayRelease n q = true →
      exec (.initiateDcRelease r n.val q false) s = .next (s.answer r 0x5605 okAns) ∧
      (s.releasing n q = false → let t := s.releaseBegin n q
        exec (.initiateDcRelease r n.val q true) s = .next (if t.rangeBusy n q then { t with held := t.held ++ [.initiateDcRelease r n.val q true] }
          else (t.releaseDone n q).answer r 0x5605 okAns)))

/-- A taken SET_QOS_ALLOCATED_BW or SET_QOS_BW_LIMIT within the 16 LDs stores each fraction in its LD and no other; the reads answer
them. SET_QOS_CONTROL with Egress Port Congestion or Temporary Throughput Reduction answers Invalid Input, reason 0x000A; with
both 0 it is stored. GET_QOS_STATUS answers the highest DevLoad of any LD. (10_cxl_interface.md R256, R255,
11_mailbox_and_sessions.md R273, Table 11-5) -/
def Obligations.QosCommandsAnswer : Prop :=
  ∀ (s : State) (r : Req),
    (s.Taken r 0x5403 (some 0) → exec (.getQosControl r) s = .next (s.answer r 0x5403 (okOut (.fields
      [("egressCongestion", b2n s.lk.epcEn), ("throughputReduction", b2n s.lk.ttrEn), ("value", s.lk.qosValue)])))) ∧
    (∀ e t v, s.Taken r 0x5404 (some 7) → (e || t) = true → exec (.setQosControl r e t v) s = .next (s.answer r 0x5404 ⟨0x0002, 0x000A, 0, .none⟩)) ∧
    (∀ v, s.Taken r 0x5404 (some 7) → exec (.setQosControl r false false v) s =
      .next ({ s with lk := { s.lk with epcEn := false, ttrEn := false, qosValue := v } }.answer r 0x5404 okAns)) ∧
    (s.Taken r 0x5405 (some 0) → ∃ m, exec (.getQosStatus r) s = .next (s.answer r 0x5405 (okOut (.fields [("devLoad", m)]))) ∧
      (∀ n : Fin 16, s.devLoad n ≤ m) ∧ ∃ n : Fin 16, m = s.devLoad n) ∧
    (s.Taken r 0x5406 none → exec (.getQosAllocatedBw r) s = .next (s.answer r 0x5406
      (okOut (.bytes (s.lds.toList.map fun l => BitVec.ofNat 8 l.weightF))))) ∧
    (s.Taken r 0x5408 none → exec (.getQosBwLimit r) s = .next (s.answer r 0x5408
      (okOut (.bytes (s.lds.toList.map fun l => BitVec.ofNat 8 l.limitN))))) ∧
    (∀ (start : Nat) (fs : List Byte), start + fs.length ≤ 16 → s.Taken r 0x5407 (some (2 + fs.length)) →
      exec (.setQosAllocatedBw r start fs) s = .next ({ s with lds := .ofFn fun n : Fin 16 =>
        if start ≤ n.val ∧ n.val < start + fs.length then { s.lds[n] with weightF := (fs.getD (n.val - start) 0).toNat } else s.lds[n] }.answer r 0x5407 okAns)) ∧
    (∀ (start : Nat) (fs : List Byte), start + fs.length ≤ 16 → s.Taken r 0x5409 (some (2 + fs.length)) →
      exec (.setQosBwLimit r start fs) s = .next ({ s with lds := .ofFn fun n : Fin 16 =>
        if start ≤ n.val ∧ n.val < start + fs.length then { s.lds[n] with limitN := (fs.getD (n.val - start) 0).toNat } else s.lds[n] }.answer r 0x5409 okAns))

/-- A taken OPEN_SESSION on a slot that holds a key, is neither backed off nor at its usage limit draws a handle and a device nonce
(free values, log 5), voids an earlier handle of the instance and answers them; the handle is void 5 s later. A taken
AUTHENTICATE_SESSION of the waiting handle, with RESP the CMAC of R276 under the slot's key and the MAC engine agreeing with
itself and within its limit for both computations, answers DPROOF and opens a session with the slot's role; its failure count is
cleared. A wrong RESP answers Invalid Input, reason 0x000D, voids the handle, opens no session and counts one failure of that
slot. CLOSE_SESSION and SESSION_IDLE_TIMEOUT end the session, HANDLE_TIMEOUT the handle. The instance is not the keeper's to
serve. (11_mailbox_and_sessions.md R275, R276, R277, R278, 14_security_and_lifecycle.md R340) -/
def Obligations.SessionsOpenAuthenticateAndEnd : Prop :=
  ∀ (s : State) (r : Req), s.keeperServes r.inst = false →
    (∀ (k : Fin 4) (hn : BitVec 128), s.Taken r 0xC000 (some 32) → s.backedOff k = false →
      s.sec.macSlots[macOfSlot k].uses < s.sec.macSlots[macOfSlot k].limit → s.sec.sessKeys[k].isSome = true →
      ∃ t, exec (.openSession r k.val hn) s = .next t ∧ t.freeIx = s.freeIx + 2 ∧ t.mb.inst[Inst.ix r.inst].handle =
          some ⟨Config.freeHandle s.freeIx, k, hn, Config.freeNonce (s.freeIx + 1), s.now + secTicks 5⟩ ∧
        .mbx r.inst 0xC000 0x0000 (.bytes (le 4 (Config.freeHandle s.freeIx).toNat ++ le 16 (Config.freeNonce (s.freeIx + 1)).toNat)) ∈ t.out) ∧
    (∀ (h : Handle) (k : SessKey) (resp : BitVec 128), s.Taken r 0xC001 (some 20) → s.mb.inst[Inst.ix r.inst].handle = some h → s.now ≤ h.voidAt →
      s.sec.sessKeys[h.slot] = some k → s.macOk (macOfSlot h.slot) = true → (s.macUse (macOfSlot h.slot)).macOk (macOfSlot h.slot) = true →
      Config.cmac k.key (sessMsg 1 r.inst h) = resp →
      ∃ t, exec (.authenticateSession r h.handle resp .agree) s = .next t ∧ t.mb.inst[Inst.ix r.inst].handle = none ∧
        t.mb.inst[Inst.ix r.inst].session = some ⟨h.slot, k.role, s.now⟩ ∧ t.sec.authFails[h.slot] = 0 ∧
        .mbx r.inst 0xC001 0x0000 (.bytes (le 16 (Config.cmac k.key (sessMsg 2 r.inst h)).toNat)) ∈ t.out) ∧
    (∀ (h : Handle) (k : SessKey) (resp : BitVec 128), s.Taken r 0xC001 (some 20) → s.mb.inst[Inst.ix r.inst].handle = some h → s.now ≤ h.voidAt →
      s.sec.sessKeys[h.slot] = some k → s.macOk (macOfSlot h.slot) = true → Config.cmac k.key (sessMsg 1 r.inst h) ≠ resp →
      ∃ t, exec (.authenticateSession r h.handle resp .agree) s = .next t ∧ t.mb.inst[Inst.ix r.inst].handle = none ∧
        t.sec.authFails[h.slot] = s.sec.authFails[h.slot] + 1 ∧ .mbx r.inst 0xC001 0x0002 .none ∈ t.out ∧
        (s.mb.inst[Inst.ix r.inst].session = none → t.mb.inst[Inst.ix r.inst].session = none)) ∧
    (s.Taken r 0xC002 (some 0) → exec (.closeSession r) s = .next ((s.modMb r.inst fun m => { m with session := none }).answer r 0xC002 okAns)) ∧
    (s.Taken r 0xC003 (some 0) → s.session r.inst = none →
      exec (.getSessionStatus r) s = .next (s.answer r 0xC003 (okOut (.bytes (List.replicate 8 0))))) ∧
    (∀ x, s.Taken r 0xC003 (some 0) → s.session r.inst = some x → exec (.getSessionStatus r) s = .next (s.answer r 0xC003 (okOut (.bytes
      (le 1 1 ++ le 1 x.slot.val ++ le 1 x.role ++ le 1 0 ++ le 4 ((secTicks 30 - (s.now - x.lastTick)) / secTicks 1)))))) ∧
    (∀ h, s.mb.inst[Inst.ix r.inst].handle = some h →
      exec (.handleTimeout r.inst) s = .next ((s.since h.voidAt 1).setHandle r.inst none)) ∧
    (∀ x, s.mb.inst[Inst.ix r.inst].session = some x → s.mb.inst[Inst.ix r.inst].bg.any (·.running) = false →
      exec (.sessionIdleTimeout r.inst) s = .next ((s.since x.lastTick (secTicks 30 + 1)).setSession r.inst none))

/-- Every answer with a code other than Success or Background Command Started leaves its opcode, code and reason, with PARAM, as the
instance's record, except an answer to Get Last Failure itself, which leaves the record as it is; a taken GET_LAST_FAILURE, with
an empty input, answers the record in the 16 bytes of R271. (11_mailbox_and_sessions.md R271, Table 11-3) -/
def Obligations.LastFailureIsReported : Prop :=
  (∀ (s : State) (r : Req) (op : Nat) (a : Ans), (s.answer r op a).mb.inst[Inst.ix r.inst].failure =
    (if op = 0xC004 ∨ a.code = 0x0000 ∨ a.code = 0x0001 then s.mb.inst[Inst.ix r.inst].failure else (⟨op, a.code, a.reason, a.param⟩ : Failure))) ∧
  ∀ (s : State) (r : Req), s.Taken r 0xC004 (some 0) → let f := s.mb.inst[Inst.ix r.inst].failure
    exec (.getLastFailure r) s = .next (s.answer r 0xC004
      (okOut (.bytes (le 2 f.opcode ++ le 2 f.code ++ le 2 f.reason ++ le 2 0 ++ le 8 f.param))))

/-- While the life cycle is Blank and slot 0 is empty, a taken PROVISION_SESSION_KEY of slot 0, role Owner, whose key has bytes 47:40
zero, loads it in plaintext without a session. Outside Blank it needs an Owner session: without a session it answers reason 0x0001
and counts, with an Operator's 0x0002 and counts; with an Owner's, the key arrives wrapped under the session slot's key, and where
it unwraps it replaces the target slot's key; where it does not, Invalid Input. Revoking slot 0, or the slot of the session that
issues it, answers Invalid Input; another slot is wiped and its sessions end. A loaded or wiped slot ends every session opened
with it. GRANT_DEVICE_CONTROL replaces the previous grant, 0xFF with none. (11_mailbox_and_sessions.md R275, 10_cxl_interface.md
R265) -/
def Obligations.SessionKeysAreProvisionedAndRevoked : Prop :=
  ∀ (s : State) (r : Req),
    (∀ key : BitVec 320, s.Taken r 0xC008 (some 48) → s.sec.fuseLC = .blank → s.sec.sessKeys[(0 : Fin 4)] = none → key.toNat < 2 ^ 256 →
      exec (.provisionSessionKey r 0 1 key) s = .next ((s.setSessKey 0 1 (key.setWidth 256)).answer r 0xC008 okAns)) ∧
    (∀ (k : Fin 4) (role : Nat) (key : BitVec 320), s.Taken r 0xC008 (some 48) → s.sec.fuseLC ≠ .blank →
      (s.session r.inst = none → exec (.provisionSessionKey r k.val role key) s =
        .next ((s.violate (Inst.who r.inst) 6 0xC008).answer r 0xC008 ⟨0x0002, 0x0001, 0, .none⟩)) ∧
      (s.session r.inst ≠ none → s.ownerOn r.inst = false → exec (.provisionSessionKey r k.val role key) s =
        .next ((s.violate (Inst.who r.inst) 6 0xC008).answer r 0xC008 ⟨0x0002, 0x0002, 0, .none⟩)) ∧
      (∀ x, s.session r.inst = some x → x.role = 1 → role ≤ 1 → (k = 0 → role = 1) → match (s.unwrap x.slot key).1 with
        | some p => exec (.provisionSessionKey r k.val role key) s = .next (((s.unwrap x.slot key).2.setSessKey k role p).answer r 0xC008 okAns)
        | none => ∃ reason, exec (.provisionSessionKey r k.val role key) s =
            .next ((s.unwrap x.slot key).2.answer r 0xC008 ⟨0x0002, reason, 0, .none⟩))) ∧
    (∀ (k : Fin 4), s.Taken r 0xC009 (some 1) →
      ((k = 0 ∨ ∃ x, s.session r.inst = some x ∧ x.slot = k) → exec (.revokeSessionKey r k.val) s = .next (s.answer r 0xC009 ⟨0x0002, 0x000A, 0, .none⟩)) ∧
      (k ≠ 0 → (∀ x, s.session r.inst = some x → x.slot ≠ k) → exec (.revokeSessionKey r k.val) s = .next
        ((({ s with sec := { s.sec with sessKeys := s.sec.sessKeys.set k none } }.store 1 (16 + k.val) 48).endSlot k).answer r 0xC009 okAns))) ∧
    (∀ (k : Fin 4) (i : Fin 18), (∀ x, (s.endSlot k).mb.inst[i].session = some x → x.slot ≠ k) ∧ ∀ h, (s.endSlot k).mb.inst[i].handle = some h → h.slot ≠ k) ∧
    (∀ n : Fin 16, s.Taken r 0xC00A (some 1) →
      exec (.grantDeviceControl r n.val) s = .next ({ s with lk := { s.lk with grant := some n } }.answer r 0xC00A okAns)) ∧
    (s.Taken r 0xC00A (some 1) → exec (.grantDeviceControl r 0xFF) s = .next ({ s with lk := { s.lk with grant := none } }.answer r 0xC00A okAns))

/-- A violation of a claimant adds 1 to that counter, saturating at 0xFFFF_FFFF, sets its kind's bit, its last kind and last address,
and leaves every other counter. A taken GET_VIOLATION_COUNTERS answers the 17 records, and with CLEAR every total, last kind and
last address is 0 afterwards. READ_DEVICE_REGISTERS and WRITE_DEVICE_REGISTERS in range make their COUNT accesses one at a time,
in order, at rising offsets, and answer Success; out of range they answer Invalid Input, reason 0x0009. (Whether the kinds seen
are cleared is the model's reading, log 47.) (11_mailbox_and_sessions.md R284, R285, Table 11-7) -/
def Obligations.ViolationsAreCountedAndRead : Prop :=
  (∀ (s : State) (who : Fin 17) (kind addr : Nat), kind < 8 → let v := s.mb.viol[who]; let w := (s.violate who kind addr).mb.viol
    w[who].total = min 0xFFFFFFFF (v.total + 1) ∧ w[who].kinds.getLsbD kind = true ∧ w[who].lastKind = kind ∧ w[who].lastAddr = addr ∧
    ∀ o : Fin 17, o ≠ who → w[o] = s.mb.viol[o]) ∧
  ∀ (s : State) (r : Req),
    (∀ clear, s.Taken r 0xC601 (some 1) → ∃ t, exec (.getViolationCounters r clear) s = .next (t.answer r 0xC601
      (okOut (.bytes (s.mb.viol.toList.flatMap fun v => le 4 v.total ++ le 1 v.kinds.toNat ++ le 1 v.lastKind ++ le 2 0 ++ le 8 v.lastAddr)))) ∧
      (clear = false → t = s) ∧ (clear = true → ∀ w : Fin 17, t.mb.viol[w].total = 0 ∧ t.mb.viol[w].lastKind = 0 ∧ t.mb.viol[w].lastAddr = 0)) ∧
    (∀ block width count offset, s.Taken r 0xC610 (some 8) → block ≤ 3 → (width = 4 ∨ width = 8) → 1 ≤ count → count ≤ 2048 →
      offset % width = 0 → offset + count * width ≤ viewSize block →
      exec (.readDeviceRegisters r block width count offset) s =
        .next ((s.readFmAll block width offset count).2.answer r 0xC610 (okOut (.bytes (s.readFmAll block width offset count).1)))) ∧
    (∀ block width count offset (data : List Nat), s.Taken r 0xC611 (some (8 + count * width)) → block ≤ 3 → (width = 4 ∨ width = 8) →
      1 ≤ count → count ≤ 2047 → offset % width = 0 → offset + count * width ≤ viewSize block →
      exec (.writeDeviceRegisters r block width count offset data) s =
        .next ((s.writeFmAll block width offset (data.take count)).answer r 0xC611 okAns)) ∧
    (∀ block width count offset, s.Taken r 0xC610 (some 8) → 3 < block →
      exec (.readDeviceRegisters r block width count offset) s = .next (s.answer r 0xC610 ⟨0x0002, 0x0009, 0, .none⟩))

/-- A taken request of one of these commands, its fields in range, answers Success at once with the output of Table 11-7, built from
the registers that hold it, and changes nothing but what an answer changes. The recovery report leaves out, on a primary mailbox,
the torn entries of another LD, and shows at most 1,020 from FIRST; the log reads answer the stored records from the first
sequence number on, in order, at most the number asked. GET_CHANNEL_STATUS shows each channel's state, 0xFF where unpopulated.
(11_mailbox_and_sessions.md R281, Table 11-7, 00_scope.md R6, 02_persistence_contract.md R42, Tables 02-4 and 02-5,
07_commit_groups.md R180, 12_notifications_events_counters.md R305, R306) -/
def Obligations.VendorReadsAnswer : Prop :=
  ∀ (s : State) (r : Req),
    (s.Taken r 0xC100 (some 0) → exec (.getDeviceIdentity r) s = .next (s.answer r 0xC100 (okOut (.bytes
      (le 1 (b2n (s.hw.bin == .p)) ++ le 1 (b2n (s.hw.grade == .x)) ++ le 1 s.hw.channels ++ le 1 s.hw.dies ++ le 1 s.numSets ++
        le 1 (Point.code s.pw.selected) ++ le 1 (Point.code s.pw.present) ++ le 1 0 ++ le 8 (imageVersion s.sec.running) ++
        le 8 s.hw.serial.toNat ++ le 2 s.lo.proto ++ le 2 s.kp.formatLevel ++ le 8 s.kp.poolId.toNat ++ le 2 s.kp.memberId.toNat))))) ∧
    (∀ c : Fin 64, s.Taken r 0xC101 (some 2) → s.hw.channels ≤ c.val →
      exec (.getChannelStatus r c.val 1) s = .next (s.answer r 0xC101 (okOut (.bytes (le 1 0xFF ++ zeros 7))))) ∧
    (∀ (c : Fin 64) (t : Int), s.Taken r 0xC101 (some 2) → c.val < s.hw.channels →
      maxTemp ((s.chanDies c).map fun d => (s.mediaSensor d).eff true) = some t →
      exec (.getChannelStatus r c.val 1) s = .next (s.answer r 0xC101 (okOut (.bytes (le 1 s.rd.chans[c].code ++ le 1 (s.chanDies c).length ++
        [(s.degByte (some t)).1] ++ zeros 1 ++ le 4 ((lastSec s.now s.md.retries).filter fun x => x.1 = c).length))))) ∧
    (∀ first, s.Taken r 0xC110 (some 2) → first ≤ 4095 → let page := ((s.tornFor r.inst).drop first).take 1020
      exec (.getRecoveryReport r first) s = .next (s.answer r 0xC110 (okOut (.bytes
        (s.kp.report.header (s.tornFor r.inst).length first page.length ++ page.flatMap TornRec.bytes))))) ∧
    (∀ (k : Fin 4), s.Taken r 0xC120 (some 1) → k.val < s.numSets → let x := s.rd.sets[k]
      exec (.getStripeSetStatus r k.val) s = .next (s.answer r 0xC120 (okOut (.bytes (le 1 x.state.code ++ le 1 (s.outPos k).length ++
        le 2 ((s.outPos k).foldl (fun n p => n + 2 ^ p.val) 0) ++ le 1 (b2n x.auto) ++ le 1 x.prio ++ le 1 (b2n (s.kp.eolSets.contains k)) ++
        zeros 1 ++ le 4 s.fo.spare[k].usable ++ le 4 x.rebuilt ++ le 4 x.toRebuild))))) ∧
    (∀ n : Fin 16, r = ⟨.ld n, 0⟩ → s.Taken r 0xC201 none → exec (.getGroupOutcomes r) s = .next (s.answer r 0xC201 (okOut (.bytes
      (le 2 1 ++ le 1 s.kp.groupBoot ++ zeros 13 ++ (allFin 64).flatMap fun w => GroupRec.bytes (s.kp.groupReport[n])[w] w))))) ∧
    (∀ k : Fin 256, s.Taken r 0xC304 (some 1) → let x := s.cr.regions[k]
      exec (.getRegionStatus r k.val) s = .next (s.answer r 0xC304 (okOut (.bytes (le 1 x.state.code ++ le 1 (b2n x.cur) ++ zeros 6 ++
        le 8 x.base ++ le 8 x.size ++ le 8 x.w ++ le 4 x.early))))) ∧
    (∀ area first top, s.Taken r 0xC600 (some 10) → area ≤ 1 → 1 ≤ top → top ≤ 511 →
      exec (.readPersistentLog r area first top) s = .next (s.answer r 0xC600
        (okOut (recsOut (recsFrom (if area = 0 then s.ev.log else s.ev.first) first top))))) ∧
    (∀ first top, s.Taken r 0xC603 (some 10) → 1 ≤ top → top ≤ 511 →
      exec (.readHardwareRing r 0 first top) s = .next (s.answer r 0xC603 (okOut (recsOut (recsFrom s.ev.ring first top)))))

/-- A taken request of one of these commands answers Success at once with the output of Table 11-7, and changes nothing but what an
answer changes (GET_THERMAL_STATUS draws a free value for a temperature that nothing has measured yet, log 5). A customer
partition read with the right password, in range, answers the newest committed bytes. (11_mailbox_and_sessions.md R281, Table
11-7, 16_power_and_holdup.md Table 16-4, 18_thermal.md R417, 15_lode_and_tethers.md R355) -/
def Obligations.StatusReadsAnswer : Prop :=
  ∀ (s : State) (r : Req),
    (s.Taken r 0xC400 (some 0) → let ts := (allFin 8).filter fun t => s.lo.tethers[t].state ≠ .free
      exec (.getPoolStatus r) s = .next (s.answer r 0xC400 (okOut (.bytes (le 8 s.kp.poolId.toNat ++ le 2 s.kp.memberId.toNat ++
        le 2 s.lo.proto ++ le 2 s.topProto ++ le 2 s.kp.formatLevel ++ le 2 s.topFmt ++ le 1 ts.length ++ zeros 5 ++ ts.flatMap s.tetherBytes))))) ∧
    (s.Taken r 0xC500 (some 0) → exec (.getPowerStatus r) s = .next (s.answer r 0xC500 (okOut (.bytes (le 1 s.pw.st.code ++
      le 1 (b2n s.pw.holdupReady + 2 * b2n (s.pw.st == .lockout)) ++ le 2 s.pw.vin ++ le 2 s.pw.vhold ++ le 1 s.pw.retriesLeft ++ le 1 0 ++
      le 4 s.kp.dsc))))) ∧
    (s.Taken r 0xC504 (some 0) → ∃ (t : State) (l : List Byte), exec (.getThermalStatus r) s = .next (t.answer r 0xC504 (okOut (.bytes l))) ∧ l.length = 8 ∧
      l.getD 3 0 = BitVec.ofNat 8 (s.th.level + 4 * b2n (s.sensors.any fun x => x.2.2.broken)) ∧ t = { s with freeIx := t.freeIx }) ∧
    (s.Taken r 0xC702 (some 0) → exec (.getCacheStatus r) s = .next (s.answer r 0xC702 (okOut (.bytes
      (le 1 (b2n s.ca.en + 2 * b2n s.ca.stale + 4 * b2n s.ca.rbusy) ++ zeros 1 ++
        le 2 ((allFin 16).foldl (fun n k => n + b2n (s.ld k).prefetch * 2 ^ k.val) 0)))))) ∧
    (s.Taken r 0xC711 (some 0) → exec (.getPatrolStatus r) s = .next (s.answer r 0xC711 (okOut (.bytes
      (s.setList.flatMap fun k => le 4 s.dr.patrol[k].visited ++ le 4 s.dr.patrol[k].total))))) ∧
    (s.Taken r 0xC800 (some 0) → exec (.getLifeCycleState r) s = .next (s.answer r 0xC800 (okOut (.bytes (le 1 s.sec.lc.code))))) ∧
    (s.Taken r 0xC802 (some 0) → exec (.getBootStatus r) s = .next (s.answer r 0xC802 (okOut (.bytes
      (le 1 (b2n s.sec.runningB) ++ le 1 (b2n s.sec.prefB) ++ le 8 (imageVersion s.sec.imgA) ++ le 8 (imageVersion s.sec.imgB) ++
        le 4 s.sec.antiRollback))))) ∧
    (∀ (offset length : Nat) (pass : Key), s.Taken r 0xC604 (some 40) → s.kp.readPw = 0 → s.kp.pwUntil = none → offset < 65536 → 1 ≤ length →
      length ≤ 16352 → offset + length ≤ 65536 →
      exec (.readCustomerPartition r offset length pass) s =
        .next (s.answer r 0xC604 (okOut (.bytes (Mem.readBytes s.kp.customer offset length)))))

/-- Every taken SET_OPERATING_POINT of point 2 on a device of bin S is answered Invalid Input (reason 0x000A) and changes nothing but
the answer, so that the selected, the present and the target point stay; GET_DEVICE_IDENTITY answers 0 in its first byte on bin S
and 1 on bin P. (00_scope.md R6) -/
def Obligations.BinSRefusesPointP : Prop :=
  (∀ (s : State) (r : Req), s.Taken r 0xC501 (some 1) → s.hw.bin = .s →
    exec (.setOperatingPoint r 2) s = .next (s.answer r 0xC501 ⟨0x0002, 0x000A, 0, .none⟩) ∧
    (s.answer r 0xC501 ⟨0x0002, 0x000A, 0, .none⟩).pw = s.pw) ∧
  ∀ (s : State) (r : Req), s.Taken r 0xC100 (some 0) → ∃ l, exec (.getDeviceIdentity r) s =
    .next (s.answer r 0xC100 (okOut (.bytes ((if s.hw.bin = .s then 0 else 1) :: l))))

/-- A taken SET_OPERATING_POINT that the bin admits stores the point durably as the selected one: with the data path enabled it asks
the keeper for the change and is answered when that is over (during a power-down or a flush from good VIN too: model's choice, log
86), so that with no change under way and another point present the target is that point with the VCORE window widened and the
request waits; before that it is answered Success at once; after VIN has collapsed it is answered Busy, reason 0x0008.
OPERATING_POINT_REACHED makes the target the present point and answers every request that waits for it; when a later request named
another point, the change to that one follows at once. (01_architecture.md R14, R16, 11_mailbox_and_sessions.md Table 11-7) -/
def Obligations.OperatingPointChanges : Prop :=
  ∀ (s : State) (r : Req) (p : Nat), p ≤ 2 →
    (s.Taken r 0xC501 (some 1) → (p = 2 → s.hw.bin = .p) → let t := { s with pw := { s.pw with selected := pointOf p } }.save 39
      (s.pw.vinGood = true → s.pw.dataPath = true → exec (.setOperatingPoint r p) s = .next (t.requestPoint r.inst (pointOf p))) ∧
      (s.pw.vinGood = true → s.pw.dataPath = false → exec (.setOperatingPoint r p) s = .next (t.answer r 0xC501 okAns)) ∧
      (s.pw.vinGood = false → exec (.setOperatingPoint r p) s = .next (s.answer r 0xC501 ⟨0x0006, 0x0008, 0, .none⟩)) ∧
      (s.pw.vinGood = true → s.pw.dataPath = true → s.pw.st ≠ .flushing → s.pw.target = none → s.pw.present ≠ pointOf p →
        exec (.setOperatingPoint r p) s = .next { t with pw := { t.pw with target := some (pointOf p), wideWindow := true, pointWaiters := s.pw.pointWaiters ++ [(r.inst, pointOf p)] } })) ∧
    (∀ (q : Point), s.pw.target = some q → (∀ z, s.pw.nextPoint = some z → z = q) → ∃ t : State, exec .operatingPointReached s = .next t ∧
      t.pw.present = q ∧ t.pw.target = none ∧ t.pw.wideWindow = false ∧ t.pw.pointWaiters = (s.pw.pointWaiters.filter fun x => x.2 ≠ q) ∧
      ∀ x ∈ s.pw.pointWaiters, x.2 = q → .mbx x.1 0xC501 0x0000 .none ∈ t.out) ∧
    (∀ (q z : Point), s.pw.target = some q → s.pw.nextPoint = some z → z ≠ q → ∃ t : State, exec .operatingPointReached s = .next t ∧
      t.pw.present = q ∧ t.pw.target = some z ∧ t.pw.nextPoint = none ∧ t.pw.wideWindow = true)

/-- A taken request whose fields lie in the ranges of Table 11-7 and the owning rule stores its values (those the keeper's boot
parameters hold, with the record saved in the same step) and answers Success; one whose field is out of range is answered Invalid
Input, reason 0x0009, with the byte offset of the first such field, and changes nothing but the answer. RETIRE_CHANNEL on a
channel that R229 admits starts the drain; where R229 does not allow it, Invalid Input. (11_mailbox_and_sessions.md R281, Table
11-7, 07_commit_groups.md R166, 12_notifications_events_counters.md R307, 13_cache_and_on_chip_memory.md R324,
06_drift_and_scrub.md R147, 16_power_and_holdup.md R380, 18_thermal.md Table 18-3, 09_redundancy_and_degraded.md R227, R229) -/
def Obligations.VendorSettingsAreStored : Prop :=
  ∀ (s : State) (r : Req), let no (op p : Nat) : Host.Outcome State Fault Refusal := .next (s.answer r op ⟨0x0002, 0x0009, p, .none⟩)
    (∀ (n : Fin 16) (q : Nat), s.Taken r 0xC200 (some 8) → exec (.setGroupQuota r n.val q) s =
      if q ≤ 2 ^ 24 then .next ((s.modCw n fun c => { c with quota := q }).answer r 0xC200 okAns) else no 0xC200 4) ∧
    (∀ code limit, s.Taken r 0xC602 (some 4) → limit ≤ 65535 → exec (.setEventRateLimit r code limit) s = if codeListed code = true
      then .next (({ s with kp := { s.kp with rateLimits := tput 32 code (if limit = 0 then 32 else limit) s.kp.rateLimits } }.save (65536 + code)).answer r 0xC602 okAns)
      else no 0xC602 0) ∧
    (∀ (n : Fin 16) (flags : Byte), s.Taken r 0xC700 (some 2) → flags.getLsbD 3 = false → flags.getLsbD 4 = true → ∃ t : State,
      exec (.setCachePolicy r n.val flags) s = .next (t.answer r 0xC700 okAns) ∧ t.ca = s.ca ∧ t.lds[n].prefetch = flags.getLsbD 2 ∧
      ∀ m : Fin 16, m ≠ n → t.lds[m] = s.lds[m]) ∧
    (∀ (ld : Nat) (flags : Byte), s.Taken r 0xC700 (some 2) → ld ≤ 15 ∨ ld = 0xFF → flags.getLsbD 3 = true → flags.getLsbD 4 = false →
      (flags.getLsbD 0 = true → s.enableCause (flags.getLsbD 1) = 0) → ∃ t : State,
      exec (.setCachePolicy r ld flags) s = .next (t.answer r 0xC700 okAns) ∧ t.ca.en = flags.getLsbD 0 ∧ t.kp.cacheEn = flags.getLsbD 0 ∧
      t.lds = s.lds) ∧
    (∀ (p : PatrolParams), s.Taken r 0xC710 (some 21) → PatrolParams.outside p = none →
      ([p.t0, p.t1, p.t2, p.t3].any fun m => decide (p.busShare * m * 60 * 51200000000 < 100 * s.passBytes)) = false →
      exec (.setPatrolParameters r p.toPatrolInput p.busShare) s = .next ({ s with dr := { s.dr with params := p } }.answer r 0xC710 okAns)) ∧
    (∀ (p : PatrolParams) (o : Nat), s.Taken r 0xC710 (some 21) → PatrolParams.outside p = some o →
      exec (.setPatrolParameters r p.toPatrolInput p.busShare) s = no 0xC710 o) ∧
    (∀ (k : Fin 12) (f l h d t n : Nat), s.Taken r 0xC503 (some 12) → exec (.setRailParameters r k.val f l h d t n) s =
      match railRange k.val f l h d t n with
      | none => .next (({ s with pw := { s.pw with rails := s.pw.rails.set k.val ⟨l, h, f, d, t⟩, retries := n } }.save (112 + k.val)).answer r 0xC503 okAns)
      | some p => no 0xC503 p) ∧
    (∀ g, s.Taken r 0xC505 (some 2) → exec (.setThermalParameters r g) s = if 10 ≤ g ∧ g ≤ 1000
      then .next ({ s with th := { s.th with grace := g } }.answer r 0xC505 okAns) else no 0xC505 0) ∧
    (∀ (c : Fin 64), s.Taken r 0xC121 (some 1) → c.val < s.hw.channels → exec (.retireChannel r c.val) s = if s.mayRetire c = true
      then .next ((s.startDrain c).judgeMarks.answer r 0xC121 okAns) else .next (s.answer r 0xC121 ⟨0x0002, 0x000A, 0, .none⟩)) ∧
    (∀ (k : Fin 4) (auto : Bool) (prio : Nat), s.Taken r 0xC122 (some 3) → k.val < s.numSets → prio ≤ 2 →
      exec (.setRebuildControl r k.val auto false prio) s =
        .next ((s.modSet k fun x => { x with auto := auto, prio := prio }).answer r 0xC122 okAns))

/-- A taken WRITE_CUSTOMER_PARTITION in range with no write password set stores exactly its bytes and answers Success: afterwards each
byte written reads as given and every other byte of the partition reads as before. A wrong password is answered Incorrect
Passphrase, counts one, and changes no byte; while a back-off of 60 s runs, both commands are answered Busy, reason 0x000E.
SET_CUSTOMER_PASSWORDS replaces both. (Where the data die serves the instance; MAC slot 5 within its limit.)
(16_power_and_holdup.md R402, 11_mailbox_and_sessions.md Table 11-7) -/
def Obligations.CustomerPartitionIsKept : Prop :=
  ∀ (s : State) (r : Req),
    (∀ (offset length : Nat) (pass : Key) (data : List Byte), s.Taken r 0xC605 (some (40 + length)) → s.kp.writePw = 0 → s.kp.pwUntil = none →
      data.length = length → offset < 65536 → 1 ≤ length → length ≤ 16352 → offset + length ≤ 65536 →
      ∃ t : State, exec (.writeCustomerPartition r offset length pass data) s = .next (t.answer r 0xC605 okAns) ∧
        (∀ i (h : i < data.length), t.kp.customer.read (offset + i) = data[i]) ∧
        (∀ a, (a < offset ∨ offset + length ≤ a) → t.kp.customer.read a = s.kp.customer.read a) ∧
        (Memory.wf s.kp.customer → Memory.wf t.kp.customer)) ∧
    (∀ (offset length : Nat) (pass : Key) (data : List Byte), s.keeperServes r.inst = false → s.Taken r 0xC605 (some (40 + length)) →
      s.kp.writePw ≠ 0 → s.kp.pwUntil = none → s.macOk 5 = true → offset < 65536 → 1 ≤ length → length ≤ 16352 → offset + length ≤ 65536 →
      s.kp.pwWrong < 4 → let same := checkValue s.sec.keyCust.get pass = checkValue s.sec.keyCust.get s.kp.writePw
      (same → data.length = length → ∃ t : State, exec (.writeCustomerPartition r offset length pass data) s = .next (t.answer r 0xC605 okAns) ∧
        t.kp.pwWrong = 0 ∧ ∀ i (h : i < data.length), t.kp.customer.read (offset + i) = data[i]) ∧
      (¬same → ∃ t : State, exec (.writeCustomerPartition r offset length pass data) s = .next (t.answer r 0xC605 ⟨0x0014, 0, 0, .none⟩) ∧
        t.kp.customer = s.kp.customer ∧ t.kp.pwWrong = s.kp.pwWrong + 1)) ∧
    (∀ (u offset length : Nat) (pass : Key) (data : List Byte), s.kp.pwUntil = some u → s.now < u →
      (s.Taken r 0xC604 (some 40) → exec (.readCustomerPartition r offset length pass) s = .next (s.answer r 0xC604 ⟨0x0006, 0x000E, 0, .none⟩)) ∧
      (s.Taken r 0xC605 (some (40 + length)) → exec (.writeCustomerPartition r offset length pass data) s =
        .next (s.answer r 0xC605 ⟨0x0006, 0x000E, 0, .none⟩))) ∧
    (∀ a b : Key, s.keeperServes r.inst = false → s.Taken r 0xC606 (some 64) → s.macOk 5 = true → (s.macUse 5).macOk 5 = true → ∃ t : State,
      exec (.setCustomerPasswords r a b) s = .next (t.answer r 0xC606 okAns) ∧ t.kp.readPw = a ∧ t.kp.writePw = b ∧
        t.kp.customer = s.kp.customer)

/-- A taken CONFIGURE_REGION of a free region over an aligned range that one LD (or one shared extent) owns, that meets no region and
holds no granule in use, makes it Active with the base and size given and both keys present; REMOVE_REGION of an active region
that holds no granule in use frees it; SET_NEXT_KEY with MODE 0 replaces its next key; START_REKEY makes it Rekeying with W at its
first page and the first watermark record durable; each answers Success. While a region is rekeying all four are answered Busy,
reason 0x000A; Configure on a range in use, and Remove with a granule in use, Invalid Input; each then changes nothing but the
answer. (08_inline_encryption.md R186, R187, R188, R207, Table 08-2, 11_mailbox_and_sessions.md R281, Table 11-7) -/
def Obligations.RegionsChangeAsTabled : Prop :=
  ∀ (s : State) (r : Req) (k : Fin 256), k ≠ 0 → let x := s.cr.regions[k]
    (∀ base size : Nat, s.Taken r 0xC300 (some 24) → base % 2 ^ 28 = 0 → size % 2 ^ 28 = 0 → 0 < size →
      (x.state = .free → s.ownRange base size = true → s.regionMeets base size = false → s.hasData base size = false → ∃ t : State,
        exec (.configureRegion r k.val base size) s = .next (t.answer r 0xC300 okAns) ∧ t.cr.regions[k].state = .active ∧
        t.cr.regions[k].base = base ∧ t.cr.regions[k].size = size ∧ t.cr.regions[k].keyA.key.isSome = true ∧ t.cr.regions[k].keyB.key.isSome = true) ∧
      (x.state = .free → s.hasData base size = true →
        exec (.configureRegion r k.val base size) s = .next (s.answer r 0xC300 ⟨0x0002, 0x000A, 0, .none⟩)) ∧
      (x.state = .rekeying → exec (.configureRegion r k.val base size) s = .next (s.answer r 0xC300 ⟨0x0006, 0x000A, 0, .none⟩))) ∧
    (s.Taken r 0xC301 (some 1) →
      (x.state = .active → s.hasData x.base x.size = false → ∃ t : State, exec (.removeRegion r k.val) s = .next (t.answer r 0xC301 okAns) ∧
        t.cr.regions[k] = Region.init) ∧
      (x.state = .active → s.hasData x.base x.size = true → exec (.removeRegion r k.val) s = .next (s.answer r 0xC301 ⟨0x0002, 0x000A, 0, .none⟩)) ∧
      (x.state = .rekeying → exec (.removeRegion r k.val) s = .next (s.answer r 0xC301 ⟨0x0006, 0x000A, 0, .none⟩))) ∧
    (s.Taken r 0xC302 (some 48) →
      (x.state = .active → ∃ t : State, exec (.setNextKey r k.val 0 0) s = .next (t.answer r 0xC302 okAns) ∧ let y := t.cr.regions[k]
        y.cur = x.cur ∧ (if x.cur = true then y.keyB = x.keyB ∧ y.keyA = ⟨some (Config.freeKey s.freeIx), true⟩
          else y.keyA = x.keyA ∧ y.keyB = ⟨some (Config.freeKey s.freeIx), true⟩)) ∧
      (x.state = .rekeying → exec (.setNextKey r k.val 0 0) s = .next (s.answer r 0xC302 ⟨0x0006, 0x000A, 0, .none⟩))) ∧
    (s.Taken r 0xC303 (some 1) →
      (x.state = .active → ∃ t : State, exec (.startRekey r k.val) s = .next (t.answer r 0xC303 okAns) ∧ t.cr.regions[k].state = .rekeying ∧
        t.cr.regions[k].w = x.base / 4096 ∧ t.cr.regions[k].durW = some (x.base / 4096) ∧ t.cr.regions[k].cur = x.cur) ∧
      (x.state = .rekeying → exec (.startRekey r k.val) s = .next (s.answer r 0xC303 ⟨0x0006, 0x000A, 0, .none⟩)))

/-- While a region is rekeying and admission would let the engine's writes go, REKEY_PAGE_STEP takes the page at the watermark when no
write holds it and its set is not frozen: W advances by one, and a page without a written line that was not re-encrypted early
becomes the zero block. A page uses the next key when it lies below W or has EARLY, the current key otherwise. REKEY_COMPLETE past
the last page, with nothing live under the old key and no rekey owed, makes the region Active (a write that waited for the rekey
may at once exhaust its page and start the next one), inverts CUR and leaves the new current key as it is; it leaves a new next
key. (08_inline_encryption.md R205, R206, R210, Table 08-2) -/
def Obligations.RekeysRunPageByPage : Prop :=
  ∀ (s : State) (k : Fin 256), let x := s.cr.regions[k]
    (x.state = .rekeying → x.w < s.regionEnd k → s.rollMs.admits = true → s.rollMs.wp.ilocks.all (fun l => decide (pageOf l.line ≠ x.w)) = true →
      s.rollMs.setFrozen (s.rollMs.setOf (x.w / 4)) = false → ∃ t : State, exec (.rekeyPageStep k) s = .next t ∧ t.cr.regions[k].w = x.w + 1 ∧
      (s.regionOf (x.w * 64) = k → (s.block x.w).early = false → s.pageWritten x.w = false → t.block x.w = CBlock.zero)) ∧
    (∀ line : Nat, s.regionOf line = k → (x.state = .rekeying ∧ (pageOf line < x.w ∨ (s.block (pageOf line)).early = true) → s.keyPos line = !x.cur) ∧
      (¬(x.state = .rekeying ∧ (pageOf line < x.w ∨ (s.block (pageOf line)).early = true)) → s.keyPos line = x.cur)) ∧
    (x.state = .rekeying → s.regionEnd k ≤ x.w → s.oldKeyLive k = false → x.owed = false → ∃ t : State, exec (.rekeyComplete k) s = .next t ∧
      (s.wp.encQ = [] → t.cr.regions[k].state = .active) ∧ t.cr.regions[k].cur = !x.cur ∧
      (if x.cur = true then t.cr.regions[k].keyA = x.keyA else t.cr.regions[k].keyB = x.keyB) ∧
      (if x.cur = true then t.cr.regions[k].keyB else t.cr.regions[k].keyA) = ⟨some (Config.freeKey s.freeIx), true⟩)

/-- A taken SET_POOL_IDENTITY stores the identity while no tether is configured, else Invalid Input; CONFIGURE_TETHER of a free tether
with a wrapped key that unwraps, and no refusal of R360, leaves it pairing with its region, partner, ports and key at epoch 0, and
Invalid Input where the key does not unwrap; REMOVE_TETHER frees a configured tether; DECLARE_PARTNER_ABSENT leaves one that was
pairing, syncing or in sync absent; FAILOVER makes an absent or unanswered replica that is neither syncing nor partial the
primary, raising the epoch by one, and a primary the replica; RAISE_FORMAT_LEVEL stores a level above the present one that every
known member and the running and both stored images support. On a free tether the last three answer Invalid Input.
(15_lode_links_and_pools.md R359, R360, R366, R369, R370, R373, 11_mailbox_and_sessions.md Table 11-7) -/
def Obligations.TethersAreConfiguredAndMoved : Prop :=
  ∀ (s : State) (r : Req), let bad (op reason : Nat) : Host.Outcome State Fault Refusal := .next (s.answer r op ⟨0x0002, reason, 0, .none⟩)
    (∀ (p : BitVec 64) (m : Nat), s.Taken r 0xC401 (some 10) → m < 2 ^ 14 → exec (.setPoolIdentity r p m) s =
      if s.lo.tethers.any (fun x => x.state != .free) = true then bad 0xC401 0x000A
      else .next (({ s with kp := { s.kp with poolId := p, memberId := BitVec.ofNat 14 m } }.save 40).answer r 0xC401 okAns)) ∧
    (∀ (t : Fin 8) (region partner ports : Nat) (key : BitVec 320) (x : Session), s.Taken r 0xC402 (some 48) → region ≤ 255 →
      partner < 2 ^ 14 → ports ≤ 15 → s.tetherRefused t region partner ports = false → s.session r.inst = some x →
      match (s.unwrap x.slot key).1 with
      | some k => (∀ u : Fin 8, s.lo.tethers[u].state ≠ .free → s.lo.tethers[u].partner = partner → s.lo.tethers[u].key.get = k) → ∃ v : State,
        exec (.configureTether r t.val region partner ports key) s = .next (v.answer r 0xC402 okAns) ∧ let y := v.lo.tethers[t]
        y.state = .pairing ∧ y.region = region ∧ y.partner = partner ∧ y.ports = BitVec.ofNat 4 ports ∧ y.key = ⟨some k, true⟩ ∧ y.epoch = 0
      | none => ∃ (v : State) (z : Nat), exec (.configureTether r t.val region partner ports key) s = .next (v.answer r 0xC402 ⟨0x0002, z, 0, .none⟩) ∧
        v.lo = s.lo) ∧
    (∀ t : Fin 8, s.Taken r 0xC403 (some 1) → (s.lo.tethers[t].state = .free → exec (.removeTether r t.val) s = bad 0xC403 0x000A) ∧
      (s.lo.tethers[t].state ≠ .free → ∃ v : State, exec (.removeTether r t.val) s = .next (v.answer r 0xC403 okAns) ∧ v.lo.tethers[t] = Tether.init)) ∧
    (∀ t : Fin 8, s.Taken r 0xC404 (some 1) → (s.lo.tethers[t].state = .free → exec (.declarePartnerAbsent r t.val) s = bad 0xC404 0x000A) ∧
      ((s.lo.tethers[t].state = .pairing ∨ s.lo.tethers[t].state = .syncing ∨ s.lo.tethers[t].state = .inSync) → ∃ v : State,
        exec (.declarePartnerAbsent r t.val) s = .next (v.answer r 0xC404 okAns) ∧ v.lo.tethers[t].state = .absent)) ∧
    (∀ t : Fin 8, s.Taken r 0xC405 (some 2) → let x := s.lo.tethers[t]
      (x.state = .free → ∀ role, role ≤ 1 → exec (.failover r t.val role) s = bad 0xC405 0x000A) ∧
      (x.state ≠ .free → x.replica = true → x.state ≠ .syncing → x.part = false → (x.state = .absent ∨ x.partnerReplica = true) → ∃ v : State,
        exec (.failover r t.val 0) s = .next (v.answer r 0xC405 okAns) ∧ v.lo.tethers[t].replica = false ∧ v.lo.tethers[t].epoch = x.epoch + 1 ∧
        v.lo.tethers[t].state = .absent) ∧
      (x.state ≠ .free → x.replica = false → ∃ v : State, exec (.failover r t.val 1) s = .next (v.answer r 0xC405 okAns) ∧ v.lo.tethers[t].replica = true)) ∧
    (∀ n, s.Taken r 0xC406 (some 2) → (n ≤ s.kp.formatLevel → exec (.raiseFormatLevel r n) s = bad 0xC406 0x000C) ∧
      (s.kp.formatLevel < n → s.lo.levels.any (fun m => decide (m.fmt < n)) = false → (∃ i, s.sec.running = some i ∧ n ≤ i.fmtLvl) →
        (∃ i, s.sec.imgA = some i ∧ n ≤ i.fmtLvl) → (∃ i, s.sec.imgB = some i ∧ n ≤ i.fmtLvl) →
        exec (.raiseFormatLevel r n) s = .next (({ s with kp := { s.kp with formatLevel := n } }.save 38).answer r 0xC406 okAns)))

/-- A taken full TRANSFER_FW to a slot stores an image of a sufficient format level, or answers FW Verification Failed;
SET_BOOT_IMAGE_PREFERENCE stores the preferred image durably; ACTIVATE_FW of an image accepted by R336's checks and of a
sufficient format level stops mailbox service and ends every session, and FIRMWARE_ACTIVATION_COMPLETE then answers Success with
the image running and preferred, or FW Rolled Back with the previous one; a listed SET_LIFE_CYCLE_STATE answers Success and powers
down with the target pending; one not listed is Invalid Input, reason 0x0004; ANTI_ROLLBACK_RAISE at its time raises the counter
to the running image's SVN and blows the fuses of the lower key indexes; BOOT_ROM_IMAGE_CHECK runs the preferred image when it is
accepted. (14_security_and_lifecycle.md R336, R337, R349, R350, R351, 15_lode_links_and_pools.md R373, R374,
11_mailbox_and_sessions.md Table 11-7, 12_notifications_events_counters.md Table 12-8) -/
def Obligations.FirmwareAndLifeCycleMove : Prop :=
  ∀ (s : State) (r : Req),
    (∀ (slot : Nat) (i : Image), s.Taken r 0x0201 none → s.mb.transfer = none → (slot = 1 ∨ slot = 2) → exec (.transferFw r 0 slot i) s =
      if i.fmtLvl < s.kp.formatLevel then .next (s.answer r 0x0201 ⟨0x000A, 0, 0, .none⟩) else .next ((s.putImage slot i).answer r 0x0201 okAns)) ∧
    (∀ n, s.Taken r 0xC803 (some 1) → n ≤ 1 →
      exec (.setBootImagePreference r n) s = .next (({ s with sec := { s.sec with prefB := n == 1 } }.save 41).answer r 0xC803 okAns)) ∧
    (∀ (b : Bool) (i : Image), s.Taken r 0x0202 (some 2) → s.mb.transfer = none → s.sec.romOnly = false → s.sec.img b = some i →
      s.sec.imageCheck (some i) = 0 → s.kp.formatLevel ≤ i.fmtLvl → ∃ t : State, exec (.activateFw r 0 (if b = true then 2 else 1)) s = .next t ∧
      t.mb.outage = true ∧ t.mb.activate = some (r.inst, b) ∧ ∀ j : Fin 18, t.mb.inst[j].session = none) ∧
    (∀ (i : Inst) (b : Bool), s.mb.activate = some (i, b) → s.drained i = true → ∃ t : State,
      exec (.firmwareActivationComplete true) s = .next t ∧ t.mb.outage = false ∧ t.mb.activate = none ∧ t.sec.runningB = b ∧
      t.sec.runImg = s.sec.img b ∧ t.sec.prefB = b ∧ .mbx i 0x0202 0x0000 .none ∈ t.out) ∧
    (∀ (i : Inst) (b : Bool), s.mb.activate = some (i, b) → s.drained i = true → ∃ t : State,
      exec (.firmwareActivationComplete false) s = .next t ∧ t.mb.outage = false ∧ t.mb.activate = none ∧ t.sec.runImg = s.sec.runImg ∧
      .mbx i 0x0202 0x000C .none ∈ t.out) ∧
    (∀ n, s.Taken r 0xC801 (some 1) → n ≤ 4 → s.sec.pendingLC = none →
      (s.pw.st = .running → lcStep s.sec.lc (lcOf n) = true → (lcOf n = .provisioned → (s.session r.inst).any (fun x => x.slot ≠ 0) = false) → ∃ t : State,
        exec (.setLifeCycleState r n) s = .next t ∧ t.sec.pendingLC = some (lcOf n) ∧ t.pw.st = .poweringDown ∧ t.pw.latched = .restart ∧ .mbx r.inst 0xC801 0x0000 .none ∈ t.out) ∧
      (lcStep s.sec.lc (lcOf n) = false → exec (.setLifeCycleState r n) s = .next (s.answer r 0xC801 ⟨0x0002, 0x0004, 0, .none⟩))) ∧
    (∀ (i : Image) (u : Nat), s.sec.raiseAt = some u → s.sec.running = some i → s.sec.antiRollback < i.svn → s.lk.mediaReady = true →
      ∃ t : State, exec .antiRollbackRaise s = .next t ∧ t.sec.antiRollback = i.svn ∧
      ∀ k : Fin 4, k.val < i.keyIndex.val → t.sec.revoked.getLsbD k.val = true) ∧
    (s.pw.dieUp = true → s.bt.phase = .off → s.sec.romOnly = false → s.sec.imageCheck (s.sec.img s.sec.prefB) = 0 → ∃ t : State, exec .bootRomImageCheck s = .next t ∧
      t.sec.runningB = s.sec.prefB ∧ t.sec.runImg = s.sec.img s.sec.prefB ∧ t.bt.phase = .dieUp)

/-- With an empty receive buffer, a MEM_WR or MEM_WR_PTL of a reachable LD that holds credits and whose admission queue has room takes
the next sequence number (0 after 2^48 - 1) and stands last in that queue with its line, window, byte enables (all set for
MEM_WR), data and poison; where the address is not allocated to the LD it is completed instead, with a violation of kind 5. While
the LD has no credit, or its queue is full, it waits in the receive buffer of 1,024. No line of the committed view changes: index,
entries and granule map stay. (PMON counting aside.) (03_write_path.md R45, R46, R49, R50, R52, 02_persistence_contract.md R26,
11_mailbox_and_sessions.md R284) -/
def Obligations.WritesEnterTheirQueue : Prop :=
  ∀ (s : State) (n : Fin 16) (a : Addr) (be : BitVec 64) (data : Line) (p : Bool), s.reachable n = true → s.wp.rx = [] →
    let seq := (s.wp.seq + 1) % 2 ^ 48
    let go (c : Instr) (be : BitVec 64) : Prop :=
      (s.credits n = true → s.lds[n].adm.length < 256 → ∀ line win, s.resolve n a = some (line, win) → ∃ t : State, exec c s = .next t ∧
        t.lds[n].adm = s.lds[n].adm ++ [newWrite seq n line win be data p .host] ∧ t.wp.seq = seq ∧ t.wp.rx = [] ∧
        t.wp.index = s.wp.index ∧ t.wp.entries = s.wp.entries ∧ t.fo.map = s.fo.map ∧ t.wp.cplQ = s.wp.cplQ) ∧
      (s.credits n = true → s.lds[n].adm.length < 256 → s.resolve n a = none → ∃ t : State, exec c s = .next t ∧ t.wp.seq = seq ∧
        t.lds[n].adm = s.lds[n].adm ∧ t.wp.cplQ = s.wp.cplQ ++ [(⟨seq, n, 0, none, 0, .host⟩ : Completion)] ∧
        t.mb.viol[whoOf n].lastKind = 5 ∧ t.wp.index = s.wp.index ∧ t.wp.entries = s.wp.entries ∧ t.fo.map = s.fo.map) ∧
      (s.credits n = false ∨ 256 ≤ s.lds[n].adm.length → ∃ t : State, exec c s = .next t ∧ t.wp.rx.length = 1 ∧ t.wp.seq = s.wp.seq ∧
        t.lds = s.lds ∧ t.wp.index = s.wp.index ∧ t.wp.entries = s.wp.entries)
    go (.memWr n a data p) (BitVec.allOnes 64) ∧ go (.memWrPtl n a be data p) be

/-- The merged line has each enabled byte from the write and each other byte from the line read. MERGE_READ_COMPLETE of a write among
the first 128 of the merge queue, once no block that its read senses awaits a pilot read, that yields a line passes the whole
merged line to stage 4; one whose read senses no Peat block and recovers nothing leaves everything else as it was; on an unwritten
line (nothing cached, no tentative version) the line read is zero; on a poisoned line, and where no line can be had, the write is
discarded: it leaves the merge queue, is completed, and its line stays poisoned or is marked poisoned. A slot of another entry
repeats the lookups and changes nothing. (02_persistence_contract.md R28, R29, R30, 03_write_path.md R49, R50, 04_read_path.md
R78, 06_drift_and_scrub.md R141, 08_inline_encryption.md R211) -/
def Obligations.PartialWritesMergeWholeLines : Prop :=
  (∀ (old new : Line) (be : BitVec 64) (i b : Nat), i < 64 → b < 8 →
    (mergeLine old new be).getLsbD (8 * i + b) = if be.getLsbD i = true then new.getLsbD (8 * i + b) else old.getLsbD (8 * i + b)) ∧
  ∀ (s : State) (w : Write) (x : Sense), findWrite (s.wp.mergeQ.take 128) w.seq = some w →
    let rest (v : State) : State := { v with wp := { v.wp with mergeQ := v.wp.mergeQ.filter fun (y : Write) => y.seq ≠ w.seq } }
    let u := s.mergePilots w x
    exec (.mergeReadComplete w.seq .mismatch) s = .next s ∧
    (∀ l, (∀ k, x ≠ .tree k) → x ≠ .mismatch → s.mergeRead w x = .line l →
      (s.mergeBlock w = none → recovers x = false → exec (.mergeReadComplete w.seq x) s =
        .next (s.pmEdges ((rest s).stage4 { w with data := mergeLine l w.data w.be, be := BitVec.allOnes 64 }))) ∧
      (u.mergeWaits w x = false → exec (.mergeReadComplete w.seq x) s =
        .next (s.pmEdges ((rest (u.mergeFound w x)).stage4 { w with data := mergeLine l w.data w.be, be := BitVec.allOnes 64 })))) ∧
    (s.mergeTent w = none → (s.ca.en = true → s.cacheFind w.line = none) → s.version w.line = .zero → s.mergeRead w x = .line 0) ∧
    (s.mergeTent w = none → (s.ca.en = true → s.cacheFind w.line = none) → s.version w.line = .poison → (∀ k, x ≠ .tree k) → x ≠ .mismatch →
      u.mergeWaits w x = false → exec (.mergeReadComplete w.seq x) s = .next (s.pmEdges ((rest (u.mergeFound w x)).discardWrite w))) ∧
    (w.src = .host → w.discard = false → (s.ilock w.line = none ∨ ∃ l, s.ilock w.line = some l ∧ l.waiting = []) →
      ((rest s).discardWrite w).wp.cplQ = s.wp.cplQ ++ [(⟨w.seq, w.ld, w.line, w.win, w.gseq, .host⟩ : Completion)] ∧
      ((rest s).discardWrite w).wp.index = s.wp.index ∧ ((rest s).discardWrite w).wp.entries = s.wp.entries)

/-- While admission may release a write, WRITE_ADMISSION of the one whose turn it is gives it its line's interlock entry (an entry
held: it waits there, in sequence order). SLOT_ALLOCATION places a write that waits alone when slots are to be had;
SHALLOWS_PLACEMENT_VERIFIED with both copies good passes it to the index update queue, and with a bad copy places it again;
INDEX_UPDATE makes a committed-view write's entry the line's version unless a newer one stands or the granule is poisoned, and
completes it; NDR_RETURN sends the oldest completion that may leave with its LD's DevLoad, its port up and hold-up ready; one
whose port is down keeps back none of another line. The sequence counter wraps from 2^48 - 1 to 0 and the epoch rises; granules of
entries 2^44 values old are folded first. (03_write_path.md R46, R47, R48, R49, R54, R57, R58, 02_persistence_contract.md R23,
R27, 08_inline_encryption.md R189) -/
def Obligations.WriteStagesAdvance : Prop :=
  ∀ (s : State),
    (∀ (k : Nat) (w : Write), s.wp.relMs = s.now / 800000 → s.admits = true → s.nextAdmit = some (k, w) → w.win = none → s.wp.rx = [] →
      (s.mapEnt (granOf w.line)).state ≠ .poisoned → s.fo.exhausted[s.setOf (granOf w.line)] = false → ∃ t : State,
      exec .writeAdmission s = .next t ∧
      (s.ilock w.line = none → ∃ l, t.ilock w.line = some l ∧ l.holder = w.seq ∧ l.waiting = []) ∧
      (∀ l, s.ilock w.line = some l → ∃ m, t.ilock w.line = some m ∧ m.holder = l.holder ∧ m.waiting = waitIn w l.waiting)) ∧
    (∀ (w : Write) (u : State), s.wp.encQ = [] → s.wp.allocQ = [w] → s.wp.idxQ.length < 512 →
      ({ s with wp := { s.wp with allocQ := [] } } : State).place5 w true = some u → exec .slotAllocation s = .next (s.pmEdges u.judgeMarks)) ∧
    (∀ w : Write, s.wp.progs = [w] → w.localOk = false →
      (w.partnerAck = true → s.wp.idxQ.length < 512 → ∃ t : State, exec (.shallowsPlacementVerified w.seq true true) s = .next t ∧
        t.wp.idxQ = s.wp.idxQ ++ [{ w with localOk := true }] ∧ t.wp.progs = []) ∧
      (∀ a b : Bool, (a && b) = false → ∃ t : State, exec (.shallowsPlacementVerified w.seq a b) s = .next t ∧ t.wp.progs = [] ∧
        ∃ y, t.wp.allocQ = y :: s.wp.allocQ ∧ y.seq = w.seq ∧ y.tries = w.tries + 1 ∧ y.data = w.data)) ∧
    (∀ (w : Write) (rest : List Write), s.wp.idxQ = w :: rest → s.wp.cplQ.length < 1024 → ∃ t : State, exec .indexUpdate s = .next t ∧
      (w.win = none → w.src = .host → w.discard = false → (s.mapEnt (granOf w.line)).state ≠ .poisoned → (tfind s.wp.index w.line = none ∨ ∃ r e, tfind s.wp.index w.line = some r ∧
          s.entryAt (s.recPlace w.line r) = some e ∧ newer e.ord w.seq = false) → (s.ilock w.line).all (fun l => l.waiting.isEmpty) = true →
        tfind t.wp.index w.line = some ⟨w.place.pair, w.place.slot, w.seq % 64, w.psn⟩ ∧
        t.wp.cplQ = s.wp.cplQ ++ [(⟨w.seq, w.ld, w.line, none, w.gseq, .host⟩ : Completion)])) ∧
    (∀ (c : Completion) (rest : List Completion), s.wp.cplQ = c :: rest → s.mayReturn c = true → ∃ t : State, exec .ndrReturn s = .next t ∧
      .ndr c.ld c.seq (s.devLoad c.ld) ∈ t.out ∧ (c.win = none → t.wp.cplQ = rest)) ∧
    (∀ (c : Completion) (rest : List Completion), s.wp.cplQ = c :: rest → (∀ x ∈ s.wp.cplQ, s.mayReturn x = false) → exec .ndrReturn s = .next (s.pmEdges s)) ∧
    (∀ (a b : Completion) (rest : List Completion), s.wp.cplQ = a :: b :: rest → s.mayReturn a = false → s.mayReturn b = true → a.line ≠ b.line →
      ∃ t : State, exec .ndrReturn s = .next t ∧ .ndr b.ld b.seq (s.devLoad b.ld) ∈ t.out ∧ (b.win = none → t.wp.cplQ = a :: rest)) ∧
    (s.wp.seq = 2 ^ 48 - 1 → ∃ t : State, exec .sequenceCounterWrap s = .next t ∧ t.wp.seq = 0 ∧ t.sec.seqEpoch = s.sec.seqEpoch + 1) ∧
    (∃ t : State, exec .seqAgeFold s = .next t ∧ ∀ g ∈ s.agedGrans, ∃ lane, (g, lane) ∈ t.fo.orderQ[s.setOf g])

/-- With an empty read buffer, a MEM_RD or MEM_RD_DATA of a reachable LD that holds credits, with room in the tracker and the response
buffer, the read cap open and the data path enabled, takes a tracker entry that waits for its lookups; where the address is not
allocated to the LD a line of zeros enters the response buffer, with a violation of kind 5. With the tracker or the response
buffer full it waits. MEM_SPEC_RD changes nothing. MEM_INV and MEM_INV_NT answer Cmp and change no line. DETECTOR_TIMEOUT frees
its detector. No line of the committed view changes. (04_read_path.md R70, R88, R90, R466, 10_cxl_interface.md R249, Table 10-2,
11_mailbox_and_sessions.md R284) -/
def Obligations.ReadsEnterTheTracker : Prop :=
  ∀ (s : State) (n : Fin 16) (a : Addr), s.reachable n = true →
    let go (c : Instr) : Prop := s.rp.rx = [] →
      (s.credits n = true → s.rp.tracker.length < 4096 → s.rp.rsp.length < 1024 → s.readCapOk = true → s.pw.dataPath = true →
        (∀ line win, s.resolve n a = some (line, win) → ∃ t : State, exec c s = .next t ∧ t.rp.rx = [] ∧ t.wp.index = s.wp.index ∧
          t.wp.entries = s.wp.entries ∧ t.fo.map = s.fo.map ∧
          ∃ r ∈ t.rp.tracker, r.id = s.nextId ∧ r.ld = n ∧ r.line = line ∧ r.win = win ∧ r.src = .host ∧ r.path = .lookup) ∧
        (s.resolve n a = none → ∃ t : State, exec c s = .next t ∧
          t.rp.rsp = s.rp.rsp ++ [(⟨n, s.addrNum n a / 64, 0, false⟩ : Response)] ∧ t.rp.tracker = s.rp.tracker ∧ t.mb.viol[whoOf n].lastKind = 5 ∧
          t.wp.index = s.wp.index ∧ t.wp.entries = s.wp.entries)) ∧
      (4096 ≤ s.rp.tracker.length ∨ 1024 ≤ s.rp.rsp.length → ∃ t : State, exec c s = .next t ∧ t.rp.rx.length = 1 ∧ t.rp.tracker = s.rp.tracker)
    go (.memRd n a) ∧ go (.memRdData n a) ∧
    (∀ m b, exec (.memSpecRd m b) s = .next s) ∧
    (s.lk.memActive = true → ∀ c, (c = .memInv n a ∨ c = .memInvNt n a) → ∃ t : State, exec c s = .next t ∧ .cmp n ∈ t.out ∧ t.wp = s.wp ∧
      (s.resolve n a = none → t.mb.viol[whoOf n].lastKind = 5) ∧ ((s.resolve n a).isSome = true → t.mb = s.mb)) ∧
    (∀ d ∈ s.rp.detectors, d.ld = n → ∃ t : State, exec (.detectorTimeout n d.line) s = .next t ∧ t.rp.detectors.length < s.rp.detectors.length)

/-- For the one read in the tracker, with nothing else waiting: LOOKUP_SETTLED answers the cache's line, zeros of an unwritten
granule, or poison, and otherwise keeps the path chosen for the media; SLOT_SENSE_COMPLETE of a read in a channel's queue whose
block awaits no pilot read answers the stored line decrypted when its tag verifies, poison where every attempt is lost or where
the block and two more of its row cannot be read (R217); READ_CUTOFF answers poison, hands the line to the patrol and marks
nothing; SLOW_SENSE_RECONSTRUCT starts reconstruction; a poisoned answer has zero data. DRS_RETURN sends the oldest answer with
its LD's DevLoad. (04_read_path.md R71, R73, R77, R82, R85, R86, R88, Table 04-2, 02_persistence_contract.md R24,
08_inline_encryption.md R212, 10_cxl_interface.md R251, R255) -/
def Obligations.ReadsAnswerTheCurrentVersion : Prop :=
  ∀ (s : State) (r : Read), s.rp.tracker = [r] → r.src = .host → r.poison = false → s.rp.rx = [] → s.rp.pfQ = [] → s.rp.rsp.length < 1024 →
    let ans (d : Line) (p : Bool) : List Response := s.rp.rsp ++ [(⟨r.ld, r.line, d, p⟩ : Response)]
    (r.path = .lookup → s.rd.windows[(4 : Fin 5)] = none → let q := s.resolvePath r.ld r.win r.line
      ∃ t : State, exec (.lookupSettled r.id .ok) s = .next t ∧ t.wp.index = s.wp.index ∧ t.wp.entries = s.wp.entries ∧
        (q.1 = .zero → t.rp.rsp = ans 0 false ∧ t.rp.tracker = []) ∧ (q.1 = .poison → t.rp.rsp = ans 0 true ∧ t.rp.tracker = []) ∧
        (∀ c, q.1 = .cache → s.cacheFind r.line = some c → t.rp.rsp = ans c.data false ∧ t.rp.tracker = []) ∧
        (q.1.sensing = true → ∃ x, t.rp.tracker = [x] ∧ x.id = r.id ∧ x.path = q.1 ∧ x.nonce = q.2 ∧ x.lookupTick = s.now)) ∧
    (r.path.sensing = true → (∃ c, r.chan = some c) → s.setFrozen (s.setOf (granOf r.line)) = false →
      (∀ x : Sense, x ≠ .reconstructed → s.awaitsPilot r x = s.awaitsPilot r (.good 0)) ∧ (s.awaitsPilot r (.good 0) = false →
      (s.readSense r (.good 0) = .good 0 ∨ s.readSense r (.good 0) = .lost) ∧
      (∀ ct tag, s.readSense r (.good 0) = .lost → s.stored r = .line ct tag → ∃ t : State, exec (.slotSenseComplete r.id (.good 0) 0) s = .next t ∧
        t.rp.rsp = ans 0 true ∧ t.rp.tracker = []) ∧
      (∀ ct tag l, s.readSense r (.good 0) = .good 0 → s.stored r = .line ct tag →
        senseOf s r.nonce r.line ct tag (.good 0) = some (some l) → ∃ t : State,
        exec (.slotSenseComplete r.id (.good 0) 0) s = .next t ∧ t.rp.rsp = ans l false ∧ t.rp.tracker = [] ∧ t.wp.index = s.wp.index ∧
        t.wp.entries = s.wp.entries) ∧
      (∀ ct tag, s.stored r = .line ct tag → ∃ t : State, exec (.slotSenseComplete r.id .lost 0) s = .next t ∧ t.rp.rsp = ans 0 true ∧
        t.rp.tracker = []))) ∧
    (r.path ≠ .finished → s.anyWindow = false → s.readCap = false → ∃ t : State, exec (.readCutoff r.id) s = .next t ∧ t.rp.rsp = ans 0 true ∧
      t.rp.tracker = [] ∧ t.rp.patrolQ = s.rp.patrolQ ++ [(r.line, true)] ∧ t.wp.index = s.wp.index ∧ t.lk.poison = s.lk.poison) ∧
    (∀ lane frame, r.path = .peat lane frame → r.recovering = false → s.rp.rcn < 64 → ∃ t : State,
      exec (.slowSenseReconstruct r.id) s = .next t ∧ t.rp.rcn = s.rp.rcn + 1 ∧ t.rp.tracker = [{ r with recovering := true }]) ∧
    (∀ x rest, s.rp.rsp = x :: rest → (s.lk.ports[s.portOf x.ld].mode = .mld ∨ s.lk.ports[s.portOf x.ld].mode = .sld) → ∃ t : State,
      exec .drsReturn s = .next t ∧ .drs x.ld x.line x.data x.poison (s.devLoad x.ld) ∈ t.out)

/-- A FOLD_ORDER of a granule of the set stands last in the set's queue of 4,096, behind what firmware ordered, and ends autonomous
folding there; at 4,096 it is refused and changes nothing. AUTONOMOUS_FOLD above the low mark queues the granules of every indexed
line of the set while there is room. FOLD_GATHER takes the granule at the head while its lane's bands have room, with the index
records of all its lines (no tentative line, none of a poisoned granule). FOLD_READS_COMPLETE places the gathered granule in the
band its lane assembles; it leaves host poison as PSN 1 and copies a counter-domain ciphertext with its tag as it stands.
(05_folding_and_wear.md R110, R111, R112, R113, R115, R122, Table 05-9, 01_architecture.md R18) -/
def Obligations.FoldsAreOrderedAndGathered : Prop :=
  ∀ (s : State) (k : Fin 4),
    (∀ (g : Nat) (l : Fin 16), s.setOf g = k → s.fo.orderQ[k].length < 4096 → (s.fo.orderQ[k].any fun p => p.2.isSome && p.1 == g) = false → ∃ t : State,
      exec (.foldOrder k g l) s = .next t ∧ t.fo.orderQ[k] = (s.fo.orderQ[k].filter fun p => p.2.isSome) ++ [(g, some l)] ∧ t.fo.lastOrder[k] = s.now ∧
      t.fo.autonomous[k] = false ∧ t.fo.map = s.fo.map ∧ t.wp = s.wp) ∧
    (∀ (g : Nat) (l : Fin 16), 4096 ≤ s.fo.orderQ[k].length → exec (.foldOrder k g l) s = .next s) ∧
    (s.wp.marks[0] = true → s.pw.dataPath = true → s.setFrozen k = false → ∃ t : State, exec (.autonomousFold k) s = .next t ∧
      t.fo.autonomous[k] = true ∧ ∀ p ∈ s.wp.index, s.setOf (granOf p.1) = k →
        (∃ l, (granOf p.1, l) ∈ t.fo.orderQ[k]) ∨ 4096 ≤ t.fo.orderQ[k].length) ∧
    (∀ (g : Nat) (l : Option (Fin 16)) (rest : List (Nat × Option (Fin 16))), s.fo.orderQ[k] = (g, l) :: rest → s.setFrozen k = false →
      let j := s.judgeGran k g
      j.bandsFull k (j.foldLane k g l) false (s.hotGran g) = false → s.pw.dataPath = true → ∃ t : State, exec (.foldGather k) s = .next t ∧ t.fo.orderQ[k] = rest ∧
      t.wp.index = s.wp.index ∧ ((s.mapEnt g).state ≠ .poisoned → s.gatherLines g ≠ [] → ∃ f ∈ t.fo.folds, f.set = k ∧ f.granule = g ∧
        f.lane = j.foldLane k g l ∧ f.gathered = s.gatherLines g) ∧ ((s.mapEnt g).state = .poisoned → t.fo.folds = s.fo.folds)) ∧
    (∀ (f : Fold) (b : Band) (lost : FoldSense), s.fo.folds.find? (fun (x : Fold) => x.id == f.id) = some f →
      s.setFrozen f.set = false → s.anyPend (s.homeBlocks f.granule) = false → s.fo.bands = [b] →
      s.assembling f.set f.lane false (s.hotGran f.granule) = some b → b.frames.length < 9 → ∃ (t : State) (slots : Tbl PeatSlot) (keep : List Gathered),
      exec (.foldReadsComplete f.id lost) s = .next t ∧ t.fo.folds = s.fo.folds.filter (fun (x : Fold) => x.id ≠ f.id) ∧
      t.fo.bands = [{ b with frames := b.frames ++ [⟨f.granule, slots, keep, none⟩] }]) ∧
    (∀ (x : Gathered) (e : Entry), s.entryAt (s.recPlace x.line x.ix) = some e →
      (e.psn = true → s.foldSlot x = ((some ⟨0, 0, true⟩, true), s)) ∧
      (e.psn = false → e.win = none → s.foldSlot x = ((some ⟨e.data, e.tag, false⟩, true), s)))

/-- BAND_FILL_TIMEOUT issues a band with frames, BSEQ the sequence counter, unless the lane programs another; OPEN_SEGMENT_FORCE_CLOSE
of an old open segment with no band under way leaves it full; BAND_PROGRAM_COMPLETE with every unit good, or good after its retry
in spare blocks of the same dies, passes the band to its commit record; with a retry failed, or no spare left on the die, it
retires the block and abandons the band, whose folds are ordered again and whose granules keep their homes. BAND_COMMIT_VERIFIED
of one fold frame makes the granule live at that frame and takes each gathered line out of the index exactly where its record
still names the entry gathered. SLOT_RELEASE releases every slot that waits. CHECKPOINT_PIECE_WRITE records the piece at the
present sequence number. (05_folding_and_wear.md R105, R109, R110, R112, R114, R117, R136, Table 05-9, Table 05-10,
03_write_path.md R54, R78) -/
def Obligations.BandsProgramCommitAndSwitch : Prop :=
  ∀ (s : State) (b : Band), s.bandOf b.key = some b →
    let k := b.key.seg.set
    (b.phase = .assembling → 0 < b.frames.length → s.setFrozen k = false → s.lanePrograms k b.key.seg.lane = false → ∃ (t : State) (c : Band),
      exec (.bandFillTimeout b.key) s = .next t ∧ t.bandOf b.key = some c ∧ c.phase = .programming ∧ c.bseq = s.wp.seq ∧ c.frames = b.frames) ∧
    (∀ q : SegKey, (s.seg q).state = .opened → (s.seg q).openedEpoch + 24 ≤ s.dr.epoch → 0 < (s.seg q).bands →
      s.fo.bands.all (fun (x : Band) => x.key.seg != q) = true → ∃ t : State, exec (.openSegmentForceClose q) s = .next t ∧
      (t.seg q).state = .full ∧ t.fo.map = s.fo.map ∧ t.wp.index = s.wp.index) ∧
    (b.phase = .programming → s.setFrozen k = false →
      (∀ failed r, (failed = [] ∨ (r = true ∧ ∀ p : Fin 16, 0 < s.dieSpare (blockDie ⟨b.key.seg, p⟩))) → ∃ (t : State) (c : Band),
        exec (.bandProgramComplete b.key failed r) s = .next t ∧
        t.bandOf b.key = some c ∧ c.phase = .committing ∧ c.frames = b.frames ∧ t.fo.map = s.fo.map) ∧
      (∀ (p : Fin 16) (r : Bool), (r = false ∨ s.dieSpare (blockDie ⟨b.key.seg, p⟩) = 0) → s.fo.copyQ[k] = [] →
        (∀ x ∈ s.laneSegs k b.key.seg.lane, x.2.state ≠ .victim) → ∃ t : State, exec (.bandProgramComplete b.key [p.val] r) s = .next t ∧
        t.bandOf b.key = none ∧ ⟨b.key.seg, p⟩ ∈ t.fo.retired ∧ t.fo.map = s.fo.map ∧
        ∀ q ∈ b.frames, q.copyOf = none → q.granule ≠ 0xFFFFFFFF → (q.granule, some b.key.seg.lane) ∈ t.fo.orderQ[k])) ∧
    (∀ p : Placed, b.phase = .committing → s.setFrozen k = false → b.frames = [p] → p.granule ≠ 0xFFFFFFFF → p.copyOf = none →
      (s.mapEnt p.granule).state ≠ .poisoned → s.fo.copyQ[k] = [] → ∃ t : State,
      exec (.bandCommitVerified b.key) s = .next t ∧ (t.mapEnt p.granule).state = .live ∧ (t.mapEnt p.granule).lane = b.key.seg.lane ∧
      (t.mapEnt p.granule).frame = frameNo b.key 0 ∧ (∀ x ∈ p.gathered, s.stillGathered x = true → tfind t.wp.index x.line = none) ∧
      ∀ line, (∀ x ∈ p.gathered, x.line = line → s.stillGathered x = false) → tfind t.wp.index line = tfind s.wp.index line) ∧
    (∃ t : State, exec .slotRelease s = .next t ∧ t.fo.relQ = [] ∧ t.wp.index = s.wp.index ∧
      ∀ c ∈ s.fo.relQ, ∀ e, t.entryAt (placeOf c) = some e → e.released = true) ∧
    (∀ piece : Nat, ∃ t : State, exec (.checkpointPieceWrite piece) s = .next t ∧ tfind t.fo.pieces piece = some s.wp.seq)

/-- COPY_ORDER of a full segment, with fewer than 256 queued and the set not at end of life, makes it a victim; of another, with no
copy queued, it changes nothing. WEAR_LEVEL_COPY makes the one full segment of a lane, least reset by more than 2,000, a victim
and opens a free segment for its frames. SEGMENT_RESET takes a victim with no live frame and no outstanding read to resetting, and
does nothing else. SEGMENT_RESET_COMPLETE frees it with one more reset, its bands and frames gone; a block that failed its reset
is retired, a spare block of its die in its place. HOTSPOT_DETECT makes a channel hot exactly when it was over a limit for more
than half the ticks of 1 ms. (05_folding_and_wear.md R117, R119, R121, R124, R127, Table 05-10, 04_read_path.md R80) -/
def Obligations.SegmentsAreCopiedAndReset : Prop :=
  ∀ (s : State) (q : SegKey),
    (s.kp.eolSets.contains q.set = false → s.fo.copyQ[q.set].length < 256 →
      ((s.seg q).state = .full → ∃ t : State, exec (.copyOrder q) s = .next t ∧ (t.seg q).state = .victim ∧ t.wp.index = s.wp.index) ∧
      (∀ (n : Nat) (x : Segment), (s.laneSegs q.set q.lane).filter (fun p => p.2.state == .full) = [(n, x)] → s.seg ⟨q.set, q.lane, n⟩ = x →
        (∃ p ∈ s.laneSegs q.set q.lane, x.resets + 2000 < p.2.resets) → ∃ t : State, exec (.wearLevelCopy q.set q.lane) s = .next t ∧
        (t.seg ⟨q.set, q.lane, n⟩).state = .victim ∧ t.wp.index = s.wp.index ∧
        ((s.takeSeg q.set q.lane false).isSome = true → ∃ d, (⟨q.set, q.lane, n⟩, d) ∈ t.fo.wearTo))) ∧
    ((s.seg q).state ≠ .full → s.fo.copyQ[q.set] = [] → exec (.copyOrder q) s = .next s) ∧
    (let may := (s.seg q).state = .victim ∧ (s.liveFrames q).isEmpty = true ∧ s.segRead q = false ∧ s.kp.eolSets.contains q.set = false ∧
        s.setFrozen q.set = false;
      (may → ∃ t : State, exec (.segmentReset q) s = .next t ∧ (t.seg q).state = .resetting ∧ (t.seg q).resets = (s.seg q).resets ∧
        t.fo.map = s.fo.map ∧ t.fo.frames = s.fo.frames ∧ t.wp = s.wp) ∧
      (¬ may → exec (.segmentReset q) s = .next s)) ∧
    ((s.seg q).state = .resetting → q.seg < 393216 → s.fo.retiring.any (fun p => p.1.seg == q) = false →
      (∃ t : State, exec (.segmentResetComplete q []) s = .next t ∧ (t.seg q).state = .free ∧ (t.seg q).resets = (s.seg q).resets + 1 ∧
        (t.seg q).bands = 0 ∧ (t.liveFrames q).isEmpty = true ∧ t.fo.map = s.fo.map) ∧
      (∀ p : Fin 16, 0 < s.dieSpare (blockDie ⟨q, p⟩) → ∃ t : State, exec (.segmentResetComplete q [p.val]) s = .next t ∧
        (t.seg q).state = .free ∧ ⟨q, p⟩ ∈ t.fo.retired)) ∧
    (∀ (c : Fin 64) (ticks p r : Nat), ∃ t : State, exec (.hotspotDetect c ticks p r) s = .next t ∧ t.wp.hot[c] = decide (800000 < 2 * ticks) ∧
      (∀ d : Fin 64, d ≠ c → t.wp.hot[d] = s.wp.hot[d]) ∧ t.wp.index = s.wp.index)

/-- With the die up, DRIFT_EPOCH_END adds to every die's WCLK the weight 1, 2, 4 or 8 of the hottest band it held, saturating at
0xFFFF_FFFF, and starts the next epoch. PILOT_READ_COMPLETE with a good report, or a good repeat, sets EST with OFS the
least-squares shift of the oldest group's positions from the model's references, saturated, the class at least watch when it
saturates; with both CRCs failed it sets OFS 0, EST 1 and MCLS watch, and the patrol visits the segment next. GAP_ESTIMATE, once
for a die, adds a positive median to its WCLK and never lowers it. WARM_UP_SWEEP_END, with every block that can be read estimated,
starts the first pass, and before that changes nothing. (The coefficients of the references are free values, log 5.)
(06_drift_and_scrub.md R133, R138, R140, R142, R143, R150, Table 06-1) -/
def Obligations.DriftClocksAndPilotsMove : Prop :=
  ∀ (s : State),
    (s.pw.dieUp = true → ∃ t : State, exec .driftEpochEnd s = .next t ∧ t.dr.epoch = s.dr.epoch + 1 ∧ ∀ d ∈ s.allDies,
      (t.drDie d).wclk = min 0xFFFFFFFF ((s.drDie d).wclk + bandWeight (max (s.drDie d).hotNow (s.drDie d).band)) ∧
      (t.drDie d).hotNow = (s.drDie d).band) ∧
    (bandWeight 0 = 1 ∧ bandWeight 1 = 2 ∧ bandWeight 2 = 4 ∧ bandWeight 3 = 8) ∧
    (∀ (b : BlockKey) (r : PilotReport), ∃ t : State, exec (.pilotReadComplete b r) s = .next t ∧ (t.drBlk b).est = true ∧ (t.drBlk b).pend = false ∧
      (let u := (s.drSeg b.seg).oldest
       let x := fitShift r.oldest (s.model b u (s.unitAge b u (s.drDie (blockDie b)).wclk));
       (r.crcOk = true ∨ r.repeatOk = true) → (t.drBlk b).ofs = ofsSat x ∧
        (t.drBlk b).mcls = if ofsSat x = x then (s.drBlk b).mcls else (s.drBlk b).mcls.atLeast .watch) ∧
      (r.crcOk = false → r.repeatOk = false → (t.drBlk b).ofs = 0 ∧ (t.drBlk b).mcls = .watch ∧
        (t.dr.patrol[b.seg.set]).next.head? = some (b.seg, s.now))) ∧
    (∀ d : DieKey, (s.drDie d).done = false → 64 ≤ (s.drDie d).gaps.length → ∃ t : State, exec (.gapEstimate d) s = .next t ∧ (t.drDie d).done = true ∧
      (0 < median (s.drDie d).gaps → (t.drDie d).wclk = min 0xFFFFFFFF ((s.drDie d).wclk + (median (s.drDie d).gaps).toNat)) ∧
      (median (s.drDie d).gaps ≤ 0 → (t.drDie d).wclk = (s.drDie d).wclk)) ∧
    (∀ d : DieKey, (s.drDie d).done = true → exec (.gapEstimate d) s = .next s) ∧
    (s.dr.sweep = true → s.unswept = false → ∃ t : State, exec .warmUpSweepEnd s = .next t ∧ t.dr.sweep = false ∧ ∀ k : Fin 4,
      (t.dr.patrol[k]).visited = 0 ∧ (t.dr.patrol[k]).total = s.progSegs k) ∧
    (s.unswept = true → exec .warmUpSweepEnd s = .next s)

/-- A PATROL_VISIT, after the warm-up sweep, of a segment with bands in a set that is not frozen, with no other segment due first and
no copy queued, clears its RDC and counts the visit; the class of a block whose slots all read becomes, from good or watch,
refresh at T or above, watch from half of T, good below it, and from refresh or failing it stays; a slot that needed a stepped
retry, failed its tag or was lost makes it failing. A visit before the sweep ends changes nothing. SHALLOWS_PATROL leaves an entry
whose two copies need at most 8 corrected bits as it is. READ_DISTURB_VISIT at the limit puts the segment before every other of
its set. (06_drift_and_scrub.md R145, R146, R148, R149, R150, Table 06-4, 02_persistence_contract.md R35) -/
def Obligations.PatrolsJudgeBlocksAndEntries : Prop :=
  ∀ (s : State),
    (∀ q : SegKey, s.dr.sweep = true → ∀ v, exec (.patrolVisit q v) s = .next s) ∧
    (∀ q : SegKey, s.setFrozen q.set = false → (s.seg q).bands ≠ 0 → s.dr.sweep = false →
      ((s.dueSegs q.set).isEmpty = true ∨ (s.dueSegs q.set).contains q = true) →
      (s.fo.copyQ[q.set] = [] → ∃ t : State, exec (.patrolVisit q []) s = .next t ∧ (t.drSeg q).rdc = 0 ∧
        (t.drSeg q).visited = true ∧ t.wp.index = s.wp.index ∧ ∀ x ∈ (t.dr.patrol[q.set]).next, x.1 ≠ q) ∧
      ∀ v : VisitResult, ∃ t : State, exec (.patrolVisit q [v]) s = .next t ∧
        (let p := s.pilotEnds ⟨q, v.pos⟩ v.pilot;
         v.recovered = [] → v.tagFail = [] → v.lost = [] →
          (t.drBlk ⟨q, v.pos⟩).mcls = marginAfter (p.drBlk ⟨q, v.pos⟩).mcls (p.visitRatio ⟨q, v.pos⟩ v.bits) s.dr.params.threshold) ∧
        ((v.tagFail ≠ [] ∨ v.lost ≠ [] ∨ ∃ x ∈ v.recovered, ∃ k, x.sense = .stepped k) → (t.drBlk ⟨q, v.pos⟩).mcls = .failing)) ∧
    (∀ m ratio t, marginAfter m ratio t = if m = .failing ∨ m = .refresh then m else if t ≤ ratio then .refresh
      else if t ≤ 2 * ratio then .watch else .good) ∧
    (∀ (k : Fin 4) (r : CopyRead) (x y : Nat), s.setFrozen k = false → s.rp.patrolQ = [] → r.bits0 = some x → r.bits1 = some y → x ≤ 8 → y ≤ 8 →
      ∃ t : State, exec (.shallowsPatrol k [r]) s = .next t ∧ t.wp.index = s.wp.index ∧ t.wp.entries = s.wp.entries ∧ t.dr.shAt[k] = t.now) ∧
    (∀ q : SegKey, 2 ^ s.dr.params.disturbLog ≤ (s.drSeg q).rdc → ∃ t : State, exec (.readDisturbVisit q) s = .next t ∧
      (t.dr.patrol[q.set]).next.head? = some (q, s.now) ∧ t.wp = s.wp) ∧
    (∀ q : SegKey, (s.drSeg q).rdc < 2 ^ s.dr.params.disturbLog → exec (.readDisturbVisit q) s = .next s)

/-- A SCRUB_START that reaches the registers with a length that is not 0, a range within the LD's committed decoders, none running and
media ready sets BUSY, takes the next scrub number and counts from 0; otherwise REJ is set with the cause 1, 2 or 3 of the first
check that fails (their order is the model's, log 91), and nothing else changes. SCRUB_ABORT marks a running scrub.
SCRUB_PROGRESS_RECORD of a running host scrub makes its counts durable with a record of its number, range and counts. SCRUB_END
counts a line of the range that is allocated to the LD and never written as checked, and a poisoned one as checked and poisoned
before; a line that is not allocated sets skipped and is not checked. It then writes the summary, sets DONE and clears BUSY, with
FLAGS complete, or aborted after SCRUB_ABORT. (06_drift_and_scrub.md R153, R155, R156, Tables 06-7 to 06-11) -/
def Obligations.ScrubsStartStopAndReport : Prop :=
  ∀ (s : State) (n : Fin 16), let x := s.lds[n].scrub
    let inRange := x.len ≠ 0 ∧ covered s.lds[n].decoded x.base (x.base + x.len) 5 = true
    let refused (cause : Nat) : Prop := ∃ t : State, exec (.scrubStart n) s = .next t ∧ t.lds[n].scrub = { x with rej := true, cause := cause } ∧
      t.wp = s.wp
    (s.Reaches (whoOf n) →
      (inRange → x.busy = false → s.lk.mediaReady = true → ∃ t : State, exec (.scrubStart n) s = .next t ∧ let y := t.lds[n].scrub
        y.busy = true ∧ y.snum = (x.snum + 1) % 2 ^ 32 ∧ y.counts = scrubZero ∧ y.sumBase = x.base ∧ y.sumLen = x.len ∧ y.aborting = false ∧
        y.scan = false ∧ y.last = x.last) ∧
      (¬inRange → refused 1) ∧ (inRange → x.busy = true → refused 2) ∧ (inRange → x.busy = false → s.lk.mediaReady = false → refused 3) ∧
      (x.busy = true → x.scan = false → ∃ t : State, exec (.scrubAbort n) s = .next t ∧ t.lds[n].scrub = { x with aborting := true })) ∧
    (x.busy = true → x.scan = false →
      (∃ (t : State) (e : MetaEnt), exec (.scrubProgressRecord n [] []) s = .next t ∧ t.lds[n].scrub.counts = x.counts ∧ t.lds[n].scrub.durable = x.counts ∧
        t.lds[n].scrub.busy = true ∧ e ∈ t.wp.reserve ∧
        e.item = .scrub n x.snum (if x.counts.skipped = true then 8 else 0) x.sumBase x.sumLen x.counts ∧ t.wp.index = s.wp.index) ∧
      (let ends (all : List LineFound) (c : ScrubCounts) : Prop := ∀ found lost : List LineFound, found ++ lost = all → ∃ t : State,
        exec (.scrubEnd n found lost) s = .next t ∧ let y := t.lds[n].scrub
        y.busy = false ∧ y.done = true ∧ y.counts = c ∧ y.snum = x.snum ∧
        y.last = some ⟨(if x.aborting = true then 2 else 1) + (if c.skipped = true then 8 else 0), x.snum, c, s.now - x.startTick⟩;
       ends [] x.counts ∧
       ∀ f : LineFound, s.homeBlock f.line = none → x.sumBase ≤ f.line * 64 → f.line * 64 < x.sumBase + x.sumLen →
        (s.allocated n f.line = false → ends [f] { x.counts with skipped := true }) ∧
        (s.allocated n f.line = true → s.version f.line = .zero → ends [f] { x.counts with checked := x.counts.checked + 1 }) ∧
        (s.allocated n f.line = true → s.version f.line = .poison →
          ends [f] { x.counts with checked := x.counts.checked + 1, prior := x.counts.prior + 1 })))

/-- A doorbell that reaches the registers (a write of `width` bytes of `value` to CWIN_DB) is rejected with cause 6 when it is not one
8-byte write; else 5 when EN is 0; else 1 when OP is 0b00 or 0b11, or is commit with COUNT 0 or above 65,536; else 4 for an abort
with no group open or committing; else 3 for an abort once the commit record is issued, or a commit while the group is committing;
else 2 when GCHK is 1 and GSEQ is not that of the open or committing group, or of the group it would open. A rejection sets DBREJ
and DBCAUSE of its window and changes nothing else (no violation is counted). (07_commit_groups.md R167) -/
def Obligations.DoorbellsAreRejectedInOrder : Prop :=
  ∀ (s : State) (n : Fin 16) (w : Fin 64) (width : Nat) (value : BitVec 64), s.Reaches (whoOf n) → let v := s.lds[n].wins[w]
    let count := value.toNat % 2 ^ 17; let op := value.toNat / 2 ^ 17 % 4; let gchk := value.toNat / 2 ^ 19 % 2; let gseq := value.toNat / 2 ^ 32 % 2 ^ 16
    let next := if v.active = true then v.gseq else (v.gseq + 1) % 2 ^ 48
    let rejects (cause : Nat) : Prop := exec (.commitDoorbell n w width value) s = .next (s.dbReject n w cause) ∧
      exec (.abortDoorbell n w width value) s = .next (s.dbReject n w cause)
    let enabled := width = 8 ∧ s.lds[n].cw.en = true
    let valid := enabled ∧ (op = 2 ∨ (op = 1 ∧ 1 ≤ count ∧ count ≤ 65536))
    let placed := valid ∧ ¬(op = 2 ∧ v.active = false) ∧ ¬(op = 2 ∧ v.recIssued = true) ∧ ¬(op = 1 ∧ (v.state = .committing ∨ v.dbWait.isSome = true))
    (width ≠ 8 → rejects 6) ∧ (width = 8 → s.lds[n].cw.en = false → rejects 5) ∧
    (enabled → ¬(op = 2 ∨ (op = 1 ∧ 1 ≤ count ∧ count ≤ 65536)) → rejects 1) ∧
    (valid → op = 2 → v.active = false → rejects 4) ∧
    (valid → op = 2 → v.active = true → v.recIssued = true → rejects 3) ∧ (valid → op = 1 → v.state = .committing → rejects 3) ∧
    (placed → gchk = 1 → gseq ≠ next % 2 ^ 16 → rejects 2) ∧
    (∀ c, let t := s.dbReject n w c
      t.lds[n].wins[w] = { v with dbrej := true, dbcause := c } ∧ (∀ m : Fin 64, m ≠ w → t.lds[n].wins[m] = s.lds[n].wins[m]) ∧
      (∀ k : Fin 16, k ≠ n → t.lds[k] = s.lds[k]) ∧ t.mb = s.mb ∧ t.wp = s.wp ∧ t.lds[n].cw = s.lds[n].cw)

/-- On an enabled window with nothing left to post: an accepted commit doorbell of an open group with COUNT at or above ARRIVED (not
all acknowledged yet) leaves it committing; one below closes it with 0x05; on a closed or idle window it opens the next group,
committing, with ARRIVED 0, or waits while the outcome record of the last is under way (model's choice, log 29). An abort doorbell
closes with 0x02, the timer with 0x03: each drops the group's tentative records. COMMIT_POINT of an untethered group with its
record issued makes it committed with outcome 0x01, leaves no tentative record of its window and posts it (log 77).
OUTCOME_RECORD_DURABLE posts a group that did not commit. What is posted is the window's last group, with one more entry in the
ring and counted in PROD. (07_commit_groups.md R161, R162, R163, R168, R172, R174, R177, Tables 07-1 and 07-15) -/
def Obligations.GroupsOpenCloseAndCommit : Prop :=
  ∀ (s : State) (n : Fin 16) (w : Fin 64) (value : BitVec 64), let v := s.lds[n].wins[w]; let count := field value.toNat 16 0
    let ok (op : Nat) : Prop := s.Reaches (whoOf n) ∧ s.dbCause n w true value.toNat = 0 ∧ field value.toNat 18 17 = op
    let ends (t : State) (code : Nat) (st : WinState) : Prop := t.lds[n].wins[w].state = st ∧ t.lds[n].wins[w].outcome = code ∧
      t.lds[n].wins[w].closing = some code ∧ t.lds[n].wins[w].gseq = v.gseq ∧ t.wp.index = s.wp.index ∧
      ∀ x ∈ t.wp.tents, ¬(x.ld = n ∧ x.win = w)
    let prod := (s.sp.banks[whoOf n]).readLE 0x3BF08 4
    let posted (t : State) (code : Nat) : Prop := let u := t.lds[n].wins[w]; let m := t.sp.banks[whoOf n]
      u.closing = none ∧ u.durGseq = v.gseq ∧ u.durOutcome = code ∧ u.durCount = v.arrived ∧ m.readLE 0x3BF08 4 = (prod + 1) % 2 ^ 32 ∧
      m.readLE (0x3C000 + 16 * (prod % 1024)) 6 = v.gseq % 2 ^ 48
    (ok 1 → v.state = .opened → v.arrived ≤ count → (v.arrived < count ∨ v.acked < v.arrived) → ∃ t : State, exec (.commitDoorbell n w 8 value) s = .next t ∧
      t.lds[n].wins[w].state = .committing ∧ t.lds[n].wins[w].count = count ∧ t.lds[n].wins[w].gseq = v.gseq) ∧
    (ok 1 → v.state = .opened → count < v.arrived → ∃ t : State, exec (.commitDoorbell n w 8 value) s = .next t ∧ ends t 5 .aborted) ∧
    (ok 1 → v.active = false → v.closing = none → ∃ t : State, exec (.commitDoorbell n w 8 value) s = .next t ∧
      t.lds[n].wins[w].state = .committing ∧ t.lds[n].wins[w].count = count ∧ t.lds[n].wins[w].arrived = 0 ∧
      t.lds[n].wins[w].gseq = (v.gseq + 1) % 2 ^ 48) ∧
    (ok 1 → v.active = false → v.closing.isSome = true → ∃ t : State, exec (.commitDoorbell n w 8 value) s = .next t ∧
      t.lds[n].wins[w] = { v with dbWait := some value.toNat }) ∧
    (ok 2 → ∃ t : State, exec (.abortDoorbell n w 8 value) s = .next t ∧ ends t 2 .aborted) ∧
    (v.active = true → v.recIssued = false → s.timerPaused = false → ∃ t : State, exec (.commitTimerExpiry n w) s = .next t ∧ ends t 3 .timedOut ∧
      s.deadline n w ≤ t.now) ∧
    (v.recIssued = true → v.state = .committing → v.recPartner = true → v.dbWait = none → s.partnerRec n w = none → s.replicaGroup n w = false →
      ∃ t : State, exec (.commitPoint n w) s = .next t ∧ t.lds[n].wins[w].state = .committed ∧ t.lds[n].wins[w].outcome = 1 ∧
      posted t 1 ∧ ∀ x ∈ t.wp.tents, ¬(x.ld = n ∧ x.win = w)) ∧
    (∀ code, v.closing = some code → v.dbWait = none → ∃ t : State, exec (.outcomeRecordDurable n w) s = .next t ∧ posted t code)

/-- COMMIT_POINT of an untethered group of one tentative line whose entry stands at its place: when the line has no version in the
index, or one that the commit record's sequence number is newer than or equal to, the index names the group's entry afterwards and
the entry left behind is dead; when the index names a newer version, or the granule is poisoned, the index stays as it is and the
group's entry is dead. No other line changes its index record. (07_commit_groups.md R163, R164, 03_write_path.md R58,
05_folding_and_wear.md R107) -/
def Obligations.CommittedLinesAreShown : Prop :=
  ∀ (s : State) (n : Fin 16) (w : Fin 64) (x : TentRec) (e : Entry), let v := s.lds[n].wins[w]
    v.recIssued = true → v.state = .committing → v.recPartner = true → v.dbWait = none → s.partnerRec n w = none → s.replicaGroup n w = false →
    s.wp.tents.filter (fun (y : TentRec) => y.ld = n && y.win = w && y.gseq = v.gseq) = [x] → x.lost = false → s.entryAt x.place = some e →
    ∃ u : State, exec (.commitPoint n w) s = .next u ∧
      (let mine : IndexRec := ⟨x.place.pair, x.place.slot, x.seq % 64, x.psn⟩
       let free := (s.mapEnt (granOf x.line)).state ≠ .poisoned;
       (free → tfind s.wp.index x.line = none → tfind u.wp.index x.line = some mine) ∧
       (∀ r o, tfind s.wp.index x.line = some r → s.entryAt (s.recPlace x.line r) = some o → (s.recPlace x.line r).code ≠ x.place.code →
        (free → newer o.ord v.recSeq = false →
          tfind u.wp.index x.line = some mine ∧ ∃ d, u.entryAt (s.recPlace x.line r) = some d ∧ d.dead = true) ∧
        ((¬free ∨ newer o.ord v.recSeq = true) → tfind u.wp.index x.line = some r ∧ ∃ d, u.entryAt x.place = some d ∧ d.dead = true)) ∧
       ∀ line, line ≠ x.line → tfind u.wp.index line = tfind s.wp.index line)

/-- A REGION_ENABLE that reaches the registers of a disabled region over capacity that the LD holds, unlocked and free of a tether's
bar, sets EN and clears PROD, the ring and the leases; otherwise it sets CFGERR and leaves EN 0. A REGION_DISABLE clears EN and
closes each open or committing group without a commit record issued with outcome 0x08; one with its record issued goes on to its
commit point. Nothing stored through the primary address changes. (07_commit_groups.md R158, R169, R177, R178, 10_cxl_interface.md
R249) -/
def Obligations.TransactionalRegionsOpenAndShut : Prop :=
  ∀ (s : State) (n : Fin 16), s.Reaches (whoOf n) → let c := s.lds[n].cw
    let may := s.rangeHeld n c.base c.bytes = true ∧ s.lds[n].pass.locked = false ∧ s.tetherBarsIn c.base c.bytes = false
    (c.en = false → may → ∃ t : State, exec (.regionEnable n) s = .next t ∧ t.lds[n].cw = { c with en := true } ∧ t.wp = s.wp ∧
      (∀ a, (0x3BD00 ≤ a ∧ a < 0x3BF0C) ∨ (0x3C000 ≤ a ∧ a < 0x40000) → (t.sp.banks[whoOf n]).read a = 0) ∧
      ∀ a, a < 0x3BD00 → (t.sp.banks[whoOf n]).read a = (s.sp.banks[whoOf n]).read a) ∧
    (c.en = false → ¬may → exec (.regionEnable n) s = .next (s.modCw n fun x => { x with cfgerr := true })) ∧
    (c.en = true → exec (.regionEnable n) s = .next s) ∧
    (∃ t : State, exec (.regionDisable n) s = .next t ∧ t.lds[n].cw.en = false ∧ t.wp.index = s.wp.index ∧ ∀ w : Fin 64, let v := s.lds[n].wins[w]
      (v.active = true → v.recIssued = false → t.lds[n].wins[w].state = .aborted ∧ t.lds[n].wins[w].outcome = 8 ∧
        t.lds[n].wins[w].closing = some 8) ∧
      ((v.active = false ∨ v.recIssued = true) → t.lds[n].wins[w] = v))

/-- FAULT_INDICATION of a unit in service opens its window with that one unit; STATUS_PROBE_ANSWER of a soft fault alone closes it
again and PROBE_SILENCE_CONFIRMED confirms it. FAULT_WINDOW_CLOSE of a channel that is hard or confirmed leaves the channel out
and the set restoring, or exposed from the third channel; of a stack it disables the cache. SHALLOWS_RESTORATION_COMPLETE leaves a
set degraded, or rebuilt where rebuild may start and nothing is lost; REBUILD_SEGMENT_COMPLETE takes the position out of the lost
ones or pauses without a stand-in. A suspect channel serves again when cleared. A second stack loss stops the data path and turns
the die off. (09_redundancy_and_degraded.md R219, R220, R222, R224, R226, R227, R230, R231, R235, Tables 09-2, 09-5 and 09-6) -/
def Obligations.UnitsAreTakenOutAndRebuilt : Prop :=
  ∀ (s : State),
    (∀ (row : FaultRow) (u : FUnit), s.pw.dieUp = true → rowFits row u = true → s.unitOut u = false → (∀ k, u ≠ .stack k) → s.rd.windows[winOf u] = none →
      ∃ (t : State) (p : ChanState), exec (.faultIndication row u) s = .next t ∧
        t.rd.windows[winOf u] = some ⟨[⟨u, decide (row ≠ .timeout), false, p⟩], s.now⟩ ∧ t.wp.index = s.wp.index ∧ t.cr = s.cr ∧ t.fo = s.fo) ∧
    (∀ k : Fin 5, s.pw.dieUp = true → s.kp.lostStacks = [] → s.rd.windows[4] = none → ∃ t : State, exec (.faultIndication .dram (.stack k)) s = .next t ∧
      t.rd.windows[4] = some ⟨[⟨.stack k, true, false, .inService⟩], s.now⟩ ∧ t.wp.index = s.wp.index ∧ t.cr = s.cr) ∧
    (∀ (row : FaultRow) (u : FUnit), s.unitOut u = true → exec (.faultIndication row u) s = .next s) ∧
    (∀ (u : FUnit) (p : ChanState) (n0 ticks : Nat), s.rd.windows[winOf u] = some ⟨[⟨u, false, false, p⟩], n0⟩ → ∃ t : State,
      exec (.statusProbeAnswer u ticks) s = .next t ∧ t.rd.windows[winOf u] = none ∧ t.wp.index = s.wp.index ∧ t.cr = s.cr ∧
      ∀ c, u = .channel c → t.rd.chans[c] = p) ∧
    (∀ (u : FUnit) (p : ChanState) (n0 : Nat), s.rd.windows[winOf u] = some ⟨[⟨u, false, false, p⟩], n0⟩ →
      exec (.probeSilenceConfirmed u) s = .next { s with rd := { s.rd with windows := s.rd.windows.set (winOf u) (some ⟨[⟨u, false, true, p⟩], n0⟩) } }) ∧
    (∀ (c : Fin 64) (hard conf : Bool) (p : ChanState) (n0 : Nat), (hard || conf) = true →
      s.rd.windows[winOf (.channel c)] = some ⟨[⟨.channel c, hard, conf, p⟩], n0⟩ → ∃ t : State, exec (.faultWindowClose (winOf (.channel c))) s = .next t ∧
      t.rd.windows[winOf (.channel c)] = none ∧ t.rd.chans[c] = .out ∧ (t.rd.sets[setOfChan c]).state =
        (if (s.rd.sets[setOfChan c]).state = .exposed then .exposed
         else if 3 ≤ ((allFin 16).filter fun q => chanOf (setOfChan c) q = c ∨ s.rd.chans[chanOf (setOfChan c) q].gone = true).length then .exposed
         else .restoring)) ∧
    (∀ (k : Fin 5) (conf : Bool) (p : ChanState) (n0 : Nat), s.rd.windows[4] = some ⟨[⟨.stack k, true, conf, p⟩], n0⟩ → ∃ t : State,
      exec (.faultWindowClose 4) s = .next t ∧ t.rd.windows[4] = none ∧ t.ca.en = false ∧ t.ca.stale = true ∧ t.ca.lock = true ∧
      t.kp.lostStacks = k :: s.kp.lostStacks) ∧
    (∀ (k : Fin 5) (w : FaultWin), s.rd.windows[k] = some w → w.items.all (fun x => x.hard || x.confirmed) = false →
      exec (.faultWindowClose k) s = .next s) ∧
    (∀ k : Fin 4, s.setFrozen k = false → (s.rd.sets[k]).state = .restoring → ∃ t : State, exec (.shallowsRestorationComplete k) s = .next t ∧
      (t.rd.sets[k]).state = (if (s.rd.sets[k]).mayRebuild = true ∧ s.lostBlocks k = 0 then .rebuilt else .degraded)) ∧
    (∀ (q : SegKey) (p : Fin 16), s.setFrozen q.set = false → (s.seg q).state ≠ .free → (s.seg q).state ≠ .retired →
      (s.rd.sets[q.set]).rebuilding = true → p ∈ (s.seg q).lost →
      (∀ j, s.standInOf q p = some j → ∃ t : State, exec (.rebuildSegmentComplete q p) s = .next t ∧ p ∉ (t.seg q).lost ∧
        (t.rd.sets[q.set]).rebuilt = (s.rd.sets[q.set]).rebuilt + 1) ∧
      (s.standInOf q p = none → s.rd.chans[chanOf q.set p] ≠ .draining → s.standIn q p = none → ∃ t : State,
        exec (.rebuildSegmentComplete q p) s = .next t ∧ (t.rd.sets[q.set]).paused = true ∧ (t.seg q) = s.seg q)) ∧
    (∀ (c : Fin 64) (r a : Nat), s.rd.chans[c] = .inService → ∃ t : State, exec (.channelSuspect c r a) s = .next t ∧ t.rd.chans[c] = .suspect ∧
      t.rd.suspectSince[c] = some s.now ∧ t.wp = s.wp ∧ t.fo = s.fo ∧ t.cr = s.cr) ∧
    (∀ c : Fin 64, s.rd.chans[c] = .suspect → ∃ t : State, exec (.channelSuspectClear c) s = .next t ∧ t.rd.chans[c] = .inService ∧
      t.rd.suspectSince[c] = none ∧ t.wp = s.wp ∧ t.fo = s.fo ∧ t.cr = s.cr) ∧
    (∀ k : Fin 5, s.pw.dieUp = true → s.kp.lostStacks ≠ [] → k ∉ s.kp.lostStacks → ∃ t : State, exec (.secondStackLoss k) s = .next t ∧
      t.pw.dataPath = false ∧ t.pw.dieUp = false ∧ t.kp.lostStacks = k :: s.kp.lostStacks ∧
      ((s.pw.lastFaultAt = none → s.pw.retriesLeft ≠ 0 → t.pw.st = .off ∧ t.pw.faultRestartAt = some (s.now + secTicks 1)) ∧
        (s.pw.retriesLeft = 0 ∨ (∃ a, s.pw.lastFaultAt = some a ∧ s.now - a ≤ secTicks 600) → t.pw.st = .lockout)))

/-- CXL_LANE_FAILURE halves the width of a trained port, the last lane downs it; LODE_LANE_FAILURE leaves the other lane, or downs the
port. LINK_TRAINING_RESULT trains a port that is down as reported. WATCHDOG_EXPIRY moves the core's role to the free standby, and
the third restart within 1 h leaves the core out of service. SRAM_PARITY_ERROR in write data makes the line poison, in read data
poisons the response, in the predictor forgets the entry, in a PMON counter zeroes it with its overflow bit, and in any other
data-path state turns the die off. The lines of the write path's index stay as they were in all of these but the last.
(09_redundancy_and_degraded.md R236, R237, R238, 10_cxl_interface.md R239, R241, 13_cache_and_on_chip_memory.md R332, Tables 13-8
and 13-9, 15_lode_links_and_pools.md Table 15-2) -/
def Obligations.LinksCoresAndSramFail : Prop :=
  ∀ (s : State),
    (∀ (p : Fin 2) (l : Fin 16), let x := s.lk.ports[p]
      x.mode ≠ .down → x.mode ≠ .training → l.val < x.width → x.lost.getLsbD l.val = false → ∃ t : State,
      exec (.cxlLaneFailure p l) s = .next t ∧ (t.lk.ports[p]).width = x.width / 2 ∧ (t.lk.ports[p]).lost.getLsbD l.val = true ∧
      (t.lk.ports[p]).mode = (if x.width / 2 = 0 then .down else x.mode) ∧ t.lk.aerCorr = true ∧ t.wp = s.wp ∧ t.rp = s.rp) ∧
    (∀ (p : Fin 4) (l : Fin 2), let x := s.lo.ports[p]
      x.state ≠ .down → x.lanes = 2 → x.lost = 0 → ∃ t : State, exec (.lodeLaneFailure p l) s = .next t ∧ (t.lo.ports[p]).lanes = 1 ∧
      (t.lo.ports[p]).state = x.state ∧ (t.lo.ports[p]).lost.getLsbD l.val = true ∧ t.wp = s.wp) ∧
    (∀ (p : Fin 4) (l : Fin 2), let x := s.lo.ports[p]
      x.state ≠ .down → x.lanes = 1 → x.lost.getLsbD l.val = false → ∃ t : State, exec (.lodeLaneFailure p l) s = .next t ∧
      (t.lo.ports[p]).lanes = 0 ∧ (t.lo.ports[p]).state = .down ∧ (t.lo.ports[p]).keyed = false ∧ t.wp = s.wp) ∧
    (∀ p : Fin 2, s.pw.dieUp = true → s.portThere p = true → (s.lk.ports[p]).mode = .down →
      (∀ sw w, ∃ t : State, exec (.linkTrainingResult p (.cxl sw w)) s = .next t ∧ (t.lk.ports[p]).width = w ∧ t.wp = s.wp ∧
        (t.lk.ports[p]).mode = if sw = true then .mld else .sld) ∧
      (∀ r, ∃ t : State, exec (.linkTrainingResult p (.pcieOnly r)) s = .next t ∧ (t.lk.ports[p]).mode = .pcieOnly) ∧
      (∃ t : State, exec (.linkTrainingResult p .failed) s = .next t ∧ (t.lk.ports[p]).mode = .down)) ∧
    (∀ (c : Fin 12), let x := s.rd.cores[c]
      let again := x.restarts.filter fun t0 => decide (s.now - t0 < secTicks 3600)
      s.fwUp = true → x.inService = true → ∃ t : State, exec (.watchdogExpiry c) s = .next t ∧ t.wp.index = s.wp.index ∧ t.cr = s.cr ∧
        (∀ j, s.standby c = some j → (t.rd.cores[j]).role = x.role ∧ (t.rd.cores[c]).role = none) ∧
        (t.rd.cores[c]).inService = decide (again.length < 2)) ∧
    (s.pw.dieUp = true → ∀ a : Nat,
      (∀ q, ∃ t : State, exec (.sramParityError (.writeData q) a) s = .next t ∧ t.wp.index = s.wp.index ∧
        ∀ (n : Fin 16) (w : Write), w ∈ (t.lds[n]).adm → w.seq = q → w.psn = true ∧ w.data = 0) ∧
      (∀ i, ∃ t : State, exec (.sramParityError (.readData i) a) s = .next t ∧ t.wp.index = s.wp.index ∧
        ∀ r ∈ t.rp.tracker, r.id = i → r.poison = true ∧ r.fillOk = false) ∧
      (∃ t : State, exec (.sramParityError .predictor a) s = .next t ∧ t.rp.predictor = tdel a s.rp.predictor ∧ t.wp = s.wp) ∧
      (∀ n : Fin 64, ∃ t : State, exec (.sramParityError (.pmonCounter n) a) s = .next t ∧ t.wp = s.wp ∧ t.pm.ovf.getLsbD n.val = true ∧
        (s.pm.en = false → t.pm.cnt[n] = 0)) ∧
      (∃ t : State, exec (.sramParityError .other a) s = .next t ∧ t.pw.dieUp = false ∧
        ((s.pw.lastFaultAt = none → s.pw.retriesLeft ≠ 0 → t.pw.st = .off ∧ t.pw.faultRestartAt = some (s.now + secTicks 1)) ∧
        (s.pw.retriesLeft = 0 ∨ (∃ b, s.pw.lastFaultAt = some b ∧ s.now - b ≤ secTicks 600) → t.pw.st = .lockout))) ∧
      (∀ (b : Fin 17), ∃ t : State, exec (.sramParityError (.scratchpad b) a) s = .next t ∧ (b.val, a) ∈ t.sp.bad ∧ t.sp.banks = s.sp.banks ∧
        t.wp = s.wp))

/-- While firmware runs, GET_VERSION answers 1.2 and starts the path's negotiation again; capabilities, algorithms, digests,
certificate, challenge and measurements answer in their turn with the fields of R347 and the blocks of Table 14-6, the requester's
nonce among them; out of turn every one gets an ERROR and changes nothing else (the order and the error codes are SPDM's: log 42).
KEY_EXCHANGE takes a free session, a fifth gets SessionLimitExceeded; FINISH establishes it, HEARTBEAT and KEY_UPDATE keep it,
END_SESSION frees it, and none of them works in a free session. In an established session KEY_PROG stores a pending key, K_SET_GO
with both pending keys makes them current, K_SET_STOP ends the set. None of them changes a line, a key region or a counter.
(14_security_and_lifecycle.md R347, R348, Tables 14-4 and 14-6, 08_inline_encryption.md R213, 10_cxl_interface.md R262) -/
def Obligations.AttestationAnswers : Prop :=
  ∀ (s : State) (via : Inst), s.fwUp = true →
    let bad := Host.Outcome.next (φ := Fault) (ρ := Refusal) (s.emit (.spdm via 0x7F (.fields [("error", 4)])))
    let cert := (Config.certDigest s.hw.serial).toNat
    (exec (.spdmGetVersion via) s = .next ((s.setPhase via .version).emit (.spdm via 0x04 (.fields [("version", 0x12)])))) ∧
    (if s.phase via = .version then ∃ (t : State) (l : List (String × Nat)), exec (.spdmGetCapabilities via) s = .next t ∧
        t = (s.setPhase via .capabilities).emit (.spdm via 0x61 (.fields l)) ∧
        ∀ f ∈ [("cert", 1), ("chal", 1), ("measSig", 1), ("keyEx", 1), ("encrypt", 1), ("mac", 1), ("hbeat", 1), ("keyUpd", 1), ("mutAuth", 0),
          ("psk", 0)], f ∈ l
      else exec (.spdmGetCapabilities via) s = bad) ∧
    (if s.phase via = .capabilities then exec (.spdmNegotiateAlgorithms via) s = .next ((s.setPhase via .algorithms).emit
        (.spdm via 0x63 (.fields [("ecdsaP384", 1), ("sha384", 1), ("secp384r1", 1), ("aes256Gcm", 1), ("spdmKeySchedule", 1)])))
      else exec (.spdmNegotiateAlgorithms via) s = bad) ∧
    (s.phase via = .algorithms →
      exec (.spdmGetDigests via) s = .next (s.emit (.spdm via 0x01 (.fields [("slotMask", 1), ("digest", cert)]))) ∧
      exec (.spdmGetCertificate via) s = .next (s.emit (.spdm via 0x02
        (.fields [("slot", 0), ("certificates", 3), ("digest", cert), ("serial", s.hw.serial.toNat)]))) ∧
      (∀ nonce : Key, ∃ (t : State) (l : List (String × Nat)), exec (.spdmChallenge via nonce) s = .next t ∧
        t = ({ s with freeIx := s.freeIx + 1 }).emit (.spdm via 0x03 (.fields l)) ∧ ("nonce", nonce.toNat) ∈ l ∧ ("digest", cert) ∈ l ∧
        ("signature", (Config.freeSig s.freeIx).toNat) ∈ l) ∧
      (∀ nonce : Key, ∃ (t : State) (l : List (String × Nat)), exec (.spdmGetMeasurements via nonce) s = .next t ∧
        t = ({ s with freeIx := s.freeIx + 1 }).emit (.spdm via 0x60 (.fields l)) ∧ ("nonce", nonce.toNat) ∈ l ∧
        ("lifeCycle", s.sec.lc.code) ∈ l ∧ ("antiRollback", s.sec.antiRollback) ∈ l ∧ ("sealEpoch", s.sec.sealEpoch) ∈ l ∧
        ("protocolLevel", s.lo.proto) ∈ l ∧ ("formatLevel", s.kp.formatLevel) ∈ l ∧
        ∀ i, s.sec.running = some i → ("version", i.version.toNat) ∈ l ∧ ("svn", i.svn) ∈ l)) ∧
    (s.phase via ≠ .algorithms → exec (.spdmGetDigests via) s = bad ∧ exec (.spdmGetCertificate via) s = bad ∧ exec (.spdmKeyExchange via) s = bad ∧
      ∀ nonce : Key, exec (.spdmChallenge via nonce) s = bad ∧ exec (.spdmGetMeasurements via nonce) s = bad) ∧
    (s.phase via = .algorithms → ((∀ k : Fin 4, s.sec.spdm[k] ≠ .free) →
        exec (.spdmKeyExchange via) s = .next (s.emit (.spdm via 0x7F (.fields [("error", 0x0A)])))) ∧
      ((∃ k : Fin 4, s.sec.spdm[k] = .free) → ∃ (t : State) (k : Fin 4), exec (.spdmKeyExchange via) s = .next t ∧ s.sec.spdm[k] = .free ∧
        t.sec = { s.sec with spdm := s.sec.spdm.set k .handshake } ∧ t.wp = s.wp ∧ t.cr = s.cr ∧ t.lds = s.lds)) ∧
    (∀ k : Fin 4,
      (s.sec.spdm[k] = .handshake → exec (.spdmFinish via k) s = .next ((s.setSpdm k .established).emit (.spdm via 0x65 (.fields [("session", k.val)])))) ∧
      (s.sec.spdm[k] = .established →
        exec (.spdmHeartbeat via k) s = .next (s.emit (.spdm via 0x68 (.fields [("session", k.val)]))) ∧
        exec (.spdmKeyUpdate via k) s = .next (s.emit (.spdm via 0x69 (.fields [("session", k.val)]))) ∧
        exec (.spdmEndSession via k) s = .next ((s.setSpdm k .free).emit (.spdm via 0x6C (.fields [("session", k.val)]))) ∧
        ∀ p : Fin 2, s.portThere p = true →
          (∀ (tx : Bool) (key : Key), ∃ t : State, exec (.ideKmKeyProg k p tx key) s = .next t ∧ (t.lk.ports[p]).ide.tx = (s.lk.ports[p]).ide.tx ∧
            (t.lk.ports[p]).ide.rx = (s.lk.ports[p]).ide.rx ∧ (if tx = true then (t.lk.ports[p]).ide.pendTx else (t.lk.ports[p]).ide.pendRx) = some key ∧
            t.wp = s.wp ∧ t.cr = s.cr ∧ t.sec = s.sec) ∧
          (∃ t : State, exec (.ideKmKSetGo k p) s = .next t ∧ t.wp = s.wp ∧ t.cr = s.cr ∧ t.sec = s.sec ∧
            ∀ a b, (s.lk.ports[p]).ide.pendTx = some a → (s.lk.ports[p]).ide.pendRx = some b → (t.lk.ports[p]).ide.tx = some a ∧
              (t.lk.ports[p]).ide.rx = some b) ∧
          (∃ t : State, exec (.ideKmKSetStop k p) s = .next t ∧ (t.lk.ports[p]).ide.tx = none ∧ (t.lk.ports[p]).ide.rx = none ∧ t.wp = s.wp ∧
            t.cr = s.cr ∧ t.sec = s.sec)) ∧
      (s.sec.spdm[k] = .free →
        let gone := Host.Outcome.next (φ := Fault) (ρ := Refusal) (s.emit (.spdm via 0x7F (.fields [("error", 2)])))
        exec (.spdmFinish via k) s = gone ∧ exec (.spdmHeartbeat via k) s = gone ∧ exec (.spdmKeyUpdate via k) s = gone ∧
        exec (.spdmEndSession via k) s = gone))

/-- TAMPER_INPUT_ACTIVE, while the keeper is alive: an input in mode 0 changes nothing, one in mode 1 powers nothing down, one in
respond mode (2 or 3) turns the die off without a flush, holds the keeper and takes 0x05 as the shutdown record of a session that
had none; no sealed region key is lost. ROOT_SEAL while running seals the device's roots under the next seal number and one more
use of slot 7's key, and keeps the lines. IDE_INTEGRITY_FAILURE of a stream in use ends it and records; without a stream nothing
happens. LODE_KEY_REDERIVE of an Up port whose MAC slot may still be used counts its messages from 0 again.
(14_security_and_lifecycle.md R340, R342, R345, R352, R353, R354, R355, Table 14-10, 08_inline_encryption.md R199, R213, R214) -/
def Obligations.TamperSealAndLinkKeys : Prop :=
  ∀ (s : State),
    (∀ i : Fin 4, s.pw.alive = true →
      ((s.sec.tamper[i]).mode = 0 → exec (.tamperInputActive i) s = .next s) ∧
      ((s.sec.tamper[i]).mode = 1 → ∃ t : State, exec (.tamperInputActive i) s = .next t ∧ t.pw = s.pw ∧ t.wp = s.wp ∧ t.cr = s.cr) ∧
      (1 < (s.sec.tamper[i]).mode → s.pw.st ≠ .tamperHold → ∃ t : State, exec (.tamperInputActive i) s = .next t ∧ t.pw.st = .tamperHold ∧
        t.pw.dieUp = false ∧ t.pw.dataPath = false ∧ t.pw.faultRestartAt = none ∧ (s.kp.endRec = .run → t.kp.endRec = .shutdown 5) ∧
        t.mb.keeperSess = none ∧ (∀ r : Fin 256, (t.cr.regions[r]).keyA = (s.cr.regions[r]).keyA ∧ (t.cr.regions[r]).keyB = (s.cr.regions[r]).keyB))) ∧
    (s.pw.st = .running → s.lk.mediaReady = true → s.macOk 7 = true → ∃ t : State, exec .rootSeal s = .next t ∧
      t.sec.sealNumber = (s.sec.sealNumber + 1) % 2 ^ 64 ∧ t.wp.index = s.wp.index ∧ t.wp.entries = s.wp.entries ∧
      t.fo.map = s.fo.map) ∧
    (∀ p : Fin 2, (∀ k, (s.lk.ports[p]).ide.rx = some k → ∃ t : State, exec (.ideIntegrityFailure p) s = .next t ∧ (t.lk.ports[p]).ide.tx = none ∧
        (t.lk.ports[p]).ide.rx = none ∧ t.wp = s.wp ∧ t.rp = s.rp) ∧
      ((s.lk.ports[p]).ide.rx = none → exec (.ideIntegrityFailure p) s = .next s)) ∧
    (∀ p : Fin 4, (s.lo.ports[p]).state = .up → (s.lo.ports[p]).keyed = true →
      (∀ t : Fin 8, s.portTether p = some t → s.macOk ⟨8 + t.val, by omega⟩ = true) → ∃ t : State, exec (.lodeKeyRederive p) s = .next t ∧
      (t.lo.ports[p]).msgCtr = 0 ∧ (t.lo.ports[p]).rxCtr = 0 ∧ (t.lo.ports[p]).keyed = true ∧ (t.lo.ports[p]).state = .up ∧ t.lds = s.lds ∧
      t.wp = s.wp)

/-- While the die is up, CONVENTIONAL_RESET and HOT_RESET of a port the device has leave it down or training on every lane without IDE
keys, and each of its LDs with every decoder uncommitted, its commit windows off and its session ended; FLR ends the LD's session
and masks its vectors but keeps its decoders and windows; CXL_RESET uncommits the decoders at once and holds requests until
CXL_RESET_COMPLETE. HDM_DECODER_COMMIT commits a supported range that meets no other and lies below the limit, else reports the
failure; a committed decoder stays. GPF phase 1 is answered on the port at once, and phase 2 when nothing past admission is left,
else it waits (log 82). CDAT_TABLE_ACCESS answers the LD's table. SETDASA and ENTDAA give the address on the bus. A REGISTER_WRITE
outside the LD's BARs sets the error flag alone, one to a reserved offset of BAR2 counts kind 4 alone, one to the claim mask sets
it. (10_cxl_interface.md R239, R245, R257, R258, R262, Table 10-6, 02_persistence_contract.md R39, 00_scope.md R5,
12_notifications_events_counters.md R292, 20_electrical_and_package.md R452, 08_inline_encryption.md R213,
11_mailbox_and_sessions.md R278) -/
def Obligations.ResetsClearTheirScope : Prop :=
  ∀ (s : State),
    (∀ p : Fin 2, s.pw.dieUp = true → s.portThere p = true → ∀ cold : Bool, ∃ t : State,
      exec (if cold = true then .conventionalReset p else .hotReset p) s = .next t ∧
      (t.lk.ports[p]).mode = (if cold = true then .down else .training) ∧ (t.lk.ports[p]).lost = 0 ∧ (t.lk.ports[p]).ide = ⟨none, none, none, none⟩ ∧
      ∀ n : Fin 16, s.portOf n = p → t.lds[n].decoders = .replicate 4 .init ∧ t.lds[n].cw = .init ∧ t.lds[n].bar0 = [] ∧
        t.lds[n].resetting = none ∧ (t.mb.inst[Inst.ix (.ld n)]).session = none ∧ t.nt.cl[whoOf n].stack = [] ∧
        (cold = true → t.lds[n].pass.frozen = false)) ∧
    (∀ p : Fin 2, s.pw.dieUp = false → exec (.conventionalReset p) s = .next s ∧ exec (.hotReset p) s = .next s) ∧
    (∀ n : Fin 16, s.pw.dieUp = true → ∃ t : State, exec (.flr n) s = .next t ∧ (t.mb.inst[Inst.ix (.ld n)]).session = none ∧
      t.lds[n].vecMasked = .replicate 4 true ∧ t.lds[n].decoders = s.lds[n].decoders ∧ t.lds[n].cw = s.lds[n].cw ∧ t.lds[n].wins = s.lds[n].wins ∧
      t.wp.index = s.wp.index ∧ t.rp = s.rp) ∧
    (∀ (n : Fin 16) (clr : Bool), s.pw.dieUp = true → s.lds[n].resetting = none → ∃ t : State, exec (.cxlReset n clr) s = .next t ∧
      t.lds[n].resetting = some clr ∧ t.lds[n].decoders = .replicate 4 .init ∧ t.lds[n].cw = .init ∧
      (t.mb.inst[Inst.ix (.ld n)]).session = none) ∧
    (∀ n : Fin 16, s.lds[n].resetting = some false → s.ldBusy n = false → ∃ t : State, exec (.cxlResetComplete n) s = .next t ∧
      t.lds[n].resetting = none ∧ t.wp.entries = s.wp.entries) ∧
    (∀ (n : Fin 16), (s.lds[n].resetting = none ∨ s.ldBusy n = true) → exec (.cxlResetComplete n) s = .next s) ∧
    (∀ (n : Fin 16) (d : Fin 4) (c : DecoderCfg), s.Reaches (whoOf n) →
      let tries := s.lds[n].decoders.set d ⟨c, true, false⟩
      let bases := decBases 0 tries.toList
      let top := bases.getD d.val 0 + Decoder.span ⟨c, true, false⟩
      let meets : Prop := ∃ i : Fin 4, i ≠ d ∧ (tries[i]).committed = true ∧ bases.getD i.val 0 < top ∧ bases.getD d.val 0 < bases.getD i.val 0 + (tries[i]).span
      ((s.lds[n].decoders[d]).committed = true → exec (.hdmDecoderCommit n d c) s = .next s) ∧
      ((s.lds[n].decoders[d]).committed = false → decoderFits c = true → top ≤ 0xC00000000000 → ¬meets → ∃ t : State,
        exec (.hdmDecoderCommit n d c) s = .next t ∧ t.lds[n].decoders = tries ∧ t.wp = s.wp) ∧
      ((s.lds[n].decoders[d]).committed = false → (decoderFits c = false ∨ 0xC00000000000 < top ∨ meets) → ∃ t : State,
        exec (.hdmDecoderCommit n d c) s = .next t ∧ t.lds[n].decoders = s.lds[n].decoders.set d ⟨c, false, true⟩ ∧ t.wp = s.wp)) ∧
    (∀ p : Fin 2, exec (.gpfPhase1Request p) s = .next (s.emit (.gpf p 1)) ∧
      (s.pw.dataPath = false → exec (.gpfPhase2Request p) s = .next (s.emit (.gpf p 2))) ∧
      (s.pw.dataPath = true → ∃ t : State, exec (.gpfPhase2Request p) s = .next t ∧
        (t.out.head? = some (.gpf p 2) ∨ ∃ g ∈ t.lk.gpf, g.port = p)) ∧
      (s.pw.dataPath = true → s.inflight = [] → s.wp.cplQ = [] → (∀ (n : Fin 16) (w : Fin 64), s.lds[n].wins[w].recIssued = false) →
        ∃ t : State, exec (.gpfPhase2Request p) s = .next t ∧ t.out.head? = some (.gpf p 2) ∧ t.wp.index = s.wp.index)) ∧
    (∀ n : Fin 16, s.pw.dieUp = true → exec (.cdatTableAccess n) s = .next (s.emit (.doe n (s.cdat n)))) ∧
    (∀ a b : BitVec 7,
      (s.pw.alive = true → a = s.pw.i3cStatic → s.pw.i3cDyn = none →
        exec (.setdasa a b) s = .next (({ s with pw := { s.pw with i3cDyn := some b } }).emit (.i3c true))) ∧
      (a ≠ s.pw.i3cStatic → exec (.setdasa a b) s = .next (s.emit (.i3c false))) ∧
      (s.pw.alive = true → s.pw.i3cDyn = none → exec (.entdaa b) s = .next (({ s with pw := { s.pw with i3cDyn := some b } }).emit (.i3c true))) ∧
      (s.pw.i3cDyn ≠ none → exec (.entdaa b) s = .next (s.emit (.i3c false)))) ∧
    (∀ (n : Fin 16) (bar off w v : Nat), s.Reaches (whoOf n) → bar ≠ 0 → bar ≠ 2 →
      exec (.registerWrite n bar off w v) s = .next { s with lk := { s.lk with aerNonfatal := true } }) ∧
    (∀ (n : Fin 16) (off w v : Nat), s.Reaches (whoOf n) → 0x500000 ≤ off → off < 0x800000 →
      exec (.registerWrite n 2 off w v) s = .next (s.violate (whoOf n) 4 off)) ∧
    (∀ (n : Fin 16) (k : Fin 8) (v : Nat), s.Reaches (whoOf n) → ∃ t : State, exec (.registerWrite n 2 (0x40 + 4 * k.val) 4 v) s = .next t ∧
      t.nt.cl[whoOf n].mask = setMask s.nt.cl[whoOf n].mask k.val (v % 2 ^ 32) ∧ t.wp = s.wp ∧ t.nt.src = s.nt.src)

/-- A whole read of NOTIF_CLAIM returns the eligible source of highest priority, lowest number first, makes it active, and raises the
claimant's running priority; with none it returns 0x3FF and changes nothing. NOTIF_EOI of the source claimed last pops the stack;
any other sets EOIERR. UNWIND empties the stack and frees every owned source. A record that a source queues while the banks are
empty is the next one delivered, to the ring of each of its targets. NOTIF_QUEUE_ENABLE starts the ring at 0 with PHASE 1, CLRLOST
clears its count, a write of CONS within the span moves CONS, any other leaves it; both arm. NOTIF_SWSET makes its idle sources
pending. PMON_SNAPSHOT copies every count, PMON_CLEAR zeroes counts and flags, a wrap sets the flag, a sample enters the active
bank, a release empties a full bank, and SEN empties both, for a claimant that may use the block; another counts kind 3.
(12_notifications_events_counters.md R288, R290, R291, R292, R293, R294, R295, R296, R298, R299, 11_mailbox_and_sessions.md R285,
10_cxl_interface.md R265) -/
def Obligations.SourcesAreClaimedAndDelivered : Prop :=
  ∀ (s : State) (c : Fin 17),
    (s.Reaches c →
      (∀ m : Fin 256, s.eligible c m = true → (∀ k : Fin 256, s.eligible c k = true → (s.nt.src[k]).prio < (s.nt.src[m]).prio ∨
          ((s.nt.src[k]).prio = (s.nt.src[m]).prio ∧ m.val ≤ k.val)) → ∃ t : State, exec (.notifClaim c 4) s = .next t ∧
        t.out = .reg c (m.val + (s.nt.src[m]).prio * 2 ^ 10) :: s.out ∧ (t.nt.src[m]).pend = false ∧ (t.nt.src[m]).act = true ∧
        (t.nt.src[m]).owner = c.val ∧ (t.nt.cl[c]).prio = (s.nt.src[m]).prio ∧ (t.nt.cl[c]).stack = (m.val, (s.nt.cl[c]).prio) :: (s.nt.cl[c]).stack ∧
        (∀ k, k ≠ m → t.nt.src[k] = s.nt.src[k]) ∧ (∀ d, d ≠ c → t.nt.cl[d] = s.nt.cl[d]) ∧ t.wp = s.wp) ∧
      ((∀ k : Fin 256, s.eligible c k = false) → exec (.notifClaim c 4) s = .next (s.emit (.reg c 0x3FF))) ∧
      (∀ (m : Fin 256) (p : Nat) (rest : List (Nat × Nat)), (s.nt.cl[c]).stack = (m.val, p) :: rest → ∃ t : State,
        exec (.notifEoi c m.val) s = .next t ∧ (t.nt.cl[c]).stack = rest ∧ (t.nt.cl[c]).prio = p ∧ (t.nt.src[m]).act = false ∧
        (t.nt.src[m]).pend = (s.nt.src[m]).pend ∧ t.wp = s.wp) ∧
      (∀ v : Nat, (∀ x ∈ (s.nt.cl[c]).stack.head?, x.1 ≠ v % 1024) → exec (.notifEoi c v) s = .next (s.eoiErr c)) ∧
      (∃ t : State, exec (.unwind c) s = .next t ∧ (t.nt.cl[c]).stack = [] ∧ (t.nt.cl[c]).prio = 16 ∧ t.wp = s.wp ∧
        ∀ m : Fin 256, (s.nt.src[m]).act = true → (s.nt.src[m]).owner = c.val → (t.nt.src[m]).act = false ∧ (t.nt.src[m]).pend = (s.nt.src[m]).pend) ∧
      (s.devOk c = true →
        exec (.pmonSnapshot c) s = .next { s with pm := { s.pm with snap := s.pm.cnt } } ∧
        exec (.pmonClear c) s = .next { s with pm := { s.pm with cnt := .replicate 64 0, ovf := 0 } } ∧
        (∀ b : BitVec 2, ∃ t : State, exec (.sampleBankRelease c b) s = .next t ∧ t.pm.full = s.pm.full &&& ~~~b ∧
          (s.pm.full.getLsbD 0 = true → b.getLsbD 0 = true → t.pm.bank0 = []) ∧ (b.getLsbD 0 = false → t.pm.bank0 = s.pm.bank0)) ∧
        (s.pm.sen = false → ∃ t : State, exec (.samplingEnable c) s = .next t ∧ t.pm.sen = true ∧ t.pm.bank0 = [] ∧ t.pm.bank1 = [] ∧
          t.pm.sdrop = 0 ∧ 0 < t.pm.gap)) ∧
      (s.devOk c = false → exec (.pmonSnapshot c) s = .next (s.violate c 3 0x200000) ∧ exec (.pmonClear c) s = .next (s.violate c 3 0x200000) ∧
        exec (.samplingEnable c) s = .next (s.violate c 3 0x201000))) ∧
    (∀ r : NRec, s.nt.fill = [r] → s.nt.drain = [] → s.nt.wait = [] → exec (.notifDeliver none) s =
      .next (({ s with nt := { s.nt with fill := [], drain := [] } }).deliver r)) ∧
    (∀ (r : NRec) (n : Fin 16), s.nt.fill = [r] → s.nt.drain = [] → s.nt.wait = [] → r.targets = BitVec.ofNat 17 (2 ^ n.val) → s.nt.q[n].en = true →
      s.nt.q[n].stopped = false → ∃ t : State, exec (.notifDeliver none) s = .next t ∧ .ringRec n (s.nt.q[n].base + 16 * s.nt.q[n].prod) (r.word s.nt.q[n].phase s.nt.q[n].qseq) ∈ t.out ∧
      t.nt.q[n].prod = s.nt.q[n].push.prod ∧ t.nt.fill = [] ∧ t.nt.drain = [] ∧ t.wp = s.wp ∧ ∀ m : Fin 16, m ≠ n → t.nt.q[m] = s.nt.q[m]) ∧
    (∀ n : Fin 16, s.Reaches (whoOf n) →
      (s.nt.q[n].en = false → ∃ t : State, exec (.notifQueueEnable n) s = .next t ∧
        t.nt.q[n] = { s.nt.q[n] with en := true, armed := true, stopped := false, prod := 0, cons := 0, phase := true, qseq := 0 } ∧ t.wp = s.wp) ∧
      (∃ t : State, exec (.clrlost n) s = .next t ∧ t.nt.q[n] = { s.nt.q[n] with lost := 0 } ∧ t.wp = s.wp) ∧
      (∀ value : Nat, ∃ t : State, exec (.notifQconsWrite n value) s = .next t ∧ t.nt.q[n].prod = s.nt.q[n].prod ∧ t.wp = s.wp ∧ let v := value % 65536
        t.nt.q[n].cons = (if v < s.nt.q[n].slots ∧ 1 ≤ (v + s.nt.q[n].slots - s.nt.q[n].cons) % s.nt.q[n].slots ∧
          (v + s.nt.q[n].slots - s.nt.q[n].cons) % s.nt.q[n].slots ≤ s.nt.q[n].unread then v else s.nt.q[n].cons))) ∧
    (∀ v : Nat, ∃ t : State, exec (.fmConsWrite v) s = .next t ∧ t.nt.fm.cons = (s.nt.fm.consume v).cons ∧ t.nt.fm.prod = s.nt.fm.prod) ∧
    (∀ (v : BitVec 16), ∃ t : State, exec (.notifSwset v) s = .next t ∧ t.wp = s.wp ∧ ∀ i : Fin 16, v.getLsbD i.val = true →
      (t.nt.src[(⟨0xF0 + i.val, by omega⟩ : Fin 256)]).pend = true) ∧
    (∀ n : Fin 64, s.pm.en = true → s.pm.cnt[n] = BitVec.allOnes 48 → ∃ t : State, exec (.pmonCounterWrap n) s = .next t ∧ t.pm.cnt[n] = 0 ∧
      t.pm.ovf.getLsbD n.val = true ∧ t.wp = s.wp) ∧
    (∀ r : Sample, s.pm.sen = true → s.sampleFits r = true → s.pm.active = 0 → s.pm.full = 0 → s.pm.bank0.length < 2047 → ∃ t : State,
      exec (.pmonSample r) s = .next t ∧ t.pm.bank0 = s.pm.bank0 ++ [r] ∧ t.pm.bank1 = s.pm.bank1 ∧ t.pm.full = 0 ∧ 0 < t.pm.gap ∧ t.wp = s.wp)

/-- For a claimant that may use the block and reaches it, an operation by address, or by set and way of a set that exists, enters the
tail of the maintenance queue while it holds fewer than 256 and none waits; a set beyond the cache is ignored; another claimant
counts kind 3. MAINTENANCE_OP_EXECUTE takes the head: an absent line finishes at once; an invalidate drops the line; a clean of a
dirty line puts its granule's fold first and waits for it. CLEAN_COMPLETE of nothing waiting changes nothing. CACHE_SYNC with no
operation left returns the count and clears it. RANGE_START of a valid range sets BUSY, a refused one REJ with its cause;
RANGE_ABORT ends with DONE and ABT; RANGE_COMPLETE of a whole-cache invalidate empties the cache and clears STALE when enabled. An
ADD or SWAP on an alias, aligned and in a part the device does not write, leaves the sum or the value there; the AtomicOps return
the value before; CompareAndSwap changes nothing. (13_cache_and_on_chip_memory.md R317, R318, R319, R320, R321, R322, R324, R328,
R329, Table 13-3, Table 13-5, 11_mailbox_and_sessions.md R284) -/
def Obligations.CacheOperationsRunInOrder : Prop :=
  ∀ (s : State) (c : Fin 17),
    (s.Reaches c → s.devOk c = true → s.opCount < 256 → s.held.any maintWrite = false →
      let put (r : MReq) := { s with ca := { s.ca with opq := s.ca.opq ++ [r] } }
      (∀ a : Nat, exec (.cleanByAddress c a) s = .next (put ⟨.clean, false, a / 64, 0, 0⟩) ∧
        exec (.invalidateByAddress c a) s = .next (put ⟨.invalidate, false, a / 64, 0, 0⟩) ∧
        exec (.cleanInvalidateByAddress c a) s = .next (put ⟨.cleanInvalidate, false, a / 64, 0, 0⟩)) ∧
      (∀ (n : Nat) (w : Fin 16), n < 13631488 → exec (.cleanBySetWay c n w) s = .next (put ⟨.clean, true, 0, n, w.val⟩) ∧
        exec (.invalidateBySetWay c n w) s = .next (put ⟨.invalidate, true, 0, n, w.val⟩) ∧
        exec (.cleanInvalidateBySetWay c n w) s = .next (put ⟨.cleanInvalidate, true, 0, n, w.val⟩))) ∧
    (s.Reaches c → s.devOk c = true → ∀ (n : Nat) (w : Fin 16), 13631488 ≤ n → exec (.cleanBySetWay c n w) s = .next s ∧
      exec (.invalidateBySetWay c n w) s = .next s ∧ exec (.cleanInvalidateBySetWay c n w) s = .next s) ∧
    (s.Reaches c → s.devOk c = false → exec (.rangeStart c) s = .next (s.violate c 3 0x300018) ∧
      exec (.rangeAbort c) s = .next (s.violate c 3 0x300018) ∧ ∀ a : Nat, exec (.cleanByAddress c a) s = .next (s.violate c 3 0x300008)) ∧
    (∀ (r : MReq) (rest : List MReq), s.ca.opq = r :: rest →
      (s.opLine r = none → exec .maintenanceOpExecute s = .next { s with ca := { s.ca with opq := rest, synced := min 0xFFFFFFFF (s.ca.synced + 1) } }) ∧
      (∀ l, s.opLine r = some l → r.op = .invalidate → ∃ t : State, exec .maintenanceOpExecute s = .next t ∧ t.cacheFind l.line = none ∧
        t.ca.opq = rest ∧ t.wp = s.wp ∧ t.fo = s.fo) ∧
      (∀ l, s.opLine r = some l → r.op = .clean → l.dirty = true → s.fo.orderQ[s.setOf (granOf l.line)].length < 4096 → ∃ t : State,
        exec .maintenanceOpExecute s = .next t ∧ (t.fo.orderQ[s.setOf (granOf l.line)]).head? =
          some (granOf l.line, some (s.homeLane (s.setOf (granOf l.line)) (granOf l.line))) ∧ t.ca.opq = rest ∧
        t.ca.waitClean = s.ca.waitClean ++ [(l.line, false)] ∧ t.ca.lines = s.ca.lines ∧ t.wp = s.wp)) ∧
    (∃ t : State, exec .cleanComplete s = .next t ∧ t.ca.waitClean = s.ca.waitClean.filter (fun p => s.folding (granOf p.1)) ∧ t.wp = s.wp ∧
      (s.ca.waitClean = [] → t = s)) ∧
    (s.Reaches c → s.devOk c = true → s.opCount = 0 →
      exec (.cacheSync c 4) s = .next (({ s with ca := { s.ca with synced := 0 } }).emit (.reg c s.ca.synced))) ∧
    (s.Reaches c → s.devOk c = true →
      (s.ca.rop ≠ 0 → s.ca.rbusy = false → (s.ca.rall = true ∨ (s.ca.rlen ≠ 0 ∧ s.ca.rbase + s.ca.rlen ≤ s.capacity)) → ∃ t : State,
        exec (.rangeStart c) s = .next t ∧ t.ca.rbusy = true ∧ t.ca.rprog = 0 ∧ t.ca.lines = s.ca.lines ∧ t.wp = s.wp) ∧
      (s.ca.rop = 0 → exec (.rangeStart c) s = .next { s with ca := { s.ca with rrej := true, rcause := 1 } }) ∧
      (s.ca.rop ≠ 0 → s.ca.rall = true → s.ca.rbusy = true → exec (.rangeStart c) s = .next { s with ca := { s.ca with rrej := true, rcause := 2 } }) ∧
      (s.ca.rbusy = true → ∃ t : State, exec (.rangeAbort c) s = .next t ∧ t.ca.rbusy = false ∧ t.ca.rdone = true ∧ t.ca.rabt = true ∧
        t.ca.lines = s.ca.lines)) ∧
    (s.ca.rbusy = true → s.ca.rwait = none → s.ca.rop = 2 → s.ca.rall = true → ∃ t : State, exec .rangeComplete s = .next t ∧ t.ca.lines = [] ∧
      t.ca.rbusy = false ∧ t.ca.rdone = true ∧ (s.ca.en = true → t.ca.stale = false) ∧ t.wp = s.wp ∧ t.fo = s.fo) ∧
    (∀ (off w v : Nat), s.Reaches c → (w = 4 ∨ w = 8) → off % w = 0 → off + w ≤ 0x40000 → devPart c off w = false → resPart c off w = false →
      s.spadBad c off w = false →
      let x := s.spadRead c off w
      (∃ t : State, exec (.spadAddWrite c off w v) s = .next t ∧ t.spadRead c off w = (x + v) % 2 ^ (8 * w) ∧ t.wp = s.wp ∧ t.nt = s.nt) ∧
      (∃ t : State, exec (.spadSwapWrite c off w v) s = .next t ∧ t.spadRead c off w = v % 2 ^ (8 * w) ∧ t.wp = s.wp ∧ t.nt = s.nt) ∧
      (∀ n : Fin 16, whoOf n = c →
        (∃ t : State, exec (.atomicFetchAdd n off w v) s = .next t ∧ t.spadRead c off w = (x + v) % 2 ^ (8 * w) ∧ t.out = .reg c x :: s.out) ∧
        (∃ t : State, exec (.atomicSwap n off w v) s = .next t ∧ t.spadRead c off w = v % 2 ^ (8 * w) ∧ t.out = .reg c x :: s.out))) ∧
    (∀ (n : Fin 16) (off w : Nat), s.Reaches (whoOf n) → exec (.atomicCompareAndSwap n off w) s = .next (s.emit (.unsupported n)))

/-- With firmware up, a trained port goes from Down to Discovery and says HELLO; a HELLO repeat, a keepalive and the offer of an
absent tether go out where the state asks for them. A HELLO of another pool, or of the device's own member ID, changes nothing;
one that a tether meets brings the port Up with the partner and, where the engine takes the request for its keys, keyed, or, when
its first tag fails, Down, and the third time in a row back to Discovery. A protected message on an Up port whose tag fails, or of
a type not listed, takes the port Down with its keys gone; one that passes is counted. 1 ms of silence takes it Down. LEVEL enters
the levels of other members into the table, and the level in use follows; SWITCH sets the port's level.
(15_lode_links_and_pools.md R357, R358, R359, R363, R372, Table 15-2, Table 15-4, 08_inline_encryption.md R214) -/
def Obligations.LodePortsComeUpAndDown : Prop :=
  ∀ (s : State),
    (∀ (p : Fin 4) (n : Nat), s.fwUp = true → (s.lo.ports[p]).state = .down →
      (n = 1 ∨ n = 2 → ∃ t : State, exec (.lodeTrainingResult p true n) s = .next t ∧ (t.lo.ports[p]).state = .discovery ∧ (t.lo.ports[p]).lanes = n ∧
        (t.lo.ports[p]).keyed = false ∧ t.out = .lode p 0 (t.helloMsg p) :: s.out ∧ t.wp = s.wp ∧ t.lo.tethers = s.lo.tethers) ∧
      exec (.lodeTrainingResult p false n) s = .next s) ∧
    (∀ p : Fin 4, exec (.helloRepeat p) s = .next (if (s.lo.ports[p]).state = .discovery then s.emit (.lode p 0 (s.helloMsg p)) else s)) ∧
    (∀ p : Fin 4, (s.lo.ports[p]).state = .up → (∃ t : State, exec (.keepaliveSend p) s = .next t ∧ t.out = .lode p 0 .keepalive :: s.out ∧
        (t.lo.ports[p]).msgCtr = (s.lo.ports[p]).msgCtr + 1 ∧ t.wp = s.wp) ∧
      ∃ t : State, exec (.lodeSilenceTimeout p) s = .next t ∧ (t.lo.ports[p]).state = .down ∧ (t.lo.ports[p]).keyed = false ∧ t.wp = s.wp ∧
        t.lo.tethers = s.lo.tethers) ∧
    (∀ (k : Fin 8) (p : Fin 4), (s.lo.tethers[k]).state = .absent →
      s.upPorts.find? (fun p => (s.lo.tethers[k]).ports.getLsbD p.val && s.lo.ports[p].partner == (s.lo.tethers[k]).partner) = some p →
      exec (.absentRetry k) s = .next (s.emit (.lode p 0 (s.helloMsg p)))) ∧
    (∀ (h : LodeHdr) (m : HelloMsg), let x := s.lo.ports[h.port]
      x.state = .discovery →
      ((s.kp.poolId = 0 ∨ m.pool ≠ s.kp.poolId ∨ m.member = s.kp.memberId.toNat) → exec (.hello h m) s = .next s) ∧
      (s.kp.poolId ≠ 0 → m.pool = s.kp.poolId → m.member ≠ s.kp.memberId.toNat → (∃ k : Fin 8, (s.meets h.port k m).isSome = true) →
        (m.keysMatch = true → (∀ k : Fin 8, s.macOk ⟨8 + k.val, by omega⟩ = true) → ∃ t : State, exec (.hello h m) s = .next t ∧ (t.lo.ports[h.port]).state = .up ∧ (t.lo.ports[h.port]).partner = m.member ∧
          (t.lo.ports[h.port]).keyed = true ∧ (t.lo.ports[h.port]).firstTagFails = 0) ∧
        (m.keysMatch = false → x.stuck = false → ∃ t : State, exec (.hello h m) s = .next t ∧ (t.lo.ports[h.port]).keyed = false ∧
          (t.lo.ports[h.port]).state = (if 3 ≤ x.firstTagFails + 1 then .discovery else .down) ∧
          (t.lo.ports[h.port]).stuck = decide (3 ≤ x.firstTagFails + 1) ∧ t.wp = s.wp))) ∧
    (∀ h : LodeHdr, (s.lo.ports[h.port]).state = .up → (s.lo.ports[h.port]).keyed = true →
      (h.tagOk = true → ∃ t : State, exec (.keepalive h) s = .next t ∧ t = s.modLode h.port (fun x => { x with rxCtr := x.rxCtr + 1, lastRx := s.now })) ∧
      (h.tagOk = false → ∃ t : State, (t.lo.ports[h.port]).state = .down ∧ (t.lo.ports[h.port]).keyed = false ∧ t.wp = s.wp ∧
        t.lo.tethers = s.lo.tethers ∧ exec (.keepalive h) s = .next t ∧ (∀ l, exec (.level h l) s = .next t) ∧ (∀ l, exec (.switch h l) s = .next t) ∧
        (∀ o w psn d, exec (.twrite h o w psn d) s = .next t) ∧ (∀ q, exec (.tconf h q) s = .next t) ∧ (∀ r e, exec (.role h r e) s = .next t) ∧
        exec (.removed h) s = .next t) ∧
      (∃ t : State, exec (.unknownLodeMessageType h 0x99) s = .next t ∧ (t.lo.ports[h.port]).state = .down ∧ (t.lo.ports[h.port]).keyed = false ∧
        t.wp = s.wp) ∧
      (h.tagOk = true → ∀ l : List MemberLevel, let es := (l.take 8).filter fun m => m.member ≠ s.kp.memberId.toNat && decide (m.member < 2 ^ 14)
        ∃ t : State, exec (.level h l) s = .next t ∧ t.lo.levels = es.foldl putLevel s.lo.levels ∧ t.lo.tethers = s.lo.tethers ∧ t.wp = s.wp ∧
          t.lo.proto = (if t.lo.levels = s.lo.levels then s.lo.proto else t.protoInUse)) ∧
      (h.tagOk = true → ∀ n : Nat, ∃ t : State, exec (.switch h n) s = .next t ∧ (t.lo.ports[h.port]).level = n ∧ t.lo.tethers = s.lo.tethers ∧
        t.wp = s.wp)) ∧
    (∀ (h : LodeHdr) (ty : Byte), ty.toNat = 0x10 ∨ ty.toNat = 0x01 → exec (.unknownLodeMessageType h ty) s = .next s)

/-- A message is of a tether when it passes its tag on the tether's Up port and the end takes it. At the replica TWRITE and RSLINE
within the region enter the receive queue of fewer than 256 with the next sequence number, RSMARK poisons a granule, TCOMMIT puts
the window under its commit record, TPOINT of it commits the group and TABORT discards it, neither leaving a tentative line of the
window; TQUERY is answered. At the primary TCONF lets a resync line go, or acknowledges the write of that number, TQANS of a group
in flight records the partner's copy, BITMAP adds its bits. ROLE of no lower epoch is believed. REMOVED, and 20 ms without
confirmation or port, make the end absent. CONFIRMED_MARK records the lowest number not confirmed. RESYNC_GRANULE ends a replica's
resync and, with the last bit done, the primary's. (15_lode_links_and_pools.md R361, R364, R366, R367, R368, R369, R370, Table
15-4, Table 15-6, 07_commit_groups.md R181, R183, 03_write_path.md R68) -/
def Obligations.TethersMirrorAndResync : Prop :=
  ∀ (s : State) (h : LodeHdr), let k := h.tether
    let x := s.lo.tethers[k]
    let n := s.tetherLd k
    ((s.lo.ports[h.port]).state = .up → (s.lo.ports[h.port]).keyed = true → h.tagOk = true → s.tetherTakes h = true →
      (∀ (off : Nat) (w : Option (Fin 64)) (psn : Bool) (d : Line), x.replica = true → x.rxq.length < 256 →
        off * 64 < (s.cr.regions[regIx x.region]).size →
        (∃ t : State, exec (.twrite h off w psn d) s = .next t ∧ (t.lo.tethers[k]).rxq = x.rxq ++
          [newWrite ((s.wp.seq + 1) % 2 ^ 48) n (s.tetherLine k off) w (BitVec.allOnes 64) d psn (.partner k h.seq)] ∧ t.wp.index = s.wp.index) ∧
        (∃ t : State, exec (.rsline h off psn d) s = .next t ∧ (t.lo.tethers[k]).rxq = x.rxq ++
          [newWrite ((s.wp.seq + 1) % 2 ^ 48) n (s.tetherLine k off) none (BitVec.allOnes 64) d psn (.resync k h.seq)] ∧
          t.wp.index = s.wp.index ∧ (t.lo.tethers[k]).state = (if x.state = .inSync then .syncing else x.state))) ∧
      (∀ g : Nat, x.replica = true → g < s.tetherGrans k → ∃ t : State, exec (.rsmark h g true) s = .next t ∧
        (t.mapEnt (s.granAt k g)).state = .poisoned) ∧
      (∀ (w : Fin 64) (gs a b c : Nat), x.replica = true →
        (∃ t : State, exec (.tcommit h w gs a b c) s = .next t ∧ (t.win n w).recIssued = true ∧ (t.win n w).gseq = gs ∧ (t.win n w).count = c ∧
          (t.win n w).state = .committing ∧ (w, h.seq) ∈ (t.lo.tethers[k]).recs) ∧
        ((s.win n w).recIssued = true → (s.win n w).gseq = gs → ∃ t : State, exec (.tpoint h w gs) s = .next t ∧ (t.win n w).state = .committed ∧
          (t.win n w).durGseq = gs ∧ (t.win n w).outcome = 1 ∧ ∀ y ∈ t.wp.tents, ¬(y.ld = n ∧ y.win = w)) ∧
        (∃ t : State, exec (.tabort h w a gs) s = .next t ∧ (t.win n w).state = (if a = 3 then .timedOut else .aborted) ∧ (t.win n w).outcome = a ∧
          (t.win n w).gseq = gs ∧ ∀ y ∈ t.wp.tents, ¬(y.ld = n ∧ y.win = w))) ∧
      (∀ (w : Fin 64) (gs : Nat), (∃ t : State, exec (.tquery h w gs) s = .next t ∧
          t.out = .lode h.port k (.tqans w (s.holdsCommit n w gs) gs) :: s.out ∧ t.wp = s.wp) ∧
        (∃ t : State, exec (.tqans h w false gs) s = .next t ∧ t.wp = s.wp ∧ t.lds = s.lds) ∧
        ((s.win n w).recIssued = true → (s.win n w).gseq = gs → (s.win n w).recLocal = false → ∃ t : State,
          exec (.tqans h w true gs) s = .next t ∧ (t.win n w).recPartner = true ∧ t.wp = s.wp)) ∧
      (∀ q : Nat, (∀ l, (q, l) ∈ x.rs → ∃ t : State, exec (.tconf h [q]) s = .next t ∧ ∀ z ∈ (t.lo.tethers[k]).rs, z.1 ≠ q) ∧
        ((∀ z ∈ x.rs, z.1 ≠ q) → (∀ (m : Fin 16) (w : Fin 64), (s.win m w).teth ≠ some k) → ∃ t : State, exec (.tconf h [q]) s = .next t ∧
          (t.lo.tethers[k]).sent = x.sent.filter (fun z => z.1 ≠ q) ∧
          t.wp.allocQ = s.wp.allocQ.map fun w => if w.seq = q ∧ s.awaits k w = true then { w with partnerAck := true } else w)) ∧
      (∀ (f : Nat) (l : List Bool), x.replica = false → x.state ≠ .inSync → ∃ t : State, exec (.bitmap h f l) s = .next t ∧
        ∀ i, i < 960 → l[i]? = some true → f + i < s.tetherGrans k → f + i ∈ (t.lo.tethers[k]).bitmap) ∧
      (∀ (r : Bool) (e : Nat), ∃ t : State, exec (.role h r e) s = .next t ∧ t.wp = s.wp ∧
        (t.lo.tethers[k]).partnerReplica = if x.epoch ≤ e then r else x.partnerReplica) ∧
      (∃ t : State, exec (.removed h) s = .next t ∧ (t.lo.tethers[k]).state = .absent ∧ (t.lo.tethers[k]).removed = true)) ∧
    ((x.state = .pairing ∨ x.state = .syncing ∨ x.state = .inSync) → (x.sent ≠ [] ∨ s.recWaits k = true ∨ s.tetherPort k = none) → ∃ t : State,
      exec (.partnerAbsentTimeout k) s = .next t ∧ (t.lo.tethers[k]).state = .absent) ∧
    (∃ t : State, exec .confirmedMark s = .next t ∧ ∀ j : Fin 8, (s.lo.tethers[j]).state ≠ .free → (s.lo.tethers[j]).replica = false →
      ∀ m, ((s.lo.tethers[j]).sent.map (·.1)).min? = some m → (t.lo.tethers[j]).confirmed = m) ∧
    (x.state ≠ .syncing → exec (.resyncGranule k) s = .next s) ∧
    (x.state = .syncing → (x.replica = true ∨ (x.unsent = [] ∧ x.rs = [] ∧ x.walkAll = false ∧ x.bitmap = [x.pos])) → ∃ t : State,
      exec (.resyncGranule k) s = .next t ∧ (t.lo.tethers[k]).state = .inSync ∧ (t.lo.tethers[k]).bitmap = [] ∧ (t.lo.tethers[k]).full = false ∧
      (t.lo.tethers[k]).part = false) ∧
    (x.state = .syncing → x.replica = false → x.unsent = [] → x.rs ≠ [] → exec (.resyncGranule k) s = .next s)

/-- VSUP above 1.70 V brings up the keeper: straps, static address, off latch clear; an undecodable record moves every security
counter 2^16 on. VIN in its window for its dwell, or the 50 ms over, starts the sequence from off with LAST_SHUTDOWN from the
newest record, no life-cycle step pending. Each rail in order moves to the next step; the last brings the data die up with the
kind of start of Table 17-1. A rail that fails, or a media stage that fails twice, uses a retry and returns to off; with none left
to lockout. Training ends in the run record and running, in the hold of a start after cooling, or in cooling. Normal boot, replay
and first format end in media ready. Hold-up ready is asserted from 23.5 V and lost below 22.0 V, the boost stops from 25.5 V and
runs below 24.5 V, and 20 s of charging warns once. POWER_REQUEST 1, 2 and 3 act as Table 16-5 has them. A row that does not apply
changes nothing. (16_power_and_holdup.md R377, R379, R382, R391, R392, Table 16-2, Table 16-5, Table 16-9,
17_startup_and_recovery.md R404, R405, 20_electrical_and_package.md R452, 19_media_channels.md R441) -/
def Obligations.PowerUpReachesMediaReady : Prop :=
  ∀ s : State,
    let start (t : State) : Prop := t.pw.st = .poweringUp ∧ t.pw.step = 3 ∧ t.pw.railsUp = 0 ∧ t.pw.charging = true ∧ t.pw.boostOn = true ∧
      t.kp.lastShutdown = s.kp.endRec.last ∧ t.kp.dsc = s.kp.dsc
    let up : Prop := s.bt.phase = .enabled ∧ s.pw.st = .running ∧ s.pw.dataPath = true
    (∀ (v : Nat) (k : BitVec 4), 1700 < v → v ≤ 4000 →
      (s.pw.alive = true → ∀ bad, exec (.keeperAlive v k bad) s = .next s) ∧
      (s.pw.alive = false → (∃ t : State, exec (.keeperAlive v k []) s = .next t ∧ t.pw.alive = true ∧ t.pw.vsup = v ∧ t.pw.straps = k ∧
          t.pw.offLatch = false ∧ t.pw.i3cStatic = BitVec.ofNat 7 (0x30 + k.toNat / 2) ∧ t.pw.i3cDyn = none ∧ t.pw.st = s.pw.st ∧ t.kp = s.kp) ∧
        ∀ c, ∃ t : State, exec (.keeperAlive v k [⟨c, false⟩]) s = .next t ∧ t.sec.sealEpoch = s.sec.sealEpoch + 65536 ∧
          t.sec.antiRollback = s.sec.antiRollback + 65536 ∧ t.sec.seqEpoch = s.sec.seqEpoch + 65536 ∧ t.sec.evReserve = s.sec.evReserve + 65536)) ∧
    (∀ v : Nat, v ≤ 1700 → exec (.keeperAlive v 0 []) s = .next s) ∧
    (∀ v : Nat, v ≤ 4000 → (s.pw.rails[0]).low * 5 ≤ v → v ≤ (s.pw.rails[0]).high * 5 → s.pw.alive = true →
      (s.pw.offLatch = true → exec (.vinDwellComplete v) s = .next { s with pw := { s.pw with vin := v, vinGood := true } }) ∧
      (s.pw.offLatch = false → s.pw.st = .off → s.pw.offMinDone = true → s.pw.faultWait = false → s.pw.pfailWait = false →
        s.sec.pendingLC = none → ∃ t : State, exec (.vinDwellComplete v) s = .next t ∧ start t ∧ t.pw.vin = v)) ∧
    (∀ v : Nat, v ≤ 4000 → v < (s.pw.rails[0]).low * 5 → exec (.vinDwellComplete v) s = .next s) ∧
    (s.pw.offMinDone = true → exec .offMinimumElapsed s = .next s) ∧
    (s.pw.alive = true → s.pw.offMinDone = false →
      (s.pw.st = .cooling → ∃ t : State, exec .offMinimumElapsed s = .next t ∧ t.pw = { s.pw with offMinDone := true }) ∧
      (s.pw.st = .off → s.pw.vinGood = true → s.pw.offLatch = false → s.pw.faultWait = false → s.pw.pfailWait = false →
        s.sec.pendingLC = none → ∃ t : State, exec .offMinimumElapsed s = .next t ∧ start t)) ∧
    (∀ r : Nat, r ≠ s.pw.railsUp + 1 → exec (.railDwellComplete r) s = .next s ∧ exec (.railSequenceTimeout r) s = .next s) ∧
    (s.pw.st = .poweringUp → s.pw.dieUp = false → s.pw.railsUp < 11 → let r := s.pw.railsUp + 1
      (r < 11 → ∃ t : State, exec (.railDwellComplete r) s = .next t ∧ t.pw = { s.pw with railsUp := r, step := railStep (r + 1), meden := t.pw.meden }) ∧
      (r = 11 → ∃ t : State, exec (.railDwellComplete 11) s = .next t ∧ t.pw.railsUp = 11 ∧ t.pw.dieUp = true ∧ t.pw.armed = true ∧
        t.bt.kind = (if s.sec.lc ≠ .provisioned ∧ s.sec.lc ≠ .deployed then .firmwareOnly else if s.kp.formatDone = false then .format
          else if dirtyEnd s.kp.lastShutdown = true ∨ s.kp.replayOwed = true then .recovery else .normal)) ∧
      (∃ t : State, exec (.railSequenceTimeout r) s = .next t ∧ t.pw.st = (if s.pw.retriesLeft = 0 then .lockout else .off) ∧
        t.pw.retriesLeft = s.pw.retriesLeft - 1 ∧ t.pw.railsUp = 0 ∧ t.kp.endRec = s.kp.endRec ∧ (0 < s.rateLimit 0x4005 → s.ev.log.length < 16384 →
        (t.ev.log.head?).map (fun e => (e.code, e.p0)) = some (0x4005, railStep r)))) ∧
    (∀ r : Nat, 9 ≤ r → r ≤ 11 → exec (.pscTransactionRetry r false) s = exec (.railSequenceTimeout r) s ∧ exec (.pscTransactionRetry r true) s = .next s) ∧
    (∀ fd fl rs, (s.bt.phase ≠ .dieUp → exec (.channelTrainingComplete fd fl rs) s = .next s) ∧
      (s.pw.st = .poweringUp → s.bt.phase = .dieUp → ∃ t : State, exec (.channelTrainingComplete fd fl rs) s = .next t ∧
        ((t.pw.st = .running ∧ t.kp.endRec = .run ∧ t.pw.retriesLeft = s.pw.retries ∧ t.pw.present = s.pw.selected ∧ t.bt.phase = .enabled ∧
            t.kp.dsc = if dirtyEnd s.kp.lastShutdown = true then sat 0xFFFFFFFF (s.kp.dsc + 1) else s.kp.dsc) ∨
          (t.pw.st = .poweringUp ∧ t.pw.mediaHold = some s.now ∧ s.th.tripped = true ∧ t.kp.endRec = s.kp.endRec) ∨
          (t.pw.st = .cooling ∧ t.pw.dieUp = false ∧ t.pw.thermtripOut = true ∧ t.kp.endRec = s.kp.endRec)))) ∧
    (s.bt.phase ≠ .enabled → (∀ x, exec (.replayComplete x) s = .next s) ∧ (∀ x, exec (.firstFormatComplete x) s = .next s) ∧
      exec .normalBootComplete s = .next s) ∧
    (up → s.bt.kind = .normal → ∃ t : State, exec .normalBootComplete s = .next t ∧ t.lk.mediaReady = true ∧ t.bt.phase = .done ∧
      t.kp.report = s.emptyReport 0) ∧
    (up → s.bt.kind = .recovery → ∀ x, ∃ t : State, exec (.replayComplete x) s = .next t ∧ t.lk.mediaReady = true ∧ t.bt.phase = .done ∧
      t.kp.replayOwed = false ∧ t.kp.report.bootType = 1) ∧
    (up → s.bt.kind = .format → s.populated = true → ∀ x, ∃ t : State, exec (.firstFormatComplete x) s = .next t ∧ t.lk.mediaReady = true ∧
      t.bt.phase = .done ∧ t.kp.formatDone = true ∧ t.kp.formatLevel = 1 ∧ t.kp.report.bootType = 2) ∧
    (∀ v : Nat, v ≤ 27000 → let s' : State := { s with pw := { s.pw with vhold := v } }
      (s.pw.armed = true → s.pw.holdupReady = false → 23500 ≤ v → ∃ t : State, exec (.holdupReadyAsserted v) s = .next t ∧
        t.pw = { s'.pw with holdupReady := true, charging := false } ∧ (t.nt.src[(0x31 : Fin 256)]).pend = true) ∧
      (v < 23500 → exec (.holdupReadyAsserted v) s = .next s') ∧ (22000 ≤ v → exec (.holdupReadyLost v) s = .next s') ∧
      (s.pw.armed = true → s.pw.holdupReady = true → v < 22000 → ∃ t : State, exec (.holdupReadyLost v) s = .next t ∧
        t.pw = { s'.pw with holdupReady := false } ∧ (t.nt.src[(0x31 : Fin 256)]).pend = true) ∧
      exec (.vholdOvervoltage v) s = .next { s' with pw := { s'.pw with boostOn := s.pw.boostOn && decide (v < 25500) } } ∧
      (24500 ≤ v → exec (.boostRestart v) s = .next s') ∧
      (s.pw.st = .running → v < 24500 → exec (.boostRestart v) s = .next { s' with pw := { s'.pw with boostOn := true } }) ∧
      (s.pw.chargeWarned = true → exec (.chargeTimeout v) s = .next s') ∧
      (s.pw.charging = true → s.pw.chargeWarned = false → v < 23500 → ∃ t : State, exec (.chargeTimeout v) s = .next t ∧
        t.pw = { s'.pw with chargeWarned := true })) ∧
    (∀ r : Req, s.Taken r 0xC502 (some 1) →
      (∀ op : Nat, op = 0 ∨ 3 < op → exec (.powerRequest r op) s = .next (s.answer r 0xC502 (rangeAns 0))) ∧
      (s.pw.st = .running → ∃ t : State, exec (.powerRequest r 2) s = .next t ∧ t.pw.st = .poweringDown ∧ t.pw.offLatch = true) ∧
      (s.pw.st = .running → ∃ t : State, exec (.powerRequest r 3) s = .next t ∧ t.pw.st = .poweringDown ∧ t.pw.latched = .restart) ∧
      (s.pw.st = .poweringUp → ∃ t : State, exec (.powerRequest r 3) s = .next t ∧ t.pw.st = .off ∧ t.pw.offLatch = s.pw.offLatch) ∧
      (s.pw.st = .poweringDown ∨ s.pw.st = .flushing → ∃ t : State, exec (.powerRequest r 1) s = .next t ∧ t.pw.st = s.pw.st ∧
        t.pw.offLatch = false ∧ t.pw.latched = .on) ∧
      (s.pw.st = .lockout → ∃ t : State, exec (.powerRequest r 1) s = .next t ∧ t.pw.retriesLeft = s.pw.retries ∧
        (t.pw.st = .off ∨ t.pw.st = .poweringUp)))

/-- An exit of a running rail, or a keeper SRAM error, removes every rail, leaves every Shallows entry and the index as they are (an
entry whose map switch was durable may count as released), appends record 0x03 and waits 1 s, or with no retry left or within 10
min of a restart goes to lockout; the restart uses a retry. A VIN collapse flushes from VHOLD, PFAIL_N of another device and a
trip from VIN. A flush ends with the rails off and record 0x01, after a trip 0x04 and cooling, below 8.0 V of VHOLD 0x02; an
orderly power-down with 0x00; a record follows only a run record and only while the MAC engine stands. A rail that does not fall
ends in lockout, VSUP below 1.65 V in off without a new record. A controller reading at its trip threshold trips; a grace time
moves the throttle level by one. Cooling restarts, and a hold of 60 s returns to cooling. RDY_N and ALERT_N have the tile's status
read; a FATAL one joins its fault window. (16_power_and_holdup.md R383, R384, R385, R386, R387, R388, R389, R391, R395,
18_thermal.md R424, R425, 19_media_channels.md R433) -/
def Obligations.PowerEndsAndFaultsAreHandled : Prop :=
  ∀ s : State,
    let gone (t : State) : Prop := t.pw.dieUp = false ∧ t.pw.railsUp = 0 ∧ t.pw.dataPath = false
    let ended (t : State) (c : Nat) : Prop := t.kp.endRec = if s.kp.endRec = .run then .shutdown c else s.kp.endRec
    let kept (t : State) : Prop := ∀ p, (t.entryAt p).map (fun e => { e with released := false }) = (s.entryAt p).map fun e => { e with released := false }
    let fault (t : State) : Prop := gone t ∧ ended t 3 ∧ kept t ∧ t.wp.index = s.wp.index ∧
      ((s.pw.lastFaultAt = none → s.pw.retriesLeft ≠ 0 → t.pw.st = .off ∧ t.pw.faultWait = true ∧ t.pw.faultRestartAt = some (s.now + secTicks 1)) ∧
      (s.pw.retriesLeft = 0 ∨ (∃ a, s.pw.lastFaultAt = some a ∧ s.now - a ≤ secTicks 600) → t.pw.st = .lockout))
    let down : Prop := s.pw.st ≠ .poweringUp ∧ s.pw.st ≠ .running ∧ s.pw.st ≠ .poweringDown ∧ s.pw.st ≠ .flushing
    let again (t : State) : Prop := t.pw.st = if s.pw.alive = true ∧ s.pw.vinGood = true ∧ s.pw.offLatch = false then .poweringUp else .off
    (∀ (r : Fin 12) (v : Nat), let w := s.railWindow r
      (w.1 ≤ v → v ≤ w.2 → exec (.runningRailFault r.val v) s = .next s) ∧
      ((r.val ≠ 0 ∧ v < w.1) ∨ w.2 < v → s.pw.st = .running ∨ s.pw.st = .flushing →
        ∃ t : State, exec (.runningRailFault r.val v) s = .next t ∧ fault t)) ∧
    (s.pw.alive = false → exec .keeperSramError s = .next s ∧ exec .pfailNLow s = .next s ∧ ∀ v, exec (.vinCollapse v) s = .next s ∧
      exec (.vsupCollapse v) s = .next s) ∧
    (s.pw.alive = true → s.pw.st = .running ∨ s.pw.st = .poweringUp → ∃ t : State, exec .keeperSramError s = .next t ∧ fault t ∧
      t.mb.keeperSess = none ∧ t.kp.pwWrong = 0) ∧
    (s.pw.faultWait = false → exec .faultRestart s = .next s) ∧
    (∀ a, s.pw.faultRestartAt = some a → s.pw.st = .off → s.pw.faultWait = true → s.pw.pfailWait = false → ∃ t : State,
      exec .faultRestart s = .next t ∧ t.pw.faultWait = false ∧ t.pw.retriesLeft = s.pw.retriesLeft - 1 ∧ t.pw.lastFaultAt = some (max s.now a) ∧ again t) ∧
    (∀ v, s.pw.alive = true → v < (s.pw.rails[0]).low * 5 →
      (s.pw.st = .running → ∃ t : State, exec (.vinCollapse v) s = .next t ∧ t.pw.st = .flushing ∧ t.pw.flushCause = .vin ∧ t.pw.flushFromVin = false ∧
        t.pw.pfailOut = true ∧ t.pw.nextPoint = none ∧
        (if s.pw.present = .e ∧ s.pw.target = none then t.pw.present = .e ∧ t.pw.target = none else t.pw.target = some .e ∧ t.pw.wideWindow = true)) ∧
      (s.pw.st = .poweringUp → ∃ t : State, exec (.vinCollapse v) s = .next t ∧ t.pw.st = .off ∧ gone t ∧ t.pw.retriesLeft = s.pw.retriesLeft ∧
        t.kp.endRec = s.kp.endRec) ∧
      (s.pw.st = .flushing → exec (.vinCollapse v) s =
        .next { s with pw := { s.pw with vin := v, vinGood := false, flushFromVin := false, pfailOut := true } }) ∧
      (down → exec (.vinCollapse v) s = .next { s with pw := { s.pw with vin := v, vinGood := false } })) ∧
    (s.pw.alive = true → s.pw.st = .running → ∃ t : State, exec .pfailNLow s = .next t ∧ t.pw.st = .flushing ∧ t.pw.flushCause = .pfail ∧
      t.pw.flushFromVin = true ∧ t.pw.pfailIn = true) ∧
    (s.pw.pfailIn = false → exec .pfailNHighRestart s = .next s) ∧
    (s.pw.pfailIn = true → s.pw.st = .off → s.pw.offMinDone = true → s.pw.faultWait = false → ∃ t : State, exec .pfailNHighRestart s = .next t ∧
      t.pw.pfailIn = false ∧ again t) ∧
    (s.pw.st ≠ .flushing → exec .hardwareFlushComplete s = .next s ∧ ∀ v b, v ≤ 27000 → exec (.vholdExhausted v b) s = .next s) ∧
    (s.pw.st = .flushing → (∃ t : State, exec .hardwareFlushComplete s = .next t ∧ gone t ∧ t.pw.st = (if s.pw.tripAfter = true then .cooling else .off) ∧
        (s.sec.katFailed = false → ended t (if s.pw.flushCause = .trip then 4 else 1)) ∧ (s.sec.katFailed = true → t.kp.endRec = s.kp.endRec)) ∧
      ∀ v b : Nat, v < 8000 → ∃ t : State, exec (.vholdExhausted v b) s = .next t ∧ gone t ∧ t.pw.st = .off ∧ ended t 2 ∧ kept t) ∧
    (s.pw.st ≠ .poweringDown → exec .orderlyPowerDownComplete s = .next s ∧ ∀ r, exec (.railFallTimeout r) s = .next s) ∧
    (s.pw.st = .poweringDown → (∃ t : State, exec .orderlyPowerDownComplete s = .next t ∧ gone t ∧
        t.pw.st = (if s.pw.tripAfter = true then .cooling else .off) ∧ (s.sec.katFailed = false → ended t 0)) ∧
      ∀ r, r < 12 → ∃ t : State, exec (.railFallTimeout r) s = .next t ∧ gone t ∧ t.pw.st = .lockout ∧ t.kp.endRec = s.kp.endRec) ∧
    (∀ v, s.pw.alive = true → v < 1650 → ∃ t : State, exec (.vsupCollapse v) s = .next t ∧ gone t ∧ t.pw.alive = false ∧ t.pw.offLatch = false ∧
      t.kp.endRec = s.kp.endRec ∧ t.kp.parts = s.kp.parts ∧ t.pw.st = if s.pw.st = .lockout ∨ s.pw.st = .tamperHold then s.pw.st else .off) ∧
    (∀ (i : Fin 23) (l : List Reading) (x : Int), s.pw.alive = true → s.pw.tripAfter = false → 16 ≤ i.val → (s.th.ctl[i]).broken = false →
      readingFor l (.ctl i) false = some x → 1150 ≤ x → x ≤ 1500 → ∃ t : State, exec (.thermalMeasurement false l) s = .next t ∧
      (s.pw.st = .running → t.pw.st = .flushing ∧ t.pw.flushCause = .trip ∧ t.pw.flushFromVin = true ∧ t.pw.tripAfter = true) ∧
      (s.pw.st = .poweringUp → t.pw.st = .cooling ∧ gone t)) ∧
    (∀ l m, s.pw.alive = false → exec (.thermalMeasurement m l) s = .next s) ∧
    (s.th.trend = none → exec .throttleGraceExpiry s = .next s) ∧
    (∀ u a, s.th.trend = some (u, a) → ∃ t : State, exec .throttleGraceExpiry s = .next t ∧
      t.th.level = if u = true then s.th.level + 1 else s.th.level - 1) ∧
    (s.pw.coolingSince = none → exec .coolingRestart s = .next s) ∧
    (∀ a, s.pw.coolingSince = some a → s.pw.st = .cooling → s.pw.offLatch = false → ∃ t : State, exec .coolingRestart s = .next t ∧
      t.pw.coolingSince = none ∧ (s.pw.vinGood = true → t.pw.st = .poweringUp ∧ t.th.tripped = true ∧ t.kp.lastShutdown = s.kp.endRec.last) ∧
      (s.pw.vinGood = false → t.pw.st = .off)) ∧
    (s.pw.mediaHold = none ∨ s.pw.mediaCool ≠ none → exec .mediaHoldTimeout s = .next s) ∧
    (s.pw.mediaHold ≠ none → s.pw.mediaCool = none → ∃ t : State, exec .mediaHoldTimeout s = .next t ∧ t.pw.st = .cooling ∧ gone t ∧
      t.kp.endRec = s.kp.endRec) ∧
    (∀ (c : Fin 64) (d : Fin 16) (k : Fin 8) (b : Byte), let u : FUnit := if b.getLsbD 7 = true then .die ⟨c, d⟩ else .tile ⟨c, d⟩ k
      let seen (t : State) : Prop := t.md.status = tput 0 (tileCode ⟨c, d⟩ k) (b &&& 0xC6) s.md.status ∧ (b.getLsbD 6 = false → t.rd = s.rd) ∧
        (b.getLsbD 6 = true → s.unitOut u = false → ∃ w, t.rd.windows[winOf u] = some w ∧ ∃ y ∈ w.items, y.unit = u ∧ y.hard = true)
      (s.dieThere ⟨c, d⟩ = false → exec (.rdyNFall c d k b) s = .next s ∧ exec (.alertNFall c d k b) s = .next s) ∧
      (s.dieThere ⟨c, d⟩ = true → (∃ t : State, exec (.rdyNFall c d k b) s = .next t ∧ seen t ∧ t.md.alerts = s.md.alerts) ∧
        ∃ t : State, exec (.alertNFall c d k b) s = .next t ∧ seen t ∧ t.md.alerts = noteAt s.now c 1 s.md.alerts))
end

