-- ==== Sys2Proof/Laws/Mac.lean ====
section
/-! SUPPORT. The MAC engine: a request taken at one step is the same request begun, fed and finished; a message beyond the limit ends without a
use counted (14_security_and_lifecycle.md R341 to R343). -/

namespace Sys2Proof.Laws

open Sys2Proof.Machine

@[simp] theorem length_le_bytes (n v : Nat) : (le n v).length = n := by simp [le]

@[simp] theorem length_keyBytes (k : Key) : (keyBytes k).length = 32 := by simp [keyBytes]

/-- A CMAC request at one step, for a message that fits. -/
theorem macRun_fits (s : State) (slot : Fin 16) (key : Key) (msg : List Byte) (hf : MacFn.cmac.marked slot = true) (hk : s.macOk slot = true)
    (hl : msg.length ≤ macMsgLimit) : s.macRun slot key msg = (some (Config.cmac key msg), s.macUse slot) := by
  simp [State.macRun, hf, hk, hl]

/-- A message beyond the limit releases nothing and counts nothing (R341). -/
theorem macRun_beyond (s : State) (slot : Fin 16) (key : Key) (msg : List Byte) (hl : macMsgLimit < msg.length) :
    s.macRun slot key msg = (none, s) := by
  simp [State.macRun, Nat.not_le.mpr hl]

/-- Begun, fed and finished, a request gives what it gives at one step. -/
theorem macRun_eq (s : State) (slot : Fin 16) (key : Key) (msg : List Byte) (t : State) (h : s.sec.mac = none) (hb : s.macBegin slot = some t)
    (hl : msg.length ≤ macMsgLimit) : (t.macAbsorb msg).2.macFinish key = s.macRun slot key msg := by
  unfold State.macBegin at hb
  split at hb
  · rename_i hc
    cases hb
    have hs : ({ s with sec := { s.sec with mac := none } } : State) = s := by rw [← h]
    simp_all [State.macAbsorb, State.macFinish, State.macRun]
  · cases hb

/-- A context saved in the clear, restored, is the request as it was; its slot's limit is checked again (R343). -/
theorem macRestore_clear (s : State) (slot : Fin 16) (limit : Nat) :
    (s.macRestore (.clear slot limit)).1 = s.macOk slot := by
  simp only [State.macRestore]
  split <;> simp_all [State.macOk]

end Sys2Proof.Laws
end

