-- ==== Sys2Proof/Laws/Mailbox.lean ====
section
/-! SUPPORT. What a mailbox command does, once for each way it can be taken: cite these with the body's value at hand, instead of unfolding
`State.mbxLater`. -/

namespace Sys2Proof.Machine

theorem State.mbxLater_answers {s t : State} {c : Instr} {r : Req} {op : Nat} {len : Option Nat} {body : State → Option Ans × State} {a : Ans}
    (hc : request c = some (r, op)) (h : s.gate r op len = .runs) (hb : body s = (some a, t)) :
    s.mbxLater c len body = t.answer r op a := by
  unfold State.mbxLater
  rw [hc]
  simp only [h, hb]

theorem State.mbxLater_later {s t : State} {c : Instr} {r : Req} {op : Nat} {len : Option Nat} {body : State → Option Ans × State}
    (hc : request c = some (r, op)) (h : s.gate r op len = .runs) (hb : body s = (none, t)) : s.mbxLater c len body = t := by
  unfold State.mbxLater
  rw [hc]
  simp only [h, hb]

theorem State.mbxLater_refused {s : State} {c : Instr} {r : Req} {op : Nat} {len : Option Nat} {body : State → Option Ans × State} {a : Ans}
    {k : Bool} (hc : request c = some (r, op)) (h : s.gate r op len = .refused a k) :
    s.mbxLater c len body = (if k then s.violate (Inst.who r.inst) 6 op else s).answer r op a := by
  unfold State.mbxLater
  rw [hc]
  simp only [h]

theorem State.mbxLater_waits {s : State} {c : Instr} {r : Req} {op : Nat} {len : Option Nat} {body : State → Option Ans × State}
    (hc : request c = some (r, op)) (h : s.gate r op len = .waits) : s.mbxLater c len body = { s with held := s.held ++ [c] } := by
  unfold State.mbxLater
  rw [hc]
  simp only [h]

theorem State.mbxLater_unreachable {s : State} {c : Instr} {r : Req} {op : Nat} {len : Option Nat} {body : State → Option Ans × State}
    (hc : request c = some (r, op)) (h : s.gate r op len = .unreachable) : s.mbxLater c len body = s := by
  unfold State.mbxLater
  rw [hc]
  simp only [h]

theorem State.mbx_answers {s t : State} {c : Instr} {r : Req} {op : Nat} {len : Option Nat} {body : State → Ans × State} {a : Ans}
    (hc : request c = some (r, op)) (h : s.gate r op len = .runs) (hb : body s = (a, t)) : s.mbx c len body = t.answer r op a := by
  refine State.mbxLater_answers hc h ?_
  rw [hb]

theorem State.mbx_refused {s : State} {c : Instr} {r : Req} {op : Nat} {len : Option Nat} {body : State → Ans × State} {a : Ans} {k : Bool}
    (hc : request c = some (r, op)) (h : s.gate r op len = .refused a k) :
    s.mbx c len body = (if k then s.violate (Inst.who r.inst) 6 op else s).answer r op a := State.mbxLater_refused hc h

end Sys2Proof.Machine
end

