-- ==== Sys2Proof/Laws/Ops.lean ====
section
/-! SUPPORT. For each shared operation, once, everything it can touch: the state it answers is the state before it with only the
components named changed. -/

namespace Sys2Proof.Machine

/-! ### Notifications and counting -/

theorem State.modSrc_touches (s : State) (n : Fin 256) (f : Source → Source) : ∃ nt, s.modSrc n f = { s with nt := nt } := ⟨_, rfl⟩

theorem State.queueRec_touches (s : State) (n : Fin 256) (re : Bool) (e d : Nat) : ∃ nt, s.queueRec n re e d = { s with nt := nt } := by
  unfold State.queueRec
  dsimp only
  split
  · exact ⟨_, rfl⟩
  · exact ⟨_, rfl⟩

theorem State.raise_touches (s : State) (n : Fin 256) (e d : Nat) : ∃ nt, s.raise n e d = { s with nt := nt } := by
  unfold State.raise
  dsimp only
  split
  · exact ⟨s.nt, rfl⟩
  · split
    · exact ⟨_, rfl⟩
    · obtain ⟨a, ha⟩ := State.queueRec_touches
        (s.modSrc n fun x => { x with pend := true, evseq := e, detail := d }) n false e d
      exact ⟨a, ha⟩

theorem State.pmAdd_touches (s : State) (n : Fin 64) (d : Nat) : ∃ pm nt, s.pmAdd n d = { s with pm := pm, nt := nt } := by
  unfold State.pmAdd
  dsimp only
  split
  · exact ⟨_, _, rfl⟩
  · split
    · obtain ⟨x, hx⟩ := State.raise_touches { s with pm := { s.pm with
          cnt := s.pm.cnt.set n (BitVec.ofNat 48 (s.pm.cnt[n].toNat + d)), ovf := s.pm.ovf ||| BitVec.ofNat 64 (2 ^ n.val) } } 0x40 0 0
      exact ⟨_, x, hx⟩
    · exact ⟨_, _, rfl⟩

/-- A fold of steps that each touch only the performance monitor and the notifications touches only those. -/
theorem foldl_pm_nt {α : Type} (l : List α) (f : State → α → State) (h : ∀ s x, ∃ pm nt, f s x = { s with pm := pm, nt := nt }) (s : State) :
    ∃ pm nt, l.foldl f s = { s with pm := pm, nt := nt } := by
  induction l generalizing s with
  | nil => exact ⟨s.pm, s.nt, rfl⟩
  | cons a l ih =>
    obtain ⟨p, n, e⟩ := h s a
    obtain ⟨p', n', e'⟩ := ih (f s a)
    exact ⟨p', n', by rw [List.foldl_cons, e', e]⟩

theorem State.pmCount_touches (s : State) (ev : Nat) (g : PmTag) : ∃ pm nt, s.pmCount ev g = { s with pm := pm, nt := nt } := by
  unfold State.pmCount
  split
  · refine foldl_pm_nt _ _ (fun s n => ?_) s
    split
    · exact State.pmAdd_touches _ _ _
    · exact ⟨s.pm, s.nt, rfl⟩
  · exact ⟨s.pm, s.nt, rfl⟩

theorem State.pmTicks_touches (s : State) (d : Nat) : ∃ pm nt, s.pmTicks d = { s with pm := pm, nt := nt } := by
  unfold State.pmTicks
  split
  · refine foldl_pm_nt _ _ (fun s n => ?_) s
    dsimp only
    split
    · exact ⟨s.pm, s.nt, rfl⟩
    · exact State.pmAdd_touches _ _ _
  · exact ⟨s.pm, s.nt, rfl⟩

theorem State.pmEdges_touches (before after : State) : ∃ pm nt, before.pmEdges after = { after with pm := pm, nt := nt } := by
  unfold State.pmEdges
  split
  · refine foldl_pm_nt _ _ (fun s n => ?_) after
    extract_lets c isF
    split
    · exact State.pmAdd_touches _ _ _
    · exact ⟨s.pm, s.nt, rfl⟩
  · exact ⟨after.pm, after.nt, rfl⟩

/-! ### Time -/

theorem State.pass_touches (s : State) (d : Nat) : ∃ now pm nt lds rp, s.pass d = { s with now := now, pm := pm, nt := nt, lds := lds, rp := rp } :=
  ⟨_, _, _, _, _, rfl⟩

/-! ### The keeper store, signals and events -/

theorem State.store_touches (s : State) (p : Fin 6) (i z : Nat) : ∃ kp, s.store p i z = { s with kp := kp } := ⟨_, rfl⟩

theorem State.save_touches (s : State) (i : Nat) : ∃ kp, s.save i = { s with kp := kp } := ⟨_, rfl⟩

theorem State.signal_touches (s : State) (n : Fin 16) (v : Fin 4) : ∃ lds out, s.signal n v = { s with lds := lds, out := out } := by
  unfold State.signal
  split
  · exact ⟨_, s.out, rfl⟩
  · exact ⟨s.lds, _, rfl⟩

theorem State.cxlLog_touches (s : State) (n : Fin 16) (e : EventRec) : ∃ lds out, s.cxlLog n e = { s with lds := lds, out := out } := by
  unfold State.cxlLog
  extract_lets k was t
  split
  · obtain ⟨a, b, h⟩ := State.signal_touches t n 1
    exact ⟨a, b, h⟩
  · exact ⟨_, s.out, rfl⟩

theorem State.forward_touches (s : State) (e : EventRec) : ∃ lds out, s.forward e = { s with lds := lds, out := out } := by
  have h : ∀ (l : List (Fin 16)) (f : State → Fin 16 → State), (∀ s x, ∃ lds out, f s x = { s with lds := lds, out := out }) →
      ∀ s, ∃ lds out, l.foldl f s = { s with lds := lds, out := out } := by
    intro l f hf
    induction l with
    | nil => exact fun s => ⟨s.lds, s.out, rfl⟩
    | cons a l ih =>
      intro s
      obtain ⟨p, n, e⟩ := hf s a
      obtain ⟨p', n', e'⟩ := ih (f s a)
      exact ⟨p', n', by rw [List.foldl_cons, e', e]⟩
  unfold State.forward
  refine h _ _ (fun s n => ?_) s
  extract_lets take
  split
  · exact State.cxlLog_touches _ _ _
  · exact ⟨s.lds, s.out, rfl⟩

theorem State.evBlock_touches (s : State) : ∃ ev kp sec, s.evBlock = { s with ev := ev, kp := kp, sec := sec } := by
  unfold State.evBlock
  split
  · exact ⟨s.ev, s.kp, s.sec, rfl⟩
  · exact ⟨_, _, _, rfl⟩

theorem State.logRefill_touches (s : State) : ∃ kp, s.logRefill = { s with kp := kp } := ⟨_, rfl⟩

theorem State.logAppend_touches (s : State) (r : EventRec) : ∃ ev kp, s.logAppend r = { s with ev := ev, kp := kp } := by
  obtain ⟨k, hk⟩ := State.logRefill_touches s
  unfold State.logAppend
  rw [hk]
  dsimp only
  (repeat' split) <;> exact ⟨_, _, rfl⟩

theorem State.logRepeat_touches (s : State) : ∃ ev kp, s.logRepeat = { s with ev := ev, kp := kp } := by
  unfold State.logRepeat
  split
  · split
    · exact ⟨_, _, rfl⟩
    · exact ⟨s.ev, s.kp, rfl⟩
  · exact ⟨s.ev, s.kp, rfl⟩

theorem State.numbered_touches (s : State) (code : Nat) : ∃ ev, s.numbered code = { s with ev := ev } := ⟨_, rfl⟩

theorem State.suppress_touches (s : State) (code : Nat) : ∃ ev, s.suppress code = { s with ev := ev } := ⟨_, rfl⟩

theorem State.keeperEvent_touches (s : State) (code sev org p0 p1 p2 p3 : Nat) :
    ∃ ev kp sec, s.keeperEvent code sev org p0 p1 p2 p3 = { s with ev := ev, kp := kp, sec := sec } := by
  unfold State.keeperEvent
  split
  · obtain ⟨e, h⟩ := State.suppress_touches s code
    exact ⟨e, s.kp, s.sec, h⟩
  · extract_lets s1 r s2
    obtain ⟨e, k, c, h⟩ := State.evBlock_touches s
    obtain ⟨e2, h2⟩ := State.numbered_touches s1 code
    split
    · obtain ⟨e3, k3, h3⟩ := State.logAppend_touches s2 r
      exact ⟨e3, k3, c, by rw [h3]; unfold s2; rw [h2]; unfold s1; rw [h]⟩
    · exact ⟨e2, k, c, by unfold s2; rw [h2]; unfold s1; rw [h]⟩

theorem State.eventStore_touches (s : State) (code sev org p0 p1 p2 p3 : Nat) :
    ∃ ev kp sec nt pm lds out, s.eventStore code sev org p0 p1 p2 p3 =
      { s with ev := ev, kp := kp, sec := sec, nt := nt, pm := pm, lds := lds, out := out } := by
  unfold State.eventStore
  split
  · obtain ⟨e, h⟩ := State.suppress_touches s code
    exact ⟨e, s.kp, s.sec, s.nt, s.pm, s.lds, s.out, h⟩
  · extract_lets s1 supp r s2 _ s3 s4 s5 s6
    obtain ⟨e1, k1, h1⟩ := State.logRepeat_touches s
    obtain ⟨e2, k2, c2, h2⟩ := State.evBlock_touches s.logRepeat
    have hs2 : ∃ ev, s2 = { s with ev := ev, kp := k2, sec := c2 } := by
      obtain ⟨e, h⟩ := State.numbered_touches s1 code
      exact ⟨e, by unfold s2; rw [h]; unfold s1; rw [h2, h1]⟩
    obtain ⟨e3, hs2⟩ := hs2
    have hs3 : ∃ ev nt pm, s3 = { s2 with ev := ev, nt := nt, pm := pm } := by
      unfold s3
      split
      · exact ⟨_, s2.nt, s2.pm, rfl⟩
      · obtain ⟨p, n, h⟩ := State.pmCount_touches ({ s2 with ev := { s2.ev with dropped := s2.ev.dropped + 1 } }) 0x011 noTag
        exact ⟨_, n, p, h⟩
    obtain ⟨e4, n4, p4, hs3⟩ := hs3
    have hs4 : ∃ ev kp, s4 = { s3 with ev := ev, kp := kp } := by
      unfold s4
      split
      · exact State.logAppend_touches _ _
      · exact ⟨s3.ev, s3.kp, rfl⟩
    obtain ⟨e5, k5, hs4⟩ := hs4
    have hs5 : ∃ nt, s5 = { s4 with nt := nt } := by
      unfold s5
      split
      · exact State.raise_touches _ _ _ _
      · exact ⟨s4.nt, rfl⟩
    obtain ⟨n6, hs5⟩ := hs5
    have hs6 : ∃ nt, s6 = { s5 with nt := nt } := by
      unfold s6
      split
      · exact State.raise_touches _ _ _ _
      · exact ⟨s5.nt, rfl⟩
    obtain ⟨n7, hs6⟩ := hs6
    obtain ⟨l, o, h⟩ := State.forward_touches s6 r
    exact ⟨_, _, _, n7, _, l, o, by rw [h, hs6, hs5, hs4, hs3, hs2]⟩

theorem State.event_touches (s : State) (code sev org p0 p1 p2 p3 : Nat) :
    ∃ ev kp sec nt pm lds out, s.event code sev org p0 p1 p2 p3 =
      { s with ev := ev, kp := kp, sec := sec, nt := nt, pm := pm, lds := lds, out := out } := by
  unfold State.event
  split
  · obtain ⟨e, k, c, h⟩ := State.keeperEvent_touches s code sev org p0 p1 p2 p3
    exact ⟨e, k, c, s.nt, s.pm, s.lds, s.out, h⟩
  · split
    · split
      · exact ⟨_, s.kp, s.sec, s.nt, s.pm, s.lds, s.out, rfl⟩
      · exact State.eventStore_touches _ _ _ _ _ _ _ _
    · exact State.eventStore_touches _ _ _ _ _ _ _ _

theorem State.violate_touches (s : State) (who : Fin 17) (kind addr : Nat) :
    ∃ mb ev kp sec nt pm lds out, s.violate who kind addr =
      { s with mb := mb, ev := ev, kp := kp, sec := sec, nt := nt, pm := pm, lds := lds, out := out } := by
  unfold State.violate
  extract_lets v t _ s1
  split
  · obtain ⟨e, k, c, n, p, l, o, h⟩ := State.event_touches s1 0x8001 1 (if who.val = 16 then oDev else oLd (ldOf who.val)) t kind 0 0
    exact ⟨_, e, k, c, n, p, l, o, h⟩
  · exact ⟨_, s.ev, s.kp, s.sec, s.nt, s.pm, s.lds, s.out, rfl⟩

theorem State.judgeMarks_touches (s : State) :
    ∃ wp ev kp sec nt pm lds out, s.judgeMarks =
      { s with wp := wp, ev := ev, kp := kp, sec := sec, nt := nt, pm := pm, lds := lds, out := out } := by
  unfold State.judgeMarks
  extract_lets m old pct _ s1 s2 s3
  split
  · exact ⟨s.wp, s.ev, s.kp, s.sec, s.nt, s.pm, s.lds, s.out, rfl⟩
  · have h2 : ∃ ev kp sec nt pm lds out, s2 = { s1 with ev := ev, kp := kp, sec := sec, nt := nt, pm := pm, lds := lds, out := out } := by
      unfold s2
      split
      · exact State.event_touches _ _ _ _ _ _ _ _
      · exact ⟨s1.ev, s1.kp, s1.sec, s1.nt, s1.pm, s1.lds, s1.out, rfl⟩
    have h3 : ∃ ev kp sec nt pm lds out, s3 = { s2 with ev := ev, kp := kp, sec := sec, nt := nt, pm := pm, lds := lds, out := out } := by
      unfold s3
      split
      · exact State.event_touches _ _ _ _ _ _ _ _
      · exact ⟨s2.ev, s2.kp, s2.sec, s2.nt, s2.pm, s2.lds, s2.out, rfl⟩
    obtain ⟨e2, k2, c2, n2, p2, l2, o2, h2⟩ := h2
    obtain ⟨e3, k3, c3, n3, p3, l3, o3, h3⟩ := h3
    split
    · exact ⟨_, e3, k3, c3, n3, p3, l3, o3, by rw [h3, h2]⟩
    · obtain ⟨n4, h4⟩ := State.raise_touches s3 0x30 0 (markNo m)
      exact ⟨_, e3, k3, c3, n4, p3, l3, o3, by rw [h4, h3, h2]⟩

end Sys2Proof.Machine
end

