-- ==== Sys2Proof/Laws/PerInstr.lean ====
section
/-! SUPPORT. Per command: the opcode a mailbox command carries is one that Tables 11-4 to 11-6 offer on some instance; the rows that the manual
answers with Unsupported are named. -/

namespace Sys2Proof.Laws

/-- The rows whose opcode no instance offers (R272, R280). -/
def Request.notOffered : Instr → Bool
  | .setPartitionInfo .. => true
  | .securitySend .. => true
  | .securityReceive .. => true
  | .unsupportedOpcode .. => true
  | _ => false

/-- A mailbox command's opcode has a route, unless the row is one that is answered with Unsupported. -/
def Request.Statement (i : Instr) : Prop :=
  ∀ (r : Req) (op : Nat), Machine.request i = some (r, op) → (Machine.route op).isSome = true ∨ Request.notOffered i = true

theorem Request.setOperatingPoint (r : Req) (point : Nat) : Request.Statement (.setOperatingPoint r point) := by
  intro r op h; cases h; exact Or.inl (by decide)

theorem Request.operatingPointReached : Request.Statement (.operatingPointReached) := by
  intro r op h; exact nomatch h

theorem Request.autonomousFold (set : Fin 4) : Request.Statement (.autonomousFold set) := by
  intro r op h; exact nomatch h

theorem Request.memWr (ld : Fin 16) (addr : Addr) (data : Line) (poison : Bool) : Request.Statement (.memWr ld addr data poison) := by
  intro r op h; exact nomatch h

theorem Request.memWrPtl (ld : Fin 16) (addr : Addr) (be : BitVec 64) (data : Line) (poison : Bool) : Request.Statement (.memWrPtl ld addr be data poison) := by
  intro r op h; exact nomatch h

theorem Request.writeAdmission : Request.Statement (.writeAdmission) := by
  intro r op h; exact nomatch h

theorem Request.mergeReadComplete (seq : Nat) (sense : Sense) : Request.Statement (.mergeReadComplete seq sense) := by
  intro r op h; exact nomatch h

theorem Request.sequenceCounterWrap : Request.Statement (.sequenceCounterWrap) := by
  intro r op h; exact nomatch h

theorem Request.seqAgeFold : Request.Statement (.seqAgeFold) := by
  intro r op h; exact nomatch h

theorem Request.slotAllocation : Request.Statement (.slotAllocation) := by
  intro r op h; exact nomatch h

theorem Request.shallowsPlacementVerified (seq : Nat) (ok0 : Bool) (ok1 : Bool) : Request.Statement (.shallowsPlacementVerified seq ok0 ok1) := by
  intro r op h; exact nomatch h

theorem Request.indexUpdate : Request.Statement (.indexUpdate) := by
  intro r op h; exact nomatch h

theorem Request.ndrReturn : Request.Statement (.ndrReturn) := by
  intro r op h; exact nomatch h

theorem Request.memRd (ld : Fin 16) (addr : Addr) : Request.Statement (.memRd ld addr) := by
  intro r op h; exact nomatch h

theorem Request.memRdData (ld : Fin 16) (addr : Addr) : Request.Statement (.memRdData ld addr) := by
  intro r op h; exact nomatch h

theorem Request.memSpecRd (ld : Fin 16) (addr : Addr) : Request.Statement (.memSpecRd ld addr) := by
  intro r op h; exact nomatch h

theorem Request.memInv (ld : Fin 16) (addr : Addr) : Request.Statement (.memInv ld addr) := by
  intro r op h; exact nomatch h

theorem Request.memInvNt (ld : Fin 16) (addr : Addr) : Request.Statement (.memInvNt ld addr) := by
  intro r op h; exact nomatch h

theorem Request.detectorTimeout (ld : Fin 16) (line : Nat) : Request.Statement (.detectorTimeout ld line) := by
  intro r op h; exact nomatch h

theorem Request.lookupSettled (id : Nat) (dram : DramAccess) : Request.Statement (.lookupSettled id dram) := by
  intro r op h; exact nomatch h

theorem Request.slotSenseComplete (id : Nat) (sense : Sense) (crcFails : Nat) : Request.Statement (.slotSenseComplete id sense crcFails) := by
  intro r op h; exact nomatch h

theorem Request.readCutoff (id : Nat) : Request.Statement (.readCutoff id) := by
  intro r op h; exact nomatch h

theorem Request.slowSenseReconstruct (id : Nat) : Request.Statement (.slowSenseReconstruct id) := by
  intro r op h; exact nomatch h

theorem Request.foldOrder (set : Fin 4) (granule : Nat) (lane : Fin 16) : Request.Statement (.foldOrder set granule lane) := by
  intro r op h; exact nomatch h

theorem Request.foldGather (set : Fin 4) : Request.Statement (.foldGather set) := by
  intro r op h; exact nomatch h

theorem Request.foldReadsComplete (id : Nat) (lost : FoldSense) : Request.Statement (.foldReadsComplete id lost) := by
  intro r op h; exact nomatch h

theorem Request.bandFillTimeout (band : BandKey) : Request.Statement (.bandFillTimeout band) := by
  intro r op h; exact nomatch h

theorem Request.openSegmentForceClose (seg : SegKey) : Request.Statement (.openSegmentForceClose seg) := by
  intro r op h; exact nomatch h

theorem Request.bandProgramComplete (band : BandKey) (failed : List Nat) (retried : Bool) : Request.Statement (.bandProgramComplete band failed retried) := by
  intro r op h; exact nomatch h

theorem Request.bandCommitVerified (band : BandKey) : Request.Statement (.bandCommitVerified band) := by
  intro r op h; exact nomatch h

theorem Request.slotRelease : Request.Statement (.slotRelease) := by
  intro r op h; exact nomatch h

theorem Request.checkpointPieceWrite (piece : Nat) : Request.Statement (.checkpointPieceWrite piece) := by
  intro r op h; exact nomatch h

theorem Request.copyOrder (seg : SegKey) : Request.Statement (.copyOrder seg) := by
  intro r op h; exact nomatch h

theorem Request.wearLevelCopy (set : Fin 4) (lane : Fin 16) : Request.Statement (.wearLevelCopy set lane) := by
  intro r op h; exact nomatch h

theorem Request.segmentReset (seg : SegKey) : Request.Statement (.segmentReset seg) := by
  intro r op h; exact nomatch h

theorem Request.segmentResetComplete (seg : SegKey) (failed : List Nat) : Request.Statement (.segmentResetComplete seg failed) := by
  intro r op h; exact nomatch h

theorem Request.hotspotDetect (chan : Fin 64) (ticksOver : Nat) (progQ : Nat) (readQ : Nat) : Request.Statement (.hotspotDetect chan ticksOver progQ readQ) := by
  intro r op h; exact nomatch h

theorem Request.driftEpochEnd : Request.Statement (.driftEpochEnd) := by
  intro r op h; exact nomatch h

theorem Request.pilotReadComplete (blk : BlockKey) (report : PilotReport) : Request.Statement (.pilotReadComplete blk report) := by
  intro r op h; exact nomatch h

theorem Request.gapEstimate (die : DieKey) : Request.Statement (.gapEstimate die) := by
  intro r op h; exact nomatch h

theorem Request.patrolVisit (seg : SegKey) (visit : List VisitResult) : Request.Statement (.patrolVisit seg visit) := by
  intro r op h; exact nomatch h

theorem Request.shallowsPatrol (set : Fin 4) (reads : List CopyRead) : Request.Statement (.shallowsPatrol set reads) := by
  intro r op h; exact nomatch h

theorem Request.readDisturbVisit (seg : SegKey) : Request.Statement (.readDisturbVisit seg) := by
  intro r op h; exact nomatch h

theorem Request.warmUpSweepEnd : Request.Statement (.warmUpSweepEnd) := by
  intro r op h; exact nomatch h

theorem Request.scrubStart (ld : Fin 16) : Request.Statement (.scrubStart ld) := by
  intro r op h; exact nomatch h

theorem Request.scrubAbort (ld : Fin 16) : Request.Statement (.scrubAbort ld) := by
  intro r op h; exact nomatch h

theorem Request.scrubEnd (ld : Fin 16) (found : List LineFound) (lost : List LineFound) : Request.Statement (.scrubEnd ld found lost) := by
  intro r op h; exact nomatch h

theorem Request.scrubProgressRecord (ld : Fin 16) (found : List LineFound) (lost : List LineFound) : Request.Statement (.scrubProgressRecord ld found lost) := by
  intro r op h; exact nomatch h

theorem Request.commitDoorbell (ld : Fin 16) (win : Fin 64) (width : Nat) (value : BitVec 64) : Request.Statement (.commitDoorbell ld win width value) := by
  intro r op h; exact nomatch h

theorem Request.abortDoorbell (ld : Fin 16) (win : Fin 64) (width : Nat) (value : BitVec 64) : Request.Statement (.abortDoorbell ld win width value) := by
  intro r op h; exact nomatch h

theorem Request.commitTimerExpiry (ld : Fin 16) (win : Fin 64) : Request.Statement (.commitTimerExpiry ld win) := by
  intro r op h; exact nomatch h

theorem Request.commitPoint (ld : Fin 16) (win : Fin 64) : Request.Statement (.commitPoint ld win) := by
  intro r op h; exact nomatch h

theorem Request.outcomeRecordDurable (ld : Fin 16) (win : Fin 64) : Request.Statement (.outcomeRecordDurable ld win) := by
  intro r op h; exact nomatch h

theorem Request.regionEnable (ld : Fin 16) : Request.Statement (.regionEnable ld) := by
  intro r op h; exact nomatch h

theorem Request.regionDisable (ld : Fin 16) : Request.Statement (.regionDisable ld) := by
  intro r op h; exact nomatch h

theorem Request.rekeyPageStep (region : Fin 256) : Request.Statement (.rekeyPageStep region) := by
  intro r op h; exact nomatch h

theorem Request.rekeyComplete (region : Fin 256) : Request.Statement (.rekeyComplete region) := by
  intro r op h; exact nomatch h

theorem Request.rootSeal : Request.Statement (.rootSeal) := by
  intro r op h; exact nomatch h

theorem Request.ideIntegrityFailure (port : Fin 2) : Request.Statement (.ideIntegrityFailure port) := by
  intro r op h; exact nomatch h

theorem Request.lodeKeyRederive (port : Fin 4) : Request.Statement (.lodeKeyRederive port) := by
  intro r op h; exact nomatch h

theorem Request.faultIndication (row : FaultRow) (unit : FUnit) : Request.Statement (.faultIndication row unit) := by
  intro r op h; exact nomatch h

theorem Request.statusProbeAnswer (unit : FUnit) (ticks : Nat) : Request.Statement (.statusProbeAnswer unit ticks) := by
  intro r op h; exact nomatch h

theorem Request.probeSilenceConfirmed (unit : FUnit) : Request.Statement (.probeSilenceConfirmed unit) := by
  intro r op h; exact nomatch h

theorem Request.faultWindowClose (win : Fin 5) : Request.Statement (.faultWindowClose win) := by
  intro r op h; exact nomatch h

theorem Request.shallowsRestorationComplete (set : Fin 4) : Request.Statement (.shallowsRestorationComplete set) := by
  intro r op h; exact nomatch h

theorem Request.rebuildSegmentComplete (seg : SegKey) (pos : Fin 16) : Request.Statement (.rebuildSegmentComplete seg pos) := by
  intro r op h; exact nomatch h

theorem Request.channelSuspect (chan : Fin 64) (retries : Nat) (alerts : Nat) : Request.Statement (.channelSuspect chan retries alerts) := by
  intro r op h; exact nomatch h

theorem Request.channelSuspectClear (chan : Fin 64) : Request.Statement (.channelSuspectClear chan) := by
  intro r op h; exact nomatch h

theorem Request.secondStackLoss (stack : Fin 5) : Request.Statement (.secondStackLoss stack) := by
  intro r op h; exact nomatch h

theorem Request.watchdogExpiry (core : Fin 12) : Request.Statement (.watchdogExpiry core) := by
  intro r op h; exact nomatch h

theorem Request.cxlLaneFailure (port : Fin 2) (lane : Fin 16) : Request.Statement (.cxlLaneFailure port lane) := by
  intro r op h; exact nomatch h

theorem Request.lodeLaneFailure (port : Fin 4) (lane : Fin 2) : Request.Statement (.lodeLaneFailure port lane) := by
  intro r op h; exact nomatch h

theorem Request.linkTrainingResult (port : Fin 2) (result : TrainResult) : Request.Statement (.linkTrainingResult port result) := by
  intro r op h; exact nomatch h

theorem Request.conventionalReset (port : Fin 2) : Request.Statement (.conventionalReset port) := by
  intro r op h; exact nomatch h

theorem Request.hotReset (port : Fin 2) : Request.Statement (.hotReset port) := by
  intro r op h; exact nomatch h

theorem Request.flr (ld : Fin 16) : Request.Statement (.flr ld) := by
  intro r op h; exact nomatch h

theorem Request.cxlReset (ld : Fin 16) (memClr : Bool) : Request.Statement (.cxlReset ld memClr) := by
  intro r op h; exact nomatch h

theorem Request.gpfPhase1Request (port : Fin 2) : Request.Statement (.gpfPhase1Request port) := by
  intro r op h; exact nomatch h

theorem Request.gpfPhase2Request (port : Fin 2) : Request.Statement (.gpfPhase2Request port) := by
  intro r op h; exact nomatch h

theorem Request.hdmDecoderCommit (ld : Fin 16) (dec : Fin 4) (cfg : DecoderCfg) : Request.Statement (.hdmDecoderCommit ld dec cfg) := by
  intro r op h; exact nomatch h

theorem Request.registerWrite (ld : Fin 16) (bar : Nat) (off : Nat) (width : Nat) (value : Nat) : Request.Statement (.registerWrite ld bar off width value) := by
  intro r op h; exact nomatch h

theorem Request.identify (r : Req) : Request.Statement (.identify r) := by
  intro r op h; cases h; exact Or.inl (by decide)

theorem Request.backgroundOperationStatus (r : Req) : Request.Statement (.backgroundOperationStatus r) := by
  intro r op h; cases h; exact Or.inl (by decide)

theorem Request.requestAbortBackgroundOperation (r : Req) : Request.Statement (.requestAbortBackgroundOperation r) := by
  intro r op h; cases h; exact Or.inl (by decide)

theorem Request.getEventRecords (r : Req) (log : Fin 4) : Request.Statement (.getEventRecords r log) := by
  intro r op h; cases h; exact Or.inl (by decide)

theorem Request.clearEventRecords (r : Req) (log : Fin 4) (all : Bool) (handles : List Nat) : Request.Statement (.clearEventRecords r log all handles) := by
  intro r op h; cases h; exact Or.inl (by decide)

theorem Request.getEventInterruptPolicy (r : Req) : Request.Statement (.getEventInterruptPolicy r) := by
  intro r op h; cases h; exact Or.inl (by decide)

theorem Request.setEventInterruptPolicy (r : Req) (info : Byte) (warning : Byte) (failure : Byte) (fatal : Byte) : Request.Statement (.setEventInterruptPolicy r info warning failure fatal) := by
  intro r op h; cases h; exact Or.inl (by decide)

theorem Request.getFwInfo (r : Req) : Request.Statement (.getFwInfo r) := by
  intro r op h; cases h; exact Or.inl (by decide)

theorem Request.transferFw (r : Req) (action : Nat) (slot : Nat) (image : Image) : Request.Statement (.transferFw r action slot image) := by
  intro r op h; cases h; exact Or.inl (by decide)

theorem Request.activateFw (r : Req) (action : Nat) (slot : Nat) : Request.Statement (.activateFw r action slot) := by
  intro r op h; cases h; exact Or.inl (by decide)

theorem Request.getTimestamp (r : Req) : Request.Statement (.getTimestamp r) := by
  intro r op h; cases h; exact Or.inl (by decide)

theorem Request.setTimestamp (r : Req) (time : BitVec 64) : Request.Statement (.setTimestamp r time) := by
  intro r op h; cases h; exact Or.inl (by decide)

theorem Request.getSupportedLogs (r : Req) : Request.Statement (.getSupportedLogs r) := by
  intro r op h; cases h; exact Or.inl (by decide)

theorem Request.getLog (r : Req) (cel : Bool) (offset : Nat) (length : Nat) : Request.Statement (.getLog r cel offset length) := by
  intro r op h; cases h; exact Or.inl (by decide)

theorem Request.identifyMemoryDevice (r : Req) : Request.Statement (.identifyMemoryDevice r) := by
  intro r op h; cases h; exact Or.inl (by decide)

theorem Request.getPartitionInfo (r : Req) : Request.Statement (.getPartitionInfo r) := by
  intro r op h; cases h; exact Or.inl (by decide)

theorem Request.setPartitionInfo (r : Req) : Request.Statement (.setPartitionInfo r) := by
  intro r op h; exact Or.inr rfl

theorem Request.getLsa (r : Req) (offset : Nat) (length : Nat) : Request.Statement (.getLsa r offset length) := by
  intro r op h; cases h; exact Or.inl (by decide)

theorem Request.setLsa (r : Req) (offset : Nat) (data : List Byte) : Request.Statement (.setLsa r offset data) := by
  intro r op h; cases h; exact Or.inl (by decide)

theorem Request.getHealthInfo (r : Req) : Request.Statement (.getHealthInfo r) := by
  intro r op h; cases h; exact Or.inl (by decide)

theorem Request.getAlertConfiguration (r : Req) : Request.Statement (.getAlertConfiguration r) := by
  intro r op h; cases h; exact Or.inl (by decide)

theorem Request.setAlertConfiguration (r : Req) (life : Nat) (hot : Int) (cold : Int) : Request.Statement (.setAlertConfiguration r life hot cold) := by
  intro r op h; cases h; exact Or.inl (by decide)

theorem Request.getShutdownState (r : Req) : Request.Statement (.getShutdownState r) := by
  intro r op h; cases h; exact Or.inl (by decide)

theorem Request.setShutdownState (r : Req) (state : Byte) : Request.Statement (.setShutdownState r state) := by
  intro r op h; cases h; exact Or.inl (by decide)

theorem Request.getPoisonList (r : Req) (dpa : Nat) (lines : Nat) : Request.Statement (.getPoisonList r dpa lines) := by
  intro r op h; cases h; exact Or.inl (by decide)

theorem Request.injectPoison (r : Req) (dpa : Nat) : Request.Statement (.injectPoison r dpa) := by
  intro r op h; cases h; exact Or.inl (by decide)

theorem Request.clearPoison (r : Req) (dpa : Nat) (data : Line) : Request.Statement (.clearPoison r dpa data) := by
  intro r op h; cases h; exact Or.inl (by decide)

theorem Request.getScanMediaCapabilities (r : Req) (dpa : Nat) (lines : Nat) : Request.Statement (.getScanMediaCapabilities r dpa lines) := by
  intro r op h; cases h; exact Or.inl (by decide)

theorem Request.scanMedia (r : Req) (dpa : Nat) (lines : Nat) : Request.Statement (.scanMedia r dpa lines) := by
  intro r op h; cases h; exact Or.inl (by decide)

theorem Request.getScanMediaResults (r : Req) : Request.Statement (.getScanMediaResults r) := by
  intro r op h; cases h; exact Or.inl (by decide)

theorem Request.sanitize (r : Req) : Request.Statement (.sanitize r) := by
  intro r op h; cases h; exact Or.inl (by decide)

theorem Request.secureErase (r : Req) : Request.Statement (.secureErase r) := by
  intro r op h; cases h; exact Or.inl (by decide)

theorem Request.backgroundCommandComplete (inst : Inst) (found : List LineFound) (lost : List LineFound) : Request.Statement (.backgroundCommandComplete inst found lost) := by
  intro r op h; exact nomatch h

theorem Request.getSecurityState (r : Req) : Request.Statement (.getSecurityState r) := by
  intro r op h; cases h; exact Or.inl (by decide)

theorem Request.setPassphrase (r : Req) (master : Bool) (old : Key) (new : Key) : Request.Statement (.setPassphrase r master old new) := by
  intro r op h; cases h; exact Or.inl (by decide)

theorem Request.disablePassphrase (r : Req) (master : Bool) (pass : Key) : Request.Statement (.disablePassphrase r master pass) := by
  intro r op h; cases h; exact Or.inl (by decide)

theorem Request.unlock (r : Req) (pass : Key) : Request.Statement (.unlock r pass) := by
  intro r op h; cases h; exact Or.inl (by decide)

theorem Request.freezeSecurityState (r : Req) : Request.Statement (.freezeSecurityState r) := by
  intro r op h; cases h; exact Or.inl (by decide)

theorem Request.passphraseSecureErase (r : Req) (master : Bool) (pass : Key) : Request.Statement (.passphraseSecureErase r master pass) := by
  intro r op h; cases h; exact Or.inl (by decide)

theorem Request.securitySend (r : Req) : Request.Statement (.securitySend r) := by
  intro r op h; exact Or.inr rfl

theorem Request.securityReceive (r : Req) : Request.Statement (.securityReceive r) := by
  intro r op h; exact Or.inr rfl

theorem Request.getDcConfig (r : Req) : Request.Statement (.getDcConfig r) := by
  intro r op h; cases h; exact Or.inl (by decide)

theorem Request.getDcExtentList (r : Req) (start : Nat) (count : Nat) : Request.Statement (.getDcExtentList r start count) := by
  intro r op h; cases h; exact Or.inl (by decide)

theorem Request.addDcResponse (r : Req) (accept : List Range) : Request.Statement (.addDcResponse r accept) := by
  intro r op h; cases h; exact Or.inl (by decide)

theorem Request.releaseDc (r : Req) (ranges : List Range) : Request.Statement (.releaseDc r ranges) := by
  intro r op h; cases h; exact Or.inl (by decide)

theorem Request.getLdInfo (r : Req) : Request.Statement (.getLdInfo r) := by
  intro r op h; cases h; exact Or.inl (by decide)

theorem Request.getLdAllocations (r : Req) : Request.Statement (.getLdAllocations r) := by
  intro r op h; cases h; exact Or.inl (by decide)

theorem Request.setLdAllocations (r : Req) (start : Nat) (units : List Nat) : Request.Statement (.setLdAllocations r start units) := by
  intro r op h; cases h; exact Or.inl (by decide)

theorem Request.getQosControl (r : Req) : Request.Statement (.getQosControl r) := by
  intro r op h; cases h; exact Or.inl (by decide)

theorem Request.setQosControl (r : Req) (epc : Bool) (ttr : Bool) (value : Nat) : Request.Statement (.setQosControl r epc ttr value) := by
  intro r op h; cases h; exact Or.inl (by decide)

theorem Request.getQosStatus (r : Req) : Request.Statement (.getQosStatus r) := by
  intro r op h; cases h; exact Or.inl (by decide)

theorem Request.getQosAllocatedBw (r : Req) : Request.Statement (.getQosAllocatedBw r) := by
  intro r op h; cases h; exact Or.inl (by decide)

theorem Request.setQosAllocatedBw (r : Req) (start : Nat) (fractions : List Byte) : Request.Statement (.setQosAllocatedBw r start fractions) := by
  intro r op h; cases h; exact Or.inl (by decide)

theorem Request.getQosBwLimit (r : Req) : Request.Statement (.getQosBwLimit r) := by
  intro r op h; cases h; exact Or.inl (by decide)

theorem Request.setQosBwLimit (r : Req) (start : Nat) (fractions : List Byte) : Request.Statement (.setQosBwLimit r start fractions) := by
  intro r op h; cases h; exact Or.inl (by decide)

theorem Request.getDcdInfo (r : Req) : Request.Statement (.getDcdInfo r) := by
  intro r op h; cases h; exact Or.inl (by decide)

theorem Request.getHostDcRegionConfig (r : Req) (ld : Nat) : Request.Statement (.getHostDcRegionConfig r ld) := by
  intro r op h; cases h; exact Or.inl (by decide)

theorem Request.setDcRegionConfig (r : Req) (region : Nat) (units : Nat) (sharable : Bool) : Request.Statement (.setDcRegionConfig r region units sharable) := by
  intro r op h; cases h; exact Or.inl (by decide)

theorem Request.getDcRegionExtentLists (r : Req) (ld : Nat) : Request.Statement (.getDcRegionExtentLists r ld) := by
  intro r op h; cases h; exact Or.inl (by decide)

theorem Request.initiateDcAdd (r : Req) (ld : Nat) (range : Range) : Request.Statement (.initiateDcAdd r ld range) := by
  intro r op h; cases h; exact Or.inl (by decide)

theorem Request.initiateDcRelease (r : Req) (ld : Nat) (range : Range) (force : Bool) : Request.Statement (.initiateDcRelease r ld range force) := by
  intro r op h; cases h; exact Or.inl (by decide)

theorem Request.openSession (r : Req) (slot : Nat) (hn : BitVec 128) : Request.Statement (.openSession r slot hn) := by
  intro r op h; cases h; exact Or.inl (by decide)

theorem Request.authenticateSession (r : Req) (handle : BitVec 32) (resp : BitVec 128) (mac : MacFault) : Request.Statement (.authenticateSession r handle resp mac) := by
  intro r op h; cases h; exact Or.inl (by decide)

theorem Request.handleTimeout (inst : Inst) : Request.Statement (.handleTimeout inst) := by
  intro r op h; exact nomatch h

theorem Request.closeSession (r : Req) : Request.Statement (.closeSession r) := by
  intro r op h; cases h; exact Or.inl (by decide)

theorem Request.sessionIdleTimeout (inst : Inst) : Request.Statement (.sessionIdleTimeout inst) := by
  intro r op h; exact nomatch h

theorem Request.getSessionStatus (r : Req) : Request.Statement (.getSessionStatus r) := by
  intro r op h; cases h; exact Or.inl (by decide)

theorem Request.getLastFailure (r : Req) : Request.Statement (.getLastFailure r) := by
  intro r op h; cases h; exact Or.inl (by decide)

theorem Request.provisionSessionKey (r : Req) (slot : Nat) (role : Nat) (key : BitVec 320) : Request.Statement (.provisionSessionKey r slot role key) := by
  intro r op h; cases h; exact Or.inl (by decide)

theorem Request.revokeSessionKey (r : Req) (slot : Nat) : Request.Statement (.revokeSessionKey r slot) := by
  intro r op h; cases h; exact Or.inl (by decide)

theorem Request.grantDeviceControl (r : Req) (ld : Nat) : Request.Statement (.grantDeviceControl r ld) := by
  intro r op h; cases h; exact Or.inl (by decide)

theorem Request.getDeviceIdentity (r : Req) : Request.Statement (.getDeviceIdentity r) := by
  intro r op h; cases h; exact Or.inl (by decide)

theorem Request.getChannelStatus (r : Req) (first : Nat) (count : Nat) : Request.Statement (.getChannelStatus r first count) := by
  intro r op h; cases h; exact Or.inl (by decide)

theorem Request.getRecoveryReport (r : Req) (first : Nat) : Request.Statement (.getRecoveryReport r first) := by
  intro r op h; cases h; exact Or.inl (by decide)

theorem Request.getStripeSetStatus (r : Req) (set : Nat) : Request.Statement (.getStripeSetStatus r set) := by
  intro r op h; cases h; exact Or.inl (by decide)

theorem Request.retireChannel (r : Req) (chan : Nat) : Request.Statement (.retireChannel r chan) := by
  intro r op h; cases h; exact Or.inl (by decide)

theorem Request.setRebuildControl (r : Req) (set : Nat) (auto : Bool) (start : Bool) (prio : Nat) : Request.Statement (.setRebuildControl r set auto start prio) := by
  intro r op h; cases h; exact Or.inl (by decide)

theorem Request.setGroupQuota (r : Req) (ld : Nat) (quota : Nat) : Request.Statement (.setGroupQuota r ld quota) := by
  intro r op h; cases h; exact Or.inl (by decide)

theorem Request.getGroupOutcomes (r : Req) : Request.Statement (.getGroupOutcomes r) := by
  intro r op h; cases h; exact Or.inl (by decide)

theorem Request.configureRegion (r : Req) (region : Nat) (base : Nat) (size : Nat) : Request.Statement (.configureRegion r region base size) := by
  intro r op h; cases h; exact Or.inl (by decide)

theorem Request.removeRegion (r : Req) (region : Nat) : Request.Statement (.removeRegion r region) := by
  intro r op h; cases h; exact Or.inl (by decide)

theorem Request.setNextKey (r : Req) (region : Nat) (mode : Nat) (key : BitVec 320) : Request.Statement (.setNextKey r region mode key) := by
  intro r op h; cases h; exact Or.inl (by decide)

theorem Request.startRekey (r : Req) (region : Nat) : Request.Statement (.startRekey r region) := by
  intro r op h; cases h; exact Or.inl (by decide)

theorem Request.getRegionStatus (r : Req) (region : Nat) : Request.Statement (.getRegionStatus r region) := by
  intro r op h; cases h; exact Or.inl (by decide)

theorem Request.getPoolStatus (r : Req) : Request.Statement (.getPoolStatus r) := by
  intro r op h; cases h; exact Or.inl (by decide)

theorem Request.setPoolIdentity (r : Req) (pool : BitVec 64) (member : Nat) : Request.Statement (.setPoolIdentity r pool member) := by
  intro r op h; cases h; exact Or.inl (by decide)

theorem Request.configureTether (r : Req) (tether : Nat) (region : Nat) (partner : Nat) (ports : Nat) (key : BitVec 320) : Request.Statement (.configureTether r tether region partner ports key) := by
  intro r op h; cases h; exact Or.inl (by decide)

theorem Request.removeTether (r : Req) (tether : Nat) : Request.Statement (.removeTether r tether) := by
  intro r op h; cases h; exact Or.inl (by decide)

theorem Request.declarePartnerAbsent (r : Req) (tether : Nat) : Request.Statement (.declarePartnerAbsent r tether) := by
  intro r op h; cases h; exact Or.inl (by decide)

theorem Request.failover (r : Req) (tether : Nat) (role : Nat) : Request.Statement (.failover r tether role) := by
  intro r op h; cases h; exact Or.inl (by decide)

theorem Request.raiseFormatLevel (r : Req) (level : Nat) : Request.Statement (.raiseFormatLevel r level) := by
  intro r op h; cases h; exact Or.inl (by decide)

theorem Request.getPowerStatus (r : Req) : Request.Statement (.getPowerStatus r) := by
  intro r op h; cases h; exact Or.inl (by decide)

theorem Request.powerRequest (r : Req) (op : Nat) : Request.Statement (.powerRequest r op) := by
  intro r op h; cases h; exact Or.inl (by decide)

theorem Request.setRailParameters (r : Req) (rail : Nat) (filter : Nat) (low : Nat) (high : Nat) (dwell : Nat) (timeout : Nat) (retries : Nat) : Request.Statement (.setRailParameters r rail filter low high dwell timeout retries) := by
  intro r op h; cases h; exact Or.inl (by decide)

theorem Request.getThermalStatus (r : Req) : Request.Statement (.getThermalStatus r) := by
  intro r op h; cases h; exact Or.inl (by decide)

theorem Request.setThermalParameters (r : Req) (grace : Nat) : Request.Statement (.setThermalParameters r grace) := by
  intro r op h; cases h; exact Or.inl (by decide)

theorem Request.readPersistentLog (r : Req) (area : Nat) (first : Nat) (max : Nat) : Request.Statement (.readPersistentLog r area first max) := by
  intro r op h; cases h; exact Or.inl (by decide)

theorem Request.getViolationCounters (r : Req) (clear : Bool) : Request.Statement (.getViolationCounters r clear) := by
  intro r op h; cases h; exact Or.inl (by decide)

theorem Request.setEventRateLimit (r : Req) (code : Nat) (limit : Nat) : Request.Statement (.setEventRateLimit r code limit) := by
  intro r op h; cases h; exact Or.inl (by decide)

theorem Request.readHardwareRing (r : Req) (area : Nat) (first : Nat) (max : Nat) : Request.Statement (.readHardwareRing r area first max) := by
  intro r op h; cases h; exact Or.inl (by decide)

theorem Request.readCustomerPartition (r : Req) (offset : Nat) (length : Nat) (pass : Key) : Request.Statement (.readCustomerPartition r offset length pass) := by
  intro r op h; cases h; exact Or.inl (by decide)

theorem Request.writeCustomerPartition (r : Req) (offset : Nat) (length : Nat) (pass : Key) (data : List Byte) : Request.Statement (.writeCustomerPartition r offset length pass data) := by
  intro r op h; cases h; exact Or.inl (by decide)

theorem Request.setCustomerPasswords (r : Req) (readPw : Key) (writePw : Key) : Request.Statement (.setCustomerPasswords r readPw writePw) := by
  intro r op h; cases h; exact Or.inl (by decide)

theorem Request.readDeviceRegisters (r : Req) (block : Nat) (width : Nat) (count : Nat) (offset : Nat) : Request.Statement (.readDeviceRegisters r block width count offset) := by
  intro r op h; cases h; exact Or.inl (by decide)

theorem Request.writeDeviceRegisters (r : Req) (block : Nat) (width : Nat) (count : Nat) (offset : Nat) (data : List Nat) : Request.Statement (.writeDeviceRegisters r block width count offset data) := by
  intro r op h; cases h; exact Or.inl (by decide)

theorem Request.setCachePolicy (r : Req) (ld : Nat) (flags : Byte) : Request.Statement (.setCachePolicy r ld flags) := by
  intro r op h; cases h; exact Or.inl (by decide)

theorem Request.getCacheStatus (r : Req) : Request.Statement (.getCacheStatus r) := by
  intro r op h; cases h; exact Or.inl (by decide)

theorem Request.setPatrolParameters (r : Req) (p : PatrolInput) (busShare : Nat) : Request.Statement (.setPatrolParameters r p busShare) := by
  intro r op h; cases h; exact Or.inl (by decide)

theorem Request.getPatrolStatus (r : Req) : Request.Statement (.getPatrolStatus r) := by
  intro r op h; cases h; exact Or.inl (by decide)

theorem Request.getLifeCycleState (r : Req) : Request.Statement (.getLifeCycleState r) := by
  intro r op h; cases h; exact Or.inl (by decide)

theorem Request.setLifeCycleState (r : Req) (target : Nat) : Request.Statement (.setLifeCycleState r target) := by
  intro r op h; cases h; exact Or.inl (by decide)

theorem Request.getBootStatus (r : Req) : Request.Statement (.getBootStatus r) := by
  intro r op h; cases h; exact Or.inl (by decide)

theorem Request.setBootImagePreference (r : Req) (image : Nat) : Request.Statement (.setBootImagePreference r image) := by
  intro r op h; cases h; exact Or.inl (by decide)

theorem Request.unsupportedOpcode (r : Req) (opcode : Nat) : Request.Statement (.unsupportedOpcode r opcode) := by
  intro r op h; exact Or.inr rfl

theorem Request.notifDeliver (corrupt : Option (Fin 17)) : Request.Statement (.notifDeliver corrupt) := by
  intro r op h; exact nomatch h

theorem Request.notifClaim (who : Fin 17) (width : Nat) : Request.Statement (.notifClaim who width) := by
  intro r op h; exact nomatch h

theorem Request.notifEoi (who : Fin 17) (src : Nat) : Request.Statement (.notifEoi who src) := by
  intro r op h; exact nomatch h

theorem Request.notifQconsWrite (ld : Fin 16) (value : Nat) : Request.Statement (.notifQconsWrite ld value) := by
  intro r op h; exact nomatch h

theorem Request.fmConsWrite (value : Nat) : Request.Statement (.fmConsWrite value) := by
  intro r op h; exact nomatch h

theorem Request.notifQueueEnable (ld : Fin 16) : Request.Statement (.notifQueueEnable ld) := by
  intro r op h; exact nomatch h

theorem Request.clrlost (ld : Fin 16) : Request.Statement (.clrlost ld) := by
  intro r op h; exact nomatch h

theorem Request.unwind (who : Fin 17) : Request.Statement (.unwind who) := by
  intro r op h; exact nomatch h

theorem Request.notifSwset (value : BitVec 16) : Request.Statement (.notifSwset value) := by
  intro r op h; exact nomatch h

theorem Request.pmonSnapshot (who : Fin 17) : Request.Statement (.pmonSnapshot who) := by
  intro r op h; exact nomatch h

theorem Request.pmonClear (who : Fin 17) : Request.Statement (.pmonClear who) := by
  intro r op h; exact nomatch h

theorem Request.pmonCounterWrap (n : Fin 64) : Request.Statement (.pmonCounterWrap n) := by
  intro r op h; exact nomatch h

theorem Request.pmonSample (rec : Sample) : Request.Statement (.pmonSample rec) := by
  intro r op h; exact nomatch h

theorem Request.sampleBankRelease (who : Fin 17) (bits : BitVec 2) : Request.Statement (.sampleBankRelease who bits) := by
  intro r op h; exact nomatch h

theorem Request.samplingEnable (who : Fin 17) : Request.Statement (.samplingEnable who) := by
  intro r op h; exact nomatch h

theorem Request.cleanByAddress (who : Fin 17) (dpa : Nat) : Request.Statement (.cleanByAddress who dpa) := by
  intro r op h; exact nomatch h

theorem Request.invalidateByAddress (who : Fin 17) (dpa : Nat) : Request.Statement (.invalidateByAddress who dpa) := by
  intro r op h; exact nomatch h

theorem Request.cleanInvalidateByAddress (who : Fin 17) (dpa : Nat) : Request.Statement (.cleanInvalidateByAddress who dpa) := by
  intro r op h; exact nomatch h

theorem Request.cleanBySetWay (who : Fin 17) (set : Nat) (way : Fin 16) : Request.Statement (.cleanBySetWay who set way) := by
  intro r op h; exact nomatch h

theorem Request.invalidateBySetWay (who : Fin 17) (set : Nat) (way : Fin 16) : Request.Statement (.invalidateBySetWay who set way) := by
  intro r op h; exact nomatch h

theorem Request.cleanInvalidateBySetWay (who : Fin 17) (set : Nat) (way : Fin 16) : Request.Statement (.cleanInvalidateBySetWay who set way) := by
  intro r op h; exact nomatch h

theorem Request.maintenanceOpExecute : Request.Statement (.maintenanceOpExecute) := by
  intro r op h; exact nomatch h

theorem Request.cleanComplete : Request.Statement (.cleanComplete) := by
  intro r op h; exact nomatch h

theorem Request.cacheSync (who : Fin 17) (width : Nat) : Request.Statement (.cacheSync who width) := by
  intro r op h; exact nomatch h

theorem Request.rangeStart (who : Fin 17) : Request.Statement (.rangeStart who) := by
  intro r op h; exact nomatch h

theorem Request.rangeAbort (who : Fin 17) : Request.Statement (.rangeAbort who) := by
  intro r op h; exact nomatch h

theorem Request.rangeComplete : Request.Statement (.rangeComplete) := by
  intro r op h; exact nomatch h

theorem Request.spadAddWrite (who : Fin 17) (off : Nat) (width : Nat) (value : Nat) : Request.Statement (.spadAddWrite who off width value) := by
  intro r op h; exact nomatch h

theorem Request.spadSwapWrite (who : Fin 17) (off : Nat) (width : Nat) (value : Nat) : Request.Statement (.spadSwapWrite who off width value) := by
  intro r op h; exact nomatch h

theorem Request.atomicFetchAdd (ld : Fin 16) (off : Nat) (width : Nat) (value : Nat) : Request.Statement (.atomicFetchAdd ld off width value) := by
  intro r op h; exact nomatch h

theorem Request.atomicSwap (ld : Fin 16) (off : Nat) (width : Nat) (value : Nat) : Request.Statement (.atomicSwap ld off width value) := by
  intro r op h; exact nomatch h

theorem Request.atomicCompareAndSwap (ld : Fin 16) (off : Nat) (width : Nat) : Request.Statement (.atomicCompareAndSwap ld off width) := by
  intro r op h; exact nomatch h

theorem Request.sramParityError (mem : Parity) (addr : Nat) : Request.Statement (.sramParityError mem addr) := by
  intro r op h; exact nomatch h

theorem Request.bootRomImageCheck : Request.Statement (.bootRomImageCheck) := by
  intro r op h; exact nomatch h

theorem Request.antiRollbackRaise : Request.Statement (.antiRollbackRaise) := by
  intro r op h; exact nomatch h

theorem Request.spdmGetVersion (via : Inst) : Request.Statement (.spdmGetVersion via) := by
  intro r op h; exact nomatch h

theorem Request.spdmGetCapabilities (via : Inst) : Request.Statement (.spdmGetCapabilities via) := by
  intro r op h; exact nomatch h

theorem Request.spdmNegotiateAlgorithms (via : Inst) : Request.Statement (.spdmNegotiateAlgorithms via) := by
  intro r op h; exact nomatch h

theorem Request.spdmGetDigests (via : Inst) : Request.Statement (.spdmGetDigests via) := by
  intro r op h; exact nomatch h

theorem Request.spdmGetCertificate (via : Inst) : Request.Statement (.spdmGetCertificate via) := by
  intro r op h; exact nomatch h

theorem Request.spdmChallenge (via : Inst) (nonce : Key) : Request.Statement (.spdmChallenge via nonce) := by
  intro r op h; exact nomatch h

theorem Request.spdmGetMeasurements (via : Inst) (nonce : Key) : Request.Statement (.spdmGetMeasurements via nonce) := by
  intro r op h; exact nomatch h

theorem Request.spdmKeyExchange (via : Inst) : Request.Statement (.spdmKeyExchange via) := by
  intro r op h; exact nomatch h

theorem Request.spdmFinish (via : Inst) (session : Fin 4) : Request.Statement (.spdmFinish via session) := by
  intro r op h; exact nomatch h

theorem Request.spdmHeartbeat (via : Inst) (session : Fin 4) : Request.Statement (.spdmHeartbeat via session) := by
  intro r op h; exact nomatch h

theorem Request.spdmKeyUpdate (via : Inst) (session : Fin 4) : Request.Statement (.spdmKeyUpdate via session) := by
  intro r op h; exact nomatch h

theorem Request.spdmEndSession (via : Inst) (session : Fin 4) : Request.Statement (.spdmEndSession via session) := by
  intro r op h; exact nomatch h

theorem Request.ideKmKeyProg (session : Fin 4) (port : Fin 2) (tx : Bool) (key : Key) : Request.Statement (.ideKmKeyProg session port tx key) := by
  intro r op h; exact nomatch h

theorem Request.ideKmKSetGo (session : Fin 4) (port : Fin 2) : Request.Statement (.ideKmKSetGo session port) := by
  intro r op h; exact nomatch h

theorem Request.ideKmKSetStop (session : Fin 4) (port : Fin 2) : Request.Statement (.ideKmKSetStop session port) := by
  intro r op h; exact nomatch h

theorem Request.tamperInputActive (input : Fin 4) : Request.Statement (.tamperInputActive input) := by
  intro r op h; exact nomatch h

theorem Request.lodeTrainingResult (port : Fin 4) (ok : Bool) (lanes : Nat) : Request.Statement (.lodeTrainingResult port ok lanes) := by
  intro r op h; exact nomatch h

theorem Request.hello (h : LodeHdr) (msg : HelloMsg) : Request.Statement (.hello h msg) := by
  intro r op h; exact nomatch h

theorem Request.helloRepeat (port : Fin 4) : Request.Statement (.helloRepeat port) := by
  intro r op h; exact nomatch h

theorem Request.keepaliveSend (port : Fin 4) : Request.Statement (.keepaliveSend port) := by
  intro r op h; exact nomatch h

theorem Request.keepalive (h : LodeHdr) : Request.Statement (.keepalive h) := by
  intro r op h; exact nomatch h

theorem Request.lodeSilenceTimeout (port : Fin 4) : Request.Statement (.lodeSilenceTimeout port) := by
  intro r op h; exact nomatch h

theorem Request.level (h : LodeHdr) (entries : List MemberLevel) : Request.Statement (.level h entries) := by
  intro r op h; exact nomatch h

theorem Request.switch (h : LodeHdr) (level : Nat) : Request.Statement (.switch h level) := by
  intro r op h; exact nomatch h

theorem Request.twrite (h : LodeHdr) (off : Nat) (win : Option (Fin 64)) (psn : Bool) (data : Line) : Request.Statement (.twrite h off win psn data) := by
  intro r op h; exact nomatch h

theorem Request.tconf (h : LodeHdr) (seqs : List Nat) : Request.Statement (.tconf h seqs) := by
  intro r op h; exact nomatch h

theorem Request.tcommit (h : LodeHdr) (win : Fin 64) (gseq : Nat) (first : Nat) (last : Nat) (count : Nat) : Request.Statement (.tcommit h win gseq first last count) := by
  intro r op h; exact nomatch h

theorem Request.tpoint (h : LodeHdr) (win : Fin 64) (gseq : Nat) : Request.Statement (.tpoint h win gseq) := by
  intro r op h; exact nomatch h

theorem Request.tabort (h : LodeHdr) (win : Fin 64) (outcome : Nat) (gseq : Nat) : Request.Statement (.tabort h win outcome gseq) := by
  intro r op h; exact nomatch h

theorem Request.tquery (h : LodeHdr) (win : Fin 64) (gseq : Nat) : Request.Statement (.tquery h win gseq) := by
  intro r op h; exact nomatch h

theorem Request.tqans (h : LodeHdr) (win : Fin 64) (answer : Bool) (gseq : Nat) : Request.Statement (.tqans h win answer gseq) := by
  intro r op h; exact nomatch h

theorem Request.rsline (h : LodeHdr) (off : Nat) (psn : Bool) (data : Line) : Request.Statement (.rsline h off psn data) := by
  intro r op h; exact nomatch h

theorem Request.rsmark (h : LodeHdr) (granule : Nat) (poisoned : Bool) : Request.Statement (.rsmark h granule poisoned) := by
  intro r op h; exact nomatch h

theorem Request.bitmap (h : LodeHdr) (first : Nat) (bits : List Bool) : Request.Statement (.bitmap h first bits) := by
  intro r op h; exact nomatch h

theorem Request.role (h : LodeHdr) (replica : Bool) (epoch : Nat) : Request.Statement (.role h replica epoch) := by
  intro r op h; exact nomatch h

theorem Request.removed (h : LodeHdr) : Request.Statement (.removed h) := by
  intro r op h; exact nomatch h

theorem Request.partnerAbsentTimeout (t : Fin 8) : Request.Statement (.partnerAbsentTimeout t) := by
  intro r op h; exact nomatch h

theorem Request.absentRetry (t : Fin 8) : Request.Statement (.absentRetry t) := by
  intro r op h; exact nomatch h

theorem Request.confirmedMark : Request.Statement (.confirmedMark) := by
  intro r op h; exact nomatch h

theorem Request.resyncGranule (t : Fin 8) : Request.Statement (.resyncGranule t) := by
  intro r op h; exact nomatch h

theorem Request.keeperAlive (vsup : Nat) (straps : BitVec 4) (bad : List BadRecord) : Request.Statement (.keeperAlive vsup straps bad) := by
  intro r op h; exact nomatch h

theorem Request.vinDwellComplete (vin : Nat) : Request.Statement (.vinDwellComplete vin) := by
  intro r op h; exact nomatch h

theorem Request.railDwellComplete (rail : Nat) : Request.Statement (.railDwellComplete rail) := by
  intro r op h; exact nomatch h

theorem Request.pscTransactionRetry (rail : Nat) (ok : Bool) : Request.Statement (.pscTransactionRetry rail ok) := by
  intro r op h; exact nomatch h

theorem Request.railSequenceTimeout (rail : Nat) : Request.Statement (.railSequenceTimeout rail) := by
  intro r op h; exact nomatch h

theorem Request.channelTrainingComplete (found : List PackageFound) (failed : List Nat) (readings : List Reading) : Request.Statement (.channelTrainingComplete found failed readings) := by
  intro r op h; exact nomatch h

theorem Request.normalBootComplete : Request.Statement (.normalBootComplete) := by
  intro r op h; exact nomatch h

theorem Request.replayComplete (res : ReplayResult) : Request.Statement (.replayComplete res) := by
  intro r op h; exact nomatch h

theorem Request.firstFormatComplete (badBlocks : List BlockKey) : Request.Statement (.firstFormatComplete badBlocks) := by
  intro r op h; exact nomatch h

theorem Request.runningRailFault (rail : Nat) (mv : Nat) : Request.Statement (.runningRailFault rail mv) := by
  intro r op h; exact nomatch h

theorem Request.faultRestart : Request.Statement (.faultRestart) := by
  intro r op h; exact nomatch h

theorem Request.keeperSramError : Request.Statement (.keeperSramError) := by
  intro r op h; exact nomatch h

theorem Request.vinCollapse (mv : Nat) : Request.Statement (.vinCollapse mv) := by
  intro r op h; exact nomatch h

theorem Request.pfailNLow : Request.Statement (.pfailNLow) := by
  intro r op h; exact nomatch h

theorem Request.pfailNHighRestart : Request.Statement (.pfailNHighRestart) := by
  intro r op h; exact nomatch h

theorem Request.hardwareFlushComplete : Request.Statement (.hardwareFlushComplete) := by
  intro r op h; exact nomatch h

theorem Request.vholdExhausted (mv : Nat) (bytes : Nat) : Request.Statement (.vholdExhausted mv bytes) := by
  intro r op h; exact nomatch h

theorem Request.orderlyPowerDownComplete : Request.Statement (.orderlyPowerDownComplete) := by
  intro r op h; exact nomatch h

theorem Request.railFallTimeout (rail : Nat) : Request.Statement (.railFallTimeout rail) := by
  intro r op h; exact nomatch h

theorem Request.offMinimumElapsed : Request.Statement (.offMinimumElapsed) := by
  intro r op h; exact nomatch h

theorem Request.holdupReadyAsserted (mv : Nat) : Request.Statement (.holdupReadyAsserted mv) := by
  intro r op h; exact nomatch h

theorem Request.holdupReadyLost (mv : Nat) : Request.Statement (.holdupReadyLost mv) := by
  intro r op h; exact nomatch h

theorem Request.vholdOvervoltage (mv : Nat) : Request.Statement (.vholdOvervoltage mv) := by
  intro r op h; exact nomatch h

theorem Request.chargeTimeout (mv : Nat) : Request.Statement (.chargeTimeout mv) := by
  intro r op h; exact nomatch h

theorem Request.vsupCollapse (mv : Nat) : Request.Statement (.vsupCollapse mv) := by
  intro r op h; exact nomatch h

theorem Request.thermalMeasurement (media : Bool) (readings : List Reading) : Request.Statement (.thermalMeasurement media readings) := by
  intro r op h; exact nomatch h

theorem Request.throttleGraceExpiry : Request.Statement (.throttleGraceExpiry) := by
  intro r op h; exact nomatch h

theorem Request.coolingRestart : Request.Statement (.coolingRestart) := by
  intro r op h; exact nomatch h

theorem Request.mediaHoldTimeout : Request.Statement (.mediaHoldTimeout) := by
  intro r op h; exact nomatch h

theorem Request.rdyNFall (chan : Fin 64) (die : Fin 16) (tile : Fin 8) (status : Byte) : Request.Statement (.rdyNFall chan die tile status) := by
  intro r op h; exact nomatch h

theorem Request.alertNFall (chan : Fin 64) (die : Fin 16) (tile : Fin 8) (status : Byte) : Request.Statement (.alertNFall chan die tile status) := by
  intro r op h; exact nomatch h

theorem Request.cdatTableAccess (ld : Fin 16) : Request.Statement (.cdatTableAccess ld) := by
  intro r op h; exact nomatch h

theorem Request.setdasa (addr : BitVec 7) (dyn : BitVec 7) : Request.Statement (.setdasa addr dyn) := by
  intro r op h; exact nomatch h

theorem Request.entdaa (dyn : BitVec 7) : Request.Statement (.entdaa dyn) := by
  intro r op h; exact nomatch h

theorem Request.drsReturn : Request.Statement (.drsReturn) := by
  intro r op h; exact nomatch h

theorem Request.firmwareActivationComplete (started : Bool) : Request.Statement (.firmwareActivationComplete started) := by
  intro r op h; exact nomatch h

theorem Request.cxlResetComplete (ld : Fin 16) : Request.Statement (.cxlResetComplete ld) := by
  intro r op h; exact nomatch h

theorem Request.boostRestart (mv : Nat) : Request.Statement (.boostRestart mv) := by
  intro r op h; exact nomatch h

theorem Request.unknownLodeMessageType (h : LodeHdr) (type : Byte) : Request.Statement (.unknownLodeMessageType h type) := by
  intro r op h; exact nomatch h

end Sys2Proof.Laws
end

