-- ==== Sys2Proof/Laws/State.lean ====
section
/-! SUPPORT. What each update of the state leaves: one lemma per field and update, each true by definition, so that no later proof unfolds a
record update; and what the changed part holds. -/

namespace Sys2Proof.Laws

open Sys2Proof.Machine

/-! ### modLd -/

@[simp] theorem modLd_pending (s : State) (n : Fin 16) (f : LD → LD) : (s.modLd n f).pending = s.pending := rfl

@[simp] theorem modLd_held (s : State) (n : Fin 16) (f : LD → LD) : (s.modLd n f).held = s.held := rfl

@[simp] theorem modLd_now (s : State) (n : Fin 16) (f : LD → LD) : (s.modLd n f).now = s.now := rfl

@[simp] theorem modLd_freeIx (s : State) (n : Fin 16) (f : LD → LD) : (s.modLd n f).freeIx = s.freeIx := rfl

@[simp] theorem modLd_nextId (s : State) (n : Fin 16) (f : LD → LD) : (s.modLd n f).nextId = s.nextId := rfl

@[simp] theorem modLd_out (s : State) (n : Fin 16) (f : LD → LD) : (s.modLd n f).out = s.out := rfl

@[simp] theorem modLd_hw (s : State) (n : Fin 16) (f : LD → LD) : (s.modLd n f).hw = s.hw := rfl

@[simp] theorem modLd_pw (s : State) (n : Fin 16) (f : LD → LD) : (s.modLd n f).pw = s.pw := rfl

@[simp] theorem modLd_kp (s : State) (n : Fin 16) (f : LD → LD) : (s.modLd n f).kp = s.kp := rfl

@[simp] theorem modLd_sec (s : State) (n : Fin 16) (f : LD → LD) : (s.modLd n f).sec = s.sec := rfl

@[simp] theorem modLd_th (s : State) (n : Fin 16) (f : LD → LD) : (s.modLd n f).th = s.th := rfl

@[simp] theorem modLd_md (s : State) (n : Fin 16) (f : LD → LD) : (s.modLd n f).md = s.md := rfl

@[simp] theorem modLd_lk (s : State) (n : Fin 16) (f : LD → LD) : (s.modLd n f).lk = s.lk := rfl

@[simp] theorem modLd_wp (s : State) (n : Fin 16) (f : LD → LD) : (s.modLd n f).wp = s.wp := rfl

@[simp] theorem modLd_rp (s : State) (n : Fin 16) (f : LD → LD) : (s.modLd n f).rp = s.rp := rfl

@[simp] theorem modLd_fo (s : State) (n : Fin 16) (f : LD → LD) : (s.modLd n f).fo = s.fo := rfl

@[simp] theorem modLd_dr (s : State) (n : Fin 16) (f : LD → LD) : (s.modLd n f).dr = s.dr := rfl

@[simp] theorem modLd_cr (s : State) (n : Fin 16) (f : LD → LD) : (s.modLd n f).cr = s.cr := rfl

@[simp] theorem modLd_rd (s : State) (n : Fin 16) (f : LD → LD) : (s.modLd n f).rd = s.rd := rfl

@[simp] theorem modLd_mb (s : State) (n : Fin 16) (f : LD → LD) : (s.modLd n f).mb = s.mb := rfl

@[simp] theorem modLd_nt (s : State) (n : Fin 16) (f : LD → LD) : (s.modLd n f).nt = s.nt := rfl

@[simp] theorem modLd_ev (s : State) (n : Fin 16) (f : LD → LD) : (s.modLd n f).ev = s.ev := rfl

@[simp] theorem modLd_pm (s : State) (n : Fin 16) (f : LD → LD) : (s.modLd n f).pm = s.pm := rfl

@[simp] theorem modLd_ca (s : State) (n : Fin 16) (f : LD → LD) : (s.modLd n f).ca = s.ca := rfl

@[simp] theorem modLd_sp (s : State) (n : Fin 16) (f : LD → LD) : (s.modLd n f).sp = s.sp := rfl

@[simp] theorem modLd_lo (s : State) (n : Fin 16) (f : LD → LD) : (s.modLd n f).lo = s.lo := rfl

@[simp] theorem modLd_bt (s : State) (n : Fin 16) (f : LD → LD) : (s.modLd n f).bt = s.bt := rfl

/-! ### mapLds -/

@[simp] theorem mapLds_pending (s : State) (f : LD → LD) : (s.mapLds f).pending = s.pending := rfl

@[simp] theorem mapLds_held (s : State) (f : LD → LD) : (s.mapLds f).held = s.held := rfl

@[simp] theorem mapLds_now (s : State) (f : LD → LD) : (s.mapLds f).now = s.now := rfl

@[simp] theorem mapLds_freeIx (s : State) (f : LD → LD) : (s.mapLds f).freeIx = s.freeIx := rfl

@[simp] theorem mapLds_nextId (s : State) (f : LD → LD) : (s.mapLds f).nextId = s.nextId := rfl

@[simp] theorem mapLds_out (s : State) (f : LD → LD) : (s.mapLds f).out = s.out := rfl

@[simp] theorem mapLds_hw (s : State) (f : LD → LD) : (s.mapLds f).hw = s.hw := rfl

@[simp] theorem mapLds_pw (s : State) (f : LD → LD) : (s.mapLds f).pw = s.pw := rfl

@[simp] theorem mapLds_kp (s : State) (f : LD → LD) : (s.mapLds f).kp = s.kp := rfl

@[simp] theorem mapLds_sec (s : State) (f : LD → LD) : (s.mapLds f).sec = s.sec := rfl

@[simp] theorem mapLds_th (s : State) (f : LD → LD) : (s.mapLds f).th = s.th := rfl

@[simp] theorem mapLds_md (s : State) (f : LD → LD) : (s.mapLds f).md = s.md := rfl

@[simp] theorem mapLds_lk (s : State) (f : LD → LD) : (s.mapLds f).lk = s.lk := rfl

@[simp] theorem mapLds_wp (s : State) (f : LD → LD) : (s.mapLds f).wp = s.wp := rfl

@[simp] theorem mapLds_rp (s : State) (f : LD → LD) : (s.mapLds f).rp = s.rp := rfl

@[simp] theorem mapLds_fo (s : State) (f : LD → LD) : (s.mapLds f).fo = s.fo := rfl

@[simp] theorem mapLds_dr (s : State) (f : LD → LD) : (s.mapLds f).dr = s.dr := rfl

@[simp] theorem mapLds_cr (s : State) (f : LD → LD) : (s.mapLds f).cr = s.cr := rfl

@[simp] theorem mapLds_rd (s : State) (f : LD → LD) : (s.mapLds f).rd = s.rd := rfl

@[simp] theorem mapLds_mb (s : State) (f : LD → LD) : (s.mapLds f).mb = s.mb := rfl

@[simp] theorem mapLds_nt (s : State) (f : LD → LD) : (s.mapLds f).nt = s.nt := rfl

@[simp] theorem mapLds_ev (s : State) (f : LD → LD) : (s.mapLds f).ev = s.ev := rfl

@[simp] theorem mapLds_pm (s : State) (f : LD → LD) : (s.mapLds f).pm = s.pm := rfl

@[simp] theorem mapLds_ca (s : State) (f : LD → LD) : (s.mapLds f).ca = s.ca := rfl

@[simp] theorem mapLds_sp (s : State) (f : LD → LD) : (s.mapLds f).sp = s.sp := rfl

@[simp] theorem mapLds_lo (s : State) (f : LD → LD) : (s.mapLds f).lo = s.lo := rfl

@[simp] theorem mapLds_bt (s : State) (f : LD → LD) : (s.mapLds f).bt = s.bt := rfl

/-! ### modWin -/

@[simp] theorem modWin_pending (s : State) (n : Fin 16) (w : Fin 64) (f : Win → Win) : (s.modWin n w f).pending = s.pending := rfl

@[simp] theorem modWin_held (s : State) (n : Fin 16) (w : Fin 64) (f : Win → Win) : (s.modWin n w f).held = s.held := rfl

@[simp] theorem modWin_now (s : State) (n : Fin 16) (w : Fin 64) (f : Win → Win) : (s.modWin n w f).now = s.now := rfl

@[simp] theorem modWin_freeIx (s : State) (n : Fin 16) (w : Fin 64) (f : Win → Win) : (s.modWin n w f).freeIx = s.freeIx := rfl

@[simp] theorem modWin_nextId (s : State) (n : Fin 16) (w : Fin 64) (f : Win → Win) : (s.modWin n w f).nextId = s.nextId := rfl

@[simp] theorem modWin_out (s : State) (n : Fin 16) (w : Fin 64) (f : Win → Win) : (s.modWin n w f).out = s.out := rfl

@[simp] theorem modWin_hw (s : State) (n : Fin 16) (w : Fin 64) (f : Win → Win) : (s.modWin n w f).hw = s.hw := rfl

@[simp] theorem modWin_pw (s : State) (n : Fin 16) (w : Fin 64) (f : Win → Win) : (s.modWin n w f).pw = s.pw := rfl

@[simp] theorem modWin_kp (s : State) (n : Fin 16) (w : Fin 64) (f : Win → Win) : (s.modWin n w f).kp = s.kp := rfl

@[simp] theorem modWin_sec (s : State) (n : Fin 16) (w : Fin 64) (f : Win → Win) : (s.modWin n w f).sec = s.sec := rfl

@[simp] theorem modWin_th (s : State) (n : Fin 16) (w : Fin 64) (f : Win → Win) : (s.modWin n w f).th = s.th := rfl

@[simp] theorem modWin_md (s : State) (n : Fin 16) (w : Fin 64) (f : Win → Win) : (s.modWin n w f).md = s.md := rfl

@[simp] theorem modWin_lk (s : State) (n : Fin 16) (w : Fin 64) (f : Win → Win) : (s.modWin n w f).lk = s.lk := rfl

@[simp] theorem modWin_wp (s : State) (n : Fin 16) (w : Fin 64) (f : Win → Win) : (s.modWin n w f).wp = s.wp := rfl

@[simp] theorem modWin_rp (s : State) (n : Fin 16) (w : Fin 64) (f : Win → Win) : (s.modWin n w f).rp = s.rp := rfl

@[simp] theorem modWin_fo (s : State) (n : Fin 16) (w : Fin 64) (f : Win → Win) : (s.modWin n w f).fo = s.fo := rfl

@[simp] theorem modWin_dr (s : State) (n : Fin 16) (w : Fin 64) (f : Win → Win) : (s.modWin n w f).dr = s.dr := rfl

@[simp] theorem modWin_cr (s : State) (n : Fin 16) (w : Fin 64) (f : Win → Win) : (s.modWin n w f).cr = s.cr := rfl

@[simp] theorem modWin_rd (s : State) (n : Fin 16) (w : Fin 64) (f : Win → Win) : (s.modWin n w f).rd = s.rd := rfl

@[simp] theorem modWin_mb (s : State) (n : Fin 16) (w : Fin 64) (f : Win → Win) : (s.modWin n w f).mb = s.mb := rfl

@[simp] theorem modWin_nt (s : State) (n : Fin 16) (w : Fin 64) (f : Win → Win) : (s.modWin n w f).nt = s.nt := rfl

@[simp] theorem modWin_ev (s : State) (n : Fin 16) (w : Fin 64) (f : Win → Win) : (s.modWin n w f).ev = s.ev := rfl

@[simp] theorem modWin_pm (s : State) (n : Fin 16) (w : Fin 64) (f : Win → Win) : (s.modWin n w f).pm = s.pm := rfl

@[simp] theorem modWin_ca (s : State) (n : Fin 16) (w : Fin 64) (f : Win → Win) : (s.modWin n w f).ca = s.ca := rfl

@[simp] theorem modWin_sp (s : State) (n : Fin 16) (w : Fin 64) (f : Win → Win) : (s.modWin n w f).sp = s.sp := rfl

@[simp] theorem modWin_lo (s : State) (n : Fin 16) (w : Fin 64) (f : Win → Win) : (s.modWin n w f).lo = s.lo := rfl

@[simp] theorem modWin_bt (s : State) (n : Fin 16) (w : Fin 64) (f : Win → Win) : (s.modWin n w f).bt = s.bt := rfl

/-! ### modCw -/

@[simp] theorem modCw_pending (s : State) (n : Fin 16) (f : Cw → Cw) : (s.modCw n f).pending = s.pending := rfl

@[simp] theorem modCw_held (s : State) (n : Fin 16) (f : Cw → Cw) : (s.modCw n f).held = s.held := rfl

@[simp] theorem modCw_now (s : State) (n : Fin 16) (f : Cw → Cw) : (s.modCw n f).now = s.now := rfl

@[simp] theorem modCw_freeIx (s : State) (n : Fin 16) (f : Cw → Cw) : (s.modCw n f).freeIx = s.freeIx := rfl

@[simp] theorem modCw_nextId (s : State) (n : Fin 16) (f : Cw → Cw) : (s.modCw n f).nextId = s.nextId := rfl

@[simp] theorem modCw_out (s : State) (n : Fin 16) (f : Cw → Cw) : (s.modCw n f).out = s.out := rfl

@[simp] theorem modCw_hw (s : State) (n : Fin 16) (f : Cw → Cw) : (s.modCw n f).hw = s.hw := rfl

@[simp] theorem modCw_pw (s : State) (n : Fin 16) (f : Cw → Cw) : (s.modCw n f).pw = s.pw := rfl

@[simp] theorem modCw_kp (s : State) (n : Fin 16) (f : Cw → Cw) : (s.modCw n f).kp = s.kp := rfl

@[simp] theorem modCw_sec (s : State) (n : Fin 16) (f : Cw → Cw) : (s.modCw n f).sec = s.sec := rfl

@[simp] theorem modCw_th (s : State) (n : Fin 16) (f : Cw → Cw) : (s.modCw n f).th = s.th := rfl

@[simp] theorem modCw_md (s : State) (n : Fin 16) (f : Cw → Cw) : (s.modCw n f).md = s.md := rfl

@[simp] theorem modCw_lk (s : State) (n : Fin 16) (f : Cw → Cw) : (s.modCw n f).lk = s.lk := rfl

@[simp] theorem modCw_wp (s : State) (n : Fin 16) (f : Cw → Cw) : (s.modCw n f).wp = s.wp := rfl

@[simp] theorem modCw_rp (s : State) (n : Fin 16) (f : Cw → Cw) : (s.modCw n f).rp = s.rp := rfl

@[simp] theorem modCw_fo (s : State) (n : Fin 16) (f : Cw → Cw) : (s.modCw n f).fo = s.fo := rfl

@[simp] theorem modCw_dr (s : State) (n : Fin 16) (f : Cw → Cw) : (s.modCw n f).dr = s.dr := rfl

@[simp] theorem modCw_cr (s : State) (n : Fin 16) (f : Cw → Cw) : (s.modCw n f).cr = s.cr := rfl

@[simp] theorem modCw_rd (s : State) (n : Fin 16) (f : Cw → Cw) : (s.modCw n f).rd = s.rd := rfl

@[simp] theorem modCw_mb (s : State) (n : Fin 16) (f : Cw → Cw) : (s.modCw n f).mb = s.mb := rfl

@[simp] theorem modCw_nt (s : State) (n : Fin 16) (f : Cw → Cw) : (s.modCw n f).nt = s.nt := rfl

@[simp] theorem modCw_ev (s : State) (n : Fin 16) (f : Cw → Cw) : (s.modCw n f).ev = s.ev := rfl

@[simp] theorem modCw_pm (s : State) (n : Fin 16) (f : Cw → Cw) : (s.modCw n f).pm = s.pm := rfl

@[simp] theorem modCw_ca (s : State) (n : Fin 16) (f : Cw → Cw) : (s.modCw n f).ca = s.ca := rfl

@[simp] theorem modCw_sp (s : State) (n : Fin 16) (f : Cw → Cw) : (s.modCw n f).sp = s.sp := rfl

@[simp] theorem modCw_lo (s : State) (n : Fin 16) (f : Cw → Cw) : (s.modCw n f).lo = s.lo := rfl

@[simp] theorem modCw_bt (s : State) (n : Fin 16) (f : Cw → Cw) : (s.modCw n f).bt = s.bt := rfl

/-! ### modScrub -/

@[simp] theorem modScrub_pending (s : State) (n : Fin 16) (f : Scrub → Scrub) : (s.modScrub n f).pending = s.pending := rfl

@[simp] theorem modScrub_held (s : State) (n : Fin 16) (f : Scrub → Scrub) : (s.modScrub n f).held = s.held := rfl

@[simp] theorem modScrub_now (s : State) (n : Fin 16) (f : Scrub → Scrub) : (s.modScrub n f).now = s.now := rfl

@[simp] theorem modScrub_freeIx (s : State) (n : Fin 16) (f : Scrub → Scrub) : (s.modScrub n f).freeIx = s.freeIx := rfl

@[simp] theorem modScrub_nextId (s : State) (n : Fin 16) (f : Scrub → Scrub) : (s.modScrub n f).nextId = s.nextId := rfl

@[simp] theorem modScrub_out (s : State) (n : Fin 16) (f : Scrub → Scrub) : (s.modScrub n f).out = s.out := rfl

@[simp] theorem modScrub_hw (s : State) (n : Fin 16) (f : Scrub → Scrub) : (s.modScrub n f).hw = s.hw := rfl

@[simp] theorem modScrub_pw (s : State) (n : Fin 16) (f : Scrub → Scrub) : (s.modScrub n f).pw = s.pw := rfl

@[simp] theorem modScrub_kp (s : State) (n : Fin 16) (f : Scrub → Scrub) : (s.modScrub n f).kp = s.kp := rfl

@[simp] theorem modScrub_sec (s : State) (n : Fin 16) (f : Scrub → Scrub) : (s.modScrub n f).sec = s.sec := rfl

@[simp] theorem modScrub_th (s : State) (n : Fin 16) (f : Scrub → Scrub) : (s.modScrub n f).th = s.th := rfl

@[simp] theorem modScrub_md (s : State) (n : Fin 16) (f : Scrub → Scrub) : (s.modScrub n f).md = s.md := rfl

@[simp] theorem modScrub_lk (s : State) (n : Fin 16) (f : Scrub → Scrub) : (s.modScrub n f).lk = s.lk := rfl

@[simp] theorem modScrub_wp (s : State) (n : Fin 16) (f : Scrub → Scrub) : (s.modScrub n f).wp = s.wp := rfl

@[simp] theorem modScrub_rp (s : State) (n : Fin 16) (f : Scrub → Scrub) : (s.modScrub n f).rp = s.rp := rfl

@[simp] theorem modScrub_fo (s : State) (n : Fin 16) (f : Scrub → Scrub) : (s.modScrub n f).fo = s.fo := rfl

@[simp] theorem modScrub_dr (s : State) (n : Fin 16) (f : Scrub → Scrub) : (s.modScrub n f).dr = s.dr := rfl

@[simp] theorem modScrub_cr (s : State) (n : Fin 16) (f : Scrub → Scrub) : (s.modScrub n f).cr = s.cr := rfl

@[simp] theorem modScrub_rd (s : State) (n : Fin 16) (f : Scrub → Scrub) : (s.modScrub n f).rd = s.rd := rfl

@[simp] theorem modScrub_mb (s : State) (n : Fin 16) (f : Scrub → Scrub) : (s.modScrub n f).mb = s.mb := rfl

@[simp] theorem modScrub_nt (s : State) (n : Fin 16) (f : Scrub → Scrub) : (s.modScrub n f).nt = s.nt := rfl

@[simp] theorem modScrub_ev (s : State) (n : Fin 16) (f : Scrub → Scrub) : (s.modScrub n f).ev = s.ev := rfl

@[simp] theorem modScrub_pm (s : State) (n : Fin 16) (f : Scrub → Scrub) : (s.modScrub n f).pm = s.pm := rfl

@[simp] theorem modScrub_ca (s : State) (n : Fin 16) (f : Scrub → Scrub) : (s.modScrub n f).ca = s.ca := rfl

@[simp] theorem modScrub_sp (s : State) (n : Fin 16) (f : Scrub → Scrub) : (s.modScrub n f).sp = s.sp := rfl

@[simp] theorem modScrub_lo (s : State) (n : Fin 16) (f : Scrub → Scrub) : (s.modScrub n f).lo = s.lo := rfl

@[simp] theorem modScrub_bt (s : State) (n : Fin 16) (f : Scrub → Scrub) : (s.modScrub n f).bt = s.bt := rfl

/-! ### modPort -/

@[simp] theorem modPort_pending (s : State) (p : Fin 2) (f : Port → Port) : (s.modPort p f).pending = s.pending := rfl

@[simp] theorem modPort_held (s : State) (p : Fin 2) (f : Port → Port) : (s.modPort p f).held = s.held := rfl

@[simp] theorem modPort_now (s : State) (p : Fin 2) (f : Port → Port) : (s.modPort p f).now = s.now := rfl

@[simp] theorem modPort_freeIx (s : State) (p : Fin 2) (f : Port → Port) : (s.modPort p f).freeIx = s.freeIx := rfl

@[simp] theorem modPort_nextId (s : State) (p : Fin 2) (f : Port → Port) : (s.modPort p f).nextId = s.nextId := rfl

@[simp] theorem modPort_out (s : State) (p : Fin 2) (f : Port → Port) : (s.modPort p f).out = s.out := rfl

@[simp] theorem modPort_hw (s : State) (p : Fin 2) (f : Port → Port) : (s.modPort p f).hw = s.hw := rfl

@[simp] theorem modPort_pw (s : State) (p : Fin 2) (f : Port → Port) : (s.modPort p f).pw = s.pw := rfl

@[simp] theorem modPort_kp (s : State) (p : Fin 2) (f : Port → Port) : (s.modPort p f).kp = s.kp := rfl

@[simp] theorem modPort_sec (s : State) (p : Fin 2) (f : Port → Port) : (s.modPort p f).sec = s.sec := rfl

@[simp] theorem modPort_th (s : State) (p : Fin 2) (f : Port → Port) : (s.modPort p f).th = s.th := rfl

@[simp] theorem modPort_md (s : State) (p : Fin 2) (f : Port → Port) : (s.modPort p f).md = s.md := rfl

@[simp] theorem modPort_lds (s : State) (p : Fin 2) (f : Port → Port) : (s.modPort p f).lds = s.lds := rfl

@[simp] theorem modPort_wp (s : State) (p : Fin 2) (f : Port → Port) : (s.modPort p f).wp = s.wp := rfl

@[simp] theorem modPort_rp (s : State) (p : Fin 2) (f : Port → Port) : (s.modPort p f).rp = s.rp := rfl

@[simp] theorem modPort_fo (s : State) (p : Fin 2) (f : Port → Port) : (s.modPort p f).fo = s.fo := rfl

@[simp] theorem modPort_dr (s : State) (p : Fin 2) (f : Port → Port) : (s.modPort p f).dr = s.dr := rfl

@[simp] theorem modPort_cr (s : State) (p : Fin 2) (f : Port → Port) : (s.modPort p f).cr = s.cr := rfl

@[simp] theorem modPort_rd (s : State) (p : Fin 2) (f : Port → Port) : (s.modPort p f).rd = s.rd := rfl

@[simp] theorem modPort_mb (s : State) (p : Fin 2) (f : Port → Port) : (s.modPort p f).mb = s.mb := rfl

@[simp] theorem modPort_nt (s : State) (p : Fin 2) (f : Port → Port) : (s.modPort p f).nt = s.nt := rfl

@[simp] theorem modPort_ev (s : State) (p : Fin 2) (f : Port → Port) : (s.modPort p f).ev = s.ev := rfl

@[simp] theorem modPort_pm (s : State) (p : Fin 2) (f : Port → Port) : (s.modPort p f).pm = s.pm := rfl

@[simp] theorem modPort_ca (s : State) (p : Fin 2) (f : Port → Port) : (s.modPort p f).ca = s.ca := rfl

@[simp] theorem modPort_sp (s : State) (p : Fin 2) (f : Port → Port) : (s.modPort p f).sp = s.sp := rfl

@[simp] theorem modPort_lo (s : State) (p : Fin 2) (f : Port → Port) : (s.modPort p f).lo = s.lo := rfl

@[simp] theorem modPort_bt (s : State) (p : Fin 2) (f : Port → Port) : (s.modPort p f).bt = s.bt := rfl

/-! ### modLode -/

@[simp] theorem modLode_pending (s : State) (p : Fin 4) (f : LodePort → LodePort) : (s.modLode p f).pending = s.pending := rfl

@[simp] theorem modLode_held (s : State) (p : Fin 4) (f : LodePort → LodePort) : (s.modLode p f).held = s.held := rfl

@[simp] theorem modLode_now (s : State) (p : Fin 4) (f : LodePort → LodePort) : (s.modLode p f).now = s.now := rfl

@[simp] theorem modLode_freeIx (s : State) (p : Fin 4) (f : LodePort → LodePort) : (s.modLode p f).freeIx = s.freeIx := rfl

@[simp] theorem modLode_nextId (s : State) (p : Fin 4) (f : LodePort → LodePort) : (s.modLode p f).nextId = s.nextId := rfl

@[simp] theorem modLode_out (s : State) (p : Fin 4) (f : LodePort → LodePort) : (s.modLode p f).out = s.out := rfl

@[simp] theorem modLode_hw (s : State) (p : Fin 4) (f : LodePort → LodePort) : (s.modLode p f).hw = s.hw := rfl

@[simp] theorem modLode_pw (s : State) (p : Fin 4) (f : LodePort → LodePort) : (s.modLode p f).pw = s.pw := rfl

@[simp] theorem modLode_kp (s : State) (p : Fin 4) (f : LodePort → LodePort) : (s.modLode p f).kp = s.kp := rfl

@[simp] theorem modLode_sec (s : State) (p : Fin 4) (f : LodePort → LodePort) : (s.modLode p f).sec = s.sec := rfl

@[simp] theorem modLode_th (s : State) (p : Fin 4) (f : LodePort → LodePort) : (s.modLode p f).th = s.th := rfl

@[simp] theorem modLode_md (s : State) (p : Fin 4) (f : LodePort → LodePort) : (s.modLode p f).md = s.md := rfl

@[simp] theorem modLode_lk (s : State) (p : Fin 4) (f : LodePort → LodePort) : (s.modLode p f).lk = s.lk := rfl

@[simp] theorem modLode_lds (s : State) (p : Fin 4) (f : LodePort → LodePort) : (s.modLode p f).lds = s.lds := rfl

@[simp] theorem modLode_wp (s : State) (p : Fin 4) (f : LodePort → LodePort) : (s.modLode p f).wp = s.wp := rfl

@[simp] theorem modLode_rp (s : State) (p : Fin 4) (f : LodePort → LodePort) : (s.modLode p f).rp = s.rp := rfl

@[simp] theorem modLode_fo (s : State) (p : Fin 4) (f : LodePort → LodePort) : (s.modLode p f).fo = s.fo := rfl

@[simp] theorem modLode_dr (s : State) (p : Fin 4) (f : LodePort → LodePort) : (s.modLode p f).dr = s.dr := rfl

@[simp] theorem modLode_cr (s : State) (p : Fin 4) (f : LodePort → LodePort) : (s.modLode p f).cr = s.cr := rfl

@[simp] theorem modLode_rd (s : State) (p : Fin 4) (f : LodePort → LodePort) : (s.modLode p f).rd = s.rd := rfl

@[simp] theorem modLode_mb (s : State) (p : Fin 4) (f : LodePort → LodePort) : (s.modLode p f).mb = s.mb := rfl

@[simp] theorem modLode_nt (s : State) (p : Fin 4) (f : LodePort → LodePort) : (s.modLode p f).nt = s.nt := rfl

@[simp] theorem modLode_ev (s : State) (p : Fin 4) (f : LodePort → LodePort) : (s.modLode p f).ev = s.ev := rfl

@[simp] theorem modLode_pm (s : State) (p : Fin 4) (f : LodePort → LodePort) : (s.modLode p f).pm = s.pm := rfl

@[simp] theorem modLode_ca (s : State) (p : Fin 4) (f : LodePort → LodePort) : (s.modLode p f).ca = s.ca := rfl

@[simp] theorem modLode_sp (s : State) (p : Fin 4) (f : LodePort → LodePort) : (s.modLode p f).sp = s.sp := rfl

@[simp] theorem modLode_bt (s : State) (p : Fin 4) (f : LodePort → LodePort) : (s.modLode p f).bt = s.bt := rfl

/-! ### modTether -/

@[simp] theorem modTether_pending (s : State) (t : Fin 8) (f : Tether → Tether) : (s.modTether t f).pending = s.pending := rfl

@[simp] theorem modTether_held (s : State) (t : Fin 8) (f : Tether → Tether) : (s.modTether t f).held = s.held := rfl

@[simp] theorem modTether_now (s : State) (t : Fin 8) (f : Tether → Tether) : (s.modTether t f).now = s.now := rfl

@[simp] theorem modTether_freeIx (s : State) (t : Fin 8) (f : Tether → Tether) : (s.modTether t f).freeIx = s.freeIx := rfl

@[simp] theorem modTether_nextId (s : State) (t : Fin 8) (f : Tether → Tether) : (s.modTether t f).nextId = s.nextId := rfl

@[simp] theorem modTether_out (s : State) (t : Fin 8) (f : Tether → Tether) : (s.modTether t f).out = s.out := rfl

@[simp] theorem modTether_hw (s : State) (t : Fin 8) (f : Tether → Tether) : (s.modTether t f).hw = s.hw := rfl

@[simp] theorem modTether_pw (s : State) (t : Fin 8) (f : Tether → Tether) : (s.modTether t f).pw = s.pw := rfl

@[simp] theorem modTether_kp (s : State) (t : Fin 8) (f : Tether → Tether) : (s.modTether t f).kp = s.kp := rfl

@[simp] theorem modTether_sec (s : State) (t : Fin 8) (f : Tether → Tether) : (s.modTether t f).sec = s.sec := rfl

@[simp] theorem modTether_th (s : State) (t : Fin 8) (f : Tether → Tether) : (s.modTether t f).th = s.th := rfl

@[simp] theorem modTether_md (s : State) (t : Fin 8) (f : Tether → Tether) : (s.modTether t f).md = s.md := rfl

@[simp] theorem modTether_lk (s : State) (t : Fin 8) (f : Tether → Tether) : (s.modTether t f).lk = s.lk := rfl

@[simp] theorem modTether_lds (s : State) (t : Fin 8) (f : Tether → Tether) : (s.modTether t f).lds = s.lds := rfl

@[simp] theorem modTether_wp (s : State) (t : Fin 8) (f : Tether → Tether) : (s.modTether t f).wp = s.wp := rfl

@[simp] theorem modTether_rp (s : State) (t : Fin 8) (f : Tether → Tether) : (s.modTether t f).rp = s.rp := rfl

@[simp] theorem modTether_fo (s : State) (t : Fin 8) (f : Tether → Tether) : (s.modTether t f).fo = s.fo := rfl

@[simp] theorem modTether_dr (s : State) (t : Fin 8) (f : Tether → Tether) : (s.modTether t f).dr = s.dr := rfl

@[simp] theorem modTether_cr (s : State) (t : Fin 8) (f : Tether → Tether) : (s.modTether t f).cr = s.cr := rfl

@[simp] theorem modTether_rd (s : State) (t : Fin 8) (f : Tether → Tether) : (s.modTether t f).rd = s.rd := rfl

@[simp] theorem modTether_mb (s : State) (t : Fin 8) (f : Tether → Tether) : (s.modTether t f).mb = s.mb := rfl

@[simp] theorem modTether_nt (s : State) (t : Fin 8) (f : Tether → Tether) : (s.modTether t f).nt = s.nt := rfl

@[simp] theorem modTether_ev (s : State) (t : Fin 8) (f : Tether → Tether) : (s.modTether t f).ev = s.ev := rfl

@[simp] theorem modTether_pm (s : State) (t : Fin 8) (f : Tether → Tether) : (s.modTether t f).pm = s.pm := rfl

@[simp] theorem modTether_ca (s : State) (t : Fin 8) (f : Tether → Tether) : (s.modTether t f).ca = s.ca := rfl

@[simp] theorem modTether_sp (s : State) (t : Fin 8) (f : Tether → Tether) : (s.modTether t f).sp = s.sp := rfl

@[simp] theorem modTether_bt (s : State) (t : Fin 8) (f : Tether → Tether) : (s.modTether t f).bt = s.bt := rfl

/-! ### modRegion -/

@[simp] theorem modRegion_pending (s : State) (r : Fin 256) (f : Region → Region) : (s.modRegion r f).pending = s.pending := rfl

@[simp] theorem modRegion_held (s : State) (r : Fin 256) (f : Region → Region) : (s.modRegion r f).held = s.held := rfl

@[simp] theorem modRegion_now (s : State) (r : Fin 256) (f : Region → Region) : (s.modRegion r f).now = s.now := rfl

@[simp] theorem modRegion_freeIx (s : State) (r : Fin 256) (f : Region → Region) : (s.modRegion r f).freeIx = s.freeIx := rfl

@[simp] theorem modRegion_nextId (s : State) (r : Fin 256) (f : Region → Region) : (s.modRegion r f).nextId = s.nextId := rfl

@[simp] theorem modRegion_out (s : State) (r : Fin 256) (f : Region → Region) : (s.modRegion r f).out = s.out := rfl

@[simp] theorem modRegion_hw (s : State) (r : Fin 256) (f : Region → Region) : (s.modRegion r f).hw = s.hw := rfl

@[simp] theorem modRegion_pw (s : State) (r : Fin 256) (f : Region → Region) : (s.modRegion r f).pw = s.pw := rfl

@[simp] theorem modRegion_kp (s : State) (r : Fin 256) (f : Region → Region) : (s.modRegion r f).kp = s.kp := rfl

@[simp] theorem modRegion_sec (s : State) (r : Fin 256) (f : Region → Region) : (s.modRegion r f).sec = s.sec := rfl

@[simp] theorem modRegion_th (s : State) (r : Fin 256) (f : Region → Region) : (s.modRegion r f).th = s.th := rfl

@[simp] theorem modRegion_md (s : State) (r : Fin 256) (f : Region → Region) : (s.modRegion r f).md = s.md := rfl

@[simp] theorem modRegion_lk (s : State) (r : Fin 256) (f : Region → Region) : (s.modRegion r f).lk = s.lk := rfl

@[simp] theorem modRegion_lds (s : State) (r : Fin 256) (f : Region → Region) : (s.modRegion r f).lds = s.lds := rfl

@[simp] theorem modRegion_wp (s : State) (r : Fin 256) (f : Region → Region) : (s.modRegion r f).wp = s.wp := rfl

@[simp] theorem modRegion_rp (s : State) (r : Fin 256) (f : Region → Region) : (s.modRegion r f).rp = s.rp := rfl

@[simp] theorem modRegion_fo (s : State) (r : Fin 256) (f : Region → Region) : (s.modRegion r f).fo = s.fo := rfl

@[simp] theorem modRegion_dr (s : State) (r : Fin 256) (f : Region → Region) : (s.modRegion r f).dr = s.dr := rfl

@[simp] theorem modRegion_rd (s : State) (r : Fin 256) (f : Region → Region) : (s.modRegion r f).rd = s.rd := rfl

@[simp] theorem modRegion_mb (s : State) (r : Fin 256) (f : Region → Region) : (s.modRegion r f).mb = s.mb := rfl

@[simp] theorem modRegion_nt (s : State) (r : Fin 256) (f : Region → Region) : (s.modRegion r f).nt = s.nt := rfl

@[simp] theorem modRegion_ev (s : State) (r : Fin 256) (f : Region → Region) : (s.modRegion r f).ev = s.ev := rfl

@[simp] theorem modRegion_pm (s : State) (r : Fin 256) (f : Region → Region) : (s.modRegion r f).pm = s.pm := rfl

@[simp] theorem modRegion_ca (s : State) (r : Fin 256) (f : Region → Region) : (s.modRegion r f).ca = s.ca := rfl

@[simp] theorem modRegion_sp (s : State) (r : Fin 256) (f : Region → Region) : (s.modRegion r f).sp = s.sp := rfl

@[simp] theorem modRegion_lo (s : State) (r : Fin 256) (f : Region → Region) : (s.modRegion r f).lo = s.lo := rfl

@[simp] theorem modRegion_bt (s : State) (r : Fin 256) (f : Region → Region) : (s.modRegion r f).bt = s.bt := rfl

/-! ### modSet -/

@[simp] theorem modSet_pending (s : State) (k : Fin 4) (f : StripeSet → StripeSet) : (s.modSet k f).pending = s.pending := rfl

@[simp] theorem modSet_held (s : State) (k : Fin 4) (f : StripeSet → StripeSet) : (s.modSet k f).held = s.held := rfl

@[simp] theorem modSet_now (s : State) (k : Fin 4) (f : StripeSet → StripeSet) : (s.modSet k f).now = s.now := rfl

@[simp] theorem modSet_freeIx (s : State) (k : Fin 4) (f : StripeSet → StripeSet) : (s.modSet k f).freeIx = s.freeIx := rfl

@[simp] theorem modSet_nextId (s : State) (k : Fin 4) (f : StripeSet → StripeSet) : (s.modSet k f).nextId = s.nextId := rfl

@[simp] theorem modSet_out (s : State) (k : Fin 4) (f : StripeSet → StripeSet) : (s.modSet k f).out = s.out := rfl

@[simp] theorem modSet_hw (s : State) (k : Fin 4) (f : StripeSet → StripeSet) : (s.modSet k f).hw = s.hw := rfl

@[simp] theorem modSet_pw (s : State) (k : Fin 4) (f : StripeSet → StripeSet) : (s.modSet k f).pw = s.pw := rfl

@[simp] theorem modSet_kp (s : State) (k : Fin 4) (f : StripeSet → StripeSet) : (s.modSet k f).kp = s.kp := rfl

@[simp] theorem modSet_sec (s : State) (k : Fin 4) (f : StripeSet → StripeSet) : (s.modSet k f).sec = s.sec := rfl

@[simp] theorem modSet_th (s : State) (k : Fin 4) (f : StripeSet → StripeSet) : (s.modSet k f).th = s.th := rfl

@[simp] theorem modSet_md (s : State) (k : Fin 4) (f : StripeSet → StripeSet) : (s.modSet k f).md = s.md := rfl

@[simp] theorem modSet_lk (s : State) (k : Fin 4) (f : StripeSet → StripeSet) : (s.modSet k f).lk = s.lk := rfl

@[simp] theorem modSet_lds (s : State) (k : Fin 4) (f : StripeSet → StripeSet) : (s.modSet k f).lds = s.lds := rfl

@[simp] theorem modSet_wp (s : State) (k : Fin 4) (f : StripeSet → StripeSet) : (s.modSet k f).wp = s.wp := rfl

@[simp] theorem modSet_rp (s : State) (k : Fin 4) (f : StripeSet → StripeSet) : (s.modSet k f).rp = s.rp := rfl

@[simp] theorem modSet_fo (s : State) (k : Fin 4) (f : StripeSet → StripeSet) : (s.modSet k f).fo = s.fo := rfl

@[simp] theorem modSet_dr (s : State) (k : Fin 4) (f : StripeSet → StripeSet) : (s.modSet k f).dr = s.dr := rfl

@[simp] theorem modSet_cr (s : State) (k : Fin 4) (f : StripeSet → StripeSet) : (s.modSet k f).cr = s.cr := rfl

@[simp] theorem modSet_mb (s : State) (k : Fin 4) (f : StripeSet → StripeSet) : (s.modSet k f).mb = s.mb := rfl

@[simp] theorem modSet_nt (s : State) (k : Fin 4) (f : StripeSet → StripeSet) : (s.modSet k f).nt = s.nt := rfl

@[simp] theorem modSet_ev (s : State) (k : Fin 4) (f : StripeSet → StripeSet) : (s.modSet k f).ev = s.ev := rfl

@[simp] theorem modSet_pm (s : State) (k : Fin 4) (f : StripeSet → StripeSet) : (s.modSet k f).pm = s.pm := rfl

@[simp] theorem modSet_ca (s : State) (k : Fin 4) (f : StripeSet → StripeSet) : (s.modSet k f).ca = s.ca := rfl

@[simp] theorem modSet_sp (s : State) (k : Fin 4) (f : StripeSet → StripeSet) : (s.modSet k f).sp = s.sp := rfl

@[simp] theorem modSet_lo (s : State) (k : Fin 4) (f : StripeSet → StripeSet) : (s.modSet k f).lo = s.lo := rfl

@[simp] theorem modSet_bt (s : State) (k : Fin 4) (f : StripeSet → StripeSet) : (s.modSet k f).bt = s.bt := rfl

/-! ### modSrc -/

@[simp] theorem modSrc_pending (s : State) (n : Fin 256) (f : Source → Source) : (s.modSrc n f).pending = s.pending := rfl

@[simp] theorem modSrc_held (s : State) (n : Fin 256) (f : Source → Source) : (s.modSrc n f).held = s.held := rfl

@[simp] theorem modSrc_now (s : State) (n : Fin 256) (f : Source → Source) : (s.modSrc n f).now = s.now := rfl

@[simp] theorem modSrc_freeIx (s : State) (n : Fin 256) (f : Source → Source) : (s.modSrc n f).freeIx = s.freeIx := rfl

@[simp] theorem modSrc_nextId (s : State) (n : Fin 256) (f : Source → Source) : (s.modSrc n f).nextId = s.nextId := rfl

@[simp] theorem modSrc_out (s : State) (n : Fin 256) (f : Source → Source) : (s.modSrc n f).out = s.out := rfl

@[simp] theorem modSrc_hw (s : State) (n : Fin 256) (f : Source → Source) : (s.modSrc n f).hw = s.hw := rfl

@[simp] theorem modSrc_pw (s : State) (n : Fin 256) (f : Source → Source) : (s.modSrc n f).pw = s.pw := rfl

@[simp] theorem modSrc_kp (s : State) (n : Fin 256) (f : Source → Source) : (s.modSrc n f).kp = s.kp := rfl

@[simp] theorem modSrc_sec (s : State) (n : Fin 256) (f : Source → Source) : (s.modSrc n f).sec = s.sec := rfl

@[simp] theorem modSrc_th (s : State) (n : Fin 256) (f : Source → Source) : (s.modSrc n f).th = s.th := rfl

@[simp] theorem modSrc_md (s : State) (n : Fin 256) (f : Source → Source) : (s.modSrc n f).md = s.md := rfl

@[simp] theorem modSrc_lk (s : State) (n : Fin 256) (f : Source → Source) : (s.modSrc n f).lk = s.lk := rfl

@[simp] theorem modSrc_lds (s : State) (n : Fin 256) (f : Source → Source) : (s.modSrc n f).lds = s.lds := rfl

@[simp] theorem modSrc_wp (s : State) (n : Fin 256) (f : Source → Source) : (s.modSrc n f).wp = s.wp := rfl

@[simp] theorem modSrc_rp (s : State) (n : Fin 256) (f : Source → Source) : (s.modSrc n f).rp = s.rp := rfl

@[simp] theorem modSrc_fo (s : State) (n : Fin 256) (f : Source → Source) : (s.modSrc n f).fo = s.fo := rfl

@[simp] theorem modSrc_dr (s : State) (n : Fin 256) (f : Source → Source) : (s.modSrc n f).dr = s.dr := rfl

@[simp] theorem modSrc_cr (s : State) (n : Fin 256) (f : Source → Source) : (s.modSrc n f).cr = s.cr := rfl

@[simp] theorem modSrc_rd (s : State) (n : Fin 256) (f : Source → Source) : (s.modSrc n f).rd = s.rd := rfl

@[simp] theorem modSrc_mb (s : State) (n : Fin 256) (f : Source → Source) : (s.modSrc n f).mb = s.mb := rfl

@[simp] theorem modSrc_ev (s : State) (n : Fin 256) (f : Source → Source) : (s.modSrc n f).ev = s.ev := rfl

@[simp] theorem modSrc_pm (s : State) (n : Fin 256) (f : Source → Source) : (s.modSrc n f).pm = s.pm := rfl

@[simp] theorem modSrc_ca (s : State) (n : Fin 256) (f : Source → Source) : (s.modSrc n f).ca = s.ca := rfl

@[simp] theorem modSrc_sp (s : State) (n : Fin 256) (f : Source → Source) : (s.modSrc n f).sp = s.sp := rfl

@[simp] theorem modSrc_lo (s : State) (n : Fin 256) (f : Source → Source) : (s.modSrc n f).lo = s.lo := rfl

@[simp] theorem modSrc_bt (s : State) (n : Fin 256) (f : Source → Source) : (s.modSrc n f).bt = s.bt := rfl

/-! ### modCl -/

@[simp] theorem modCl_pending (s : State) (c : Fin 17) (f : Claimant → Claimant) : (s.modCl c f).pending = s.pending := rfl

@[simp] theorem modCl_held (s : State) (c : Fin 17) (f : Claimant → Claimant) : (s.modCl c f).held = s.held := rfl

@[simp] theorem modCl_now (s : State) (c : Fin 17) (f : Claimant → Claimant) : (s.modCl c f).now = s.now := rfl

@[simp] theorem modCl_freeIx (s : State) (c : Fin 17) (f : Claimant → Claimant) : (s.modCl c f).freeIx = s.freeIx := rfl

@[simp] theorem modCl_nextId (s : State) (c : Fin 17) (f : Claimant → Claimant) : (s.modCl c f).nextId = s.nextId := rfl

@[simp] theorem modCl_out (s : State) (c : Fin 17) (f : Claimant → Claimant) : (s.modCl c f).out = s.out := rfl

@[simp] theorem modCl_hw (s : State) (c : Fin 17) (f : Claimant → Claimant) : (s.modCl c f).hw = s.hw := rfl

@[simp] theorem modCl_pw (s : State) (c : Fin 17) (f : Claimant → Claimant) : (s.modCl c f).pw = s.pw := rfl

@[simp] theorem modCl_kp (s : State) (c : Fin 17) (f : Claimant → Claimant) : (s.modCl c f).kp = s.kp := rfl

@[simp] theorem modCl_sec (s : State) (c : Fin 17) (f : Claimant → Claimant) : (s.modCl c f).sec = s.sec := rfl

@[simp] theorem modCl_th (s : State) (c : Fin 17) (f : Claimant → Claimant) : (s.modCl c f).th = s.th := rfl

@[simp] theorem modCl_md (s : State) (c : Fin 17) (f : Claimant → Claimant) : (s.modCl c f).md = s.md := rfl

@[simp] theorem modCl_lk (s : State) (c : Fin 17) (f : Claimant → Claimant) : (s.modCl c f).lk = s.lk := rfl

@[simp] theorem modCl_lds (s : State) (c : Fin 17) (f : Claimant → Claimant) : (s.modCl c f).lds = s.lds := rfl

@[simp] theorem modCl_wp (s : State) (c : Fin 17) (f : Claimant → Claimant) : (s.modCl c f).wp = s.wp := rfl

@[simp] theorem modCl_rp (s : State) (c : Fin 17) (f : Claimant → Claimant) : (s.modCl c f).rp = s.rp := rfl

@[simp] theorem modCl_fo (s : State) (c : Fin 17) (f : Claimant → Claimant) : (s.modCl c f).fo = s.fo := rfl

@[simp] theorem modCl_dr (s : State) (c : Fin 17) (f : Claimant → Claimant) : (s.modCl c f).dr = s.dr := rfl

@[simp] theorem modCl_cr (s : State) (c : Fin 17) (f : Claimant → Claimant) : (s.modCl c f).cr = s.cr := rfl

@[simp] theorem modCl_rd (s : State) (c : Fin 17) (f : Claimant → Claimant) : (s.modCl c f).rd = s.rd := rfl

@[simp] theorem modCl_mb (s : State) (c : Fin 17) (f : Claimant → Claimant) : (s.modCl c f).mb = s.mb := rfl

@[simp] theorem modCl_ev (s : State) (c : Fin 17) (f : Claimant → Claimant) : (s.modCl c f).ev = s.ev := rfl

@[simp] theorem modCl_pm (s : State) (c : Fin 17) (f : Claimant → Claimant) : (s.modCl c f).pm = s.pm := rfl

@[simp] theorem modCl_ca (s : State) (c : Fin 17) (f : Claimant → Claimant) : (s.modCl c f).ca = s.ca := rfl

@[simp] theorem modCl_sp (s : State) (c : Fin 17) (f : Claimant → Claimant) : (s.modCl c f).sp = s.sp := rfl

@[simp] theorem modCl_lo (s : State) (c : Fin 17) (f : Claimant → Claimant) : (s.modCl c f).lo = s.lo := rfl

@[simp] theorem modCl_bt (s : State) (c : Fin 17) (f : Claimant → Claimant) : (s.modCl c f).bt = s.bt := rfl

/-! ### modBank -/

@[simp] theorem modBank_pending (s : State) (b : Fin 17) (f : Mem → Mem) : (s.modBank b f).pending = s.pending := rfl

@[simp] theorem modBank_held (s : State) (b : Fin 17) (f : Mem → Mem) : (s.modBank b f).held = s.held := rfl

@[simp] theorem modBank_now (s : State) (b : Fin 17) (f : Mem → Mem) : (s.modBank b f).now = s.now := rfl

@[simp] theorem modBank_freeIx (s : State) (b : Fin 17) (f : Mem → Mem) : (s.modBank b f).freeIx = s.freeIx := rfl

@[simp] theorem modBank_nextId (s : State) (b : Fin 17) (f : Mem → Mem) : (s.modBank b f).nextId = s.nextId := rfl

@[simp] theorem modBank_out (s : State) (b : Fin 17) (f : Mem → Mem) : (s.modBank b f).out = s.out := rfl

@[simp] theorem modBank_hw (s : State) (b : Fin 17) (f : Mem → Mem) : (s.modBank b f).hw = s.hw := rfl

@[simp] theorem modBank_pw (s : State) (b : Fin 17) (f : Mem → Mem) : (s.modBank b f).pw = s.pw := rfl

@[simp] theorem modBank_kp (s : State) (b : Fin 17) (f : Mem → Mem) : (s.modBank b f).kp = s.kp := rfl

@[simp] theorem modBank_sec (s : State) (b : Fin 17) (f : Mem → Mem) : (s.modBank b f).sec = s.sec := rfl

@[simp] theorem modBank_th (s : State) (b : Fin 17) (f : Mem → Mem) : (s.modBank b f).th = s.th := rfl

@[simp] theorem modBank_md (s : State) (b : Fin 17) (f : Mem → Mem) : (s.modBank b f).md = s.md := rfl

@[simp] theorem modBank_lk (s : State) (b : Fin 17) (f : Mem → Mem) : (s.modBank b f).lk = s.lk := rfl

@[simp] theorem modBank_lds (s : State) (b : Fin 17) (f : Mem → Mem) : (s.modBank b f).lds = s.lds := rfl

@[simp] theorem modBank_wp (s : State) (b : Fin 17) (f : Mem → Mem) : (s.modBank b f).wp = s.wp := rfl

@[simp] theorem modBank_rp (s : State) (b : Fin 17) (f : Mem → Mem) : (s.modBank b f).rp = s.rp := rfl

@[simp] theorem modBank_fo (s : State) (b : Fin 17) (f : Mem → Mem) : (s.modBank b f).fo = s.fo := rfl

@[simp] theorem modBank_dr (s : State) (b : Fin 17) (f : Mem → Mem) : (s.modBank b f).dr = s.dr := rfl

@[simp] theorem modBank_cr (s : State) (b : Fin 17) (f : Mem → Mem) : (s.modBank b f).cr = s.cr := rfl

@[simp] theorem modBank_rd (s : State) (b : Fin 17) (f : Mem → Mem) : (s.modBank b f).rd = s.rd := rfl

@[simp] theorem modBank_mb (s : State) (b : Fin 17) (f : Mem → Mem) : (s.modBank b f).mb = s.mb := rfl

@[simp] theorem modBank_nt (s : State) (b : Fin 17) (f : Mem → Mem) : (s.modBank b f).nt = s.nt := rfl

@[simp] theorem modBank_ev (s : State) (b : Fin 17) (f : Mem → Mem) : (s.modBank b f).ev = s.ev := rfl

@[simp] theorem modBank_pm (s : State) (b : Fin 17) (f : Mem → Mem) : (s.modBank b f).pm = s.pm := rfl

@[simp] theorem modBank_ca (s : State) (b : Fin 17) (f : Mem → Mem) : (s.modBank b f).ca = s.ca := rfl

@[simp] theorem modBank_lo (s : State) (b : Fin 17) (f : Mem → Mem) : (s.modBank b f).lo = s.lo := rfl

@[simp] theorem modBank_bt (s : State) (b : Fin 17) (f : Mem → Mem) : (s.modBank b f).bt = s.bt := rfl

/-! ### modMb -/

@[simp] theorem modMb_pending (s : State) (i : Inst) (f : Mailbox → Mailbox) : (s.modMb i f).pending = s.pending := rfl

@[simp] theorem modMb_held (s : State) (i : Inst) (f : Mailbox → Mailbox) : (s.modMb i f).held = s.held := rfl

@[simp] theorem modMb_now (s : State) (i : Inst) (f : Mailbox → Mailbox) : (s.modMb i f).now = s.now := rfl

@[simp] theorem modMb_freeIx (s : State) (i : Inst) (f : Mailbox → Mailbox) : (s.modMb i f).freeIx = s.freeIx := rfl

@[simp] theorem modMb_nextId (s : State) (i : Inst) (f : Mailbox → Mailbox) : (s.modMb i f).nextId = s.nextId := rfl

@[simp] theorem modMb_out (s : State) (i : Inst) (f : Mailbox → Mailbox) : (s.modMb i f).out = s.out := rfl

@[simp] theorem modMb_hw (s : State) (i : Inst) (f : Mailbox → Mailbox) : (s.modMb i f).hw = s.hw := rfl

@[simp] theorem modMb_pw (s : State) (i : Inst) (f : Mailbox → Mailbox) : (s.modMb i f).pw = s.pw := rfl

@[simp] theorem modMb_kp (s : State) (i : Inst) (f : Mailbox → Mailbox) : (s.modMb i f).kp = s.kp := rfl

@[simp] theorem modMb_sec (s : State) (i : Inst) (f : Mailbox → Mailbox) : (s.modMb i f).sec = s.sec := rfl

@[simp] theorem modMb_th (s : State) (i : Inst) (f : Mailbox → Mailbox) : (s.modMb i f).th = s.th := rfl

@[simp] theorem modMb_md (s : State) (i : Inst) (f : Mailbox → Mailbox) : (s.modMb i f).md = s.md := rfl

@[simp] theorem modMb_lk (s : State) (i : Inst) (f : Mailbox → Mailbox) : (s.modMb i f).lk = s.lk := rfl

@[simp] theorem modMb_lds (s : State) (i : Inst) (f : Mailbox → Mailbox) : (s.modMb i f).lds = s.lds := rfl

@[simp] theorem modMb_wp (s : State) (i : Inst) (f : Mailbox → Mailbox) : (s.modMb i f).wp = s.wp := rfl

@[simp] theorem modMb_rp (s : State) (i : Inst) (f : Mailbox → Mailbox) : (s.modMb i f).rp = s.rp := rfl

@[simp] theorem modMb_fo (s : State) (i : Inst) (f : Mailbox → Mailbox) : (s.modMb i f).fo = s.fo := rfl

@[simp] theorem modMb_dr (s : State) (i : Inst) (f : Mailbox → Mailbox) : (s.modMb i f).dr = s.dr := rfl

@[simp] theorem modMb_cr (s : State) (i : Inst) (f : Mailbox → Mailbox) : (s.modMb i f).cr = s.cr := rfl

@[simp] theorem modMb_rd (s : State) (i : Inst) (f : Mailbox → Mailbox) : (s.modMb i f).rd = s.rd := rfl

@[simp] theorem modMb_nt (s : State) (i : Inst) (f : Mailbox → Mailbox) : (s.modMb i f).nt = s.nt := rfl

@[simp] theorem modMb_ev (s : State) (i : Inst) (f : Mailbox → Mailbox) : (s.modMb i f).ev = s.ev := rfl

@[simp] theorem modMb_pm (s : State) (i : Inst) (f : Mailbox → Mailbox) : (s.modMb i f).pm = s.pm := rfl

@[simp] theorem modMb_ca (s : State) (i : Inst) (f : Mailbox → Mailbox) : (s.modMb i f).ca = s.ca := rfl

@[simp] theorem modMb_sp (s : State) (i : Inst) (f : Mailbox → Mailbox) : (s.modMb i f).sp = s.sp := rfl

@[simp] theorem modMb_lo (s : State) (i : Inst) (f : Mailbox → Mailbox) : (s.modMb i f).lo = s.lo := rfl

@[simp] theorem modMb_bt (s : State) (i : Inst) (f : Mailbox → Mailbox) : (s.modMb i f).bt = s.bt := rfl

/-! ### emit -/

@[simp] theorem emit_pending (s : State) (o : Output) : (s.emit o).pending = s.pending := rfl

@[simp] theorem emit_held (s : State) (o : Output) : (s.emit o).held = s.held := rfl

@[simp] theorem emit_now (s : State) (o : Output) : (s.emit o).now = s.now := rfl

@[simp] theorem emit_freeIx (s : State) (o : Output) : (s.emit o).freeIx = s.freeIx := rfl

@[simp] theorem emit_nextId (s : State) (o : Output) : (s.emit o).nextId = s.nextId := rfl

@[simp] theorem emit_hw (s : State) (o : Output) : (s.emit o).hw = s.hw := rfl

@[simp] theorem emit_pw (s : State) (o : Output) : (s.emit o).pw = s.pw := rfl

@[simp] theorem emit_kp (s : State) (o : Output) : (s.emit o).kp = s.kp := rfl

@[simp] theorem emit_sec (s : State) (o : Output) : (s.emit o).sec = s.sec := rfl

@[simp] theorem emit_th (s : State) (o : Output) : (s.emit o).th = s.th := rfl

@[simp] theorem emit_md (s : State) (o : Output) : (s.emit o).md = s.md := rfl

@[simp] theorem emit_lk (s : State) (o : Output) : (s.emit o).lk = s.lk := rfl

@[simp] theorem emit_lds (s : State) (o : Output) : (s.emit o).lds = s.lds := rfl

@[simp] theorem emit_wp (s : State) (o : Output) : (s.emit o).wp = s.wp := rfl

@[simp] theorem emit_rp (s : State) (o : Output) : (s.emit o).rp = s.rp := rfl

@[simp] theorem emit_fo (s : State) (o : Output) : (s.emit o).fo = s.fo := rfl

@[simp] theorem emit_dr (s : State) (o : Output) : (s.emit o).dr = s.dr := rfl

@[simp] theorem emit_cr (s : State) (o : Output) : (s.emit o).cr = s.cr := rfl

@[simp] theorem emit_rd (s : State) (o : Output) : (s.emit o).rd = s.rd := rfl

@[simp] theorem emit_mb (s : State) (o : Output) : (s.emit o).mb = s.mb := rfl

@[simp] theorem emit_nt (s : State) (o : Output) : (s.emit o).nt = s.nt := rfl

@[simp] theorem emit_ev (s : State) (o : Output) : (s.emit o).ev = s.ev := rfl

@[simp] theorem emit_pm (s : State) (o : Output) : (s.emit o).pm = s.pm := rfl

@[simp] theorem emit_ca (s : State) (o : Output) : (s.emit o).ca = s.ca := rfl

@[simp] theorem emit_sp (s : State) (o : Output) : (s.emit o).sp = s.sp := rfl

@[simp] theorem emit_lo (s : State) (o : Output) : (s.emit o).lo = s.lo := rfl

@[simp] theorem emit_bt (s : State) (o : Output) : (s.emit o).bt = s.bt := rfl

/-! ### draw -/

@[simp] theorem draw_pending (s : State) : (s.draw).2.pending = s.pending := rfl

@[simp] theorem draw_held (s : State) : (s.draw).2.held = s.held := rfl

@[simp] theorem draw_now (s : State) : (s.draw).2.now = s.now := rfl

@[simp] theorem draw_nextId (s : State) : (s.draw).2.nextId = s.nextId := rfl

@[simp] theorem draw_out (s : State) : (s.draw).2.out = s.out := rfl

@[simp] theorem draw_hw (s : State) : (s.draw).2.hw = s.hw := rfl

@[simp] theorem draw_pw (s : State) : (s.draw).2.pw = s.pw := rfl

@[simp] theorem draw_kp (s : State) : (s.draw).2.kp = s.kp := rfl

@[simp] theorem draw_sec (s : State) : (s.draw).2.sec = s.sec := rfl

@[simp] theorem draw_th (s : State) : (s.draw).2.th = s.th := rfl

@[simp] theorem draw_md (s : State) : (s.draw).2.md = s.md := rfl

@[simp] theorem draw_lk (s : State) : (s.draw).2.lk = s.lk := rfl

@[simp] theorem draw_lds (s : State) : (s.draw).2.lds = s.lds := rfl

@[simp] theorem draw_wp (s : State) : (s.draw).2.wp = s.wp := rfl

@[simp] theorem draw_rp (s : State) : (s.draw).2.rp = s.rp := rfl

@[simp] theorem draw_fo (s : State) : (s.draw).2.fo = s.fo := rfl

@[simp] theorem draw_dr (s : State) : (s.draw).2.dr = s.dr := rfl

@[simp] theorem draw_cr (s : State) : (s.draw).2.cr = s.cr := rfl

@[simp] theorem draw_rd (s : State) : (s.draw).2.rd = s.rd := rfl

@[simp] theorem draw_mb (s : State) : (s.draw).2.mb = s.mb := rfl

@[simp] theorem draw_nt (s : State) : (s.draw).2.nt = s.nt := rfl

@[simp] theorem draw_ev (s : State) : (s.draw).2.ev = s.ev := rfl

@[simp] theorem draw_pm (s : State) : (s.draw).2.pm = s.pm := rfl

@[simp] theorem draw_ca (s : State) : (s.draw).2.ca = s.ca := rfl

@[simp] theorem draw_sp (s : State) : (s.draw).2.sp = s.sp := rfl

@[simp] theorem draw_lo (s : State) : (s.draw).2.lo = s.lo := rfl

@[simp] theorem draw_bt (s : State) : (s.draw).2.bt = s.bt := rfl

/-! ### newId -/

@[simp] theorem newId_pending (s : State) : (s.newId).2.pending = s.pending := rfl

@[simp] theorem newId_held (s : State) : (s.newId).2.held = s.held := rfl

@[simp] theorem newId_now (s : State) : (s.newId).2.now = s.now := rfl

@[simp] theorem newId_freeIx (s : State) : (s.newId).2.freeIx = s.freeIx := rfl

@[simp] theorem newId_out (s : State) : (s.newId).2.out = s.out := rfl

@[simp] theorem newId_hw (s : State) : (s.newId).2.hw = s.hw := rfl

@[simp] theorem newId_pw (s : State) : (s.newId).2.pw = s.pw := rfl

@[simp] theorem newId_kp (s : State) : (s.newId).2.kp = s.kp := rfl

@[simp] theorem newId_sec (s : State) : (s.newId).2.sec = s.sec := rfl

@[simp] theorem newId_th (s : State) : (s.newId).2.th = s.th := rfl

@[simp] theorem newId_md (s : State) : (s.newId).2.md = s.md := rfl

@[simp] theorem newId_lk (s : State) : (s.newId).2.lk = s.lk := rfl

@[simp] theorem newId_lds (s : State) : (s.newId).2.lds = s.lds := rfl

@[simp] theorem newId_wp (s : State) : (s.newId).2.wp = s.wp := rfl

@[simp] theorem newId_rp (s : State) : (s.newId).2.rp = s.rp := rfl

@[simp] theorem newId_fo (s : State) : (s.newId).2.fo = s.fo := rfl

@[simp] theorem newId_dr (s : State) : (s.newId).2.dr = s.dr := rfl

@[simp] theorem newId_cr (s : State) : (s.newId).2.cr = s.cr := rfl

@[simp] theorem newId_rd (s : State) : (s.newId).2.rd = s.rd := rfl

@[simp] theorem newId_mb (s : State) : (s.newId).2.mb = s.mb := rfl

@[simp] theorem newId_nt (s : State) : (s.newId).2.nt = s.nt := rfl

@[simp] theorem newId_ev (s : State) : (s.newId).2.ev = s.ev := rfl

@[simp] theorem newId_pm (s : State) : (s.newId).2.pm = s.pm := rfl

@[simp] theorem newId_ca (s : State) : (s.newId).2.ca = s.ca := rfl

@[simp] theorem newId_sp (s : State) : (s.newId).2.sp = s.sp := rfl

@[simp] theorem newId_lo (s : State) : (s.newId).2.lo = s.lo := rfl

@[simp] theorem newId_bt (s : State) : (s.newId).2.bt = s.bt := rfl

/-! ### The part that changes -/

@[simp] theorem draw_fst (s : State) : s.draw.1 = s.freeIx := rfl

@[simp] theorem draw_freeIx (s : State) : s.draw.2.freeIx = s.freeIx + 1 := rfl

@[simp] theorem newId_fst (s : State) : s.newId.1 = s.nextId := rfl

@[simp] theorem newId_nextId (s : State) : s.newId.2.nextId = s.nextId + 1 := rfl

@[simp] theorem emit_out (s : State) (o : Output) : (s.emit o).out = o :: s.out := rfl

/-- An element of a vector after another, or the same, has changed. -/
theorem vmod_get {α : Type} {n : Nat} (v : Vector α n) (i j : Fin n) (f : α → α) :
    (vmod v i f)[j] = if i = j then f v[j] else v[j] := by
  simp only [vmod, Fin.getElem_fin, Vector.getElem_set, Fin.ext_iff]
  split
  · rename_i h; simp [h]
  · rfl

@[simp] theorem vmod_same {α : Type} {n : Nat} (v : Vector α n) (i : Fin n) (f : α → α) : (vmod v i f)[i] = f v[i] := by
  simp [vmod]

@[simp] theorem modLd_ld (s : State) (n : Fin 16) (f : LD → LD) : (s.modLd n f).ld n = f (s.ld n) := vmod_same _ _ _

theorem modLd_ld_other (s : State) (n m : Fin 16) (f : LD → LD) (h : n ≠ m) : (s.modLd n f).ld m = s.ld m := by
  show (vmod s.lds n f)[m] = _
  rw [vmod_get]; simp [h, State.ld]

@[simp] theorem mapLds_ld (s : State) (n : Fin 16) (f : LD → LD) : (s.mapLds f).ld n = f (s.ld n) := by
  simp [State.mapLds, State.ld]

@[simp] theorem modWin_win (s : State) (n : Fin 16) (w : Fin 64) (f : Win → Win) : (s.modWin n w f).win n w = f (s.win n w) := by
  show ((s.modLd n fun l => { l with wins := vmod l.wins w f }).ld n).wins[w] = _
  rw [modLd_ld]
  exact vmod_same _ _ _

@[simp] theorem modCw_cw (s : State) (n : Fin 16) (f : Cw → Cw) : ((s.modCw n f).ld n).cw = f (s.ld n).cw := by
  simp [State.modCw]

@[simp] theorem modScrub_scrub (s : State) (n : Fin 16) (f : Scrub → Scrub) : ((s.modScrub n f).ld n).scrub = f (s.ld n).scrub := by
  simp [State.modScrub]

@[simp] theorem modPort_port (s : State) (p : Fin 2) (f : Port → Port) : (s.modPort p f).lk.ports[p] = f s.lk.ports[p] := vmod_same _ _ _

@[simp] theorem modLode_port (s : State) (p : Fin 4) (f : LodePort → LodePort) : (s.modLode p f).lo.ports[p] = f s.lo.ports[p] :=
  vmod_same _ _ _

@[simp] theorem modTether_tether (s : State) (t : Fin 8) (f : Tether → Tether) : (s.modTether t f).lo.tethers[t] = f s.lo.tethers[t] :=
  vmod_same _ _ _

@[simp] theorem modRegion_region (s : State) (r : Fin 256) (f : Region → Region) : (s.modRegion r f).cr.regions[r] = f s.cr.regions[r] :=
  vmod_same _ _ _

@[simp] theorem modSet_set (s : State) (k : Fin 4) (f : StripeSet → StripeSet) : (s.modSet k f).rd.sets[k] = f s.rd.sets[k] :=
  vmod_same _ _ _

@[simp] theorem modSrc_src (s : State) (n : Fin 256) (f : Source → Source) : (s.modSrc n f).nt.src[n] = f s.nt.src[n] := vmod_same _ _ _

@[simp] theorem modCl_cl (s : State) (c : Fin 17) (f : Claimant → Claimant) : (s.modCl c f).nt.cl[c] = f s.nt.cl[c] := vmod_same _ _ _

@[simp] theorem modBank_bank (s : State) (b : Fin 17) (f : Mem → Mem) : (s.modBank b f).sp.banks[b] = f s.sp.banks[b] := vmod_same _ _ _

@[simp] theorem modMb_inst (s : State) (i : Inst) (f : Mailbox → Mailbox) : (s.modMb i f).mb.inst[Inst.ix i] = f s.mb.inst[Inst.ix i] :=
  vmod_same _ _ _

end Sys2Proof.Laws
end

