-- ==== Sys2Proof/Laws/Tables.lean ====
section
/-! SUPPORT. Tables and byte memory: a read after a write, and every operation keeps the canonical form. -/

namespace Sys2Proof.Laws

open Sys2Proof.Machine

variable {β : Type} [DecidableEq β] {d : β}

/-! ### Tables without a default -/

/-- The value set is found. -/
theorem tfind_tins_same {γ : Type} (m : Tbl γ) (k : Nat) (v : γ) : tfind (tins k v m) k = some v := by
  induction m with
  | nil => simp [tins, tfind]
  | cons p m ih =>
    unfold tins
    split
    · simp [tfind]
    · split
      · simp [tfind]
      · rename_i h1 h2
        have : ¬ p.1 = k := fun e => h2 e.symm
        simp only [tfind, this, if_false]
        exact ih

/-- Every other key is found as before. -/
theorem tfind_tins_other {γ : Type} (m : Tbl γ) (k k' : Nat) (v : γ) (hk : k' ≠ k) : tfind (tins k v m) k' = tfind m k' := by
  induction m with
  | nil => simp [tins, tfind, hk.symm]
  | cons p m ih =>
    unfold tins
    split
    · simp [tfind, hk.symm]
    · split
      · rename_i h1 h2
        have hp : ¬ p.1 = k' := fun e => hk (by omega)
        simp [tfind, hk.symm, hp]
      · simp only [tfind]
        split
        · rfl
        · exact ih

/-- A key that has left a table is not found. -/
theorem tfind_tdel_same {γ : Type} (m : Tbl γ) (k : Nat) : tfind (tdel k m) k = none := by
  induction m with
  | nil => rfl
  | cons p m ih =>
    unfold tdel at ih ⊢
    by_cases h : p.1 = k <;> simp [h, tfind, ih]

/-- Every other key is found as before. -/
theorem tfind_tdel_other {γ : Type} (m : Tbl γ) (k k' : Nat) (hk : k' ≠ k) : tfind (tdel k m) k' = tfind m k' := by
  induction m with
  | nil => rfl
  | cons p m ih =>
    unfold tdel at ih ⊢
    by_cases h : p.1 = k
    · have : ¬ k = k' := fun e => hk e.symm
      simp [h, tfind, ih, this]
    · simp [h, tfind, ih]

/-- A key listed after a write is the key written or was listed. -/
theorem mem_tins {γ : Type} {m : Tbl γ} {k : Nat} {v : γ} {p : Nat × γ} (hp : p ∈ tins k v m) : p = (k, v) ∨ p ∈ m := by
  induction m with
  | nil => exact Or.inl (by simpa [tins] using hp)
  | cons q m ih =>
    unfold tins at hp
    split at hp
    · simpa using hp
    · split at hp
      · rcases List.mem_cons.1 hp with h | h
        · exact Or.inl h
        · exact Or.inr (by simp [h])
      · rcases List.mem_cons.1 hp with rfl | h
        · exact Or.inr (by simp)
        · exact (ih h).imp id fun h => by simp [h]

/-- Keys stay strictly rising. -/
theorem tins_sorted {γ : Type} (m : Tbl γ) (k : Nat) (v : γ) (h : List.Pairwise (fun a b => a.1 < b.1) m) :
    List.Pairwise (fun a b => a.1 < b.1) (tins k v m) := by
  induction m with
  | nil => simp [tins]
  | cons q m ih =>
    obtain ⟨h1, h2⟩ := List.pairwise_cons.1 h
    unfold tins
    split
    · refine List.pairwise_cons.2 ⟨fun p hp => ?_, h⟩
      rcases List.mem_cons.1 hp with rfl | hp
      · assumption
      · exact lt_trans ‹_› (h1 p hp)
    · split
      · rename_i hk
        exact List.pairwise_cons.2 ⟨fun p hp => hk ▸ h1 p hp, h2⟩
      · refine List.pairwise_cons.2 ⟨fun p hp => ?_, ih h2⟩
        rcases mem_tins hp with rfl | hp
        · show q.1 < k; omega
        · exact h1 p hp

/-- Keys stay strictly rising. -/
theorem tdel_sorted {γ : Type} (m : Tbl γ) (k : Nat) (h : List.Pairwise (fun a b => a.1 < b.1) m) :
    List.Pairwise (fun a b => a.1 < b.1) (tdel k m) := h.sublist List.filter_sublist

/-! ### Tables with a default -/

/-- An empty table is canonical. -/
theorem nil_wf : Tbl.wf d ([] : Tbl β) := ⟨List.Pairwise.nil, fun _ h => nomatch h⟩

/-- What a table holds at a key is what it lists there, else the default. -/
theorem tget_eq (m : Tbl β) (k : Nat) : tget d m k = (tfind m k).getD d := by
  induction m with
  | nil => rfl
  | cons p m ih =>
    simp only [tget, tfind]
    split
    · rfl
    · exact ih

/-- The value set is read back. -/
theorem tget_tput_same (m : Tbl β) (k : Nat) (v : β) : tget d (tput d k v m) k = v := by
  unfold tput
  split
  · simp [tget_eq, tfind_tdel_same, *]
  · simp [tget_eq, tfind_tins_same]

/-- Every other key reads as before. -/
theorem tget_tput_other (m : Tbl β) (k k' : Nat) (v : β) (hk : k' ≠ k) : tget d (tput d k v m) k' = tget d m k' := by
  unfold tput
  split
  · simp [tget_eq, tfind_tdel_other m k k' hk]
  · simp [tget_eq, tfind_tins_other m k k' v hk]

/-- A write keeps the canonical form. -/
theorem tput_wf (m : Tbl β) (k : Nat) (v : β) (h : Tbl.wf d m) : Tbl.wf d (tput d k v m) := by
  unfold tput
  split
  · exact ⟨tdel_sorted m k h.1, fun p hp => h.2 p (List.mem_of_mem_filter hp)⟩
  · refine ⟨tins_sorted m k v h.1, fun p hp => ?_⟩
    rcases mem_tins hp with rfl | hp
    · assumption
    · exact h.2 p hp

/-! ### Byte memory -/

/-- The byte written is read back. -/
theorem read_write_same (m : Mem) (a : Nat) (b : Byte) : (m.write a b).read a = b := tget_tput_same m a b

/-- Every other byte reads as before. -/
theorem read_write_other (m : Mem) (a a' : Nat) (b : Byte) (ha : a' ≠ a) : (m.write a b).read a' = m.read a' :=
  tget_tput_other m a a' b ha

/-- A write of one byte keeps the canonical form. -/
theorem write_wf (m : Mem) (a : Nat) (b : Byte) (h : Memory.wf m) : Memory.wf (m.write a b) := tput_wf m a b h

/-- A write of a number keeps the canonical form. -/
theorem writeLE_wf (m : Mem) (a n v : Nat) (h : Memory.wf m) : Memory.wf (m.writeLE a n v) := by
  induction n generalizing m a v with
  | zero => exact h
  | succ n ih => exact ih _ _ _ (write_wf m a _ h)

/-- A write of bytes keeps the canonical form. -/
theorem writeBytes_wf (m : Mem) (a : Nat) (l : List Byte) (h : Memory.wf m) : Memory.wf (m.writeBytes a l) := by
  induction l generalizing m a with
  | nil => exact h
  | cons b l ih => exact ih _ _ (write_wf m a b h)

/-- A byte outside a number written reads as before. -/
theorem read_writeLE_other (m : Mem) (a n v a' : Nat) (ha : a' < a ∨ a + n ≤ a') :
    (m.writeLE a n v).read a' = m.read a' := by
  induction n generalizing m a v with
  | zero => rfl
  | succ n ih =>
    show ((m.write a _).writeLE (a + 1) n _).read a' = _
    rw [ih _ _ _ (by omega), read_write_other m a a' _ (by omega)]

/-- A byte outside the bytes written reads as before. -/
theorem read_writeBytes_other (m : Mem) (a : Nat) (l : List Byte) (a' : Nat) (ha : a' < a ∨ a + l.length ≤ a') :
    (m.writeBytes a l).read a' = m.read a' := by
  induction l generalizing m a with
  | nil => rfl
  | cons b l ih =>
    have hl : (b :: l).length = l.length + 1 := rfl
    show ((m.write a b).writeBytes (a + 1) l).read a' = _
    rw [ih _ _ (by omega), read_write_other m a a' b (by omega)]

/-- A byte written reads as written. -/
theorem read_writeBytes_same (m : Mem) (a : Nat) (l : List Byte) (i : Nat) (hi : i < l.length) :
    (m.writeBytes a l).read (a + i) = l[i] := by
  induction l generalizing m a i with
  | nil => exact absurd hi (Nat.not_lt_zero i)
  | cons b l ih =>
    show ((m.write a b).writeBytes (a + 1) l).read (a + i) = _
    cases i with
    | zero => rw [read_writeBytes_other _ _ _ _ (by omega)]; exact read_write_same m a b
    | succ i =>
      have := ih (m.write a b) (a + 1) i (by simpa using hi)
      rw [show a + (i + 1) = a + 1 + i by omega, this]
      rfl

end Sys2Proof.Laws
end

