-- ==== Sys2Proof/Machine/Codes.lean ====
section
/-! DEFINITION. The Reed–Solomon codes: the field GF(2^8), the row code RS(16,14) of the Peat (09_redundancy_and_degraded.md R216, R217) and the
code RS(20,16) of the package DRAM (13_cache_and_on_chip_memory.md R325, R326). -/

namespace Sys2Proof.Machine

/-! ### GF(2^8) -/

/-- A symbol times α = 0x02, under x^8 + x^4 + x^3 + x^2 + 1 (R216). -/
def gfDouble (a : Byte) : Byte := (a <<< 1) ^^^ (if a.getLsbD 7 then 0x1D else 0)

/-- The product of two symbols. -/
def gfMul (a b : Byte) : Byte :=
  ((List.range 8).foldl (fun (x : Byte × Byte) i => (if b.getLsbD i then x.1 ^^^ x.2 else x.1, gfDouble x.2)) (0, a)).1

/-- A power of a symbol. -/
def gfPow (a : Byte) : Nat → Byte
  | 0 => 1
  | n + 1 => gfMul a (gfPow a n)

/-- The inverse of a symbol other than 0: its power 254. -/
def gfInv (a : Byte) : Byte := gfPow a 254

/-- α to a power. -/
def gfAlpha (i : Nat) : Byte := gfPow 2 i

/-- The sum of symbols. -/
def gfSum (l : List Byte) : Byte := l.foldl (· ^^^ ·) 0

/-! ### Syndromes and erasures -/

/-- Syndrome `j` of a word: the sum of s_i · α^(ij) (R216). -/
def rsSyndrome (word : List Byte) (j : Nat) : Byte := gfSum (word.mapIdx fun i x => gfMul x (gfAlpha (i * j)))

/-- The coefficients, lowest first, of the product of (x + r) over some symbols. -/
def gfRoots (rs : List Byte) : List Byte :=
  rs.foldl (fun p r => List.zipWith (· ^^^ ·) (0 :: p) (p.map (gfMul r) ++ [0])) [1]

/-- The symbols at erased places of a word whose places there hold 0: with the places' α-powers X and as many syndromes S, the symbol at X_k is
the sum of c_j · S_j over the product of (X_k + X_l), c being the coefficients of the product of (x + X_l), l other than k. -/
def rsErased (word : List Byte) (places : List Nat) : List Byte :=
  places.map fun k =>
    let others := (places.filter (· ≠ k)).map gfAlpha
    gfMul (gfSum ((gfRoots others).mapIdx fun j c => gfMul c (rsSyndrome word j)))
      (gfInv (others.foldl (fun p x => gfMul p (gfAlpha k ^^^ x)) 1))

/-- A word with the symbols of its erased places filled in. -/
def rsFill (word : List Byte) (places : List Nat) : List Byte :=
  let clear := word.mapIdx fun i x => if i ∈ places then 0 else x
  let found := places.zip (rsErased clear places)
  clear.mapIdx fun i x => (found.lookup i).getD x

/-! ### The row code of the Peat (R216, R217) -/

/-- The two parity symbols of 14 data symbols: symbols 14 and 15 of their codeword. -/
def rowParity (data : List Byte) : Byte × Byte :=
  let w := rsFill (data ++ [0, 0]) [14, 15]
  (w.getD 14 0, w.getD 15 0)

/-- A row of 16 slots of bytes, by symbol index: the 14 data slots and the parity slots of each byte offset. -/
def rowEncode (data : List (List Byte)) (bytes : Nat) : List (List Byte) :=
  let par := (List.range bytes).map fun b => rowParity (data.map fun x => x.getD b 0)
  data ++ [par.map (·.1), par.map (·.2)]

/-- A row with its unavailable slots decoded; `none` where three or more are unavailable (R217). -/
def rowDecode (row : List (Option (List Byte))) (bytes : Nat) : Option (List (List Byte)) :=
  let gone := (row.zipIdx.filter fun x => x.1.isNone).map (·.2)
  if gone.length ≤ 2 then
    let cols := (List.range bytes).map fun b => rsFill (row.map fun x => (x.getD []).getD b 0) gone
    some ((List.range row.length).map fun i => cols.map fun c => c.getD i 0)
  else none

/-! ### The code of the package DRAM (R325, R326) -/

/-- Codeword `j` of the 80 bytes of an access: bytes 4j to 4j + 3 of each of the five stacks, 16 bytes a stack, as symbols 4s to 4s + 3. -/
def dramWord (bytes : List Byte) (j : Nat) : List Byte :=
  (List.range 20).map fun i => bytes.getD (i / 4 * 16 + 4 * j + i % 4) 0

/-- The 80 bytes of a 64-byte access: stacks 0 to 3 hold the data, stack 4 the check bytes, symbols 16 to 19. -/
def dramEncode (data : List Byte) : List Byte :=
  data ++ (List.range 16).map fun i =>
    (rsFill (dramWord (data ++ List.replicate 16 0) (i / 4)) [16, 17, 18, 19]).getD (16 + i % 4) 0

/-- One codeword corrected: `none` where it holds more than one byte error. -/
def dramCorrect (word : List Byte) : Option (List Byte) :=
  let s := (List.range 4).map (rsSyndrome word)
  if s.all (· == 0) then some word
  else
    let at1 := fun i => (List.range 4).all fun j => s.getD j 0 == gfMul (s.getD 0 0) (gfAlpha (i * j))
    match (List.range 20).find? fun i => s.getD 0 0 != 0 && at1 i with
    | some i => some (word.mapIdx fun k x => if k = i then x ^^^ s.getD 0 0 else x)
    | none => none

/-- The 64 data bytes that four codewords give, stacks 0 to 3. -/
def dramData (words : List (List Byte)) : List Byte :=
  (List.range 64).map fun i => (words.getD (i % 16 / 4) []).getD (i / 16 * 4 + i % 4) 0

/-- A read with all five stacks in service: one byte error is corrected in each codeword; `none`: uncorrectable. -/
def dramRead (bytes : List Byte) : Option (List Byte) :=
  ((List.range 4).mapM fun j => dramCorrect (dramWord bytes j)).map dramData

/-- A read with one stack located or lost (R326, R234): its four symbols of each codeword are erasures. -/
def dramErase (bytes : List Byte) (stack : Fin 5) : List Byte :=
  dramData ((List.range 4).map fun j => rsFill (dramWord bytes j) ((List.range 4).map (4 * stack.val + ·)))

/-- How an access ends, with what it returns (R326): the first read, or the second, is correctable; else exactly one stack's probe line fails and
that stack is located; else the content is lost. -/
def dramAccess (first second : List Byte) (probeFails : List (Fin 5)) : DramAccess × Option (List Byte) :=
  match dramRead first, dramRead second with
  | some d, _ => (.ok, some d)
  | none, some d => (.ok, some d)
  | none, none =>
    match probeFails with
    | [k] => (.located k, some (dramErase second k))
    | _ => (.lost, none)

end Sys2Proof.Machine
end

