-- ==== Sys2Proof/Machine/Layout.lean ====
section
/-! DEFINITION. How what State holds lies in the memories: the package DRAM and the Shallows index (01_architecture.md R20;
03_write_path.md R58), the 96-byte Shallows slots with their headers and records (03 R55, R56; 05 R108; 06 R156; 07 R172; 08 R207; 09 R225;
15 R367), and the slots, rows and summaries of a Peat frame (05 R97, R98, R100 to R102; 09 R216). -/

namespace Sys2Proof.Machine

/-! ### Package DRAM (R20, R58) -/

/-- The regions of Table 01-7. -/
inductive DramRegion where
  | map
  | index
  | nodes
  | tables
  | firmware
  | cache
  deriving DecidableEq, Repr

/-- Size of a region in bytes, at every media population. -/
def DramRegion.size : DramRegion → Nat
  | .map => 8 * 2 ^ 30
  | .index => 7 * 2 ^ 29
  | .nodes => 2 * 2 ^ 30
  | .tables => 3 * 2 ^ 29
  | .firmware => 3 * 2 ^ 30
  | .cache => 14 * 2 ^ 30

/-- The regions in the order of Table 01-7. -/
def dramRegions : List DramRegion := [.map, .index, .nodes, .tables, .firmware, .cache]

/-- Where the map entry of a granule starts in the granule map region (R106). -/
def mapOffset (g : Nat) : Nat := 5 * g

/-- STATE of Table 05-5. -/
def GranState.code : GranState → Nat
  | .unwritten => 0
  | .live => 1
  | .poisoned => 2
  | .moving => 3

/-- A granule map entry of 40 bits (Table 05-5). -/
def MapEnt.bits (m : MapEnt) : Nat :=
  m.state.code + m.lane.val * 2 ^ 2 + m.frame % 2 ^ 25 * 2 ^ 6 + m.heat % 8 * 2 ^ 31 + b2n m.rfsh * 2 ^ 34

/-- Parts of the index region, in bytes (Table 03-11): committed records, tentative records, pair table, relocation stash and working space. -/
def indexParts : List Nat := [3 * 2 ^ 30, 2 ^ 28, 2 ^ 23, 248 * 2 ^ 20]

/-- Buckets of the index, records of a bucket, and so the records it holds (R58). -/
def indexBuckets : Nat := 2 ^ 26

/-- Records of a bucket. -/
def bucketRecords : Nat := 8

/-- H of a line (R58). -/
def State.indexHash (s : State) (line : Nat) : BitVec 39 := Config.lineHash s.sec.keyPlace.get line

/-- The two buckets of a line: H[25:0], and that exclusive-OR a keyed hash of H[38:26]. -/
def State.buckets (s : State) (line : Nat) : BitVec 26 × BitVec 26 :=
  let h := s.indexHash line
  let a := h.setWidth 26
  (a, a ^^^ Config.bucketHash s.sec.keyPlace.get (h.toNat / 2 ^ 26))

/-- An index record of 48 bits (Table 03-10). -/
def State.indexBits (s : State) (line : Nat) (r : IndexRec) : Nat :=
  (s.indexHash line).toNat / 2 ^ 26 + r.pair % 2 ^ 18 * 2 ^ 13 + r.slot % 2 ^ 9 * 2 ^ 31 + r.schk % 2 ^ 6 * 2 ^ 40 + b2n r.psn * 2 ^ 46 + 2 ^ 47

/-! ### Shallows slots (R55, R56) -/

/-- TYPE of Table 03-4. -/
inductive SlotType where
  | line
  | commit
  | metadata
  | mark
  deriving DecidableEq, Repr

/-- TYPE's two bits. -/
def SlotType.code : SlotType → Nat
  | .line => 0
  | .commit => 1
  | .metadata => 2
  | .mark => 3

/-- Header fields of a slot (Table 03-4). -/
structure SlotHdr where
  type : SlotType
  line : Nat
  ld : Nat
  win : Option Nat
  psn : Bool
  seq : Nat
  deriving DecidableEq, Repr

/-- SEQ_LO of a sequence number. -/
def seqLo (seq : Nat) : Nat := seq % 2 ^ 18

/-- Byte 71: WINDOW, WV, COPY. -/
def SlotHdr.byte71 (h : SlotHdr) (copy : Bool) : Nat := h.win.getD 0 % 64 + b2n h.win.isSome * 2 ^ 6 + b2n copy * 2 ^ 7

/-- Bytes 79:72: LINE, LD, TYPE, PSN, SEQ_LO. -/
def SlotHdr.high (h : SlotHdr) : Nat :=
  h.line % 2 ^ 39 + h.ld % 16 * 2 ^ 39 + h.type.code * 2 ^ 43 + b2n h.psn * 2 ^ 45 + seqLo h.seq * 2 ^ 46

/-- A slot of 96 bytes: DATA, TAG, the header, and the BCH code over them. -/
def slotBytes (data : List Byte) (tag : Tag) (h : SlotHdr) (copy : Bool) : List Byte :=
  let x := data ++ le 7 tag.toNat ++ le 1 (h.byte71 copy) ++ le 8 h.high
  x ++ le 16 (Config.bchShallows x).toNat

/-- DATA of a line. -/
def lineBytes (x : Line) : List Byte := le 64 x.toNat

/-- A copy of a line entry; a poisoned one holds no ciphertext and no tag. -/
def Entry.bytes (e : Entry) (copy : Bool) : List Byte :=
  slotBytes (lineBytes (if e.psn then 0 else e.data)) (if e.psn then 0 else e.tag) ⟨.line, e.line, e.ld.val, e.win.map (·.val), e.psn, e.seq⟩ copy

/-- A segment mark: SEQ_BASE, the channel number, zeros (R55). -/
def SegMark.bytes (m : SegMark) (chan : Fin 64) (copy : Bool) : List Byte :=
  slotBytes (le 6 m.base ++ le 1 chan.val ++ List.replicate 57 0) 0 ⟨.mark, 0, 0, none, false, m.seq⟩ copy

/-- A field of a record's DATA: its first byte, its bytes, its value. -/
abbrev DataField := Nat × Nat × Nat

/-- MKIND, or `none` for an outcome record. -/
def MetaRec.kind : MetaRec → Option Nat
  | .segOpened .. => some 0x01
  | .bandCommit .. => some 0x02
  | .granuleSet .. => some 0x03
  | .piece .. => some 0x04
  | .scrub .. => some 0x20
  | .watermark .. => some 0x30
  | .standIn .. => some 0x40
  | .bitmap .. => some 0x50
  | .bitClear .. => some 0x51
  | .confirmed .. => some 0x52
  | .outcome .. => none

/-- Fields of a record's DATA besides MKIND (Tables 05-7, 06-11, 07-4; R207, R225, R367). Where R225 does not say which bits of byte 1 hold the set
and which the lane, the lane takes the low four (DESIGN CHOICE, log 72). -/
def MetaRec.fields : MetaRec → List DataField
  | .segOpened k b => [(1, 1, 1), (8, 8, k.lane.val * 2 ^ 20 + k.seg % 2 ^ 20 + b % 2 ^ 29 * 2 ^ 35)]
  | .bandCommit k b => [(1, 1, 1), (8, 8, k.seg.lane.val * 2 ^ 20 + k.seg.seg % 2 ^ 20 + k.band % 8 * 2 ^ 32 + b % 2 ^ 29 * 2 ^ 35)]
  | .granuleSet g p => [(1, 1, 1), (8, 8, g % 2 ^ 32 + (if p then 2 else 0) * 2 ^ 32)]
  | .piece n c => [(1, 1, 1), (8, 8, n % 2 ^ 16 + c % 2 ^ 48 * 2 ^ 16)]
  | .scrub ld snum flags base len c =>
    [(1, 1, ld.val), (2, 4, snum), (6, 2, flags), (8, 8, base), (16, 8, len), (24, 5, c.checked), (29, 5, c.corrected), (34, 5, c.refreshed),
      (39, 5, c.reconstructed), (44, 5, c.uncorrectable), (49, 5, c.prior)]
  | .watermark r w x => [(1, 1, r), (2, 8, w), (10, 1, b2n x)]
  | .standIn k lost into => [(1, 1, k.lane.val + k.set.val * 16), (2, 4, k.seg), (6, 1, lost.val), (7, 1, into.val)]
  | .outcome _ _ gseq first last count code flags => [(0, 6, gseq), (6, 6, first), (12, 6, last), (18, 3, count), (21, 1, code), (22, 1, flags)]
  | .bitmap _ g => [(8, 8, g)]
  | .bitClear _ g => [(8, 8, g)]
  | .confirmed .. => []

/-- Whether the spec lays out every byte of a record's DATA: R367 gives of its three records only the bytes above. -/
def MetaRec.whole (r : MetaRec) : Bool := match r with
  | .bitmap .. => false
  | .bitClear .. => false
  | .confirmed .. => false
  | _ => true

/-- Fields laid over 64 bytes. -/
def layFields (fs : List DataField) (rest : Nat → Byte) : List Byte :=
  (List.range 64).map fun i =>
    match fs.find? fun f => decide (f.1 ≤ i) && decide (i < f.1 + f.2.1) with
    | some f => BitVec.ofNat 8 (f.2.2 / 256 ^ (i - f.1))
    | none => rest i

/-- DATA of a record: reserved bytes are 0, and a byte that the spec does not lay out is a free value. -/
def MetaRec.bytes (r : MetaRec) : List Byte :=
  let kind := match r.kind with
    | some k => [(0, 1, k)]
    | none => []
  layFields (kind ++ r.fields) fun i => if r.whole then 0 else Config.freeMetaByte (r.kind.getD 0) i

/-- Header of a record (R172): an outcome record carries the window and the LD. -/
def MetaEnt.hdr (e : MetaEnt) : SlotHdr := match e.item with
  | .outcome ld win .. => ⟨.commit, 0, ld.val, some win.val, false, e.seq⟩
  | _ => ⟨.metadata, 0, 0, none, false, e.seq⟩

/-- A copy of a record. -/
def MetaEnt.bytes (e : MetaEnt) (copy : Bool) : List Byte := slotBytes e.item.bytes 0 e.hdr copy

/-- What a copy of a slot holds: an entry, a record or a segment mark; `none` where nothing has been programmed. -/
def State.slotAt (s : State) (p : Place) (copy : Bool) : Option (List Byte) :=
  match s.entryAt p with
  | some e => some (e.bytes copy)
  | none =>
    match s.wp.reserve.find? fun (e : MetaEnt) => e.place == some p with
    | some e => some (e.bytes copy)
    | none =>
      match tfind s.wp.marksAt p.code, s.pairOf p with
      | some m, some x => some (m.bytes (chanOf p.set (if copy then max x.ch0 x.ch1 else min x.ch0 x.ch1)) copy)
      | _, _ => none

/-- The full sequence number of an entry (R56): the lowest at or after SEQ_BASE whose bits [17:0] are SEQ_LO. -/
def fullSeq (base lo : Nat) : Nat := (base + (lo + 2 ^ 18 - base % 2 ^ 18) % 2 ^ 18) % 2 ^ 48

/-- SEQ_BASE of the mark that precedes a slot in its block. -/
def State.markBefore (s : State) (p : Place) : Option Nat :=
  (((List.range p.slot).reverse.filterMap fun i => tfind s.wp.marksAt (Place.code ⟨p.set, p.pair, i⟩)).head?).map (·.base)

/-- The sequence number that the media hold of an entry: SEQ_LO of its header with the preceding mark (R56). -/
def State.recoverSeq (s : State) (p : Place) (e : Entry) : Option Nat := (s.markBefore p).map fun b => fullSeq b (seqLo e.seq)

/-! ### The Peat (R97, R98, R100 to R102, R216) -/

/-- Rows of a frame, data slots of a row, and data slots of a frame (Table 05-1). -/
def frameRows : Nat := 19

/-- Data slots of a row. -/
def rowData : Nat := 14

/-- Slots of a program unit, and of a block: seven units. -/
def unitSlots : Nat := 191

/-- The row of a band in which a frame's row lies: frame `i` starts at row 19i. -/
def bandRow (i r : Nat) : Nat := frameRows * i + r

/-- The summary row of a band. -/
def summaryRow : Nat := 190

/-- The position of a row's first parity slot, q (R98). -/
def State.parityPos (s : State) (g r : Nat) : Fin 16 := ⟨((s.rotOf g).val + r) % 16, by omega⟩

/-- The position of the slot with symbol index `i` of a row of a granule's frame (R98, R216): data column c at q + 2 + c, the parity slots at q and
q + 1. -/
def State.symbolPos (s : State) (g r : Nat) (i : Fin 16) : Fin 16 :=
  ⟨((s.parityPos g r).val + (if i.val < 14 then 2 + i.val else i.val - 14)) % 16, by omega⟩

/-- The position of the slot with symbol index `i` of a summary row: the summary at 0, the parity slots at 14 and 15. -/
def summaryPos (i : Fin 16) : Fin 16 := i

/-- Bytes 71:0 of a slot with the inner code over them (Table 05-2). -/
def peatBytes (data : List Byte) (tag : Tag) (wr psn : Bool) : List Byte :=
  let x := data ++ le 7 tag.toNat ++ le 1 (b2n wr + 2 * b2n psn)
  x ++ le 24 (Config.bchInner x).toNat

/-- A blank slot (R101). -/
def blankSlot : List Byte := List.replicate 96 0

/-- A written data slot (Table 05-2). -/
def PeatSlot.bytes (x : PeatSlot) : List Byte :=
  peatBytes (lineBytes (if x.psn then 0 else x.data)) (if x.psn then 0 else x.tag) true x.psn

/-- Data slot `j` of a frame, 0 to 265: lines 0 to 255, the rest blank (R98). -/
def Frame.dataSlot (f : Frame) (j : Nat) : List Byte :=
  if j < 256 then ((tfind f.slots j).map PeatSlot.bytes).getD blankSlot else blankSlot

/-- A row of a frame by symbol index: 14 data slots and the two parity slots of the row code (R97, R111, R216). -/
def Frame.row (f : Frame) (r : Nat) : List (List Byte) :=
  rowEncode ((List.range rowData).map fun c => f.dataSlot (rowData * r + c)) 96

/-- The parity slots of a frame, 38 of them. -/
def Frame.parity (f : Frame) : List (List Byte) := (List.range frameRows).flatMap fun r => (f.row r).drop rowData

/-- What a merged fold programs into a parity slot: the old one exclusive-OR the difference (R111). -/
def parityDiff (old new : List Byte) : List Byte := List.zipWith (· ^^^ ·) old new

/-- DATA of a band summary (Table 05-3). -/
def Summary.bytes (x : Summary) : List Byte :=
  le 6 x.bseq ++ le 1 (x.lane.val + x.kind % 16 * 16) ++ le 1 x.fmt ++
    (List.range 10).flatMap (fun i => le 4 (x.grans.getD i 0xFFFFFFFF)) ++ List.replicate 16 0

/-- The summary row of a band by symbol index: the summary slot, 13 blank slots, the parity. -/
def Summary.row (x : Summary) : List (List Byte) :=
  rowEncode (peatBytes x.bytes 0 true false :: List.replicate 13 blankSlot) 96

/-- A row read with the slots of some symbol indices unavailable (R217): `none` where three or more are. -/
def Frame.rowWithout (f : Frame) (r : Nat) (gone : List Nat) : Option (List (List Byte)) :=
  rowDecode ((f.row r).mapIdx fun i x => if i ∈ gone then none else some x) 96

end Sys2Proof.Machine
end

