-- ==== Sys2Proof/Machine/Wire.lean ====
section
/-! DEFINITION. How what State holds lies outside the data path: counter lines and their tags (08_inline_encryption.md R192, R193, R197), the
messages of a lode link and the IV that protects them (15_lode_links_and_pools.md R358; 08 R214), the sectors and records of the keeper store
(16_power_and_holdup.md R396, R397), and the sealing key (14_security_and_lifecycle.md R345). -/

namespace Sys2Proof.Machine

/-! ### Counter lines (R192, R193, R197) -/

/-- The 64 bytes of a counter block or tree node (Table 08-4). -/
def CBlock.bytes (b : CBlock) : List Byte :=
  le 4 b.major ++ le 56 ((List.range 64).foldl (fun n i => n + b.minor i % 128 * 2 ^ (7 * i)) 0) ++ le 1 (b2n b.early) ++ le 3 0

/-- The byte address of counter line `n` of a level 1 to 5 (Table 08-5). -/
def ctrAddr (level n : Nat) : Nat :=
  [0x1C0000000000, 0x1C6000000000, 0x1C6180000000, 0x1C6186000000, 0x1C6186180000].getD (level - 1) 0 + 64 * n

/-- LINE of a counter line. -/
def ctrLine (level n : Nat) : Nat := ctrAddr level n / 64

/-- Bytes of a level at full population, and of the roots (Table 08-5). -/
def ctrSizes : List Nat := [384 * 2 ^ 30, 6 * 2 ^ 30, 96 * 2 ^ 20, 3 * 2 ^ 19, 24 * 2 ^ 10, 512]

/-- Where the map entry of counter granule `c` starts in the granule map region (R193). -/
def ctrMapOffset (c : Nat) : Nat := mapOffset (1610612736 + c)

/-- A counter block, node or root as it stands: level 1 is the counter block of a page. -/
def State.ctrBlock (s : State) (level n : Nat) : CBlock := if level = 1 then s.block n else tget CBlock.zero s.cr.nodes (nodeCode level n)

/-- The nonce of a counter line: its own address as LINE, and its parent's MAJOR and MINOR for it (R197). -/
def State.ctrNonce (s : State) (level n : Nat) : Nonce :=
  let p := s.ctrBlock (level + 1) (n / 64)
  ⟨false, p.major, p.minor n, 0, false⟩

/-- The node tag of a counter line, under the device tree key (R190, R197). -/
def State.ctrTag (s : State) (level n : Nat) : Tag :=
  let line := BitVec.ofNat 512 ((s.ctrBlock level n).bytes.foldr (fun b v => b.toNat + 256 * v) 0)
  tagOf s.sec.keyTree.get (s.ctrNonce level n) (ctrLine level n) line

/-- A counter line as a Shallows entry: TYPE 0b00, LD 0, WV 0 (R193). -/
def State.ctrEntry (s : State) (level n seq : Nat) (copy : Bool) : List Byte :=
  slotBytes (s.ctrBlock level n).bytes (s.ctrTag level n) ⟨.line, ctrLine level n, 0, none, false, seq⟩ copy

/-! ### Lode messages (R358, R214) -/

/-- TYPE (Table 15-4). -/
def LodeMsg.type : LodeMsg → Nat
  | .hello .. => 0x01
  | .level _ => 0x03
  | .switch _ => 0x04
  | .keepalive => 0x05
  | .twrite .. => 0x10
  | .tconf _ => 0x11
  | .tcommit .. => 0x12
  | .tpoint .. => 0x13
  | .tabort .. => 0x14
  | .tquery .. => 0x15
  | .tqans .. => 0x16
  | .rsline .. => 0x20
  | .rsmark .. => 0x21
  | .bitmap .. => 0x22
  | .role .. => 0x30
  | .removed => 0x31

/-- The 12 bytes of a tether entry in HELLO. -/
def TetherEntry.bytes (e : TetherEntry) : List Byte :=
  le 2 e.partner ++ le 4 e.epoch ++
    le 1 (b2n e.configured + 2 * b2n e.replica + 4 * b2n e.hasData + 8 * b2n e.full + 16 * b2n e.part) ++ le 1 0 ++ le 4 e.units

/-- The 72 bytes of TWRITE and RSLINE. -/
def twriteBytes (line : Nat) (win : Option (Fin 64)) (psn : Bool) (data : Line) : List Byte :=
  le 5 (line % 2 ^ 39) ++ le 1 ((win.map (·.val)).getD 0 + 2 ^ 6 * b2n win.isSome + 2 ^ 7 * b2n psn) ++ le 2 0 ++ lineBytes (if psn then 0 else data)

/-- Bits to bytes, the first in bit 0 of the first byte (log 98). -/
def packBits (l : List Bool) : List Byte :=
  (List.range ((l.length + 7) / 8)).map fun i => BitVec.ofNat 8 ((List.range 8).foldl (fun n j => n + 2 ^ j * b2n (l.getD (8 * i + j) false)) 0)

/-- The payload (Table 15-4). -/
def LodeMsg.payload : LodeMsg → List Byte
  | .hello pool member proto fmt nonce es =>
    le 8 pool.toNat ++ le 2 member ++ le 2 proto ++ le 2 fmt ++ le 2 0 ++ le 16 nonce.toNat ++ (es.take 8).flatMap TetherEntry.bytes
  | .level t =>
    (t.take 8).flatMap (fun m => le 2 m.member ++ le 1 m.proto ++ le 1 m.fmt) ++ List.replicate (4 * (8 - (t.take 8).length)) 0xFF
  | .switch n => le 2 n
  | .keepalive => []
  | .twrite line win psn data _ => twriteBytes line win psn data
  | .tconf seqs => (seqs.take 8).flatMap fun q => le 6 q ++ le 2 0
  | .tcommit w g a b c _ => le 1 w.val ++ le 1 0 ++ le 6 g ++ le 6 a ++ le 6 b ++ le 3 c ++ le 1 0
  | .tpoint w g => le 1 w.val ++ le 1 0 ++ le 6 g
  | .tabort w o g => le 1 w.val ++ le 1 o ++ le 6 g
  | .tquery w g => le 1 w.val ++ le 1 0 ++ le 6 g
  | .tqans w a g => le 1 w.val ++ le 1 (b2n a) ++ le 6 g
  | .rsline line psn data _ => twriteBytes line none psn data
  | .rsmark g psn => le 5 g ++ le 1 (2 * b2n psn) ++ le 2 0
  | .bitmap g bits => le 8 g ++ packBits (bits.take 960)
  | .role r e => le 1 (b2n r) ++ le 3 0 ++ le 4 e
  | .removed => []

/-- SEQ of the header (Table 15-3). -/
def LodeMsg.seq : LodeMsg → Nat
  | .twrite _ _ _ _ q => q
  | .tcommit _ _ _ _ _ q => q
  | .rsline _ _ _ q => q
  | _ => 0

/-- A message before its tag: the header of Table 15-3 and the payload. -/
def LodeMsg.bytes (m : LodeMsg) (tether : Fin 8) (level : Nat) : List Byte :=
  le 1 m.type ++ le 1 tether.val ++ le 2 m.payload.length ++ le 6 m.seq ++ le 1 level ++ le 5 0 ++ m.payload

/-- Bytes of a message on the port, with its 16-byte tag; HELLO has none (R358). -/
def LodeMsg.size (m : LodeMsg) : Nat := 16 + m.payload.length + (if m.type = 0x01 then 0 else 16)

/-- The IV of a message (R214): the sender's member ID, the port, the direction, and the message counter. The lower member sends in
direction 0 (log 97). -/
def lodeIv (member : BitVec 14) (port : Fin 4) (dir : Bool) (ctr : Nat) : BitVec 96 :=
  .ofNat 96 (member.toNat + port.val * 2 ^ 14 + b2n dir * 2 ^ 16 + ctr % 2 ^ 64 * 2 ^ 32)

/-- The IV of the next message that this device sends on a port. -/
def State.nextIv (s : State) (p : Fin 4) : BitVec 96 := lodeIv s.kp.memberId p (!s.lowEnd p) s.lo.ports[p].msgCtr

/-! ### The keeper store (R396, R397) -/

/-- The sectors of a partition (Table 16-14). -/
def partSectors (part : Fin 6) : Nat := [256, 256, 192, 1152, 64, 128].getD part.val 0

/-- ERASES of the sector that holds an SSEQ: sectors are taken in turn, and each compaction erases the oldest (R398). -/
def Partition.erases (p : Partition) (part : Fin 6) (sseq : Nat) : Nat :=
  (p.compactions + partSectors part - 1 - sseq % partSectors part) / partSectors part

/-- The 16 bytes of a sector header (Table 16-12). -/
def sectorHeader (part : Fin 6) (sseq erases : Nat) : List Byte :=
  let x := le 1 0x5C ++ le 1 part.val ++ le 2 0 ++ le 4 sseq ++ le 4 erases
  x ++ le 4 (crc32 x).toNat

/-- A record (Table 16-13): its header, the payload padded to a multiple of 8, its CRC. -/
def storeRecord (part : Fin 6) (item : Nat) (payload : List Byte) : List Byte :=
  let pad := List.replicate ((8 - payload.length % 8) % 8) 0
  let x := le 1 0xA5 ++ le 1 part.val ++ le 2 item ++ le 2 payload.length ++ le 2 0 ++ payload ++ pad
  x ++ le 4 (crc32 x).toNat ++ le 4 0

/-- The longest payload (Table 16-13). -/
def maxStorePayload : Nat := 4064

/-! ### The sealing key (R345) -/

/-- The sealing key of a seal epoch: AES-256-CMAC in counter mode under the device root key over the label and the epoch, in the order and byte
order of log 98. -/
def sealingKey (epoch : Nat) : Key := Config.cmacCounter Config.deviceRootKey (le 2 0x5345 ++ le 4 epoch) 0

/-- The sealing key in force. -/
def State.sealingKey (s : State) : Key := Sys2Proof.Machine.sealingKey s.sec.sealEpoch

end Sys2Proof.Machine
end

