-- ==== Sys2Proof/WellFormed.lean ====
section
/-! DEFINITION. Well-formed commands: every operand fits the field that carries it (Table 11-7 for mailbox payloads, Tables 15-3 and 15-4 for
lode messages, the register maps for accesses), or the range of what the device can meet. `exec` is total on all commands; the checks say which
of them the hardware can be given. -/

namespace Sys2Proof

/-- Whether a number fits a field of `w` bits. -/
def fits (w n : Nat) : Bool := decide (n < 2 ^ w)

/-- Whether a number is a width of an access in bytes (R467). -/
def regWidth (n : Nat) : Bool := n == 1 || n == 2 || n == 4 || n == 8

/-- A payload length of a mailbox, 21 bits (R268). -/
def Req.wf (r : Req) : Bool := fits 21 r.len

/-- An address of 64 bits. -/
def Addr.wf : Addr → Bool
  | .dpa a => fits 64 a
  | .hpa a => fits 64 a

/-- A segment number of 32 bits (Table 05-7). -/
def SegKey.wf (k : SegKey) : Bool := fits 32 k.seg

/-- A band, 0 to 6 (R97). -/
def BandKey.wf (k : BandKey) : Bool := SegKey.wf k.seg && decide (k.band < 7)

/-- A result of sensing: at most 19 corrected bits, a level of the tree from 1 to 6. -/
def Sense.wf : Sense → Bool
  | .good bits => decide (bits ≤ 19)
  | .tree level => decide (1 ≤ level) && decide (level ≤ 6)
  | .otherCopy => true
  | .stepped _ => true
  | .reconstructed => true
  | .altered .. => true
  | .mismatch => true
  | .lost => true

/-- A line of 39 bits (Table 08-3) and its sense. -/
def LineSense.wf (x : LineSense) : Bool := fits 39 x.line && Sense.wf x.sense

/-- A band of a block: seven of them, 191 slots of at most 19 corrected bits each (R97, R101). -/
def BandBits.wf (x : BandBits) : Bool := decide (x.band < 7) && decide (x.read ≤ 191 * 768) && decide (x.corrected ≤ x.read)

/-- A pilot report gives a position for each of the seven references, for the oldest and the newest group (R139). -/
def PilotReport.wf (r : PilotReport) : Bool := r.oldest.length == 7 && r.newest.length == 7

/-- What a scrub finds of a line. -/
def LineFound.wf (x : LineFound) : Bool := fits 39 x.line && x.bits0.all (fits 10) && x.bits1.all (fits 10) && Sense.wf x.slot

/-- Lines of 39 bits (Table 08-3). -/
def VisitResult.wf (v : VisitResult) : Bool :=
  PilotReport.wf v.pilot && v.bits.all BandBits.wf && v.recovered.all LineSense.wf && v.tagFail.all (fits 39) && v.lost.all (fits 39)

/-- A pair and a slot of the Shallows (R54). -/
def CopyRead.wf (r : CopyRead) : Bool := decide (r.pair < 262144) && decide (r.slot < 512)

/-- A range of 64-bit addresses. -/
def Range.wf (r : Range) : Bool := fits 64 r.base && fits 64 r.len

/-- What an HDM decoder's fields hold. -/
def DecoderCfg.wf (d : DecoderCfg) : Bool := fits 64 d.base && fits 64 d.size && fits 8 d.ways && fits 16 d.gran && fits 64 d.skip

/-- Header fields of an image (R336, R372, R373). -/
def Image.wf (i : Image) : Bool := fits 32 i.svn && fits 16 i.proto && fits 16 i.fmtLvl

/-- Fields of Set Patrol Parameters (Table 11-7). -/
def PatrolInput.wf (p : PatrolInput) : Bool :=
  fits 32 p.t0 && fits 32 p.t1 && fits 32 p.t2 && fits 32 p.t3 && fits 16 p.threshold && fits 8 p.ageLog && fits 8 p.disturbLog

/-- The header of a lode message (Table 15-3). -/
def LodeHdr.wf (h : LodeHdr) : Bool := fits 48 h.seq && fits 8 h.level

/-- A tether entry of HELLO (Table 15-4). -/
def TetherEntry.wf (e : TetherEntry) : Bool := fits 14 e.partner && fits 32 e.epoch && fits 32 e.units

/-- HELLO (Table 15-4). -/
def HelloMsg.wf (m : HelloMsg) : Bool := fits 14 m.member && fits 16 m.proto && fits 16 m.fmt && decide (m.entries.length ≤ 8) && m.entries.all TetherEntry.wf

/-- An entry of LEVEL (Table 15-4). -/
def MemberLevel.wf (m : MemberLevel) : Bool := fits 14 m.member && fits 8 m.proto && fits 8 m.fmt

/-- What a package reports (R438). -/
def PackageFound.wf (p : PackageFound) : Bool := fits 16 p.part && fits 8 p.rev && fits 64 p.serial

/-- A temperature that a sensor can report: -100.0 to 300.0 degrees Celsius. -/
def Reading.wf (r : Reading) : Bool := r.temp.all fun t => decide (-1000 ≤ t) && decide (t ≤ 3000)

/-- A pair and a slot of the Shallows. -/
def ReplayEntry.wf (e : ReplayEntry) : Bool := decide (e.pair < 262144) && decide (e.slot < 512)

/-- What replay finds, and its duration of 64 bits (Table 02-4). -/
def ReplayResult.wf (r : ReplayResult) : Bool := r.entries.all ReplayEntry.wf && fits 64 r.ticks

/-- The fields of a sample (Table 12-10). -/
def Sample.wf (s : Sample) : Bool :=
  fits 64 s.dpa && fits 4 s.op && fits 3 s.path && fits 4 s.retries && fits 32 s.lat && fits 48 s.seq && decide (s.chan < 64) && fits 64 s.tarr

/-- The width or the rate that training gave. -/
def TrainResult.wf : TrainResult → Bool
  | .cxl _ width => decide (width ≤ 16)
  | .pcieOnly rate => decide (rate ≤ 64)
  | .failed => true

/-- Where an SRAM error can lie (Tables 13-8 and 13-9). -/
def Parity.wf : Parity → Bool
  | .secureBank entry => fits 16 entry
  | .sampleBank _ n => decide (n < 2048)
  | .writeData seq => fits 48 seq
  | .coreSram _ => true
  | .scratchpad _ => true
  | .validBitmap => true
  | .predictor => true
  | .hwRing => true
  | .notif _ => true
  | .pmonCounter _ => true
  | .readData _ => true
  | .other => true

/-- Whether a command's operands lie in the ranges of their fields: what a sender can put on the wire, or what the device can meet. -/
def wellFormed : Instr → Bool
  | .setOperatingPoint r point => Req.wf r && fits 8 point
  | .operatingPointReached => true
  | .autonomousFold .. => true
  | .memWr _ addr _ _ => Addr.wf addr
  | .memWrPtl _ addr _ _ _ => Addr.wf addr
  | .writeAdmission => true
  | .mergeReadComplete seq sense => fits 48 seq && Sense.wf sense
  | .sequenceCounterWrap => true
  | .seqAgeFold => true
  | .slotAllocation => true
  | .shallowsPlacementVerified seq _ _ => fits 48 seq
  | .indexUpdate => true
  | .ndrReturn => true
  | .memRd _ addr => Addr.wf addr
  | .memRdData _ addr => Addr.wf addr
  | .memSpecRd _ addr => Addr.wf addr
  | .memInv _ addr => Addr.wf addr
  | .memInvNt _ addr => Addr.wf addr
  | .detectorTimeout _ line => fits 39 line
  | .lookupSettled .. => true
  | .slotSenseComplete _ sense crcFails => Sense.wf sense && fits 16 crcFails
  | .readCutoff .. => true
  | .slowSenseReconstruct .. => true
  | .foldOrder _ granule _ => fits 31 granule
  | .foldGather .. => true
  | .foldReadsComplete _ x => x.lost.all (fits 39) && x.found.all LineSense.wf
  | .bandFillTimeout band => BandKey.wf band
  | .openSegmentForceClose seg => SegKey.wf seg
  | .bandProgramComplete band failed _ => BandKey.wf band && (failed.all fun p => decide (p < 16))
  | .bandCommitVerified band => BandKey.wf band
  | .slotRelease => true
  | .checkpointPieceWrite piece => fits 32 piece
  | .copyOrder seg => SegKey.wf seg
  | .wearLevelCopy .. => true
  | .segmentReset seg => SegKey.wf seg
  | .segmentResetComplete seg failed => SegKey.wf seg && (failed.all fun p => decide (p < 16))
  | .hotspotDetect _ _ progQ readQ => fits 8 progQ && fits 8 readQ
  | .driftEpochEnd => true
  | .pilotReadComplete blk report => SegKey.wf blk.seg && PilotReport.wf report
  | .gapEstimate .. => true
  | .patrolVisit seg visit => SegKey.wf seg && visit.all VisitResult.wf
  | .shallowsPatrol _ reads => reads.all CopyRead.wf
  | .readDisturbVisit seg => SegKey.wf seg
  | .warmUpSweepEnd => true
  | .scrubStart .. => true
  | .scrubAbort .. => true
  | .scrubEnd _ found lost => (found ++ lost).all LineFound.wf
  | .scrubProgressRecord _ found lost => (found ++ lost).all LineFound.wf
  | .commitDoorbell _ _ width _ => regWidth width
  | .abortDoorbell _ _ width _ => regWidth width
  | .commitTimerExpiry .. => true
  | .commitPoint .. => true
  | .outcomeRecordDurable .. => true
  | .regionEnable .. => true
  | .regionDisable .. => true
  | .rekeyPageStep .. => true
  | .rekeyComplete .. => true
  | .rootSeal => true
  | .ideIntegrityFailure .. => true
  | .lodeKeyRederive .. => true
  | .faultIndication .. => true
  | .statusProbeAnswer _ ticks => fits 32 ticks
  | .probeSilenceConfirmed .. => true
  | .faultWindowClose .. => true
  | .shallowsRestorationComplete .. => true
  | .rebuildSegmentComplete seg _ => SegKey.wf seg
  | .channelSuspect _ retries alerts => fits 32 retries && fits 32 alerts
  | .channelSuspectClear .. => true
  | .secondStackLoss .. => true
  | .watchdogExpiry .. => true
  | .cxlLaneFailure .. => true
  | .lodeLaneFailure .. => true
  | .linkTrainingResult _ result => TrainResult.wf result
  | .conventionalReset .. => true
  | .hotReset .. => true
  | .flr .. => true
  | .cxlReset .. => true
  | .gpfPhase1Request .. => true
  | .gpfPhase2Request .. => true
  | .hdmDecoderCommit _ _ cfg => DecoderCfg.wf cfg
  | .registerWrite _ bar off width value => decide (bar < 6) && fits 24 off && regWidth width && fits (8 * width) value
  | .identify r => Req.wf r
  | .backgroundOperationStatus r => Req.wf r
  | .requestAbortBackgroundOperation r => Req.wf r
  | .getEventRecords r _ => Req.wf r
  | .clearEventRecords r _ _ handles => Req.wf r && handles.all (fits 16)
  | .getEventInterruptPolicy r => Req.wf r
  | .setEventInterruptPolicy r _ _ _ _ => Req.wf r
  | .getFwInfo r => Req.wf r
  | .transferFw r action slot image => Req.wf r && fits 8 action && fits 8 slot && Image.wf image
  | .activateFw r action slot => Req.wf r && fits 8 action && fits 8 slot
  | .getTimestamp r => Req.wf r
  | .setTimestamp r _ => Req.wf r
  | .getSupportedLogs r => Req.wf r
  | .getLog r _ offset length => Req.wf r && fits 32 offset && fits 32 length
  | .identifyMemoryDevice r => Req.wf r
  | .getPartitionInfo r => Req.wf r
  | .setPartitionInfo r => Req.wf r
  | .getLsa r offset length => Req.wf r && fits 32 offset && fits 32 length
  | .setLsa r offset data => Req.wf r && fits 32 offset && decide (data.length ≤ 16384)
  | .getHealthInfo r => Req.wf r
  | .getAlertConfiguration r => Req.wf r
  | .setAlertConfiguration r life _ _ => Req.wf r && fits 8 life
  | .getShutdownState r => Req.wf r
  | .setShutdownState r _ => Req.wf r
  | .getPoisonList r dpa lines => Req.wf r && fits 64 dpa && fits 64 lines
  | .injectPoison r dpa => Req.wf r && fits 64 dpa
  | .clearPoison r dpa _ => Req.wf r && fits 64 dpa
  | .getScanMediaCapabilities r dpa lines => Req.wf r && fits 64 dpa && fits 64 lines
  | .scanMedia r dpa lines => Req.wf r && fits 64 dpa && fits 64 lines
  | .getScanMediaResults r => Req.wf r
  | .sanitize r => Req.wf r
  | .secureErase r => Req.wf r
  | .backgroundCommandComplete _ found lost => (found ++ lost).all LineFound.wf
  | .getSecurityState r => Req.wf r
  | .setPassphrase r _ _ _ => Req.wf r
  | .disablePassphrase r _ _ => Req.wf r
  | .unlock r _ => Req.wf r
  | .freezeSecurityState r => Req.wf r
  | .passphraseSecureErase r _ _ => Req.wf r
  | .securitySend r => Req.wf r
  | .securityReceive r => Req.wf r
  | .getDcConfig r => Req.wf r
  | .getDcExtentList r start count => Req.wf r && fits 32 start && fits 32 count
  | .addDcResponse r accept => Req.wf r && accept.all Range.wf
  | .releaseDc r ranges => Req.wf r && ranges.all Range.wf
  | .getLdInfo r => Req.wf r
  | .getLdAllocations r => Req.wf r
  | .setLdAllocations r start units => Req.wf r && fits 8 start && units.all (fits 64)
  | .getQosControl r => Req.wf r
  | .setQosControl r _ _ value => Req.wf r && fits 40 value
  | .getQosStatus r => Req.wf r
  | .getQosAllocatedBw r => Req.wf r
  | .setQosAllocatedBw r start fractions => Req.wf r && fits 8 start && decide (fractions.length ≤ 16)
  | .getQosBwLimit r => Req.wf r
  | .setQosBwLimit r start fractions => Req.wf r && fits 8 start && decide (fractions.length ≤ 16)
  | .getDcdInfo r => Req.wf r
  | .getHostDcRegionConfig r ld => Req.wf r && fits 16 ld
  | .setDcRegionConfig r region units _ => Req.wf r && fits 8 region && fits 64 units
  | .getDcRegionExtentLists r ld => Req.wf r && fits 16 ld
  | .initiateDcAdd r ld range => Req.wf r && fits 16 ld && Range.wf range
  | .initiateDcRelease r ld range _ => Req.wf r && fits 16 ld && Range.wf range
  | .openSession r slot _ => Req.wf r && fits 8 slot
  | .authenticateSession r _ _ _ => Req.wf r
  | .handleTimeout .. => true
  | .closeSession r => Req.wf r
  | .sessionIdleTimeout .. => true
  | .getSessionStatus r => Req.wf r
  | .getLastFailure r => Req.wf r
  | .provisionSessionKey r slot role _ => Req.wf r && fits 8 slot && fits 8 role
  | .revokeSessionKey r slot => Req.wf r && fits 8 slot
  | .grantDeviceControl r ld => Req.wf r && fits 8 ld
  | .getDeviceIdentity r => Req.wf r
  | .getChannelStatus r first count => Req.wf r && fits 8 first && fits 8 count
  | .getRecoveryReport r first => Req.wf r && fits 16 first
  | .getStripeSetStatus r set => Req.wf r && fits 8 set
  | .retireChannel r chan => Req.wf r && fits 8 chan
  | .setRebuildControl r set _ _ prio => Req.wf r && fits 8 set && fits 8 prio
  | .setGroupQuota r ld quota => Req.wf r && fits 8 ld && fits 32 quota
  | .getGroupOutcomes r => Req.wf r
  | .configureRegion r region base size => Req.wf r && fits 8 region && fits 64 base && fits 64 size
  | .removeRegion r region => Req.wf r && fits 8 region
  | .setNextKey r region mode _ => Req.wf r && fits 8 region && fits 8 mode
  | .startRekey r region => Req.wf r && fits 8 region
  | .getRegionStatus r region => Req.wf r && fits 8 region
  | .getPoolStatus r => Req.wf r
  | .setPoolIdentity r _ member => Req.wf r && fits 16 member
  | .configureTether r tether region partner ports _ => Req.wf r && fits 8 tether && fits 8 region && fits 16 partner && fits 8 ports
  | .removeTether r tether => Req.wf r && fits 8 tether
  | .declarePartnerAbsent r tether => Req.wf r && fits 8 tether
  | .failover r tether role => Req.wf r && fits 8 tether && fits 8 role
  | .raiseFormatLevel r level => Req.wf r && fits 16 level
  | .getPowerStatus r => Req.wf r
  | .powerRequest r op => Req.wf r && fits 8 op
  | .setRailParameters r rail filter low high dwell timeout retries => Req.wf r && fits 8 rail && fits 8 filter && fits 16 low && fits 16 high && fits 16 dwell && fits 16 timeout && fits 8 retries
  | .getThermalStatus r => Req.wf r
  | .setThermalParameters r grace => Req.wf r && fits 16 grace
  | .readPersistentLog r area first max => Req.wf r && fits 8 area && fits 48 first && fits 16 max
  | .getViolationCounters r _ => Req.wf r
  | .setEventRateLimit r code limit => Req.wf r && fits 16 code && fits 16 limit
  | .readHardwareRing r area first max => Req.wf r && fits 8 area && fits 48 first && fits 16 max
  | .readCustomerPartition r offset length _ => Req.wf r && fits 32 offset && fits 32 length
  | .writeCustomerPartition r offset length _ data => Req.wf r && fits 32 offset && fits 32 length && decide (data.length ≤ 16384)
  | .setCustomerPasswords r _ _ => Req.wf r
  | .readDeviceRegisters r block width count offset => Req.wf r && fits 8 block && fits 8 width && fits 16 count && fits 32 offset
  | .writeDeviceRegisters r block width count offset data => Req.wf r && fits 8 block && fits 8 width && fits 16 count && fits 32 offset && data.all (fits (8 * width))
  | .setCachePolicy r ld _ => Req.wf r && fits 8 ld
  | .getCacheStatus r => Req.wf r
  | .setPatrolParameters r p busShare => Req.wf r && PatrolInput.wf p && fits 8 busShare
  | .getPatrolStatus r => Req.wf r
  | .getLifeCycleState r => Req.wf r
  | .setLifeCycleState r target => Req.wf r && fits 8 target
  | .getBootStatus r => Req.wf r
  | .setBootImagePreference r image => Req.wf r && fits 8 image
  | .unsupportedOpcode r opcode => Req.wf r && fits 16 opcode
  | .notifDeliver .. => true
  | .notifClaim _ width => regWidth width
  | .notifEoi _ src => fits 32 src
  | .notifQconsWrite _ value => fits 32 value
  | .fmConsWrite value => fits 64 value
  | .notifQueueEnable .. => true
  | .clrlost .. => true
  | .unwind .. => true
  | .notifSwset .. => true
  | .pmonSnapshot .. => true
  | .pmonClear .. => true
  | .pmonCounterWrap .. => true
  | .pmonSample rec => Sample.wf rec
  | .sampleBankRelease .. => true
  | .samplingEnable .. => true
  | .cleanByAddress _ dpa => fits 64 dpa
  | .invalidateByAddress _ dpa => fits 64 dpa
  | .cleanInvalidateByAddress _ dpa => fits 64 dpa
  | .cleanBySetWay _ set _ => fits 24 set
  | .invalidateBySetWay _ set _ => fits 24 set
  | .cleanInvalidateBySetWay _ set _ => fits 24 set
  | .maintenanceOpExecute => true
  | .cleanComplete => true
  | .cacheSync _ width => regWidth width
  | .rangeStart .. => true
  | .rangeAbort .. => true
  | .rangeComplete => true
  | .spadAddWrite _ off width value => fits 24 off && regWidth width && fits (8 * width) value
  | .spadSwapWrite _ off width value => fits 24 off && regWidth width && fits (8 * width) value
  | .atomicFetchAdd _ off width value => fits 24 off && regWidth width && fits (8 * width) value
  | .atomicSwap _ off width value => fits 24 off && regWidth width && fits (8 * width) value
  | .atomicCompareAndSwap _ off width => fits 24 off && regWidth width
  | .sramParityError mem addr => Parity.wf mem && fits 32 addr
  | .bootRomImageCheck => true
  | .antiRollbackRaise => true
  | .spdmGetVersion .. => true
  | .spdmGetCapabilities .. => true
  | .spdmNegotiateAlgorithms .. => true
  | .spdmGetDigests .. => true
  | .spdmGetCertificate .. => true
  | .spdmChallenge .. => true
  | .spdmGetMeasurements .. => true
  | .spdmKeyExchange .. => true
  | .spdmFinish .. => true
  | .spdmHeartbeat .. => true
  | .spdmKeyUpdate .. => true
  | .spdmEndSession .. => true
  | .ideKmKeyProg .. => true
  | .ideKmKSetGo .. => true
  | .ideKmKSetStop .. => true
  | .tamperInputActive .. => true
  | .lodeTrainingResult _ _ lanes => decide (lanes ≤ 2)
  | .hello h msg => LodeHdr.wf h && HelloMsg.wf msg
  | .helloRepeat .. => true
  | .keepaliveSend .. => true
  | .keepalive h => LodeHdr.wf h
  | .lodeSilenceTimeout .. => true
  | .level h entries => LodeHdr.wf h && decide (entries.length ≤ 8) && entries.all MemberLevel.wf
  | .switch h level => LodeHdr.wf h && fits 16 level
  | .twrite h off _ _ _ => LodeHdr.wf h && fits 39 off
  | .tconf h seqs => LodeHdr.wf h && decide (1 ≤ seqs.length) && decide (seqs.length ≤ 8) && seqs.all (fits 48)
  | .tcommit h _ gseq first last count => LodeHdr.wf h && fits 48 gseq && fits 48 first && fits 48 last && fits 24 count
  | .tpoint h _ gseq => LodeHdr.wf h && fits 48 gseq
  | .tabort h _ outcome gseq => LodeHdr.wf h && fits 8 outcome && fits 48 gseq
  | .tquery h _ gseq => LodeHdr.wf h && fits 48 gseq
  | .tqans h _ _ gseq => LodeHdr.wf h && fits 48 gseq
  | .rsline h off _ _ => LodeHdr.wf h && fits 39 off
  | .rsmark h granule _ => LodeHdr.wf h && fits 40 granule
  | .bitmap h first bits => LodeHdr.wf h && fits 64 first && decide (bits.length ≤ 960)
  | .role h _ epoch => LodeHdr.wf h && fits 32 epoch
  | .removed h => LodeHdr.wf h
  | .partnerAbsentTimeout .. => true
  | .absentRetry .. => true
  | .confirmedMark => true
  | .resyncGranule .. => true
  | .keeperAlive vsup _ _ => fits 16 vsup
  | .vinDwellComplete vin => fits 16 vin
  | .railDwellComplete rail => decide (rail < 12)
  | .pscTransactionRetry rail _ => decide (rail < 12)
  | .railSequenceTimeout rail => decide (rail < 12)
  | .channelTrainingComplete found failed readings => found.all PackageFound.wf && (failed.all fun c => decide (c < 64)) && readings.all Reading.wf
  | .normalBootComplete => true
  | .replayComplete res => ReplayResult.wf res
  | .firstFormatComplete badBlocks => badBlocks.all fun b => SegKey.wf b.seg
  | .runningRailFault rail mv => decide (rail < 12) && fits 16 mv
  | .faultRestart => true
  | .keeperSramError => true
  | .vinCollapse mv => fits 16 mv
  | .pfailNLow => true
  | .pfailNHighRestart => true
  | .hardwareFlushComplete => true
  | .vholdExhausted mv bytes => fits 16 mv && fits 32 bytes
  | .orderlyPowerDownComplete => true
  | .railFallTimeout rail => decide (rail < 12)
  | .offMinimumElapsed => true
  | .holdupReadyAsserted mv => fits 16 mv
  | .holdupReadyLost mv => fits 16 mv
  | .vholdOvervoltage mv => fits 16 mv
  | .chargeTimeout mv => fits 16 mv
  | .vsupCollapse mv => fits 16 mv
  | .thermalMeasurement _ readings => readings.all Reading.wf
  | .throttleGraceExpiry => true
  | .coolingRestart => true
  | .mediaHoldTimeout => true
  | .rdyNFall .. => true
  | .alertNFall .. => true
  | .cdatTableAccess .. => true
  | .setdasa .. => true
  | .entdaa .. => true
  | .drsReturn => true
  | .firmwareActivationComplete .. => true
  | .cxlResetComplete .. => true
  | .boostRestart mv => fits 16 mv
  | .unknownLodeMessageType h _ => LodeHdr.wf h

end Sys2Proof
end

