-- ==== Sys2Proof/Tests/Slice0.lean ====
section
/-! SUPPORT. The model's own tests: well-formedness, hand results from the tables of the spec, and a witness for the hypotheses of each
statement. -/

namespace Sys2Proof.Tests

open Sys2Proof Sys2Proof.Machine

section

set_option Elab.async false

/-! ### A device that runs

Every premise below is shown of states built from these by one or two field updates. -/

/-- A device that runs with media ready: life cycle Provisioned, an Owner session open on every mailbox, LD 0 in control. -/
def live : State :=
  { State.reset with
    pw := { Pw.init with st := .running, alive := true, vin := 3300, vhold := 24000, vinGood := true, railsUp := 11, holdupReady := true,
                         armed := true, boostOn := true, dieUp := true, dataPath := true }
    kp := { Kp.init with endRec := .run, formatDone := true }
    sec := { Sec.init with fuseLC := .provisioned, keepLC := .provisioned, runImg := some imageDefault,
                           macSlots := .replicate 16 ⟨0, 65536, 2 ^ 32⟩, sessKeys := .replicate 4 (some ⟨1, 7⟩) }
    lk := { Lk.init with mediaReady := true, mediaStatus := .ready, memActive := true, grant := some 0,
                         ports := .replicate 2 { Port.init with mode := .mld } }
    lds := .replicate 16 { LD.init with enabled := true, partSize := 2 ^ 28 }
    mb := { Mb.init with inst := .replicate 18 { Mailbox.init with session := some ⟨0, 1, 0⟩ } }
    bt := ⟨.normal, .done⟩ }

/-- A request on a mailbox, with its input's length. -/
def rq (i : Inst) (len : Nat) : Req := ⟨i, len⟩

/-- Whether a request runs. -/
def runs (s : State) (r : Req) (op : Nat) (len : Option Nat) : Bool := match s.gate r op len with
  | .runs => true
  | _ => false

theorem taken_of_runs {s : State} {r : Req} {op : Nat} {len : Option Nat} (h : runs s r op len = true) : s.Taken r op len := by
  unfold runs at h
  show s.gate r op len = .runs
  split at h
  · assumption
  · cases h

/-! ### A taken request of every mailbox command of the statements -/

/-- Opcodes with the lengths of their inputs, on the fabric manager's mailbox. -/
def fmOps : List (Nat × Nat) :=
  [(0x0001, 0), (0x0002, 0), (0x0100, 1), (0x0200, 0), (0x0202, 2), (0x4400, 0), (0x4401, 0), (0x5400, 0), (0x5403, 0), (0x5404, 7),
   (0x5405, 0), (0x5407, 4), (0x5409, 4), (0x5402, 36), (0x5600, 0)] ++
  [(0xC000, 32), (0xC001, 20), (0xC002, 0), (0xC003, 0), (0xC004, 0), (0xC008, 48), (0xC009, 1), (0xC00A, 1), (0xC100, 0), (0xC101, 2),
   (0xC110, 2), (0xC120, 1), (0xC121, 1), (0xC122, 3), (0xC200, 8)] ++
  [(0xC300, 24), (0xC301, 1), (0xC302, 48), (0xC303, 1), (0xC304, 1), (0xC400, 0), (0xC401, 10), (0xC402, 48), (0xC403, 1), (0xC404, 1),
   (0xC405, 2), (0xC406, 2), (0xC500, 0), (0xC501, 1), (0xC502, 1), (0xC503, 12), (0xC504, 0), (0xC505, 2)] ++
  [(0xC600, 10), (0xC601, 1), (0xC602, 4), (0xC603, 10), (0xC604, 40), (0xC605, 56), (0xC606, 64), (0xC610, 8), (0xC611, 16), (0xC700, 2),
   (0xC702, 0), (0xC710, 21), (0xC711, 0), (0xC800, 0), (0xC801, 1), (0xC802, 0), (0xC803, 1)]

/-- The same on a primary mailbox. -/
def ldOps : List (Nat × Nat) :=
  [(0x0005, 0), (0x0100, 1), (0x0101, 8), (0x0102, 0), (0x0103, 4), (0x0300, 0), (0x0301, 8), (0x0400, 0), (0x0401, 24), (0x4000, 0),
   (0x4100, 0), (0x4102, 8), (0x4103, 10), (0x4200, 0), (0x4201, 0), (0x4202, 12), (0x4203, 0), (0x4204, 1)] ++
  [(0x4300, 16), (0x4301, 8), (0x4302, 72), (0x4303, 16), (0x4304, 17), (0x4305, 0), (0x4500, 0), (0x4501, 96), (0x4502, 64), (0x4503, 32),
   (0x4504, 0), (0x4505, 64), (0x4801, 8), (0x4802, 40), (0x4803, 40), (0xC201, 0)]

/-- Opcodes whose input has no fixed length. -/
def openOps : List Nat := [0x0201, 0x5401, 0x5406, 0x5408, 0x5601, 0x5602, 0x5603, 0x5604, 0x5605]

theorem test_fm_requests_run : (fmOps.all fun x => runs live (rq .fm x.2) x.1 (some x.2)) = true := by decide +kernel

theorem test_ld_requests_run : (ldOps.all fun x => runs live (rq (.ld 0) x.2) x.1 (some x.2)) = true := by decide +kernel

theorem test_open_requests_run : (openOps.all fun op => runs live (rq .fm 0) op none) = true := by decide +kernel

/-- A taken request by its place in a list above. -/
theorem fm_taken {op n : Nat} (h : (op, n) ∈ fmOps) : live.Taken (rq .fm n) op (some n) :=
  taken_of_runs (List.all_eq_true.mp test_fm_requests_run (op, n) h)

theorem ld_taken {op n : Nat} (h : (op, n) ∈ ldOps) : live.Taken (rq (.ld 0) n) op (some n) :=
  taken_of_runs (List.all_eq_true.mp test_ld_requests_run (op, n) h)

/-! ### Mailbox commands: a state and operands that meet every hypothesis of a clause -/

/-- The same device without a session. -/
def anon : State := { live with mb := Mb.init }

/-- The same device with Operator sessions. -/
def oper : State := { live with mb := { Mb.init with inst := .replicate 18 { Mailbox.init with session := some ⟨0, 0, 0⟩ } } }

theorem test_idle_premises : live.pending = [] ∧ live.held = [] ∧ live.wp.rx = [] ∧ live.rp.rx = [] ∧ live.cr.dirty.length ≤ 2 ^ 23 ∧
    2 ^ 23 < ({ live with cr := { live.cr with dirty := List.replicate (2 ^ 23 + 1) (1, 0) } } : State).cr.dirty.length :=
  ⟨rfl, rfl, rfl, rfl, Nat.zero_le _, by rw [List.length_replicate]; exact Nat.lt_succ_self _⟩

theorem test_answering_premises : beyondMaximum (.gpfPhase1Request 0) = false ∧ beyondMaximum (.keeperAlive 4000 0 []) = false ∧
    beyondMaximum (.keeperAlive 4001 0 []) = true ∧ beyondMaximum (.vholdExhausted 27000 0) = false ∧
    beyondMaximum (.vholdExhausted 27001 0) = true ∧ (live.pending ++ live.held).all (fun c => !beyondMaximum c) = true := by decide +kernel

theorem test_queue_premises : exec (.memSpecRd 0 (.dpa 0)) live = .next live ∧
    step { live with pending := [.memSpecRd 0 (.dpa 0)] } = .next live := ⟨rfl, rfl⟩

theorem test_memory_premises : Memory.wf ([] : Mem) := by simp [Memory.wf, Tbl.wf]

theorem test_refusal_premises :
    request (.getViolationCounters (rq (.ld 0) 1) false) = some (rq (.ld 0) 1, 0xC601) ∧ request (.powerRequest (rq .fm 1) 1) = some (rq .fm 1, 0xC502) ∧
    live.pw.dieUp = true ∧ live.fwUp = true ∧ live.mustWait (.ld 0) = false ∧ live.mustWait .fm = false ∧
    route 0xC601 = some ⟨false, true, false, .session, false, false⟩ ∧ route 0xC502 = some ⟨false, true, true, .owner, false, false⟩ ∧
    anon.fwUp = true ∧ anon.mustWait .fm = false ∧ anon.session .fm = none ∧
    oper.fwUp = true ∧ oper.mustWait .fm = false ∧ oper.session .fm ≠ none ∧ oper.ownerOn .fm = false := by decide +kernel

/-- A background command on every mailbox. -/
def bgLive (op : Nat) : State :=
  { live with mb := { live.mb with inst := .replicate 18 { Mailbox.init with session := some ⟨0, 1, 0⟩, bg := some ⟨op, 10, true, 0, false⟩ } } }

theorem test_log_premises : (bgLive 0x4400).mb.inst[Inst.ix (.ld 0)].bg = some ⟨0x4400, 10, true, 0, false⟩ ∧
    runs (bgLive 0x4400) (rq (.ld 0) 0) 0x0002 (some 0) = true ∧ 0 < celBytes.length ∧ 0 + celBytes.length ≤ celBytes.length ∧
    live.Taken (rq (.ld 0) 24) 0x0401 (some 24) := ⟨rfl, by decide +kernel, by decide +kernel, by decide +kernel, ld_taken (by decide +kernel)⟩

/-- A device with a poison record of LD 0, one log record and one sensor reading. -/
def read1 : State :=
  { live with
    lk := { live.lk with poison := [⟨0, 2, .vendor⟩] }
    lds := .replicate 16 { LD.init with enabled := true, partSize := 2 ^ 28,
                                        evLogs := .replicate 4 ⟨[⟨1, 0, ⟨0, 0x1001, 3, 0, 0, 0, 0, 0, 1, 0⟩⟩], 2, 0⟩ }
    th := { live.th with ctl := .replicate 23 ⟨some 451, false, none, 0, 1, none, []⟩ } }

theorem test_memory_read_premises : read1.devTemp.isSome = true ∧ (⟨0, 2, .vendor⟩ : PoisonRec) ∈ read1.lk.poison ∧ read1.allocated 0 0 = true ∧
    64 / 64 < 0 + 2 ∧ 0 < 64 / 64 + 1 ∧ runs read1 (rq (.ld 0) 16) 0x4300 (some 16) = true ∧ runs read1 (rq (.ld 0) 0) 0x4200 (some 0) = true ∧
    runs read1 (rq (.ld 0) 8) 0x4102 (some 8) = true ∧ 262143 < 262144 ∧ 1 ≤ 16384 ∧ 262143 + 1 ≤ 262144 := by decide +kernel

theorem test_setting_premises : (100 ≤ 100 ∧ (-32768 : Int) ≤ -32768 ∧ (-32768 : Int) ≤ 32767) ∧
    runs read1 (rq (.ld 0) 12) 0x4202 (some 12) = true ∧ runs read1 (rq (.ld 0) 10) 0x4103 (some (8 + [(1 : Byte), 2].length)) = true ∧
    262142 + [(1 : Byte), 2].length ≤ 262144 ∧ runs read1 (rq (.ld 0) 8) 0x0101 (some (6 + 2 * [1].length)) = true ∧
    ((read1.lds[(0 : Fin 16)].evLogs[(0 : Fin 4)].recs.take [1].length).map fun x => x.handle) = [1] := by decide +kernel

theorem test_shutdown_premises : runs live (rq (.ld 0) 1) 0x4204 (some 1) = true ∧
    (match exec (.setShutdownState (rq (.ld 0) 1) 1) live with
      | .next t => runs t (rq (.ld 0) 0) 0x4203 (some 0)
      | _ => false) = true := by decide +kernel

theorem test_unimplemented_premises : live.pw.dieUp = true ∧ live.fwUp = true ∧ live.mustWait (.ld 0) = false ∧ route 0x4101 = none ∧ route 0 = none := by
  decide +kernel

/-- LD passphrases: the user passphrase 5 with its check value, four failures already, locked or not, frozen or not. -/
def passed (lock frozen : Bool) (c : Option Block128) : State :=
  { live with lds := .replicate 16 { LD.init with enabled := true, partSize := 2 ^ 28, pass := ⟨c, none, none, none, 4, 0, lock, frozen⟩ } }

theorem test_passphrase_premises : (passed false false none).lds[(0 : Fin 16)].pass.check false = none ∧ (passed false false none).macOk 4 = true ∧
    (∀ l f c, (passed l f c).lds[(0 : Fin 16)].pass = ⟨c, none, none, none, 4, 0, l, f⟩) ∧
    (let c := checkValue (passed true false none).sec.keyPass.get 5;
      (passed true false (some c)).lds[(0 : Fin 16)].pass.check false = some (checkValue (passed true false (some c)).sec.keyPass.get 5) ∧
      (passed true false (some c)).lds[(0 : Fin 16)].pass.tries false < 5 ∧ (passed true false (some c)).macOk 4 = true ∧
      checkValue (passed true false (some (c + 1))).sec.keyPass.get 5 ≠ c + 1) := by
  refine ⟨rfl, by decide +kernel, fun _ _ _ => rfl, rfl, by decide, by decide +kernel, ?_⟩
  intro h
  have e : checkValue (passed true false none).sec.keyPass.get 5 = checkValue (passed true false none).sec.keyPass.get 5 + 1 := h
  bv_omega

theorem test_passphrase_requests_run : ([(0x4501, 96), (0x4502, 64), (0x4503, 32), (0x4504, 0), (0x4500, 0), (0x4505, 64)].all fun x =>
    runs (passed false false none) (rq (.ld 0) x.2) x.1 (some x.2) && runs (passed true false none) (rq (.ld 0) x.2) x.1 (some x.2) &&
    runs (passed false true none) (rq (.ld 0) x.2) x.1 (some x.2)) = true := by decide +kernel

/-- A device whose LDs have a scrub under way. -/
def scrubbing (scan : Bool) : State :=
  { live with lds := .replicate 16 { LD.init with enabled := true, partSize := 2 ^ 28, scrub := { Scrub.init with busy := true, scan := scan } } }

theorem test_erasure_premises : live.bgBusy .fm = false ∧ live.mb.sanitize = none ∧ live.Taken (rq .fm 0) 0x4400 (some 0) ∧
    live.Taken (rq .fm 0) 0x4401 (some 0) ∧ (bgLive 0x4400).bgBusy .fm = true ∧ runs (bgLive 0x4400) (rq .fm 0) 0x4400 (some 0) = true ∧
    runs (bgLive 0x4304) (rq (.ld 0) 0) 0x0005 (some 0) = true ∧ (bgLive 0x4304).lk.mediaReady = true ∧
    live.lds[(0 : Fin 16)].scrub.busy = false ∧ live.bgBusy (.ld 0) = false ∧ live.Taken (rq (.ld 0) 17) 0x4304 (some 17) ∧
    (scrubbing false).lds[(0 : Fin 16)].scrub.busy = true ∧ runs (scrubbing false) (rq (.ld 0) 17) 0x4304 (some 17) = true :=
  ⟨by decide +kernel, rfl, fm_taken (by decide +kernel), fm_taken (by decide +kernel), by decide +kernel, by decide +kernel, by decide +kernel, rfl,
    by decide +kernel, by decide +kernel, ld_taken (by decide +kernel), by decide +kernel, by decide +kernel⟩

theorem test_poison_premises : live.allocated 0 4194303 = true ∧ live.allocated 0 4194304 = false ∧ live.pw.holdupReady = true ∧
    live.wp.marks[(5 : Fin 6)] = false ∧ ((live.poisonOf 0).filter fun p => p.src = .injected).length < 256 ∧
    (live.mapEnt (granOf 0)).state ≠ .poisoned ∧
    (let s : State := { live with pw := { live.pw with holdupReady := false } };
      s.allocated 0 0 = true ∧ runs s (rq (.ld 0) 8) 0x4301 (some 8) = true) ∧
    (let s : State := { live with fo := { live.fo with map := [(0, ⟨.poisoned, 0, 0, 0, false⟩)] } };
      (s.mapEnt (granOf 0)).state = .poisoned ∧ s.allocated 0 0 = true ∧ runs s (rq (.ld 0) 72) 0x4302 (some 72) = true) := by decide +kernel

/-! ### Capacity -/

/-- A device with a DC region and an extent that LD 0 holds, and one offered to it. -/
def extents : State :=
  { live with lk := { live.lk with
    dcRegions := .replicate 8 ⟨2 ^ 33, 2 ^ 31, false⟩
    extents := [⟨2 ^ 33, 2 ^ 28, 0, [0], [], []⟩, ⟨2 ^ 33 + 2 ^ 28, 2 ^ 28, 0, [], [0], []⟩] } }

theorem test_division_premises : 14 + [1, 1].length ≤ 16 ∧ live.Taken (rq .fm 36) 0x5402 (some (4 + 16 * [1, 1].length)) ∧
    live.divisionBad (live.partSizes.take 14 ++ [1, 1].map (· * 2 ^ 28) ++ live.partSizes.drop 16) live.dcLens = false ∧
    live.divisionBad (live.partSizes.take 14 ++ [2 ^ 30, 1].map (· * 2 ^ 28) ++ live.partSizes.drop 16) live.dcLens = true ∧
    live.divisionBad live.partSizes (live.dcLens.set 7 (4 * 2 ^ 28)) = false ∧
    live.divisionBad live.partSizes (live.dcLens.set 7 (2 ^ 30 * 2 ^ 28)) = true ∧ (∀ n : Fin 16, live.lds[n].cw.en = false) :=
  ⟨by decide, fm_taken (by decide +kernel), by decide +kernel, by decide +kernel, by decide +kernel, by decide +kernel, by decide +kernel⟩

theorem test_extent_premises : extents.dcOf ⟨2 ^ 33 + 2 ^ 31 - 2 ^ 28, 2 ^ 28⟩ = some 0 ∧
    (∀ e ∈ extents.lk.extents, e.base + e.len ≤ 2 ^ 33 + 2 ^ 31 - 2 ^ 28 ∨ 2 ^ 33 + 2 ^ 31 ≤ e.base) ∧ extents.lk.extents.length < 4096 ∧
    runs extents (rq .fm 0) 0x5604 none = true ∧ [(⟨2 ^ 33 + 2 ^ 28, 2 ^ 28⟩ : Range)].all (extents.offered 0) = true ∧
    runs extents (rq (.ld 0) 40) 0x4802 (some (8 + 32 * 1)) = true ∧
    ((acceptExtents 0 [⟨2 ^ 33 + 2 ^ 28, 2 ^ 28⟩] extents.lk.extents).filter fun e => e.holders.contains 0).length ≤ 512 ∧
    extents.releasing 0 ⟨2 ^ 33, 2 ^ 28⟩ = false ∧ extents.mayRelease 0 ⟨2 ^ 33, 2 ^ 28⟩ = true ∧
    runs extents (rq (.ld 0) 40) 0x4803 (some 40) = true ∧ runs extents (rq .fm 0) 0x5605 none = true := by decide +kernel

theorem test_qos_premises : (true || false) = true ∧ 14 + [(1 : Byte), 2].length ≤ 16 ∧ runs live (rq .fm 4) 0x5407 (some (2 + [(1 : Byte), 2].length)) = true ∧
    runs live (rq .fm 4) 0x5409 (some (2 + [(1 : Byte), 2].length)) = true ∧ runs live (rq .fm 7) 0x5404 (some 7) = true := by decide +kernel

/-! ### Sessions -/

/-- A handle that waits on every mailbox. -/
def hd : Handle := ⟨9, 1, 3, 4, 4000000000⟩

/-- The device with that handle and no session. -/
def handled : State := { live with mb := { Mb.init with inst := .replicate 18 { Mailbox.init with handle := some hd } } }

/-- A Blank device whose slot 0 is empty. -/
def blank : State := { anon with sec := { live.sec with fuseLC := .blank, keepLC := .blank, sessKeys := .replicate 4 none } }

theorem test_session_premises : live.keeperServes .fm = false ∧ live.backedOff 0 = false ∧
    (live.sec.macSlots[macOfSlot 0]).uses < (live.sec.macSlots[macOfSlot 0]).limit ∧ (live.sec.sessKeys[(0 : Fin 4)]).isSome = true ∧
    handled.keeperServes .fm = false ∧ handled.mb.inst[Inst.ix .fm].handle = some hd ∧ handled.now ≤ hd.voidAt ∧
    handled.sec.sessKeys[hd.slot] = some ⟨1, 7⟩ ∧ handled.macOk (macOfSlot hd.slot) = true ∧
    (handled.macUse (macOfSlot hd.slot)).macOk (macOfSlot hd.slot) = true ∧ runs handled (rq .fm 20) 0xC001 (some 20) = true ∧
    anon.keeperServes .fm = false ∧ anon.session .fm = none ∧ runs anon (rq .fm 0) 0xC003 (some 0) = true ∧
    live.session .fm = some ⟨0, 1, 0⟩ ∧ live.mb.inst[Inst.ix .fm].session = some ⟨0, 1, 0⟩ ∧
    live.mb.inst[Inst.ix .fm].bg.any (·.running) = false := by decide +kernel

theorem test_session_proofs : (∃ resp, Config.cmac 7 (sessMsg 1 .fm hd) = resp) ∧ ∃ resp, Config.cmac 7 (sessMsg 1 .fm hd) ≠ resp :=
  ⟨⟨_, rfl⟩, ⟨Config.cmac 7 (sessMsg 1 .fm hd) + 1, by intro h; bv_omega⟩⟩

theorem test_session_key_premises : runs blank (rq .fm 48) 0xC008 (some 48) = true ∧ blank.sec.fuseLC = .blank ∧
    blank.sec.sessKeys[(0 : Fin 4)] = none ∧ (BitVec.ofNat 320 (2 ^ 256 - 1)).toNat < 2 ^ 256 ∧
    runs anon (rq .fm 48) 0xC008 (some 48) = true ∧ anon.sec.fuseLC ≠ .blank ∧ anon.session .fm = none ∧
    runs oper (rq .fm 48) 0xC008 (some 48) = true ∧ oper.session .fm ≠ none ∧ oper.ownerOn .fm = false ∧
    live.session .fm = some ⟨0, 1, 0⟩ ∧ (⟨0, 1, 0⟩ : Session).role = 1 ∧ (∃ x, live.session .fm = some x ∧ x.slot = 0) ∧
    (∀ x, live.session .fm = some x → x.slot ≠ 3) := by
  refine ⟨by decide +kernel, rfl, by decide +kernel, by decide +kernel, by decide +kernel, by decide +kernel, by decide +kernel, by decide +kernel,
    by decide +kernel, by decide +kernel, by decide +kernel, rfl, ⟨⟨0, 1, 0⟩, by decide +kernel, rfl⟩, ?_⟩
  intro x h
  have e : live.session .fm = some ⟨0, 1, 0⟩ := by decide +kernel
  cases e.symm.trans h
  decide

theorem test_violation_premises : (0 < 8 ∧ 7 < 8) ∧ ((3 : Nat) ≤ 3 ∧ (8 = 4 ∨ 8 = 8) ∧ 1 ≤ 2048 ∧ 2048 ≤ 2048) ∧ 0xBFFF8 % 8 = 0 ∧
    0xBFFF8 + 1 * 8 ≤ viewSize 3 ∧ 0xFFFF8 + 2 * 4 ≤ viewSize 0 ∧ 3 < 4 ∧ runs live (rq .fm 16) 0xC611 (some (8 + 2 * 4)) = true ∧
    runs live (rq .fm 16) 0xC611 (some (8 + 1 * 8)) = true := by decide +kernel

/-! ### Vendor commands -/

/-- The device with 16 channels of 4 dies, one die of channel 0 measured. -/
def small : State :=
  { live with hw := ⟨.s, .c, 16, 4, 0⟩, th := { live.th with media := [(0, ⟨some 512, false, none, 0, 1, none, []⟩)] } }

theorem test_vendor_read_premises : small.hw.channels ≤ (16 : Fin 64).val ∧ (15 : Fin 64).val < small.hw.channels ∧ runs small (rq .fm 2) 0xC101 (some 2) = true ∧
    maxTemp ((small.chanDies 0).map fun d => (small.mediaSensor d).eff true) = some 512 ∧ 4095 ≤ 4095 ∧
    (0 : Fin 4).val < small.numSets ∧ (3 : Fin 4).val < live.numSets ∧ runs live (rq (.ld 0) 0) 0xC201 none = true ∧ (1 ≤ 1 ∧ 1 ≤ 511 ∧ 511 ≤ 511) := by
  decide +kernel

theorem test_status_premises : live.kp.readPw = 0 ∧ live.kp.pwUntil = none ∧ 65535 < 65536 ∧ 65535 + 1 ≤ 65536 ∧ 0 + 16352 ≤ 65536 := by decide +kernel

theorem test_point_premises : live.hw.bin = .s ∧ (2 = 2 → ({ live with hw := ⟨.p, .c, 64, 16, 0⟩ } : State).hw.bin = .p) ∧ live.pw.vinGood = true ∧
    (live.pw.dataPath = true ∧ live.pw.st = .running) ∧
    (let s : State := { live with pw := { live.pw with target := some .e, nextPoint := some .p, vinGood := false } };
      s.pw.target = some .e ∧ s.pw.nextPoint = some .p ∧ (Point.p ≠ .e) ∧ s.pw.vinGood = false ∧ runs s (rq .fm 1) 0xC501 (some 1) = true) ∧
    (let s : State := { live with pw := { live.pw with target := some .e, dataPath := false } };
      s.pw.target = some .e ∧ (∀ z, s.pw.nextPoint = some z → z = .e) ∧ ¬(s.pw.dataPath = true ∧ s.pw.st = .running) ∧
      runs s (rq .fm 1) 0xC501 (some 1) = true) := by
  refine ⟨rfl, fun _ => rfl, rfl, ⟨rfl, rfl⟩, ⟨rfl, rfl, by decide, rfl, by decide +kernel⟩, rfl, ?_, by decide, by decide +kernel⟩
  intro z h
  cases h

theorem test_vendor_setting_premises : ((0x10 : Byte).getLsbD 3 = false ∧ (0x10 : Byte).getLsbD 4 = true) ∧
    ((0x09 : Byte).getLsbD 3 = true ∧ (0x09 : Byte).getLsbD 4 = false ∧ (0x09 : Byte).getLsbD 0 = true ∧ live.enableCause ((0x09 : Byte).getLsbD 1) = 0) ∧
    PatrolParams.outside patrolDefaults = none ∧ 3 ≤ patrolDefaults.busShare ∧ PatrolParams.outside ⟨⟨0, 0, 0, 0, 0, 0, 0⟩, 0⟩ = some 0 ∧
    PatrolParams.outside { patrolDefaults with busShare := 11 } = some 20 ∧ (63 : Fin 64).val < live.hw.channels ∧ (3 : Fin 4).val < live.numSets := by
  decide +kernel

/-- The device with a write password, and with a back-off. -/
def locked : State := { live with kp := { live.kp with writePw := 5, pwWrong := 3 } }

theorem test_partition_premises : live.kp.writePw = 0 ∧ live.kp.pwUntil = none ∧ live.Taken (rq .fm 56) 0xC605 (some (40 + 16)) ∧
    locked.keeperServes .fm = false ∧ runs locked (rq .fm 56) 0xC605 (some (40 + 16)) = true ∧ locked.kp.writePw ≠ 0 ∧ locked.kp.pwUntil = none ∧
    locked.macOk 5 = true ∧ locked.kp.pwWrong < 4 ∧ 65520 + 16 ≤ 65536 ∧ live.Taken (rq .fm 64) 0xC606 (some 64) ∧ live.macOk 5 = true ∧
    (let s : State := { live with kp := { live.kp with pwUntil := some 1 } };
      s.kp.pwUntil = some 1 ∧ s.now < 1 ∧ runs s (rq .fm 40) 0xC604 (some 40) = true ∧ runs s (rq .fm 56) 0xC605 (some (40 + 16)) = true) :=
  ⟨rfl, rfl, fm_taken (by decide +kernel), by decide +kernel, by decide +kernel, by decide +kernel, rfl, by decide +kernel, by decide +kernel, by decide,
    fm_taken (by decide +kernel), by decide +kernel, ⟨rfl, by decide, by decide +kernel, by decide +kernel⟩⟩

/-! ### Regions, tethers, firmware -/

/-- The device with region 1 in a state, over the first 256 MiB. -/
def regions (st : RegState) (w : Nat) : State :=
  { live with cr := { live.cr with regions := live.cr.regions.set 1 { Region.init with state := st, size := 2 ^ 28, w := w } } }

/-- The same with a granule in use at its start. -/
def used (st : RegState) : State := { regions st 0 with fo := { live.fo with map := [(0, ⟨.live, 0, 0, 0, false⟩)] } }

theorem test_region_premises : (regions .free 0).cr.regions[(1 : Fin 256)].state = .free ∧ (1 : Fin 256) ≠ 0 ∧ (2 ^ 28 : Nat) % 2 ^ 28 = 0 ∧
    (regions .free 0).ownRange 0 (2 ^ 28) = true ∧ (regions .free 0).regionMeets 0 (2 ^ 28) = false ∧ (regions .free 0).hasData 0 (2 ^ 28) = false ∧
    (used .free).cr.regions[(1 : Fin 256)].state = .free ∧ (used .free).hasData 0 (2 ^ 28) = true ∧
    (regions .rekeying 0).cr.regions[(1 : Fin 256)].state = .rekeying ∧ (regions .active 0).cr.regions[(1 : Fin 256)].state = .active ∧
    (regions .active 0).hasData 0 (2 ^ 28) = false ∧ (used .active).hasData 0 (2 ^ 28) = true := by decide +kernel

theorem test_region_requests_run : ([RegState.free, .active, .rekeying].all fun st => [(0xC300, 24), (0xC301, 1), (0xC302, 48), (0xC303, 1)].all fun x =>
    runs (regions st 0) (rq .fm x.2) x.1 (some x.2) && runs (used st) (rq .fm x.2) x.1 (some x.2)) = true := by decide +kernel

theorem test_rekey_premises : (regions .rekeying 65535).cr.regions[(1 : Fin 256)].w < (regions .rekeying 65535).regionEnd 1 ∧
    (regions .rekeying 65535).rollMs.admits = true ∧
    (regions .rekeying 65535).rollMs.wp.ilocks.all (fun l => decide (pageOf l.line ≠ 65535)) = true ∧
    (∀ k, (regions .rekeying 65535).rollMs.setFrozen k = false) ∧ (regions .rekeying 65535).regionOf (65535 * 64) = 1 ∧
    ((regions .rekeying 65535).block 65535).early = false ∧ (regions .rekeying 65535).pageWritten 65535 = false ∧
    (regions .rekeying 65536).regionEnd 1 ≤ (regions .rekeying 65536).cr.regions[(1 : Fin 256)].w ∧ (regions .rekeying 65536).oldKeyLive 1 = false ∧
    (regions .rekeying 65536).cr.regions[(1 : Fin 256)].owed = false ∧ (regions .rekeying 65536).wp.encQ = [] := by decide +kernel

/-- A tether end over region 1 with member 5 on port 0. -/
def tether0 (st : TetherState) (rep : Bool) : Tether :=
  { Tether.init with state := st, replica := rep, epoch := 1, region := 1, partner := 5, ports := 1, partnerReplica := true }

/-- The device, region 1 active, with that tether. -/
def tethered (st : TetherState) (rep : Bool) : State :=
  { regions .active 0 with lo := { Lo.init with tethers := Lo.init.tethers.set 0 (tether0 st rep) } }

theorem test_tether_premises : 5 < 2 ^ 14 ∧ 16383 < 2 ^ 14 ∧ (regions .active 0).lo.tethers.any (fun x => x.state != .free) = false ∧
    (tethered .absent true).lo.tethers.any (fun x => x.state != .free) = true ∧ (regions .active 0).tetherRefused 0 1 5 1 = false ∧
    (regions .active 0).session .fm = some ⟨0, 1, 0⟩ ∧ (∀ u : Fin 8, (regions .active 0).lo.tethers[u].state = .free) ∧
    ((tethered .absent true).lo.tethers[(0 : Fin 8)].state = .absent ∧ (tethered .absent true).lo.tethers[(0 : Fin 8)].replica = true ∧
      (tethered .absent true).lo.tethers[(0 : Fin 8)].part = false) ∧ (tethered .inSync false).lo.tethers[(0 : Fin 8)].replica = false ∧
    (tethered .pairing true).lo.tethers[(0 : Fin 8)].partnerReplica = true ∧ 1 ≤ live.kp.formatLevel ∧ live.kp.formatLevel < 2 := by decide +kernel

theorem test_tether_requests_run : ([TetherState.pairing, .syncing, .inSync, .absent].all fun st =>
    [(0xC401, 10), (0xC402, 48), (0xC403, 1), (0xC404, 1), (0xC405, 2), (0xC406, 2)].all fun x =>
      runs (tethered st true) (rq .fm x.2) x.1 (some x.2) && runs (regions .active 0) (rq .fm x.2) x.1 (some x.2)) = true := by decide +kernel

/-- Images of format level 2 and SVN 3, signed by key 1, in both slots and running. -/
def image2 : Image := ⟨0x12, 3, 1, 2, 1, true, true, true, true⟩

/-- The device with those images, an activation under way or not, and a time to raise the counter. -/
def updated (a : Option (Inst × Bool)) : State :=
  { live with sec := { live.sec with imgA := some image2, imgB := some image2, runImg := some image2, raiseAt := some 9 }, mb := { live.mb with activate := a } }

theorem test_firmware_premises : (updated none).sec.running = some image2 ∧ (updated none).kp.formatLevel < 2 ∧ 2 ≤ image2.fmtLvl ∧
    (updated none).lo.levels.any (fun m => decide (m.fmt < 2)) = false ∧ (updated none).sec.imgA = some image2 ∧ (updated none).sec.imgB = some image2 ∧
    (updated none).mb.transfer = none ∧ image2.fmtLvl < 3 ∧ (updated none).sec.romOnly = false ∧ (updated none).sec.img true = some image2 ∧
    (updated none).sec.imageCheck (some image2) = 0 ∧ (updated (some (.fm, true))).mb.activate = some (.fm, true) ∧
    (updated (some (.fm, true))).drained .fm = true ∧ (updated none).sec.raiseAt = some 9 ∧ (updated none).sec.antiRollback < image2.svn ∧
    (updated none).lk.mediaReady = true ∧ (0 : Fin 4).val < image2.keyIndex.val ∧
    lcStep live.sec.lc (lcOf 2) = true ∧ lcStep live.sec.lc (lcOf 3) = true ∧ lcStep live.sec.lc (lcOf 0) = false ∧ live.sec.pendingLC = none ∧
    live.pw.st = .running ∧
    (let s : State := { live with bt := ⟨.normal, .off⟩ };
      s.pw.dieUp = true ∧ s.bt.phase = .off ∧ s.sec.romOnly = false ∧ s.sec.imageCheck (s.sec.img s.sec.prefB) = 0) := by decide +kernel

theorem test_firmware_requests_run : runs (updated none) (rq .fm 0) 0x0201 none = true ∧ runs (updated none) (rq .fm 2) 0x0202 (some 2) = true ∧
    runs (updated none) (rq .fm 1) 0xC801 (some 1) = true ∧ runs (updated none) (rq .fm 1) 0xC803 (some 1) = true ∧
    runs (updated none) (rq .fm 2) 0xC406 (some 2) = true := by decide +kernel

/-! ### The write path -/

/-- A write of line 0 of LD 0. -/
def wr : Write := newWrite 1 0 0 none (BitVec.allOnes 64) 3 false .host

/-- With one stripe set, every granule lies in set 0. -/
theorem setOf_one {s : State} (h : s.hw.channels = 16) (g : Nat) : s.setOf g = 0 := by
  apply Fin.ext
  simp [State.setOf, State.numSets, h, Nat.mod_one]

/-- Where no window is open no set is frozen. -/
theorem unfrozen {s : State} (h : s.rd = live.rd) (k : Fin 4) : s.setFrozen k = false := by
  have e : ∀ k, live.setFrozen k = false := by decide +kernel
  have : s.setFrozen k = live.setFrozen k := by simp only [State.setFrozen, h]
  rw [this, e]

theorem test_write_premises : live.reachable 0 = true ∧ live.credits 0 = true ∧ live.wp.rx = [] ∧ live.lds[(0 : Fin 16)].adm.length < 256 ∧
    live.resolve 0 (.dpa (4194303 * 64)) = some (4194303, none) ∧ live.resolve 0 (.dpa (4194304 * 64)) = none ∧
    ({ live with lk := { live.lk with memActive := false } } : State).credits 0 = false ∧
    ({ live with lk := { live.lk with memActive := false } } : State).reachable 0 = true ∧
    256 ≤ (({ live with lds := .replicate 16 { LD.init with enabled := true, adm := List.replicate 256 wr } } : State).lds[(0 : Fin 16)]).adm.length := by
  decide +kernel

/-- The device with a partial write in the merge queue, and its granule as given. -/
def merging (m : MapEnt) : State := { live with wp := { live.wp with mergeQ := [wr] }, fo := { live.fo with map := [(0, m)] } }

theorem test_merge_premises : (0 < 64 ∧ 63 < 64 ∧ 0 < 8 ∧ 7 < 8) ∧
    findWrite ((merging ⟨.unwritten, 0, 0, 0, false⟩).wp.mergeQ.take 128) wr.seq = some wr ∧
    (merging ⟨.unwritten, 0, 0, 0, false⟩).mergeTent wr = none ∧ (merging ⟨.unwritten, 0, 0, 0, false⟩).cacheFind wr.line = none ∧
    (merging ⟨.unwritten, 0, 0, 0, false⟩).version wr.line = .zero ∧ (merging ⟨.unwritten, 0, 0, 0, false⟩).mergeRead wr (.good 0) = .line 0 ∧
    (∀ k, Sense.good 0 ≠ .tree k) ∧ (merging ⟨.poisoned, 0, 0, 0, false⟩).version wr.line = .poison ∧
    findWrite ((merging ⟨.poisoned, 0, 0, 0, false⟩).wp.mergeQ.take 128) wr.seq = some wr ∧ wr.src = .host ∧ wr.discard = false ∧
    (merging ⟨.poisoned, 0, 0, 0, false⟩).ilock wr.line = none ∧ (merging ⟨.unwritten, 0, 0, 0, false⟩).mergeBlock wr = none ∧
    recovers (.good 0) = false ∧
    ((merging ⟨.poisoned, 0, 0, 0, false⟩).mergePilots wr (.good 0)).mergeWaits wr (.good 0) = false := by
  refine ⟨by decide, rfl, rfl, rfl, by decide +kernel, by decide +kernel, ?_, by decide +kernel, rfl, rfl, rfl, rfl, by decide +kernel, rfl,
    by decide +kernel⟩
  intro k h
  cases h

/-- The device with a write in LD 0's admission queue, and its line's interlock entry as given. -/
def admitting (l : List ILock) : State :=
  { live with lds := .replicate 16 { LD.init with enabled := true, partSize := 2 ^ 28, adm := [wr] }, wp := { live.wp with ilocks := l } }

/-- The device with one place free in set 0, and a write that waits for it. -/
def placing : State :=
  { live with hw := ⟨.s, .c, 16, 4, 0⟩, wp := { live.wp with allocQ := [wr], pairs := (List.range 16).map fun i =>
      ⟨0, i, if i = 0 then 0 else 2, if i = 0 then 1 else 3, 1, 0, true, 0, false⟩, progQ := live.wp.progQ.set 2 5 } }

theorem test_admission_premises : ∀ l, l = [] ∨ l = [⟨0, 9, false, noNonce, []⟩] → (admitting l).nextAdmit.map (·.2) = some wr := by
  intro l h
  have f : ∀ k, (admitting l).setFrozen k = false := unfrozen rfl
  have e : ∀ w, (admitting l).mayLeave w = ((List.range 24).all (fun k => ((admitting l).admQ k).all fun v => !(v.line == w.line && newer w.seq v.seq)) &&
      (w.psn || w.be == BitVec.allOnes 64 || decide ((admitting l).wp.mergeQ.length < 128)) &&
      (match (admitting l).ilock w.line with
        | some l => decide ((l.waiting.filter fun (x : Write) => !x.src.intern).length < 8)
        | none => decide ((admitting l).hostLocks < 8192)) &&
      (match w.win, w.src with
        | some v, .host => decide ((admitting l).arrival w.ld v w.line ≠ .stays)
        | _, _ => true)) := by
    intro w
    simp only [State.mayLeave, f, Bool.not_false, Bool.and_true] <;> rfl
  unfold State.nextAdmit
  simp only [e]
  rcases h with rfl | rfl <;> decide +kernel

theorem test_admission_state : (admitting []).wp.relMs = (admitting []).now / 800000 ∧ (admitting []).admits = true ∧ wr.win = none ∧
    (admitting []).wp.rx = [] ∧ ((admitting []).mapEnt (granOf wr.line)).state ≠ .poisoned ∧ (∀ k : Fin 4, (admitting []).fo.exhausted[k] = false) ∧
    (admitting []).ilock wr.line = none ∧ (admitting [⟨0, 9, false, noNonce, []⟩]).ilock wr.line = some ⟨0, 9, false, noNonce, []⟩ := by decide +kernel

theorem test_placement_premises : placing.wp.encQ = [] ∧ placing.wp.allocQ = [wr] ∧ placing.wp.idxQ.length < 512 ∧
    ∃ u, ({ placing with wp := { placing.wp with allocQ := [] } } : State).place5 wr true = some u := by
  refine ⟨rfl, rfl, by decide, ?_⟩
  have k : (({ placing with wp := { placing.wp with allocQ := [] } } : State).allocSlot 0 1 (({ placing with wp := { placing.wp with allocQ := [] } } : State).pairOk wr true)).1 = some ⟨0, 0, 1⟩ := by decide +kernel
  unfold State.place5
  simp only [setOf_one (s := { placing with wp := { placing.wp with allocQ := [] } }) rfl]
  show ∃ u, (match ({ placing with wp := { placing.wp with allocQ := [] } } : State).allocSlot 0 1 (({ placing with wp := { placing.wp with allocQ := [] } } : State).pairOk wr true) with
    | (none, _) => none
    | (some p, s) => some _) = some u
  rcases h : ({ placing with wp := { placing.wp with allocQ := [] } } : State).allocSlot 0 1 (({ placing with wp := { placing.wp with allocQ := [] } } : State).pairOk wr true) with ⟨_ | p, t⟩
  · rw [h] at k; cases k
  · exact ⟨_, rfl⟩

/-- Where a record of pair 4, slot 5 lies for line 0. -/
def spot : Place := live.recPlace 0 ⟨4, 5, 0, false⟩

/-- An entry of line 0. -/
def en : Entry := ⟨64, 64, 0, 0, none, false, 7, 8, true, true, true, false, false, false⟩

theorem test_stage_premises :
    (let s : State := { live with wp := { live.wp with progs := [wr], idxQ := [wr], seq := 2 ^ 48 - 1 } };
      s.wp.progs = [wr] ∧ wr.localOk = false ∧ wr.partnerAck = true ∧ (true && false) = false ∧ s.wp.idxQ.length < 512 ∧ s.wp.idxQ = wr :: [] ∧
      s.wp.cplQ.length < 1024 ∧ tfind s.wp.index wr.line = none ∧ (s.ilock wr.line).all (fun l => l.waiting.isEmpty) = true ∧ s.wp.seq = 2 ^ 48 - 1) ∧
    (let c : Completion := ⟨1, 0, 0, none, 0, .host⟩; let s : State := { live with wp := { live.wp with cplQ := [c] } };
      s.wp.cplQ = c :: [] ∧ s.mayReturn c = true ∧ ({ s with pw := { s.pw with holdupReady := false } } : State).mayReturn c = false) := by decide +kernel

theorem test_newer_version_premises :
    let s : State := { live with wp := { live.wp with idxQ := [{ wr with seq := 65 }], index := [(0, ⟨4, 5, 0, false⟩)], entries := [(spot.code, en)] } }
    tfind s.wp.index 0 = some ⟨4, 5, 0, false⟩ ∧ s.entryAt (s.recPlace 0 ⟨4, 5, 0, false⟩) = some en ∧ newer en.ord 65 = false := by
  refine ⟨rfl, ?_, by decide⟩
  show (if spot.code = spot.code then some en else none) = some en
  simp

/-! ### The read path -/

/-- A read of line 0 by LD 0 on a path. -/
def rdOn (p : RPath) : Read := ⟨0, 0, 0, none, .host, 0, p, noNonce, 0, false, none, some 0, 0, false, 0, false⟩

/-- The device with that read in the tracker, the line's entry in the Shallows, and an answer that waits. -/
def reading (p : RPath) (m : GranState) : State :=
  { live with
    rp := { live.rp with tracker := [rdOn p], rsp := [⟨0, 1, 0, false⟩], detectors := [⟨0, 9, none, 0, 0⟩] }
    fo := { live.fo with map := [(0, ⟨m, 0, 0, 0, false⟩)] }
    wp := { live.wp with entries := [((⟨0, 4, 5⟩ : Place).code, { en with tag := live.tag noNonce 0 7 })] } }

theorem test_read_premises : live.rp.rx = [] ∧ live.rp.tracker.length < 4096 ∧ live.rp.rsp.length < 1024 ∧ live.readCapOk = true ∧
    live.pw.dataPath = true ∧ live.resolve 0 (.dpa 64) = some (1, none) ∧ live.resolve 0 (.dpa (2 ^ 28)) = none ∧
    4096 ≤ ({ live with rp := { live.rp with tracker := List.replicate 4096 (rdOn .lookup) } } : State).rp.tracker.length ∧
    live.lk.memActive = true ∧ (live.resolve 0 (.dpa 64)).isSome = true ∧ (⟨0, 9, none, 0, 0⟩ : Detector) ∈ (reading .lookup .unwritten).rp.detectors := by
  decide +kernel

theorem test_lookup_premises : (reading .lookup .unwritten).rp.tracker = [rdOn .lookup] ∧ (rdOn .lookup).src = .host ∧ (rdOn .lookup).poison = false ∧
    (reading .lookup .unwritten).rp.rx = [] ∧ (reading .lookup .unwritten).rp.pfQ = [] ∧ (reading .lookup .unwritten).rp.rsp.length < 1024 ∧
    (reading .lookup .unwritten).rd.windows[(4 : Fin 5)] = none ∧ ((reading .lookup .unwritten).resolvePath 0 none 0).1 = .zero ∧
    ((reading .lookup .poisoned).resolvePath 0 none 0).1 = .poison ∧ ((reading .lookup .live).resolvePath 0 none 0).1.sensing = true ∧
    (let s : State := { reading .lookup .live with ca := { live.ca with lines := [⟨0, 0, 0, false, 0, 5⟩] } };
      (s.resolvePath 0 none 0).1 = .cache ∧ s.cacheFind 0 = some ⟨0, 0, 0, false, 0, 5⟩) := by decide +kernel

theorem test_sense_premises : (∀ k, (reading (.tentative ⟨0, 4, 5⟩) .live).setFrozen k = false) ∧
    (RPath.tentative ⟨0, 4, 5⟩).sensing = true ∧ (rdOn .lookup).chan = some 0 ∧ (reading (.tentative ⟨0, 4, 5⟩) .live).awaitsPilot (rdOn (.tentative ⟨0, 4, 5⟩)) (.good 0) = false ∧
    (reading (.tentative ⟨0, 4, 5⟩) .live).stored (rdOn (.tentative ⟨0, 4, 5⟩)) = .line 7 (live.tag noNonce 0 7) ∧
    senseOf (reading (.tentative ⟨0, 4, 5⟩) .live) noNonce 0 7 (live.tag noNonce 0 7) (.good 0) =
      some (some ((reading (.tentative ⟨0, 4, 5⟩) .live).dec noNonce 0 7)) :=
  ⟨unfrozen rfl, rfl, rfl, rfl, rfl, if_pos rfl⟩

/-- The device with line 0 in a Peat frame whose segment has lost every position. -/
def rowDown : State :=
  { reading (.peat 0 0) .live with
    fo := { live.fo with frames := [(frameCode (live.setOf 0) 0 0, ⟨0, [(0, ⟨7, live.tag noNonce 0 7, false⟩)], true⟩)]
                         segs := [(segCode ⟨live.setOf 0, 0, 0⟩, ⟨.full, 7, false, 0, 0, allFin 16, 0⟩)] } }

/-- Its segment. -/
def rowSeg : SegKey := ⟨live.setOf 0, 0, 0⟩

theorem rowSeg_lost : (rowDown.seg rowSeg).lost = allFin 16 :=
  congrArg Segment.lost (if_pos rfl : tget Segment.free rowDown.fo.segs (segCode rowSeg) = _)

theorem rowDown_down (p : Fin 16) : rowDown.blockUp ⟨rowSeg, p⟩ = false := by
  have h : p ∈ (rowDown.seg rowSeg).lost := by rw [rowSeg_lost]; revert p; decide
  simp [State.blockUp, h]

theorem rowDown_gone (p : Fin 16) : rowDown.rowGone ⟨rowSeg, p⟩ = true := by
  have h2 : 2 ≤ ((allFin 16).filter fun q => q ≠ p).length := by revert p; decide
  have h : ((segBlocks rowSeg).filter fun x => x.pos ≠ p && !rowDown.blockUp x).length = ((allFin 16).filter fun q => q ≠ p).length := by
    simp only [segBlocks, List.filter_map, List.length_map, Function.comp_def, rowDown_down]
    simp
  exact decide_eq_true (h ▸ h2)

theorem rowDown_set : rowDown.setOf 0 = live.setOf 0 := rfl

theorem rowDown_frame : tfind rowDown.fo.frames (frameCode (live.setOf 0) 0 0) = some ⟨0, [(0, ⟨7, live.tag noNonce 0 7, false⟩)], true⟩ := by
  simp only [rowDown, tfind, if_true]

theorem stored_peat {s : State} {r : Read} {l : Fin 16} {n : Nat} {f : Frame} {x : PeatSlot} (hp : r.path = .peat l n)
    (hf : tfind s.fo.frames (frameCode (s.setOf (granOf r.line)) l n) = some f) (hx : tfind f.slots (r.line % 256) = some x) (h : x.psn = false) :
    s.stored r = .line x.data x.tag := by
  simp [State.stored, hp, hf, hx, h]

theorem rowDown_stored : rowDown.stored (rdOn (.peat 0 0)) = .line 7 (live.tag noNonce 0 7) := by
  have g : granOf (rdOn (.peat 0 0)).line = 0 := rfl
  exact stored_peat (l := 0) (n := 0) (x := ⟨7, live.tag noNonce 0 7, false⟩) rfl (by rw [g, rowDown_set, rowDown_frame]) rfl rfl

theorem rowDown_block : ∃ p, rowDown.lineBlock 0 0 0 = ⟨rowSeg, p⟩ := ⟨_, rfl⟩

theorem test_row_gone_premises : rowDown.stored (rdOn (.peat 0 0)) = .line 7 (live.tag noNonce 0 7) ∧
    rowDown.readSense (rdOn (.peat 0 0)) (.good 0) = .lost ∧
    (reading (.tentative ⟨0, 4, 5⟩) .live).readSense (rdOn (.tentative ⟨0, 4, 5⟩)) (.good 0) = .good 0 := by
  obtain ⟨p, h⟩ := rowDown_block
  exact ⟨rowDown_stored, by simp [State.readSense, rdOn, h, State.rowSense, rowDown_down, rowDown_gone], rfl⟩

theorem test_cutoff_premises : RPath.lookup ≠ .finished ∧ (reading .lookup .live).anyWindow = false ∧ (reading .lookup .live).readCap = false ∧
    (rdOn (.peat 0 0)).path = .peat 0 0 ∧ (rdOn (.peat 0 0)).recovering = false ∧ (reading (.peat 0 0) .live).rp.rcn < 64 ∧
    (reading .lookup .live).rp.rsp = ⟨0, 1, 0, false⟩ :: [] ∧
    (reading .lookup .live).lk.ports[(reading .lookup .live).portOf 0].mode = .mld := by decide +kernel

/-! ### Folding -/

/-- Segment 1 of lane 0 of set 0. -/
def sg : SegKey := ⟨0, 0, 1⟩

/-- A placed frame of granule 0 with line 0 gathered. -/
def frame0 : Placed := ⟨0, [], [⟨0, ⟨4, 5, 0, false⟩⟩], none⟩

/-- The device while folding: a band in a phase, the segment in a state, granule 0 waiting to be folded. -/
def folding (ph : BandPhase) (st : SegState) (bands : Nat) : State :=
  { live with
    wp := { live.wp with index := [(0, ⟨4, 5, 0, false⟩)], marks := .replicate 6 true, entries := [(1, en)] }
    fo := { live.fo with
      orderQ := .replicate 4 [(0, some 0)], folds := [⟨3, 0, 0, 0, false, []⟩], bands := [⟨⟨sg, 0⟩, ph, false, 0, [frame0], 0, [0], 0, 0⟩]
      segs := [(1, ⟨st, bands, false, 0, 0, [], 0⟩), (2, ⟨.opened, 1, false, 3000, 0, [], 0⟩)], relQ := [1] }
    dr := { live.dr with epoch := 24 } }

theorem test_fold_premises : (∀ g, ∃ k, live.setOf g = k) ∧ (∀ k : Fin 4, live.fo.orderQ[k].length < 4096 ∧ live.fo.orderQ[k].any (fun p => p.2.isSome && p.1 == 0) = false) ∧
    (∀ k : Fin 4, 4096 ≤ ({ live with fo := { live.fo with orderQ := .replicate 4 (List.replicate 4096 (0, none)) } } : State).fo.orderQ[k].length) ∧
    (folding .assembling .full 1).wp.marks[(0 : Fin 6)] = true ∧ (folding .assembling .full 1).pw.dataPath = true ∧
    (∀ k, (folding .assembling .full 1).setFrozen k = false) ∧ (∀ k : Fin 4, (folding .assembling .full 1).fo.orderQ[k] = [(0, some 0)]) ∧
    (∀ k : Fin 4, let s := folding .assembling .full 1; let j := s.judgeGran k 0
      j.bandsFull k (j.foldLane k 0 (some 0)) false (s.hotGran 0) = false) ∧
    ((folding .assembling .full 1).mapEnt 0).state ≠ .poisoned ∧ (folding .assembling .full 1).gatherLines 0 ≠ [] ∧
    (folding .assembling .full 1).fo.folds.find? (fun (x : Fold) => x.id == 3) = some ⟨3, 0, 0, 0, false, []⟩ ∧
    (folding .assembling .full 1).anyPend ((folding .assembling .full 1).homeBlocks 0) = false ∧
    (let b : Band := ⟨⟨sg, 0⟩, .assembling, false, 0, [frame0], 0, [0], 0, 0⟩; (folding .assembling .full 1).fo.bands = [b] ∧
      (folding .assembling .full 1).assembling 0 0 false ((folding .assembling .full 1).hotGran 0) = some b ∧ b.frames.length < 9) := by
  refine ⟨fun _ => ⟨_, rfl⟩, by decide +kernel, by decide +kernel, by decide +kernel, rfl, unfrozen rfl, by decide +kernel, by decide +kernel,
    by decide +kernel, by decide +kernel, by decide +kernel, by decide +kernel, by decide +kernel⟩

theorem test_fold_slot_premises : ∀ p, ({ live with wp := { live.wp with entries := [(spot.code, { en with psn := p })] } } : State).entryAt
    (live.recPlace 0 ⟨4, 5, 0, false⟩) = some { en with psn := p } := by
  intro p
  show (if spot.code = spot.code then some ({ en with psn := p } : Entry) else none) = some { en with psn := p }
  simp

theorem test_band_premises : (∀ ph, (folding ph .full 1).bandOf ⟨sg, 0⟩ = some ⟨⟨sg, 0⟩, ph, false, 0, [frame0], 0, [0], 0, 0⟩) ∧ 0 < [frame0].length ∧
    (let q : SegKey := ⟨0, 0, 2⟩; ((folding .assembling .full 1).seg q).state = .opened ∧
      ((folding .assembling .full 1).seg q).openedEpoch + 24 ≤ (folding .assembling .full 1).dr.epoch ∧ 0 < ((folding .assembling .full 1).seg q).bands ∧
      (folding .assembling .full 1).fo.bands.all (fun (x : Band) => x.key.seg != q) = true) ∧
    (folding .assembling .full 1).lanePrograms 0 0 = false ∧ (∀ p : Fin 16, 0 < (folding .programming .full 1).dieSpare (blockDie ⟨sg, p⟩)) ∧
    (∀ x ∈ (folding .programming .full 1).laneSegs 0 0, x.2.state ≠ .victim) ∧
    frame0.granule ≠ 0xFFFFFFFF ∧ frame0.copyOf = none ∧ ((folding .committing .opened 1).mapEnt 0).state ≠ .poisoned ∧
    (folding .committing .opened 1).fo.copyQ[(0 : Fin 4)] = [] ∧
    (∃ x ∈ frame0.gathered, (folding .committing .opened 1).stillGathered x = true) ∧ 1 ∈ (folding .committing .opened 1).fo.relQ ∧
    (folding .committing .opened 1).entryAt (placeOf 1) = some en := by
  refine ⟨?_, by decide, by decide +kernel, by decide +kernel, by decide +kernel, by decide +kernel, by decide, rfl, by decide +kernel, by decide +kernel,
    ⟨⟨0, ⟨4, 5, 0, false⟩⟩, by decide, by decide +kernel⟩, by decide +kernel, by decide +kernel⟩
  intro ph
  cases ph <;> rfl

theorem test_segment_premises : ((folding .committing .full 1).seg sg).state = .full ∧ (folding .committing .full 1).fo.copyQ[sg.set].length < 256 ∧
    (folding .committing .full 1).kp.eolSets.contains sg.set = false ∧ ((folding .committing .opened 1).seg sg).state ≠ .full ∧
    ((folding .committing .full 1).laneSegs 0 0).filter (fun p => p.2.state == .full) = [(1, ⟨.full, 1, false, 0, 0, [], 0⟩)] ∧
    (∃ p ∈ (folding .committing .full 1).laneSegs 0 0, 0 + 2000 < p.2.resets) ∧
    (folding .committing .full 1).seg ⟨0, 0, 1⟩ = ⟨.full, 1, false, 0, 0, [], 0⟩ ∧ ((folding .committing .full 1).takeSeg 0 0 false).isSome = true ∧ ((folding .committing .victim 1).seg sg).state = .victim ∧
    ((folding .committing .victim 1).liveFrames sg).isEmpty = true ∧ (folding .committing .victim 1).segRead sg = false ∧
    ((folding .committing .resetting 1).seg sg).state = .resetting ∧ (folding .committing .resetting 1).fo.retiring.any (fun p => p.1.seg == sg) = false ∧
    sg.seg < 393216 ∧ (∀ k, (folding .committing .victim 1).setFrozen k = false) := by
  decide +kernel

/-! ### Drift, patrols, scrubs -/

/-- Die 0 of channel 0. -/
def d0 : DieKey := ⟨0, 0⟩

/-- The device with 64 gap reports of that die, the estimate made or not, in its warm-up sweep. -/
def gapped (g : Int) (done : Bool) : State :=
  { live with dr := { live.dr with dies := [(0, ⟨1, 2, 1, 100, 64, List.replicate 64 g, done⟩)], sweep := true } }

theorem test_drift_premises : live.pw.dieUp = true ∧ d0 ∈ live.allDies ∧ ((gapped 3 false).drDie d0).done = false ∧
    64 ≤ ((gapped 3 false).drDie d0).gaps.length ∧ 0 < median ((gapped 3 false).drDie d0).gaps ∧ median ((gapped (-3) false).drDie d0).gaps ≤ 0 ∧
    ((gapped 3 true).drDie d0).done = true ∧ (gapped 3 false).dr.sweep = true ∧ ofsSat 31 = 31 ∧
    (gapped 3 false).unswept = false ∧ ({ folding .committing .full 1 with dr := { live.dr with sweep := true } } : State).unswept = true := by decide +kernel

/-- The device with a read-disturb count of that segment at its limit. -/
def disturbed : State := { folding .committing .full 1 with dr := { live.dr with segs := [(1, ⟨0, [], [], 2 ^ 20, false⟩)], sweep := false } }

theorem test_patrol_premises : (∀ k, disturbed.setFrozen k = false) ∧ (disturbed.seg sg).bands ≠ 0 ∧ disturbed.dr.sweep = false ∧
    ((disturbed.dueSegs 0).isEmpty = true ∨ (disturbed.dueSegs 0).contains sg = true) ∧ disturbed.fo.copyQ[sg.set] = [] ∧ disturbed.rp.patrolQ = [] ∧
    2 ^ disturbed.dr.params.disturbLog ≤ (disturbed.drSeg sg).rdc ∧ (live.drSeg sg).rdc < 2 ^ live.dr.params.disturbLog ∧
    (⟨0, 0, some 8, some 8⟩ : CopyRead).bits0 = some 8 ∧ 8 ≤ 8 := by
  refine ⟨unfrozen rfl, by decide +kernel, by decide +kernel, by decide +kernel, by decide +kernel, by decide +kernel, by decide +kernel,
    by decide +kernel, rfl, by decide⟩

/-- The device with a decoder of LD 0 committed and a scrub set up over it. -/
def scrubReady (len : Nat) (busy : Bool) : State :=
  { live with lds := .replicate 16 { LD.init with
      enabled := true, partSize := 2 ^ 28, decoders := .replicate 4 ⟨⟨0, 2 ^ 28, 1, 256, 0⟩, true, false⟩
      scrub := { Scrub.init with len := len, busy := busy } } }

theorem test_scrub_premises : live.Reaches (whoOf 0) ∧
    (∀ b, ((scrubReady (2 ^ 28) b).lds[(0 : Fin 16)]).scrub.len ≠ 0 ∧
      covered ((scrubReady (2 ^ 28) b).lds[(0 : Fin 16)]).decoded 0 (0 + 2 ^ 28) 5 = true ∧ ((scrubReady (2 ^ 28) b).lds[(0 : Fin 16)]).scrub.busy = b) ∧
    (scrubReady (2 ^ 28) false).lk.mediaReady = true ∧
    ¬(((scrubReady 0 false).lds[(0 : Fin 16)]).scrub.len ≠ 0 ∧ covered ((scrubReady 0 false).lds[(0 : Fin 16)]).decoded 0 (0 + 0) 5 = true) ∧
    ((scrubbing false).lds[(0 : Fin 16)]).scrub.busy = true ∧ ((scrubbing false).lds[(0 : Fin 16)]).scrub.scan = false ∧
    ({ scrubReady (2 ^ 28) false with lk := { live.lk with mediaReady := false } } : State).lk.mediaReady = false ∧
    live.homeBlock 0 = none ∧ live.allocated 0 0 = true ∧ live.version 0 = .zero ∧ live.allocated 0 (2 ^ 22) = false ∧ live.homeBlock (2 ^ 22) = none ∧
    (merging ⟨.poisoned, 0, 0, 0, false⟩).version 0 = .poison ∧ (merging ⟨.poisoned, 0, 0, 0, false⟩).homeBlock 0 = none := by decide +kernel

/-! ### Commit groups -/

/-- The device with a window 0 of LD 0 as given, its region enabled over the LD's capacity. -/
def windowed (en : Bool) (v : Win) : State :=
  { live with lds := .replicate 16 { LD.init with
      enabled := true, partSize := 2 ^ 28, cw := { Cw.init with en := en }, wins := .replicate 64 v } }

/-- An open group of 3 writes, 2 of them acknowledged. -/
def open3 : Win := { Win.init with state := .opened, arrived := 3, acked := 2, gseq := 5 }

/-- A committing group with its record issued. -/
def due : Win := { open3 with state := .committing, recIssued := true, recPartner := true }

theorem test_doorbell_premises : (windowed true open3).Reaches (whoOf 0) ∧ (8 = 8 ∧ ((windowed true open3).lds[(0 : Fin 16)]).cw.en = true) ∧
    ((windowed false open3).lds[(0 : Fin 16)]).cw.en = false ∧ (4 ≠ 8) ∧ ¬((0 : Nat) = 2 ∨ (0 = 1 ∧ 1 ≤ 0 ∧ 0 ≤ 65536)) ∧
    ¬((1 : Nat) = 2 ∨ (1 = 1 ∧ 1 ≤ 65537 ∧ 65537 ≤ 65536)) ∧ ((1 : Nat) = 1 ∧ 1 ≤ 65536 ∧ 65536 ≤ 65536) ∧
    (BitVec.ofNat 64 (65536 + 2 ^ 17)).toNat / 2 ^ 17 % 4 = 1 ∧ (BitVec.ofNat 64 (65536 + 2 ^ 17)).toNat % 2 ^ 17 = 65536 ∧
    (BitVec.ofNat 64 (2 * 2 ^ 17)).toNat / 2 ^ 17 % 4 = 2 ∧ Win.init.active = false ∧ open3.active = true ∧ due.active = true ∧ due.recIssued = true ∧
    due.state = .committing ∧ (BitVec.ofNat 64 (1 + 2 ^ 17 + 2 ^ 19 + 9 * 2 ^ 32)).toNat / 2 ^ 19 % 2 = 1 ∧
    (BitVec.ofNat 64 (1 + 2 ^ 17 + 2 ^ 19 + 9 * 2 ^ 32)).toNat / 2 ^ 32 % 2 ^ 16 = 9 ∧ 9 ≠ open3.gseq % 2 ^ 16 ∧ open3.dbWait.isSome = false := by
  decide +kernel

theorem test_group_premises :
    (let s := windowed true open3; s.Reaches (whoOf 0) ∧ s.dbCause 0 0 true (4 + 2 ^ 17) = 0 ∧ field (4 + 2 ^ 17) 18 17 = 1 ∧ field (4 + 2 ^ 17) 16 0 = 4 ∧
      s.dbCause 0 0 true (2 + 2 ^ 17) = 0 ∧ field (2 + 2 ^ 17) 16 0 < open3.arrived ∧ s.dbCause 0 0 true (2 * 2 ^ 17) = 0 ∧
      field (2 * 2 ^ 17) 18 17 = 2 ∧ open3.recIssued = false ∧ s.timerPaused = false) ∧
    (let s := windowed true Win.init; s.Reaches (whoOf 0) ∧ s.dbCause 0 0 true (1 + 2 ^ 17) = 0 ∧ Win.init.active = false ∧ Win.init.closing = none) ∧
    (let s := windowed true { Win.init with closing := some 1 }; s.Reaches (whoOf 0) ∧ s.dbCause 0 0 true (1 + 2 ^ 17) = 0) ∧
    (let s := windowed true due; due.recIssued = true ∧ due.state = .committing ∧ due.recPartner = true ∧ due.dbWait = none ∧ s.partnerRec 0 0 = none ∧
      s.replicaGroup 0 0 = false) ∧
    (let v : Win := { Win.init with closing := some 1 }; v.closing = some 1 ∧ v.dbWait = none) := by decide +kernel

/-- A tentative line 0 of the open group of window 0. -/
def tent0 : TentRec := ⟨0, 0, 5, 0, 70, ⟨0, 4, 6⟩, false, noNonce, 7, false, false⟩

/-- The device about to commit that line under a record number, the index naming another entry of it or none. -/
def committing (q : Nat) (l : Tbl IndexRec) : State :=
  { windowed true { due with recSeq := q } with
    wp := { live.wp with tents := [tent0], index := l, entries := [(tent0.place.code, en), (spot.code, { en with ord := 75 })] } }

/-- The first entry of a table is found. -/
theorem found_first {β : Type} (k : Nat) (v : β) (m : Tbl β) : tfind ((k, v) :: m) k = some v := if_pos rfl

theorem test_committed_line_premises : (∀ q l, (committing q l).wp.tents.filter (fun (y : TentRec) => y.ld = 0 && y.win = 0 && y.gseq = due.gseq) = [tent0]) ∧
    tent0.lost = false ∧ (∀ q l, (committing q l).entryAt tent0.place = some en) ∧ (committing 80 []).partnerRec 0 0 = none ∧
    (committing 80 []).replicaGroup 0 0 = false ∧ tfind (committing 80 []).wp.index 0 = none ∧
    ((committing 80 []).mapEnt (granOf tent0.line)).state ≠ .poisoned ∧
    tfind (committing 80 [(0, ⟨4, 5, 0, false⟩)]).wp.index 0 = some ⟨4, 5, 0, false⟩ ∧ newer 75 80 = false ∧ newer 75 70 = true ∧ spot.slot ≠ tent0.place.slot := by
  refine ⟨fun _ _ => rfl, rfl, ?_, by decide +kernel, by decide +kernel, rfl, by decide +kernel, rfl, by decide, by decide, by decide⟩
  exact fun q l => found_first tent0.place.code en [(spot.code, { en with ord := 75 })]

theorem test_transaction_premises : (windowed false Win.init).Reaches (whoOf 0) ∧
    (windowed false Win.init).rangeHeld 0 0 ((windowed false Win.init).lds[(0 : Fin 16)]).cw.bytes = true ∧
    ((windowed false Win.init).lds[(0 : Fin 16)]).pass.locked = false ∧ (windowed false Win.init).tetherBarsIn 0 (Cw.init.bytes) = false ∧
    ¬((passed true false none).rangeHeld 0 0 (Cw.init.bytes) = true ∧ ((passed true false none).lds[(0 : Fin 16)]).pass.locked = false ∧
      (passed true false none).tetherBarsIn 0 (Cw.init.bytes) = false) ∧ ((windowed true open3).lds[(0 : Fin 16)]).cw.en = true ∧ open3.active = true ∧
    open3.recIssued = false ∧ due.recIssued = true := by decide +kernel

/-! ### Faults of units, links and cores -/

/-- A fault window of a unit. -/
def win1 (u : FUnit) (hard conf : Bool) : Option FaultWin := some ⟨[⟨u, hard, conf, .inService⟩], 0⟩

/-- The device with a fault window. -/
def faulted (k : Fin 5) (w : Option FaultWin) : State := { live with rd := { live.rd with windows := live.rd.windows.set k w } }

/-- The device rebuilding set 0, position 2 of segment 1 lost, with every channel in a state and a stand-in or none. -/
def rebuilding (c : ChanState) (st : SetState) (l : List (SegKey × Fin 16 × Fin 16)) : State :=
  { live with
    rd := { live.rd with chans := .replicate 64 c, standIns := l, sets := .replicate 4 ⟨st, true, 1, true, false, false, 0, 1⟩ }
    fo := { live.fo with segs := [(1, ⟨.full, 1, false, 0, 0, [2], 0⟩)] } }

theorem test_unit_premises : live.pw.dieUp = true ∧ rowFits .phyLock (.channel 3) = true ∧ rowFits .timeout (.channel 63) = true ∧
    rowFits .fatal (.tile ⟨0, 15⟩ 7) = true ∧ live.unitOut (.channel 3) = false ∧ live.unitOut (.channel 63) = false ∧
    live.unitOut (.tile ⟨0, 15⟩ 7) = false ∧ live.rd.windows[winOf (.channel 3)] = none ∧ small.unitOut (.channel 16) = true ∧
    (faulted 0 (win1 (.channel 3) false false)).rd.windows[winOf (.channel 3)] = some ⟨[⟨.channel 3, false, false, .inService⟩], 0⟩ ∧
    (faulted 0 (win1 (.channel 3) true false)).rd.windows[winOf (.channel 3)] = some ⟨[⟨.channel 3, true, false, .inService⟩], 0⟩ ∧
    (faulted 0 (win1 (.channel 3) false true)).rd.windows[winOf (.channel 3)] = some ⟨[⟨.channel 3, false, true, .inService⟩], 0⟩ ∧
    (faulted 4 (win1 (.stack 2) true false)).rd.windows[4] = some ⟨[⟨.stack 2, true, false, .inService⟩], 0⟩ ∧
    [(⟨.channel 3, false, false, .inService⟩ : FaultItem)].all (fun x => x.hard || x.confirmed) = false := by decide +kernel

theorem test_rebuild_premises : (∀ c st l, ∀ k, (rebuilding c st l).setFrozen k = false) ∧ ((rebuilding .inService .restoring []).rd.sets[(0 : Fin 4)]).state = .restoring ∧
    (let s := rebuilding .out .degraded []; (s.seg sg).state = .full ∧ (s.rd.sets[sg.set]).rebuilding = true ∧ (2 : Fin 16) ∈ (s.seg sg).lost ∧
      s.standInOf sg 2 = none ∧ s.rd.chans[chanOf sg.set 2] ≠ .draining ∧ s.standIn sg 2 = none) ∧
    (rebuilding .inService .degraded [(sg, 2, 3)]).standInOf sg 2 = some 3 ∧ (rebuilding .inService .degraded []).rd.chans[(0 : Fin 64)] = .inService ∧
    (rebuilding .suspect .degraded []).rd.chans[(0 : Fin 64)] = .suspect ∧
    (let s : State := { live with kp := { live.kp with lostStacks := [1] } }; s.pw.dieUp = true ∧ s.kp.lostStacks ≠ [] ∧ 0 ∉ s.kp.lostStacks) :=
  ⟨fun _ _ _ => unfrozen (s := live) rfl, by decide +kernel, by decide +kernel, by decide +kernel, by decide +kernel, by decide +kernel, by decide +kernel⟩

/-- The device with its lode ports in a state. -/
def ported (st : LodeState) (keyed : Bool) (lanes : Nat) : State :=
  { tethered .inSync false with
    kp := { live.kp with poolId := 77, memberId := 6 }
    lo := { (tethered .inSync false).lo with
      ports := .replicate 4 { LodePort.init with state := st, keyed := keyed, lanes := lanes, partner := 5, firstTagFails := 2 } } }

/-- The device with its CXL ports down. -/
def unlinked : State := { live with lk := { live.lk with ports := .replicate 2 Port.init } }

theorem test_lane_premises : (live.lk.ports[(0 : Fin 2)]).mode = .mld ∧ (15 : Fin 16).val < (live.lk.ports[(0 : Fin 2)]).width ∧
    (live.lk.ports[(0 : Fin 2)]).lost.getLsbD 15 = false ∧ ((ported .up true 2).lo.ports[(3 : Fin 4)]).state ≠ .down ∧
    ((ported .up true 2).lo.ports[(3 : Fin 4)]).lanes = 2 ∧ ((ported .up true 2).lo.ports[(3 : Fin 4)]).lost = 0 ∧
    ((ported .up true 1).lo.ports[(3 : Fin 4)]).lanes = 1 ∧ ((ported .up true 1).lo.ports[(3 : Fin 4)]).lost.getLsbD 0 = false ∧
    unlinked.pw.dieUp = true ∧ unlinked.portThere 0 = true ∧ (unlinked.lk.ports[(0 : Fin 2)]).mode = .down := by decide +kernel

theorem test_core_premises : live.fwUp = true ∧ (live.rd.cores[(0 : Fin 12)]).inService = true ∧ live.standby 0 = some 11 ∧ live.pm.en = false ∧
    (let s : State := { live with lds := .replicate 16 { LD.init with adm := [wr] } }; ∃ w ∈ (s.lds[(0 : Fin 16)]).adm, w.seq = 1) ∧
    (rdOn .lookup ∈ (reading .lookup .live).rp.tracker ∧ (rdOn .lookup).id = 0) :=
  ⟨by decide +kernel, by decide +kernel, by decide +kernel, by decide +kernel, ⟨wr, List.mem_singleton.mpr rfl, rfl⟩, by decide +kernel⟩

/-! ### Attestation, tamper, keys -/

/-- The device in a phase of SPDM, its sessions in a state, both pending IDE keys held and a stream in use. -/
def attesting (p : SpdmPhase) (x : SpdmSess) : State :=
  { live with
    sec := { live.sec with spdmPhase := .replicate 18 p, spdm := .replicate 4 x }
    lk := { live.lk with ports := .replicate 2 { Port.init with mode := .mld, ide := ⟨some 1, some 2, none, some 4⟩ } } }

theorem test_attestation_premises : (∀ x, (attesting .version x).fwUp = true) ∧ (attesting .version .free).phase .fm = .version ∧
    (attesting .capabilities .free).phase .fm = .capabilities ∧ (attesting .algorithms .free).phase (.ld 15) = .algorithms ∧
    (attesting .algorithms .free).sec.spdm[(3 : Fin 4)] = .free ∧ (attesting .algorithms .handshake).sec.spdm[(3 : Fin 4)] = .handshake ∧
    (∀ k : Fin 4, (attesting .algorithms .established).sec.spdm[k] = .established) ∧ (attesting .algorithms .established).portThere 0 = true ∧
    ((attesting .algorithms .established).lk.ports[(0 : Fin 2)]).ide.pendTx = some 1 ∧
    ((attesting .algorithms .established).lk.ports[(0 : Fin 2)]).ide.pendRx = some 2 ∧
    (∃ i, live.sec.running = some i) := by
  refine ⟨fun _ => rfl, rfl, rfl, rfl, rfl, rfl, by decide +kernel, by decide +kernel, rfl, rfl, ⟨_, rfl⟩⟩

/-- The device with its tamper inputs in a mode. -/
def tampered (m : Nat) : State := { live with sec := { live.sec with tamper := .replicate 4 ⟨m, false, 0⟩ } }

theorem test_tamper_premises : (∀ m, (tampered m).pw.alive = true ∧ ((tampered m).sec.tamper[(0 : Fin 4)]).mode = m) ∧ 1 < 2 ∧
    (tampered 2).pw.st ≠ .tamperHold ∧ (tampered 2).kp.endRec = .run ∧ live.pw.st = .running ∧ live.lk.mediaReady = true ∧ live.macOk 7 = true ∧
    (∀ k : Fin 8, (ported .up true 2).macOk ⟨8 + k.val, by omega⟩ = true) ∧
    ((attesting .algorithms .established).lk.ports[(0 : Fin 2)]).ide.rx = some 4 ∧ (live.lk.ports[(0 : Fin 2)]).ide.rx = none ∧
    ((ported .up true 2).lo.ports[(0 : Fin 4)]).state = .up ∧ ((ported .up true 2).lo.ports[(0 : Fin 4)]).keyed = true := by
  refine ⟨fun _ => ⟨rfl, rfl⟩, by decide, by decide +kernel, by decide +kernel, by decide +kernel, by decide +kernel, by decide +kernel,
    by decide +kernel, by decide +kernel, by decide +kernel, by decide +kernel, by decide +kernel⟩

/-! ### Resets, notifications, cache -/

/-- The device with every LD in a CXL reset, with a write admitted or none. -/
def inReset (clr : Bool) (l : List Write) : State := { live with lds := .replicate 16 { LD.init with resetting := some clr, adm := l } }

theorem test_reset_premises : live.pw.dieUp = true ∧ live.portThere 0 = true ∧ live.portOf 0 = 0 ∧ State.reset.pw.dieUp = false ∧
    (live.lds[(0 : Fin 16)]).resetting = none ∧ ((inReset false []).lds[(0 : Fin 16)]).resetting = some false ∧ (inReset false []).ldBusy 0 = false ∧
    (inReset false [wr]).ldBusy 0 = true ∧ live.Reaches (whoOf 0) ∧ (live.pw.dataPath = true ∧ State.reset.pw.dataPath = false) ∧
    live.pw.alive = true ∧ live.pw.i3cStatic = 0 ∧ live.pw.i3cDyn = none ∧ (1 : BitVec 7) ≠ live.pw.i3cStatic ∧
    ({ live with pw := { live.pw with i3cDyn := some 9 } } : State).pw.i3cDyn ≠ none ∧ 0x500000 ≤ 0x500000 ∧ 0x7FFFFF < 0x800000 := by decide +kernel

theorem test_decoder_premises :
    (let c : DecoderCfg := ⟨0, 2 ^ 28, 1, 256, 0⟩
    (let tries := (live.lds[(0 : Fin 16)]).decoders.set 0 ⟨c, true, false⟩;
      ((live.lds[(0 : Fin 16)]).decoders[(0 : Fin 4)]).committed = false ∧ decoderFits c = true ∧
      (decBases 0 tries.toList).getD 0 0 + Decoder.span ⟨c, true, false⟩ ≤ 0xC00000000000 ∧ (∀ i : Fin 4, i ≠ 0 → (tries[i]).committed = false))) ∧
    decoderFits ⟨0, 2 ^ 28, 3, 256, 0⟩ = false ∧ decoderFits ⟨0, 2 ^ 28 + 1, 1, 256, 0⟩ = false ∧ decoderFits ⟨0, 2 ^ 28, 1, 128, 0⟩ = false ∧
    (((scrubReady 0 false).lds[(0 : Fin 16)]).decoders[(3 : Fin 4)]).committed = true := by decide +kernel

/-- The device with its sources pending for every claimant, at a priority, or a claim made, and LD 0's ring enabled or not. -/
def sourced (pend : Bool) (l : List (Nat × Nat)) : State :=
  { live with nt := { live.nt with
      src := .replicate 256 ⟨3, BitVec.allOnes 17, pend, false, 0, false, 0, 0⟩
      cl := .replicate 17 ⟨16, l, BitVec.allOnes 256⟩, fill := [⟨5, 3, 1, false, 1, 0⟩] } }

theorem test_delivery_premises : (let r : NRec := ⟨5, 3, 1, false, 1, 0⟩
    let q : Machine.Ring := { live.nt.q[(0 : Fin 16)] with en := true }
    let s : State := { live with nt := { live.nt with fill := [r], q := live.nt.q.set 0 q } }
    s.nt.fill = [r] ∧ s.nt.drain = [] ∧ s.nt.wait = [] ∧ r.targets = BitVec.ofNat 17 (2 ^ (0 : Fin 16).val) ∧ (s.nt.q[(0 : Fin 16)]).en = true ∧
      (s.nt.q[(0 : Fin 16)]).stopped = false) ∧
    live.inflight = [] ∧ live.wp.cplQ = [] ∧ (∀ (n : Fin 16) (w : Fin 64), (live.lds[n]).wins[w].recIssued = false) := by decide +kernel

theorem test_source_premises : (sourced true []).Reaches 0 ∧ (sourced true []).eligible 0 0 = true ∧
    (∀ k : Fin 256, ((sourced true []).nt.src[k]).prio = 3) ∧ (∀ k : Fin 256, (sourced false []).eligible 0 k = false) ∧
    ((sourced true [(9, 16)]).nt.cl[(0 : Fin 17)]).stack = ((9 : Fin 256).val, 16) :: [] ∧
    (∀ x ∈ ((sourced true [(9, 16)]).nt.cl[(0 : Fin 17)]).stack.head?, x.1 ≠ 8) ∧ live.devOk 16 = true ∧ live.devOk 0 = true ∧ live.devOk 1 = false ∧
    live.pm.sen = false ∧ (sourced true []).nt.fill = [⟨5, 3, 1, false, 1, 0⟩] ∧ (sourced true []).nt.drain = [] ∧ (sourced true []).nt.wait = [] ∧
    (live.nt.q[(0 : Fin 16)]).en = false := by decide +kernel

theorem test_counter_premises : (let s : State := { live with pm := { live.pm with en := true, sen := true, cnt := .replicate 64 (BitVec.allOnes 48), cls := 2 } };
    s.pm.en = true ∧ s.pm.cnt[(63 : Fin 64)] = BitVec.allOnes 48 ∧ s.pm.sen = true ∧ s.sampleFits ⟨0, 0, 0, 0, false, false, false, 0, 5, 1, 0, 9⟩ = true ∧
    s.pm.active = 0 ∧ s.pm.full = 0 ∧ s.pm.bank0.length < 2047) := by decide +kernel

/-- The device with that operation at the head of the maintenance queue, a dirty line 0 in the cache, and a range operation set up. -/
def maintaining (r : MReq) (busy : Bool) (rop : Nat) : State :=
  { live with ca := { live.ca with opq := [r], lines := [⟨0, 0, 0, true, 0, 5⟩], rop := rop, rall := true, rbusy := busy } }

theorem test_cache_premises : live.Reaches 16 ∧ live.opCount = 0 ∧ live.held.any maintWrite = false ∧ 13631487 < 13631488 ∧
    (maintaining ⟨.invalidate, false, 1, 0, 0⟩ false 0).opLine ⟨.invalidate, false, 1, 0, 0⟩ = none ∧
    (maintaining ⟨.invalidate, false, 0, 0, 0⟩ false 0).opLine ⟨.invalidate, false, 0, 0, 0⟩ = some ⟨0, 0, 0, true, 0, 5⟩ ∧
    (∀ k : Fin 4, (maintaining ⟨.clean, false, 0, 0, 0⟩ false 0).fo.orderQ[k].length < 4096) ∧
    (∀ b, (maintaining ⟨.clean, false, 0, 0, 0⟩ b 2).ca.rbusy = b ∧ (maintaining ⟨.clean, false, 0, 0, 0⟩ b 2).ca.rop = 2 ∧
      (maintaining ⟨.clean, false, 0, 0, 0⟩ b 2).ca.rall = true ∧ (maintaining ⟨.clean, false, 0, 0, 0⟩ b 2).ca.rwait = none) ∧ live.ca.rop = 0 := by
  decide +kernel

theorem test_scratchpad_premises : (0x100 % 8 = 0 ∧ 0x3FFF8 % 8 = 0) ∧ 0x3FFF8 + 8 ≤ 0x40000 ∧ devPart 0 0x100 8 = false ∧ resPart 0 0x100 8 = false ∧
    live.spadBad 0 0x100 8 = false ∧ devPart 0 0x3BEFC 4 = false ∧ devPart 16 0x3BF04 4 = false ∧ Memory.wf live.sp.banks[(0 : Fin 17)] ∧
    whoOf 0 = 0 := by
  refine ⟨by decide, by decide, by decide, by decide, by decide +kernel, by decide, by decide, ?_, rfl⟩
  show Memory.wf ([] : Mem)
  simp [Memory.wf, Tbl.wf]

/-! ### Lode links -/

/-- A header of a message on port 0. -/
def hdr (ok : Bool) : LodeHdr := ⟨0, 0, 70, 0, ok⟩

/-- HELLO of the partner, tether 0 configured for this member. -/
def greet (ok : Bool) : HelloMsg := ⟨77, 5, 1, 1, 0, [⟨6, 1, true, true, false, false, false, 1⟩], ok⟩

theorem test_lode_premises : (ported .down false 0).fwUp = true ∧ ((ported .down false 0).lo.ports[(0 : Fin 4)]).state = .down ∧
    ((ported .discovery false 2).lo.ports[(hdr true).port]).state = .discovery ∧ (ported .discovery false 2).kp.poolId ≠ 0 ∧
    (∀ ok, (greet ok).pool = (ported .discovery false 2).kp.poolId ∧ (greet ok).member ≠ (ported .discovery false 2).kp.memberId.toNat) ∧
    (∀ ok, ((ported .discovery false 2).meets (hdr true).port 0 (greet ok)).isSome = true) ∧
    ((ported .discovery false 2).lo.ports[(hdr true).port]).stuck = false ∧ (live.kp.poolId = 0 ∧ (greet true).member ≠ 6) ∧
    ((ported .up true 2).lo.ports[(hdr true).port]).state = .up ∧ ((ported .up true 2).lo.ports[(hdr true).port]).keyed = true ∧
    ((0x10 : Byte).toNat = 0x10 ∧ (0x01 : Byte).toNat = 0x01) ∧
    (let s : State := { ported .up true 2 with lo := { (ported .up true 2).lo with tethers := .replicate 8 (tether0 .absent false) } };
      (s.lo.tethers[(0 : Fin 8)]).state = .absent ∧
      s.upPorts.find? (fun p => (s.lo.tethers[(0 : Fin 8)]).ports.getLsbD p.val && s.lo.ports[p].partner == (s.lo.tethers[(0 : Fin 8)]).partner) = some 0) := by
  decide +kernel

/-- The device, all ports up, with its tether 0. -/
def paired (x : Tether) : State :=
  { ported .up true 2 with
    lo := { (ported .up true 2).lo with tethers := Lo.init.tethers.set 0 x }
    lds := .replicate 16 { LD.init with enabled := true, partSize := 2 ^ 28, wins := .replicate 64 due } }

theorem test_mirror_premises :
    (let s := paired (tether0 .inSync true)
    ((s.lo.ports[(hdr true).port]).state = .up ∧ (s.lo.ports[(hdr true).port]).keyed = true ∧ s.tetherTakes (hdr true) = true) ∧
      (s.lo.tethers[(0 : Fin 8)]).rxq.length < 256 ∧ 4194303 * 64 < (s.cr.regions[regIx (s.lo.tethers[(0 : Fin 8)]).region]).size ∧
      16383 < s.tetherGrans 0 ∧ (s.win (s.tetherLd 0) 0).recIssued = true ∧ (s.win (s.tetherLd 0) 0).gseq = 5 ∧ (s.win (s.tetherLd 0) 0).recLocal = false) ∧
    (let s := paired { tether0 .syncing false with rs := [(9, 4)], pos := 7, bitmap := [7] }
    s.tetherTakes (hdr true) = true ∧ (9, 4) ∈ (s.lo.tethers[(0 : Fin 8)]).rs ∧ (∀ z ∈ (s.lo.tethers[(0 : Fin 8)]).rs, z.1 ≠ 8) ∧
      (s.lo.tethers[(0 : Fin 8)]).replica = false ∧ (s.lo.tethers[(0 : Fin 8)]).state = .syncing ∧ (s.lo.tethers[(0 : Fin 8)]).unsent = []) ∧
    (∀ (m : Fin 16) (w : Fin 64), ((paired (tether0 .absent false)).win m w).teth ≠ some 0) ∧
    (let x := { tether0 .syncing false with pos := 7, bitmap := [7] }; x.unsent = [] ∧ x.rs = [] ∧ x.walkAll = false ∧ x.bitmap = [x.pos]) ∧
    ((tethered .inSync false).tetherPort 0 = none ∧ { tether0 .inSync false with sent := [(4, 0)] }.sent ≠ []) := by decide +kernel

/-! ### Power -/

/-- The device in a power state. -/
def powered (st : PowerState) : State := { live with pw := { live.pw with st := st } }

/-- The device down and alive, VIN good, with its 50 ms over or not and the off latch clear. -/
def offWith (st : PowerState) (done latch : Bool) : State :=
  { State.reset with pw := { Pw.init with st := st, alive := true, vin := 3300, vinGood := true, offMinDone := done, offLatch := latch } }

/-- The device powering up with that many rails up. -/
def rising (n : Nat) (boot : BootPhase) : State :=
  { State.reset with pw := { Pw.init with st := .poweringUp, alive := true, vin := 3300, vinGood := true, railsUp := n, charging := true }, bt := ⟨.normal, boot⟩ }

theorem test_powerup_premises : 1700 < 1701 ∧ 4000 ≤ 4000 ∧ live.pw.alive = true ∧ State.reset.pw.alive = false ∧
    ((offWith .off true true).pw.rails[(0 : Fin 12)]).low * 5 ≤ 1650 ∧ 3700 ≤ ((offWith .off true true).pw.rails[(0 : Fin 12)]).high * 5 ∧
    1649 < ((offWith .off true true).pw.rails[(0 : Fin 12)]).low * 5 ∧ (offWith .off true true).pw.offLatch = true ∧
    (let s := offWith .off true false; s.pw.offLatch = false ∧ s.pw.st = .off ∧ s.pw.offMinDone = true ∧ s.pw.faultWait = false ∧ s.pw.pfailWait = false ∧
      s.sec.pendingLC = none ∧ s.pw.vinGood = true) ∧ (offWith .off false false).pw.offMinDone = false ∧ (offWith .cooling false false).pw.st = .cooling ∧
    (let s := rising 10 .off; s.pw.st = .poweringUp ∧ s.pw.dieUp = false ∧ s.pw.railsUp < 11 ∧ s.pw.railsUp + 1 = 11 ∧ s.ev.log.length < 16384 ∧ 0 < s.rateLimit 0x4005) ∧
    (rising 0 .off).pw.railsUp + 1 < 11 ∧ (rising 11 .dieUp).bt.phase = .dieUp ∧ (rising 0 .off).bt.phase ≠ .dieUp ∧ (rising 0 .off).bt.phase ≠ .enabled := by
  decide +kernel

/-- The device running and enabled, with a kind of start and its packages found. -/
def enabled (k : BootKind) : State :=
  { live with hw := ⟨.s, .c, 16, 4, 0⟩, bt := ⟨k, .enabled⟩
              md := { live.md with packages := (List.range 16).map fun c => (c * 4, ⟨ldLow c, 0, true, 0x3105, 2, 1⟩), trained := .replicate 64 true } }
where
  /-- A channel of set 0. -/
  ldLow (c : Nat) : Fin 64 := ⟨c % 16, by omega⟩

theorem test_media_ready_premises : (∀ k, (enabled k).bt.phase = .enabled ∧ (enabled k).pw.st = .running ∧ (enabled k).pw.dataPath = true ∧ (enabled k).bt.kind = k) ∧
    (enabled .format).populated = true :=
  ⟨fun _ => ⟨rfl, rfl, rfl, rfl⟩, by decide +kernel⟩

theorem test_holdup_premises : 27000 ≤ 27000 ∧ live.pw.armed = true ∧ live.pw.holdupReady = true ∧ 21999 < 22000 ∧
    ({ live with pw := { live.pw with holdupReady := false } } : State).pw.holdupReady = false ∧ 23500 ≤ 23500 ∧ live.pw.chargeWarned = false ∧
    (rising 10 .off).pw.charging = true ∧ live.pw.st = .running ∧ 24499 < 24500 ∧
    ({ live with pw := { live.pw with chargeWarned := true } } : State).pw.chargeWarned = true := by decide +kernel

theorem test_power_requests_run : ([PowerState.running, .poweringUp, .poweringDown, .flushing].all fun st => runs (powered st) (rq .fm 1) 0xC502 (some 1)) = true ∧
    runs { offWith .lockout true false with mb := { Mb.init with keeperSess := some ⟨0, 1, 0⟩ } } (rq .i3c 1) 0xC502 (some 1) = true := by decide +kernel

theorem test_power_end_premises : live.railWindow 1 = (1745, 1890) ∧ 1744 < (live.railWindow 1).1 ∧ (live.railWindow 1).2 < 1891 ∧
    live.pw.lastFaultAt = none ∧ live.pw.retriesLeft ≠ 0 ∧ ({ live with pw := { live.pw with retriesLeft := 0 } } : State).pw.retriesLeft = 0 ∧
    (let s : State := { live with now := secTicks 600, pw := { live.pw with lastFaultAt := some 0 } }; s.now - 0 ≤ secTicks 600) ∧
    (let s : State := { offWith .off true false with pw := { (offWith .off true false).pw with faultWait := true, faultRestartAt := some 9 } };
      s.pw.faultRestartAt = some 9 ∧ s.pw.st = .off ∧ s.pw.faultWait = true ∧ s.pw.pfailWait = false) ∧
    1649 < (live.pw.rails[(0 : Fin 12)]).low * 5 ∧ (powered .flushing).pw.st = .flushing ∧ (powered .poweringDown).pw.st = .poweringDown ∧
    (let s : State := { offWith .off true false with pw := { (offWith .off true false).pw with pfailIn := true } };
      s.pw.pfailIn = true ∧ s.pw.st = .off ∧ s.pw.offMinDone = true ∧ s.pw.faultWait = false) ∧ live.pw.pfailIn = false ∧ 7999 < 8000 ∧ 1649 < 1650 ∧
    live.sec.katFailed = false ∧ ({ live with sec := { live.sec with katFailed := true } } : State).sec.katFailed = true ∧ live.kp.endRec = .run ∧
    (powered .lockout).pw.st ≠ .running := by decide +kernel

theorem test_thermal_premises : readingFor [⟨.ctl 16, some 1150⟩] (.ctl 16) false = some 1150 ∧ readingFor [⟨.rest false, some 1500⟩] (.ctl 22) false = some 1500 ∧
    (live.th.ctl[(16 : Fin 23)]).broken = false ∧ live.pw.tripAfter = false ∧ live.th.trend = none ∧
    ({ live with th := { live.th with trend := some (true, 5) } } : State).th.trend = some (true, 5) ∧
    (let s : State := { powered .cooling with pw := { (powered .cooling).pw with coolingSince := some 3 } };
      s.pw.coolingSince = some 3 ∧ s.pw.st = .cooling ∧ s.pw.offLatch = false ∧ s.pw.vinGood = true) ∧ live.pw.coolingSince = none ∧
    live.pw.mediaHold = none ∧ (let s : State := { live with pw := { live.pw with mediaHold := some 3 } }; s.pw.mediaHold ≠ none ∧ s.pw.mediaCool = none) ∧
    live.dieThere ⟨63, 15⟩ = true ∧ State.reset.dieThere ⟨0, 0⟩ = false ∧ (0xC0 : Byte).getLsbD 6 = true ∧ (0xC0 : Byte).getLsbD 7 = true ∧
    live.unitOut (.die ⟨63, 15⟩) = false := by decide +kernel

/-! ### Well-formed commands: one ill-formed term for each check -/

theorem test_wf_accepts : ([.gpfPhase1Request 0, .memWr 15 (.dpa (2 ^ 64 - 1)) 7 false, .identify ⟨.ld 15, 2 ^ 21 - 1⟩, .registerWrite 0 2 (2 ^ 24 - 1) 4 (2 ^ 32 - 1),
    .segmentReset ⟨3, 15, 2 ^ 32 - 1⟩, .railDwellComplete 11, .lodeTrainingResult 3 true 2] : List Instr).all wellFormed = true := by decide

theorem test_wf_refuses_requests : ([.identify ⟨.fm, 2 ^ 21⟩, .setOperatingPoint ⟨.fm, 1⟩ 256, .clearEventRecords ⟨.ld 0, 8⟩ 0 false [2 ^ 16],
    .setLsa ⟨.ld 0, 9⟩ 0 (List.replicate 16385 0), .addDcResponse ⟨.ld 0, 40⟩ [⟨2 ^ 64, 1⟩], .setQosAllocatedBw ⟨.fm, 19⟩ 0 (List.replicate 17 0),
    .setPatrolParameters ⟨.fm, 21⟩ ⟨0, 0, 0, 0, 2 ^ 16, 0, 0⟩ 0, .transferFw ⟨.fm, 1⟩ 0 1 ⟨0, 2 ^ 32, 0, 0, 0, true, true, true, true⟩,
    .writeDeviceRegisters ⟨.fm, 9⟩ 0 1 1 0 [256], .unsupportedOpcode ⟨.fm, 0⟩ (2 ^ 16)] : List Instr).all (fun c => !wellFormed c) = true := by decide +kernel

theorem test_wf_refuses_memory : ([.memWr 0 (.dpa (2 ^ 64)) 0 false, .memRd 0 (.hpa (2 ^ 64)), .mergeReadComplete 0 (.good 20), .mergeReadComplete (2 ^ 48) .lost,
    .slotSenseComplete 0 (.tree 7) 0, .slotSenseComplete 0 (.tree 0) 0, .foldOrder 0 (2 ^ 31) 0, .detectorTimeout 0 (2 ^ 39),
    .shallowsPatrol 0 [⟨262144, 0, none, none⟩], .shallowsPatrol 0 [⟨0, 512, none, none⟩]] : List Instr).all (fun c => !wellFormed c) = true := by decide +kernel

theorem test_wf_refuses_media : ([.segmentReset ⟨0, 0, 2 ^ 32⟩, .bandFillTimeout ⟨⟨0, 0, 1⟩, 7⟩, .bandProgramComplete ⟨⟨0, 0, 1⟩, 0⟩ [16] false,
    .patrolVisit ⟨0, 0, 1⟩ [⟨0, ⟨true, true, List.replicate 7 0, []⟩, [], [], [], []⟩],
    .patrolVisit ⟨0, 0, 1⟩ [⟨0, ⟨true, true, List.replicate 7 0, List.replicate 7 0⟩, [⟨7, 0, 0⟩], [], [], []⟩], .scrubEnd 0 [] [⟨2 ^ 39, none, none, .lost⟩], .hotspotDetect 0 0 256 0,
    .replayComplete ⟨[⟨0, 0, 512, true, true, true, true, true, true, true⟩], [], [], [], 0⟩, .replayComplete ⟨[], [], [], [], 2 ^ 64⟩,
    .channelTrainingComplete [⟨0, 0, true, 2 ^ 16, 0, 0⟩] [] [], .channelTrainingComplete [] [64] [], .thermalMeasurement false [⟨.ctl 0, some 3001⟩],
    .thermalMeasurement true [⟨.ctl 0, some (-1001)⟩]] : List Instr).all (fun c => !wellFormed c) = true := by decide +kernel

theorem test_wf_refuses_links : ([.hdmDecoderCommit 0 0 ⟨0, 0, 256, 0, 0⟩, .registerWrite 0 6 0 4 0, .registerWrite 0 2 0 3 0, .registerWrite 0 2 0 1 256,
    .linkTrainingResult 0 (.cxl true 17), .linkTrainingResult 0 (.pcieOnly 65), .keepalive ⟨0, 0, 2 ^ 48, 0, true⟩, .lodeTrainingResult 0 true 3,
    .hello ⟨0, 0, 0, 0, true⟩ ⟨0, 2 ^ 14, 0, 0, 0, [], true⟩, .hello ⟨0, 0, 0, 0, true⟩ ⟨0, 0, 0, 0, 0, [⟨2 ^ 14, 0, true, true, true, true, true, 0⟩], true⟩,
    .level ⟨0, 0, 0, 0, true⟩ [⟨2 ^ 14, 0, 0⟩], .tconf ⟨0, 0, 0, 0, true⟩ [], .bitmap ⟨0, 0, 0, 0, true⟩ 0 (List.replicate 961 true),
    .railDwellComplete 12, .keeperAlive (2 ^ 16) 0 [], .sramParityError (.sampleBank 0 2048) 0, .sramParityError .other (2 ^ 32),
    .pmonSample ⟨0, 0, 16, 0, false, false, false, 0, 0, 0, 0, 0⟩, .spadAddWrite 0 0 2 (2 ^ 16)] : List Instr).all (fun c => !wellFormed c) = true := by
  decide +kernel

/-! ### Results by hand from the tables and worked examples of the spec -/

/-- The worked example of 12_notifications_events_counters.md: LD 1 holds source 0x001 of priority 4; source 0x021 of priority 10 targets LD 1
and LD 2. -/
def nested (pend act : Bool) (l : List (Nat × Nat)) (p : Nat) : State :=
  { live with nt := { live.nt with
      src := (live.nt.src.set 0x001 ⟨4, 2, false, true, 1, false, 0, 0⟩).set 0x021 ⟨10, 6, pend, act, 2, false, 0, 0⟩
      cl := live.nt.cl.set 1 ⟨p, l, BitVec.allOnes 256⟩ } }

/-- What the first output of a step is, if it is a register's value. -/
def regOut (c : Instr) (s : State) : Option Nat :=
  match step { s with pending := [c] } with
  | .next t => match t.out.head? with
    | some (.reg _ v) => some v
    | _ => none
  | _ => none

/-- At 7 µs: 0x021 is active and owned by LD 2. At 13 µs: 0x021, since 10 is above 4. -/
theorem test_nested_claims : regOut (.notifClaim 1 4) (nested false true [(1, 16)] 4) = some 0x3FF ∧
    regOut (.notifClaim 1 4) (nested true false [(1, 16)] 4) = some (0x021 + 10 * 2 ^ 10) := by decide +kernel

/-- At 15 µs: 0x021 was claimed last, so the write of 0x001 is refused and the stack stays. At 16 µs: RPRIO 4 again. -/
theorem test_nested_ends : (match step { nested false true [(0x021, 4), (1, 16)] 10 with pending := [.notifEoi 1 0x001] } with
      | .next t => (t.nt.cl[(1 : Fin 17)]).prio == 10 && (t.nt.cl[(1 : Fin 17)]).stack.length == 2 && (t.nt.q[(1 : Fin 16)]).eoierr
      | _ => false) = true ∧
    (match step { nested false true [(0x021, 4), (1, 16)] 10 with pending := [.notifEoi 1 0x021] } with
      | .next t => (t.nt.cl[(1 : Fin 17)]).prio == 4 && (t.nt.cl[(1 : Fin 17)]).stack == [(1, 16)]
      | _ => false) = true := by decide +kernel

/-- Table 06-1: entry rising, exit falling, weights. -/
theorem test_temperature_bands : tempBand 0 299 = 0 ∧ tempBand 0 300 = 1 ∧ tempBand 1 280 = 1 ∧ tempBand 1 279 = 0 ∧ tempBand 1 550 = 2 ∧
    tempBand 2 530 = 2 ∧ tempBand 2 529 = 1 ∧ tempBand 2 750 = 3 ∧ tempBand 3 730 = 3 ∧ tempBand 3 729 = 2 ∧
    [0, 1, 2, 3].map bandWeight = [1, 2, 4, 8] := by decide

/-- Table 16-2: default windows in mV, and VCORE at point P under R378. -/
theorem test_rail_windows : live.railWindow 0 = (1650, 3700) ∧ live.railWindow 2 = (695, 755) ∧ live.railWindow 8 = (480, 530) ∧
    live.railWindow 11 = (4365, 4725) ∧ ({ live with pw := { live.pw with present := .p } } : State).railWindow 2 = (775, 835) ∧
    ({ live with pw := { live.pw with present := .e } } : State).railWindow 2 = (595, 655) := by decide +kernel

/-- Table 16-2: the step that enables each rail. -/
theorem test_rail_steps : (List.range 12).map railStep = [2, 3, 4, 5, 6, 6, 7, 7, 7, 8, 8, 8] := by decide

/-- 16_power_and_holdup.md, step 1: VSUP above 1.70 V from the device as shipped, one step. -/
theorem test_keeper_alive : (match step { State.reset with pending := [.keeperAlive 1800 6 []] } with
    | .next t => t.pw.alive && t.pw.vsup == 1800 && t.pw.st == .off && t.pw.i3cStatic == 0x33
    | _ => false) = true := by decide +kernel

/-- 14 data symbols. -/
def symbols : List Byte := (List.range 14).map fun i => BitVec.ofNat 8 (17 * i + 3)

/-- R216: α^8 is α^4 + α^3 + α^2 + 1, and both sums of a codeword are 0. -/
theorem test_row_code : gfAlpha 8 = 0x1D ∧ (let w := symbols ++ [(rowParity symbols).1, (rowParity symbols).2]; rsSyndrome w 0 = 0 ∧ rsSyndrome w 1 = 0) := by
  decide +kernel

/-- R217: two unavailable slots of a row are decoded, three are not. -/
theorem test_row_decodes : (let row := rowEncode (symbols.map fun x => [x]) 1
    let without (l : List Nat) := rowDecode (row.mapIdx fun i x => if i ∈ l then none else some x) 1
    without [3, 15] = some row ∧ without [0, 1] = some row ∧ without [0, 1, 2] = none) := by decide +kernel

/-- 64 bytes of data. -/
def dramBytes : List Byte := (List.range 64).map fun i => BitVec.ofNat 8 (29 * i + 7)

/-- R325, R326: a wrong byte in each codeword is corrected; a stack that has failed is an erasure. -/
theorem test_dram_code : (let b := dramEncode dramBytes
    dramRead b = some dramBytes ∧ dramRead (b.mapIdx fun i x => if i = 5 ∨ i = 64 then x ^^^ 0x41 else x) = some dramBytes ∧
    dramErase (b.mapIdx fun i x => if 16 ≤ i ∧ i < 32 then 0 else x) 1 = dramBytes) := by decide +kernel

/-- R358: a TWRITE takes 104 B on the port; R397: a record of one byte takes 24. -/
theorem test_wire_sizes : (LodeMsg.twrite 0 none false 0 0).size = 104 ∧ (storeRecord 0 1 [1]).length = 24 ∧ (sectorHeader 2 0 0).length = 16 := by decide +kernel

/-- Table 08-5: levels 2 to 5 start after 384 GiB, 6 GiB, 96 MiB and 1.5 MiB. -/
theorem test_counter_space : ctrAddr 2 0 = ctrAddr 1 (6 * 2 ^ 30) ∧ ctrAddr 3 0 = ctrAddr 2 (96 * 2 ^ 20) ∧ ctrAddr 4 0 = ctrAddr 3 (3 * 2 ^ 19) ∧
    ctrAddr 5 0 = ctrAddr 4 (24 * 2 ^ 10) := by decide

/-- R441: the stage of rail 10 for set 3, and the nominal 2.5 V and 4.5 V with exponent −12. -/
theorem test_psc : pscAddr 10 3 = 0x27 ∧ pscVout 10 = 10240 ∧ pscVout 11 = 18432 := by decide

/-- The table gives no row a word. -/
theorem test_no_words : decodeTableWord 8 0 = none ∧ State.reset.withFetchWord 8 0 = State.reset := ⟨rfl, rfl⟩

end

end Sys2Proof.Tests
end

section
/-! PROOFS. Statements about the scope of the part (00_scope.md): what an answer can touch, and bin S at point P (R6). -/

namespace Sys2Proof.Machine

/-! ### What an answer touches -/

theorem State.setSession_touches (s : State) (i : Inst) (x : Option Session) : ∃ mb, s.setSession i x = { s with mb := mb } := by
  unfold State.setSession
  split
  · exact ⟨_, rfl⟩
  · exact ⟨_, rfl⟩

theorem State.mbxSignal_touches (s : State) (i : Inst) (b : Nat) : ∃ lds out, s.mbxSignal i b = { s with lds := lds, out := out } := by
  unfold State.mbxSignal
  split
  · split
    · exact State.signal_touches s _ 0
    · exact ⟨s.lds, s.out, rfl⟩
  · exact ⟨s.lds, s.out, rfl⟩

/-- An answer reaches the mailboxes, the LDs (a pending interrupt vector) and the outputs, and nothing else. -/
theorem State.answer_touches (s : State) (r : Req) (op : Nat) (a : Ans) :
    ∃ mb lds out, s.answer r op a = { s with mb := mb, lds := lds, out := out } := by
  unfold State.answer
  extract_lets recorded timed
  have hrecorded : ∃ mb, recorded = { s with mb := mb } := by
    unfold recorded
    split
    · exact ⟨s.mb, rfl⟩
    · exact ⟨_, rfl⟩
  have htimed : ∃ mb, timed = { recorded with mb := mb } := by
    unfold timed
    split
    · exact State.setSession_touches _ _ _
    · exact ⟨recorded.mb, rfl⟩
  obtain ⟨_, hr⟩ := hrecorded
  obtain ⟨mb, ht⟩ := htimed
  obtain ⟨lds, out, hm⟩ := State.mbxSignal_touches (timed.emit (.mbx r.inst op a.code a.out)) r.inst 1
  exact ⟨mb, lds, out, by rw [hm, ht, hr]; rfl⟩

@[simp] theorem State.answer_pw (s : State) (r : Req) (op : Nat) (a : Ans) : (s.answer r op a).pw = s.pw := by
  obtain ⟨mb, lds, out, h⟩ := State.answer_touches s r op a
  rw [h]

/-! ### The bin at the mailbox (R6) -/

theorem exec_setOperatingPoint_p_of_bin_s {s : State} {r : Req} (h : s.Taken r 0xC501 (some 1)) (hbin : s.hw.bin = .s) :
    exec (.setOperatingPoint r 2) s = .next (s.answer r 0xC501 (badAns 0x000A)) := by
  refine congrArg Host.Outcome.next (State.mbxLater_answers rfl h ?_)
  simp [hbin]

/-- The first byte of the device identity. -/
theorem le_bin (b : Bin) : le 1 (b2n (b == .p)) = [if b = .s then 0 else 1] := by
  cases b <;> decide

theorem exec_getDeviceIdentity {s : State} {r : Req} (h : s.Taken r 0xC100 (some 0)) :
    exec (.getDeviceIdentity r) s = .next (s.answer r 0xC100 (okOut (.bytes
      (le 1 (b2n (s.hw.bin == .p)) ++ le 1 (b2n (s.hw.grade == .x)) ++ le 1 s.hw.channels ++ le 1 s.hw.dies ++ le 1 s.numSets ++
        le 1 (Point.code s.pw.selected) ++ le 1 (Point.code s.pw.present) ++ le 1 0 ++ le 8 (imageVersion s.sec.running) ++
        le 8 s.hw.serial.toNat ++ le 2 s.lo.proto ++ le 2 s.kp.formatLevel ++ le 8 s.kp.poolId.toNat ++ le 2 s.kp.memberId.toNat)))) :=
  congrArg Host.Outcome.next (State.mbx_answers rfl h rfl)

/-- Settles O27: the own check of SET_OPERATING_POINT refuses point P on bin S, and the identity begins with the bin. -/
theorem binSRefusesPointP : Obligations.BinSRefusesPointP := by
  unfold Obligations.BinSRefusesPointP
  constructor
  · intro s r h hbin
    exact ⟨exec_setOperatingPoint_p_of_bin_s h hbin, State.answer_pw ..⟩
  · intro s r h
    rw [exec_getDeviceIdentity h, le_bin]
    simp only [List.append_assoc, List.singleton_append]
    exact ⟨_, rfl⟩

end Sys2Proof.Machine
end

section
/-! PROOFS. Statements about the architecture (01_architecture.md): a change of operating point is stored, waits for its ramp, and is
answered when it is reached or superseded (R14, R16). -/

namespace Sys2Proof.Machine

/-! ### An answer that comes later: what it touches, and that it leaves the device -/

theorem State.mbxSignal_keeps_out (s : State) (i : Inst) (b : Nat) : s.out <:+ (s.mbxSignal i b).out := by
  unfold State.mbxSignal
  split
  · split
    · unfold State.signal
      split
      · exact List.suffix_rfl
      · exact List.suffix_cons ..
    · exact List.suffix_rfl
  · exact List.suffix_rfl

theorem State.lateAnswer_touches (s : State) (i : Inst) (op : Nat) :
    ∃ mb lds out, s.lateAnswer i op = { s with mb := mb, lds := lds, out := out } := by
  unfold State.lateAnswer
  extract_lets timed
  obtain ⟨lds, out, h⟩ := State.mbxSignal_touches (timed.emit (.mbx i op 0 .none)) i 1
  exact ⟨_, lds, out, h⟩

@[simp] theorem State.lateAnswer_pw (s : State) (i : Inst) (op : Nat) : (s.lateAnswer i op).pw = s.pw := by
  obtain ⟨mb, lds, out, h⟩ := State.lateAnswer_touches s i op
  rw [h]

/-- The reply stands in the outputs, after all that had left before. -/
theorem State.lateAnswer_emits (s : State) (i : Inst) (op : Nat) : .mbx i op 0 .none :: s.out <:+ (s.lateAnswer i op).out := by
  unfold State.lateAnswer
  extract_lets timed
  exact State.mbxSignal_keeps_out (timed.emit (.mbx i op 0 .none)) i 1

/-! ### The answers to several requests -/

theorem foldl_lateAnswer_pw {α : Type} (inst : α → Inst) (op : Nat) (l : List α) (s : State) :
    (l.foldl (fun (s : State) x => s.lateAnswer (inst x) op) s).pw = s.pw := by
  induction l generalizing s with
  | nil => rfl
  | cons x l ih => rw [List.foldl_cons, ih, State.lateAnswer_pw]

theorem foldl_lateAnswer_keeps_out {α : Type} (inst : α → Inst) (op : Nat) (l : List α) (s : State) :
    s.out <:+ (l.foldl (fun (s : State) x => s.lateAnswer (inst x) op) s).out := by
  induction l generalizing s with
  | nil => exact List.suffix_rfl
  | cons x l ih =>
    calc s.out <:+ .mbx (inst x) op 0 .none :: s.out := List.suffix_cons ..
      _ <:+ (s.lateAnswer (inst x) op).out := State.lateAnswer_emits ..
      _ <:+ _ := ih _

theorem mem_out_foldl_lateAnswer {α : Type} (inst : α → Inst) (op : Nat) {l : List α} {x : α} (hx : x ∈ l) (s : State) :
    .mbx (inst x) op 0 .none ∈ (l.foldl (fun (s : State) x => s.lateAnswer (inst x) op) s).out := by
  induction l generalizing s with
  | nil => cases hx
  | cons y l ih =>
    rcases List.mem_cons.1 hx with rfl | hx
    · have hsent : .mbx (inst x) op 0 .none ∈ (s.lateAnswer (inst x) op).out :=
        (State.lateAnswer_emits s (inst x) op).subset List.mem_cons_self
      exact (foldl_lateAnswer_keeps_out inst op l _).subset hsent
    · exact ih hx _

/-! ### The requests that wait for a point -/

theorem State.answerPoint_pw (s : State) (pt : Point) :
    (s.answerPoint pt).pw = { s.pw with pointWaiters := s.pw.pointWaiters.filter fun x => x.2 ≠ pt } :=
  foldl_lateAnswer_pw (fun x : Inst × Point => x.1) 0xC501 _ _

theorem State.answerPoint_answers {s : State} {pt : Point} {x : Inst × Point} (hx : x ∈ s.pw.pointWaiters) (hpt : x.2 = pt) :
    .mbx x.1 0xC501 0 .none ∈ (s.answerPoint pt).out :=
  mem_out_foldl_lateAnswer (fun x : Inst × Point => x.1) 0xC501 (List.mem_filter.2 ⟨hx, by simpa using hpt⟩) _

@[simp] theorem State.beginPoint_pw (s : State) (pt : Point) :
    (s.beginPoint pt).pw = { s.pw with target := some pt, wideWindow := true } := rfl

/-- With no flush and no change under way, a request for another point begins the change and waits. -/
theorem State.requestPoint_begins {s : State} {i : Inst} {pt : Point} (hst : s.pw.st ≠ .flushing) (htarget : s.pw.target = none)
    (hpresent : s.pw.present ≠ pt) : s.requestPoint i pt =
      { s with pw := { s.pw with target := some pt, wideWindow := true, pointWaiters := s.pw.pointWaiters ++ [(i, pt)] } } := by
  simp only [State.requestPoint, hst, htarget, hpresent, false_and, if_false, State.beginPoint]

/-! ### SET_OPERATING_POINT -/

section

variable {s : State} {r : Req} {p : Nat} (htaken : s.Taken r 0xC501 (some 1)) (hp : p ≤ 2) (hbin : p = 2 → s.hw.bin = .p)

include hp hbin in
/-- The range check and the check of the bin (R6) both let the point pass. -/
theorem point_admitted : ¬ 2 < p ∧ ¬ (p = 2 ∧ s.hw.bin = .s) := by
  refine ⟨Nat.not_lt.2 hp, fun ⟨h2, hs⟩ => ?_⟩
  rw [hbin h2] at hs
  cases hs

include htaken hp hbin

theorem exec_setOperatingPoint_of_dataPath (hvin : s.pw.vinGood = true) (hpath : s.pw.dataPath = true) :
    exec (.setOperatingPoint r p) s =
      .next ((({ s with pw := { s.pw with selected := pointOf p } }).save 39).requestPoint r.inst (pointOf p)) := by
  obtain ⟨hrange, hoffered⟩ := point_admitted hp hbin
  refine congrArg Host.Outcome.next (State.mbxLater_later rfl htaken ?_)
  simp [hrange, hoffered, hvin, hpath]

theorem exec_setOperatingPoint_before_dataPath (hvin : s.pw.vinGood = true) (hpath : s.pw.dataPath = false) :
    exec (.setOperatingPoint r p) s =
      .next ((({ s with pw := { s.pw with selected := pointOf p } }).save 39).answer r 0xC501 okAns) := by
  obtain ⟨hrange, hoffered⟩ := point_admitted hp hbin
  refine congrArg Host.Outcome.next (State.mbxLater_answers rfl htaken ?_)
  simp [hrange, hoffered, hvin, hpath]

theorem exec_setOperatingPoint_after_vin (hvin : s.pw.vinGood = false) :
    exec (.setOperatingPoint r p) s = .next (s.answer r 0xC501 (busyAns 0x0008)) := by
  obtain ⟨hrange, hoffered⟩ := point_admitted hp hbin
  refine congrArg Host.Outcome.next (State.mbxLater_answers rfl htaken ?_)
  simp [hrange, hoffered, hvin]

end

/-! ### OPERATING_POINT_REACHED -/

/-- The target has become the present point, the window is narrow again, and the requests for it have their answers. -/
def State.reachPoint (s : State) (q : Point) : State :=
  ({ s with pw := { s.pw with present := q, target := none, wideWindow := false, nextPoint := none } }).answerPoint q

theorem State.reachPoint_pw (s : State) (q : Point) : (s.reachPoint q).pw =
    { s.pw with present := q, target := none, wideWindow := false, nextPoint := none,
                pointWaiters := s.pw.pointWaiters.filter fun x => x.2 ≠ q } :=
  State.answerPoint_pw _ _

theorem exec_operatingPointReached_settles {s : State} {q : Point} (htarget : s.pw.target = some q)
    (hnext : ∀ z, s.pw.nextPoint = some z → z = q) : exec .operatingPointReached s = .next (s.reachPoint q) := by
  show execOperatingPointReached s = _
  unfold execOperatingPointReached
  rw [htarget]
  cases h : s.pw.nextPoint with
  | none => rfl
  | some z => exact congrArg Host.Outcome.next (if_pos (hnext z h))

theorem exec_operatingPointReached_follows {s : State} {q z : Point} (htarget : s.pw.target = some q)
    (hnext : s.pw.nextPoint = some z) (hne : z ≠ q) : exec .operatingPointReached s = .next ((s.reachPoint q).beginPoint z) := by
  show execOperatingPointReached s = _
  unfold execOperatingPointReached
  rw [htarget, hnext]
  exact congrArg Host.Outcome.next (if_neg hne)

/-- Settles O28: the checks of SET_OPERATING_POINT pass and its effect is a request for the point, an answer at once or a refusal; at
OPERATING_POINT_REACHED the requests for the target are answered, and the point named last becomes the target. -/
theorem operatingPointChanges : Obligations.OperatingPointChanges := by
  unfold Obligations.OperatingPointChanges
  intro s r p hp
  refine ⟨fun htaken hbin => ⟨?_, ?_, ?_, ?_⟩, fun q htarget hnext => ?_, fun q z htarget hnext hne => ?_⟩
  · exact exec_setOperatingPoint_of_dataPath htaken hp hbin
  · exact exec_setOperatingPoint_before_dataPath htaken hp hbin
  · exact exec_setOperatingPoint_after_vin htaken hp hbin
  · intro hvin hpath hst htarget hpresent
    rw [exec_setOperatingPoint_of_dataPath htaken hp hbin hvin hpath]
    exact congrArg Host.Outcome.next (State.requestPoint_begins hst htarget hpresent)
  · refine ⟨_, exec_operatingPointReached_settles htarget hnext, ?_⟩
    rw [State.reachPoint_pw]
    exact ⟨rfl, rfl, rfl, rfl, fun x hx hq => State.answerPoint_answers hx hq⟩
  · refine ⟨_, exec_operatingPointReached_follows htarget hnext hne, ?_⟩
    rw [State.beginPoint_pw, State.reachPoint_pw]
    exact ⟨rfl, rfl, rfl, rfl⟩

end Sys2Proof.Machine
end

section
/-! PROOFS. Statements about the persistence contract (02_persistence_contract.md): a partial write merges whole lines (R28 to R30), and
the shutdown state is stored and reported (R41). -/

namespace Sys2Proof.Machine

/-! ### The merged line (R28, R29) -/

/-- The mask of one byte of the line, bit by bit. -/
theorem byteMask_getLsbD {n i b : Nat} (hi : i < 64) (hb : b < 8) :
    (0xFF#512 <<< (8 * n)).getLsbD (8 * i + b) = decide (i = n) := by
  have hones : (0xFF#512).getLsbD (8 * i + b - 8 * n) = decide (8 * i + b - 8 * n < 8) := by
    rw [BitVec.getLsbD_ofNat, show 0xFF = 2 ^ 8 - 1 from rfl, Nat.testBit_two_pow_sub_one]
    simp only [Bool.and_eq_right_iff_imp, decide_eq_true_eq]
    omega
  rw [BitVec.getLsbD_shiftLeft, hones, Bool.eq_iff_iff]
  simp only [Bool.and_eq_true, Bool.not_eq_true', decide_eq_true_eq, decide_eq_false_iff_not]
  omega

/-- What the first `n` enables give: the bytes below `n` that are enabled. -/
theorem foldl_byteMask_getLsbD (be : BitVec 64) (n : Nat) {i b : Nat} (hi : i < 64) (hb : b < 8) :
    ((List.range n).foldl (fun (m : Line) k => if be.getLsbD k then m ||| (0xFF#512 <<< (8 * k)) else m) 0).getLsbD (8 * i + b) =
      (decide (i < n) && be.getLsbD i) := by
  induction n with
  | zero => simp
  | succ n ih =>
    rw [List.range_succ, List.foldl_append, List.foldl_cons, List.foldl_nil]
    have hsplit : decide (i < n + 1) = (decide (i < n) || decide (i = n)) := by
      rw [← Bool.decide_or]
      exact decide_eq_decide.2 Nat.lt_succ_iff_lt_or_eq
    rw [apply_ite (BitVec.getLsbD · (8 * i + b)), BitVec.getLsbD_or, ih, byteMask_getLsbD hi hb, hsplit]
    by_cases h : i = n
    · subst h
      cases be.getLsbD i <;> simp
    · simp [h]

theorem beMask_getLsbD (be : BitVec 64) {i b : Nat} (hi : i < 64) (hb : b < 8) :
    (beMask be).getLsbD (8 * i + b) = be.getLsbD i := by
  unfold beMask
  rw [foldl_byteMask_getLsbD be 64 hi hb, decide_eq_true hi, Bool.true_and]

theorem mergeLine_getLsbD (old new : Line) (be : BitVec 64) {i b : Nat} (hi : i < 64) (hb : b < 8) :
    (mergeLine old new be).getLsbD (8 * i + b) =
      if be.getLsbD i = true then new.getLsbD (8 * i + b) else old.getLsbD (8 * i + b) := by
  have hbit : 8 * i + b < 512 := by omega
  unfold mergeLine
  rw [BitVec.getLsbD_or, BitVec.getLsbD_and, BitVec.getLsbD_and, BitVec.getLsbD_not, beMask_getLsbD be hi hb]
  cases be.getLsbD i <;> simp [hbit]

/-! ### The merge read (R50) -/

section
variable {s : State} {w : Write} {x : Sense}

theorem State.mergePilots_of_no_block (h : s.mergeBlock w = none) : s.mergePilots w x = s := by
  unfold State.mergePilots
  rw [h]

theorem State.mergeWaits_of_no_block (h : s.mergeBlock w = none) : s.mergeWaits w x = false := by
  unfold State.mergeWaits
  rw [h]

theorem State.mergeFound_of_no_block (h : s.mergeBlock w = none) (hx : recovers x = false) : s.mergeFound w x = s := by
  unfold State.mergeFound
  rw [h]
  simp [hx]

/-- With neither a tentative version nor a cached line, an unwritten line reads zero and a poisoned one yields none. -/
theorem State.mergeRead_of_uncached (htent : s.mergeTent w = none) (hcache : s.ca.en = true → s.cacheFind w.line = none) :
    (s.version w.line = .zero → s.mergeRead w x = .line 0) ∧ (s.version w.line = .poison → s.mergeRead w x = .poisoned) := by
  have hnone : (if s.ca.en then s.cacheFind w.line else none) = none := by simpa using hcache
  unfold State.mergeRead
  rw [htent]
  dsimp only
  rw [hnone]
  exact ⟨fun hver => by rw [hver], fun hver => by rw [hver]⟩

section
variable (hw : findWrite (s.wp.mergeQ.take 128) w.seq = some w)
include hw

/-- A slot of another entry: the lookups are repeated (R78). -/
theorem exec_mergeReadComplete_mismatch : exec (.mergeReadComplete w.seq .mismatch) s = .next s := by
  show execMergeReadComplete w.seq .mismatch s = _
  unfold execMergeReadComplete
  rw [hw]

/-- Once no block that it senses awaits a pilot read, the merge ends with what its read gave. -/
theorem exec_mergeReadComplete_of_ready (htree : ∀ k, x ≠ .tree k) (hmis : x ≠ .mismatch)
    (hready : (s.mergePilots w x).mergeWaits w x = false) : exec (.mergeReadComplete w.seq x) s =
      .next (s.pmEdges (((s.mergePilots w x).mergeFound w x).merged w (s.mergeRead w x))) := by
  show execMergeReadComplete w.seq x s = _
  unfold execMergeReadComplete
  rw [hw]
  dsimp only
  split
  · exact absurd rfl hmis
  · exact absurd rfl (htree _)
  · exact if_neg (by simp [hready])

theorem exec_mergeReadComplete_of_no_block (htree : ∀ k, x ≠ .tree k) (hmis : x ≠ .mismatch) (hblock : s.mergeBlock w = none)
    (hx : recovers x = false) : exec (.mergeReadComplete w.seq x) s = .next (s.pmEdges (s.merged w (s.mergeRead w x))) := by
  have hpilots : s.mergePilots w x = s := State.mergePilots_of_no_block hblock
  rw [exec_mergeReadComplete_of_ready hw htree hmis (by rw [hpilots, State.mergeWaits_of_no_block hblock]), hpilots,
    State.mergeFound_of_no_block hblock hx]

end

end

/-! ### A discarded write (R26, R30) -/

theorem State.releaseLock_of_none_waiting {s : State} {line : Nat}
    (h : s.ilock line = none ∨ ∃ l, s.ilock line = some l ∧ l.waiting = []) :
    ∃ ilocks, s.releaseLock line = { s with wp := { s.wp with ilocks := ilocks } } := by
  unfold State.releaseLock
  obtain h | ⟨l, h, hwait⟩ := h
  · rw [h]; exact ⟨s.wp.ilocks, rfl⟩
  · rw [h]; dsimp only; rw [hwait]; exact ⟨_, rfl⟩

theorem State.finishWrite_host {s : State} {w : Write} (hsrc : w.src = .host) (hdiscard : w.discard = false) :
    s.finishWrite w = { s with wp := { s.wp with cplQ := s.wp.cplQ ++ [⟨w.seq, w.ld, w.line, w.win, w.gseq, .host⟩] } } := by
  simp [State.finishWrite, State.complete, hsrc, hdiscard]

theorem State.event_wp (s : State) (code sev org p0 p1 p2 p3 : Nat) : (s.event code sev org p0 p1 p2 p3).wp = s.wp := by
  obtain ⟨_, _, _, _, _, _, _, h⟩ := State.event_touches s code sev org p0 p1 p2 p3
  rw [h]

theorem State.raise_wp (s : State) (n : Fin 256) (e d : Nat) : (s.raise n e d).wp = s.wp := by
  obtain ⟨_, h⟩ := State.raise_touches s n e d
  rw [h]

/-- Of the write path, judging the marks sets the marks alone. -/
theorem State.judgeMarks_wp (s : State) : s.judgeMarks.wp = { s.wp with marks := s.marksNow } := by
  unfold State.judgeMarks
  extract_lets m old pct _ marked warned stopped
  have hwarned : warned.wp = marked.wp := by simp only [warned, apply_ite State.wp, State.event_wp, ite_self]
  have hstopped : stopped.wp = warned.wp := by simp only [stopped, apply_ite State.wp, State.event_wp, ite_self]
  split
  · next h => rw [show s.marksNow = s.wp.marks from h]
  · rw [apply_ite State.wp, State.raise_wp, ite_self, hstopped, hwarned]

/-- Nothing waits for the line: of the write path, discarding a host's write changes the interlock entries, the completion queue and the
marks. -/
theorem State.discardWrite_wp {s : State} {w : Write} (hsrc : w.src = .host) (hdiscard : w.discard = false)
    (hlock : s.ilock w.line = none ∨ ∃ l, s.ilock w.line = some l ∧ l.waiting = []) :
    ∃ ilocks marks, (s.discardWrite w).wp = { s.wp with
      ilocks := ilocks, marks := marks, cplQ := s.wp.cplQ ++ [⟨w.seq, w.ld, w.line, w.win, w.gseq, .host⟩] } := by
  obtain ⟨ilocks, h⟩ := State.releaseLock_of_none_waiting hlock
  unfold State.discardWrite
  rw [State.judgeMarks_wp, h, State.finishWrite_host hsrc hdiscard]
  exact ⟨_, _, rfl⟩

/-- Settles O36: the merge ends with what its read gave, so a line read goes on merged to stage 4 and a poisoned one discards the write. -/
theorem partialWritesMergeWholeLines : Obligations.PartialWritesMergeWholeLines := by
  unfold Obligations.PartialWritesMergeWholeLines
  refine ⟨fun old new be i b hi hb => mergeLine_getLsbD old new be hi hb, fun s w x hw => ?_⟩
  intro rest u
  refine ⟨exec_mergeReadComplete_mismatch hw, fun l htree hmis hread => ⟨fun hblock hx => ?_, fun hready => ?_⟩,
    fun htent hcache => (State.mergeRead_of_uncached htent hcache).1, fun htent hcache hver htree hmis hready => ?_,
    fun hsrc hdiscard hlock => ?_⟩
  · rw [exec_mergeReadComplete_of_no_block hw htree hmis hblock hx, hread]
    rfl
  · rw [exec_mergeReadComplete_of_ready hw htree hmis hready, hread]
    rfl
  · rw [exec_mergeReadComplete_of_ready hw htree hmis hready, (State.mergeRead_of_uncached htent hcache).2 hver]
    rfl
  · obtain ⟨ilocks, marks, h⟩ := State.discardWrite_wp (s := rest s) hsrc hdiscard hlock
    rw [h]
    exact ⟨rfl, rfl, rfl⟩

/-! ### The shutdown state (R41) -/

@[simp] theorem State.answer_kp (s : State) (r : Req) (op : Nat) (a : Ans) : (s.answer r op a).kp = s.kp := by
  obtain ⟨mb, lds, out, h⟩ := State.answer_touches s r op a
  rw [h]

theorem State.answer_emits (s : State) (r : Req) (op : Nat) (a : Ans) : .mbx r.inst op a.code a.out ∈ (s.answer r op a).out := by
  unfold State.answer
  extract_lets recorded timed
  exact (State.mbxSignal_keeps_out (timed.emit (.mbx r.inst op a.code a.out)) r.inst 1).subset List.mem_cons_self

/-- The shutdown state takes a value, which becomes durable. -/
def State.putShutdownState (s : State) (b : Byte) : State := { s with kp := { s.kp with shutdownState := b } }.save 43

theorem State.putShutdownState_stored (s : State) (b : Byte) : (s.putShutdownState b).kp.shutdownState = b := rfl

theorem exec_setShutdownState {s : State} {r : Req} (h : s.Taken r 0x4204 (some 1)) (b : Byte) :
    exec (.setShutdownState r b) s = .next ((s.putShutdownState b).answer r 0x4204 okAns) :=
  congrArg Host.Outcome.next (State.mbx_answers rfl h rfl)

theorem exec_getShutdownState {s : State} {r : Req} (h : s.Taken r 0x4203 (some 0)) :
    exec (.getShutdownState r) s = .next (s.answer r 0x4203 (okOut (.bytes [s.kp.shutdownState]))) :=
  congrArg Host.Outcome.next (State.mbx_answers rfl h rfl)

theorem State.dscRecord_shutdownState (s : State) (dirty : Bool) : (s.dscRecord dirty).kp.shutdownState = s.kp.shutdownState := by
  cases dirty
  · rfl
  · rfl

/-- Step 10 of a start stores records of the keeper's and leaves the host's byte. -/
theorem State.step10_shutdownState (s : State) : s.step10.kp.shutdownState = s.kp.shutdownState := by
  unfold State.step10
  exact State.dscRecord_shutdownState _ _

/-- Settles O12: SET_SHUTDOWN_STATE stores the byte and GET_SHUTDOWN_STATE answers with the one stored. -/
theorem shutdownStateIsStoredAndReported : Obligations.ShutdownStateIsStoredAndReported := by
  unfold Obligations.ShutdownStateIsStoredAndReported
  intro s r r' b h
  have hstored : ((s.putShutdownState b).answer r 0x4204 okAns).kp.shutdownState = b := by
    rw [State.answer_kp, State.putShutdownState_stored]
  refine ⟨_, exec_setShutdownState h b, hstored, List.contains_iff_mem.2 (State.answer_emits _ r 0x4204 okAns), fun h' => ?_,
    State.step10_shutdownState⟩
  refine ⟨_, exec_getShutdownState h', List.contains_iff_mem.2 ?_⟩
  rw [hstored]
  exact State.answer_emits _ r' 0x4203 (okOut (.bytes [b]))

end Sys2Proof.Machine
end

section
/-! PROOFS. Statements about the write path (03_write_path.md): a write that arrives takes its number and its queue (R45 to R52). -/

namespace Sys2Proof.Machine

open Sys2Proof.Laws

/-! ### The admission queues under an event -/

theorem State.modLd_adm {s : State} {n m : Fin 16} {f : LD → LD} (hf : ∀ l, (f l).adm = l.adm) :
    ((s.modLd n f).ld m).adm = (s.ld m).adm := by
  by_cases h : n = m
  · subst h; rw [modLd_ld, hf]
  · rw [modLd_ld_other _ _ _ _ h]

theorem State.signal_adm (s : State) (n : Fin 16) (v : Fin 4) (m : Fin 16) : ((s.signal n v).ld m).adm = (s.ld m).adm := by
  unfold State.signal
  split
  · exact State.modLd_adm fun _ => rfl
  · rfl

theorem State.cxlLog_adm (s : State) (n : Fin 16) (e : EventRec) (m : Fin 16) : ((s.cxlLog n e).ld m).adm = (s.ld m).adm := by
  unfold State.cxlLog
  extract_lets k was logged
  have hlogged : (logged.ld m).adm = (s.ld m).adm := State.modLd_adm fun _ => rfl
  split
  · rw [State.signal_adm, hlogged]
  · exact hlogged

/-- What each step of a fold keeps, the fold keeps. -/
theorem foldl_keeps {α β : Type} (view : State → β) {f : State → α → State} (h : ∀ s x, view (f s x) = view s) (l : List α) (s : State) :
    view (l.foldl f s) = view s := by
  induction l generalizing s with
  | nil => rfl
  | cons x l ih => rw [List.foldl_cons, ih, h]

theorem State.forward_adm (s : State) (e : EventRec) (m : Fin 16) : ((s.forward e).ld m).adm = (s.ld m).adm := by
  unfold State.forward
  refine foldl_keeps (fun t : State => (t.ld m).adm) (fun t n => ?_) _ s
  extract_lets take
  split
  · exact State.cxlLog_adm ..
  · rfl

theorem State.raise_lds (s : State) (n : Fin 256) (e d : Nat) : (s.raise n e d).lds = s.lds := by
  obtain ⟨_, h⟩ := State.raise_touches s n e d
  rw [h]

/-- Up to the forwarding of its record, an event leaves the LDs. -/
theorem State.eventStore_adm (s : State) (code sev org p0 p1 p2 p3 : Nat) (m : Fin 16) :
    ((s.eventStore code sev org p0 p1 p2 p3).ld m).adm = (s.ld m).adm := by
  unfold State.eventStore
  split
  · rfl
  · extract_lets opened supp r counted inserted ringed kept noted fatal
    have hopened : opened.lds = s.lds := by
      obtain ⟨_, _, h1⟩ := State.logRepeat_touches s
      obtain ⟨_, _, _, h2⟩ := State.evBlock_touches s.logRepeat
      rw [show opened = s.logRepeat.evBlock from rfl, h2, h1]
    have hringed : ringed.lds = s.lds := by
      rw [← hopened]
      unfold ringed
      split
      · rfl
      · obtain ⟨_, _, h⟩ := State.pmCount_touches { counted with ev := { counted.ev with dropped := counted.ev.dropped + 1 } } 0x011 noTag
        rw [h]; rfl
    have hkept : kept.lds = s.lds := by
      rw [← hringed]
      unfold kept
      split
      · obtain ⟨_, _, h⟩ := State.logAppend_touches ringed r
        rw [h]
      · rfl
    have hfatal : fatal.lds = s.lds := by
      rw [← hkept]
      simp only [fatal, noted, apply_ite State.lds, State.raise_lds, ite_self]
    rw [State.forward_adm]
    exact congrArg (fun v : Vector LD 16 => v[m].adm) hfatal

theorem State.event_adm (s : State) (code sev org p0 p1 p2 p3 : Nat) (m : Fin 16) :
    ((s.event code sev org p0 p1 p2 p3).ld m).adm = (s.ld m).adm := by
  unfold State.event
  split
  · obtain ⟨_, _, _, h⟩ := State.keeperEvent_touches s code sev org p0 p1 p2 p3
    rw [h]; rfl
  · split
    · split
      · rfl
      · exact State.eventStore_adm ..
    · exact State.eventStore_adm ..

theorem State.violate_adm (s : State) (who : Fin 17) (kind addr : Nat) (m : Fin 16) :
    ((s.violate who kind addr).ld m).adm = (s.ld m).adm := by
  unfold State.violate
  extract_lets v total counted
  split
  · exact State.event_adm ..
  · rfl

/-- The claimant's record names the violation last counted (R284). -/
theorem State.violate_lastKind (s : State) (who : Fin 17) (kind addr : Nat) : (s.violate who kind addr).mb.viol[who].lastKind = kind := by
  unfold State.violate
  extract_lets v total _ counted
  have hcounted : counted.mb.viol[who].lastKind = kind := by simp [counted]
  split
  · obtain ⟨_, _, _, _, _, _, _, h⟩ := State.event_touches counted 0x8001 1 (if who.val = 16 then oDev else oLd (ldOf who.val)) total kind 0 0
    rw [h, ← hcounted]
  · exact hcounted

/-! ### Stage 1 (R45, R46, R52) -/

/-- The number that the next write takes: the counter's next value, 0 after the last. -/
def State.seqNext (s : State) : Nat := (s.wp.seq + 1) % 2 ^ 48

/-- A number taken: the sequence counter moves; at a wrap the epoch rises, and its record goes to the keeper store. -/
theorem State.nextSeq_touches (s : State) : ∃ sec kp, s.nextSeq.2 = { s with sec := sec, kp := kp, wp := { s.wp with seq := s.seqNext } } := by
  unfold State.nextSeq
  dsimp only
  split
  · exact ⟨_, _, rfl⟩
  · exact ⟨s.sec, s.kp, rfl⟩

/-- What stage 1 does before it looks where the address leads. -/
theorem State.stage1_numbers (s : State) (n : Fin 16) (ev : Nat) (g : PmTag) :
    ∃ t, ((s.countLeft n).pmCount ev g).nextSeq = (s.seqNext, t) ∧ ∃ rp pm nt sec kp,
      t = { s with rp := rp, pm := pm, nt := nt, sec := sec, kp := kp, wp := { s.wp with seq := s.seqNext } } := by
  obtain ⟨pm, nt, hcount⟩ := State.pmCount_touches (s.countLeft n) ev g
  obtain ⟨sec, kp, hseq⟩ := State.nextSeq_touches ((s.countLeft n).pmCount ev g)
  refine ⟨_, Prod.ext ?_ rfl, (s.countLeft n).rp, pm, nt, sec, kp, ?_⟩
  · rw [hcount]; rfl
  · exact hseq.trans (by rw [hcount]; rfl)

section
variable {s : State} {r : RxReq}

/-- The byte enables under which a request's write goes on: all of them for a MEM_WR. -/
def RxReq.enables (r : RxReq) : BitVec 64 := if r.kind = 2 then BitVec.allOnes 64 else r.be

theorem State.stage1Write_allocated {line : Nat} {win : Option (Fin 64)} (h : s.resolve r.ld r.addr = some (line, win)) :
    ∃ rp pm nt sec kp, s.stage1Write r =
      ({ s with rp := rp, pm := pm, nt := nt, sec := sec, kp := kp, wp := { s.wp with seq := s.seqNext } } : State).modLd r.ld fun l =>
        { l with adm := l.adm ++ [newWrite s.seqNext r.ld line win r.enables r.data r.poison .host] } := by
  obtain ⟨t, hnum, rp, pm, nt, sec, kp, ht⟩ := State.stage1_numbers s r.ld 0x002 ⟨some r.ld.val, none, none⟩
  have hres : t.resolve r.ld r.addr = some (line, win) := by rw [ht]; exact h
  obtain ⟨pm', nt', hpart⟩ := State.pmCount_touches t 0x003 ⟨some r.ld.val, none, none⟩
  have hbe : (if r.kind = 2 then BitVec.allOnes 64 else r.be) = r.enables := rfl
  unfold State.stage1Write
  simp only [hnum, hres, hbe]
  split
  · exact ⟨rp, pm, nt, sec, kp, by rw [ht]⟩
  · exact ⟨rp, pm', nt', sec, kp, by rw [hpart, ht]⟩

theorem State.stage1Write_unallocated (h : s.resolve r.ld r.addr = none) :
    ∃ t : State, s.stage1Write r =
      (t.violate (whoOf r.ld) 5 (t.addrNum r.ld r.addr)).complete (newWrite s.seqNext r.ld 0 none r.be 0 false .host) ∧
    ∃ rp pm nt sec kp, t = { s with rp := rp, pm := pm, nt := nt, sec := sec, kp := kp, wp := { s.wp with seq := s.seqNext } } := by
  obtain ⟨t, hnum, rp, pm, nt, sec, kp, ht⟩ := State.stage1_numbers s r.ld 0x002 ⟨some r.ld.val, none, none⟩
  have hres : t.resolve r.ld r.addr = none := by rw [ht]; exact h
  unfold State.stage1Write
  simp only [hnum, hres]
  exact ⟨t, rfl, rp, pm, nt, sec, kp, ht⟩

/-! ### The receive buffer (R49) -/

/-- At an empty receive buffer a write passes stage 1 at once, or waits in the buffer. -/
theorem State.arriveWrite_of_empty (hreach : s.reachable r.ld = true) (hrx : s.wp.rx = []) : s.arriveWrite r =
    if s.credits r.ld = true ∧ (s.ld r.ld).adm.length < 256 then s.stage1Write r else { s with wp := { s.wp with rx := [r] } } := by
  have hempty : ({ s with wp := { s.wp with rx := [] } } : State) = s := by rw [← hrx]
  have hroom : s.reachable r.ld ∧ s.wp.rx.length < 1024 := ⟨hreach, by simp [hrx]⟩
  unfold State.arriveWrite State.drainWrites
  rw [if_pos hroom]
  simp only [hrx, List.nil_append, List.foldl_cons, List.foldl_nil, hempty, List.all_nil, and_true]

end

/-! ### MEM_WR and MEM_WR_PTL at an empty receive buffer -/

section
variable {s : State} {r : RxReq} (hreach : s.reachable r.ld = true) (hrx : s.wp.rx = [])
include hreach hrx

/-- The write stands last in its LD's admission queue. -/
theorem done_arriveWrite_queues (hcred : s.credits r.ld = true) (hroom : (s.ld r.ld).adm.length < 256) {line : Nat} {win : Option (Fin 64)}
    (hres : s.resolve r.ld r.addr = some (line, win)) : ∃ t : State, s.done (s.arriveWrite r) = .next t ∧
      t.lds[r.ld].adm = s.lds[r.ld].adm ++ [newWrite s.seqNext r.ld line win r.enables r.data r.poison .host] ∧
      t.wp = { s.wp with seq := s.seqNext } ∧ t.fo = s.fo := by
  obtain ⟨rp, pm, nt, sec, kp, hone⟩ := State.stage1Write_allocated hres
  obtain ⟨_, _, hedges⟩ := State.pmEdges_touches s (s.arriveWrite r)
  refine ⟨_, rfl, ?_⟩
  rw [hedges, State.arriveWrite_of_empty hreach hrx, if_pos ⟨hcred, hroom⟩, hone]
  exact ⟨congrArg LD.adm (modLd_ld ..), rfl, rfl⟩

/-- On capacity that is not allocated the write completes, with a violation of kind 5. -/
theorem done_arriveWrite_completes (hcred : s.credits r.ld = true) (hroom : (s.ld r.ld).adm.length < 256)
    (hres : s.resolve r.ld r.addr = none) : ∃ t : State, s.done (s.arriveWrite r) = .next t ∧ t.lds[r.ld].adm = s.lds[r.ld].adm ∧
      t.wp = { s.wp with seq := s.seqNext, cplQ := s.wp.cplQ ++ [⟨s.seqNext, r.ld, 0, none, 0, .host⟩] } ∧
      t.mb.viol[whoOf r.ld].lastKind = 5 ∧ t.fo = s.fo := by
  obtain ⟨u, hone, rp, pm, nt, sec, kp, hu⟩ := State.stage1Write_unallocated hres
  have hadm := State.violate_adm u (whoOf r.ld) 5 (u.addrNum r.ld r.addr) r.ld
  have hkind := State.violate_lastKind u (whoOf r.ld) 5 (u.addrNum r.ld r.addr)
  obtain ⟨_, _, _, _, _, _, _, _, hviol⟩ := State.violate_touches u (whoOf r.ld) 5 (u.addrNum r.ld r.addr)
  obtain ⟨_, _, hedges⟩ := State.pmEdges_touches s (s.arriveWrite r)
  refine ⟨_, rfl, ?_⟩
  rw [hedges, State.arriveWrite_of_empty hreach hrx, if_pos ⟨hcred, hroom⟩, hone]
  rw [hviol] at hadm hkind ⊢
  rw [hu] at hadm ⊢
  exact ⟨hadm, rfl, hkind, rfl⟩

/-- Without a credit, or with its queue full, the write waits in the receive buffer. -/
theorem done_arriveWrite_waits (hheld : s.credits r.ld = false ∨ 256 ≤ (s.ld r.ld).adm.length) :
    ∃ t : State, s.done (s.arriveWrite r) = .next t ∧ t.wp = { s.wp with rx := [r] } ∧ t.lds = s.lds := by
  have hstays : ¬ (s.credits r.ld = true ∧ (s.ld r.ld).adm.length < 256) := by
    rintro ⟨hcred, hroom⟩
    rcases hheld with h | h
    · rw [hcred] at h; cases h
    · omega
  obtain ⟨_, _, hedges⟩ := State.pmEdges_touches s (s.arriveWrite r)
  refine ⟨_, rfl, ?_⟩
  rw [hedges, State.arriveWrite_of_empty hreach hrx, if_neg hstays]
  exact ⟨rfl, rfl⟩

end

/-- Settles O35: both requests arrive as one in the receive buffer, where stage 1 queues the write, completes it, or leaves it to wait. -/
theorem writesEnterTheirQueue : Obligations.WritesEnterTheirQueue := by
  unfold Obligations.WritesEnterTheirQueue
  intro s n a be data p hreach hrx seq go
  have harrives : ∀ (c : Instr) (be : BitVec 64) (r : RxReq), exec c s = s.done (s.arriveWrite r) → r.ld = n → r.addr = a →
      r.enables = be → r.data = data → r.poison = p → go c be := by
    rintro c be r hexec rfl rfl rfl rfl rfl
    refine ⟨fun hcred hroom line win hres => ?_, fun hcred hroom hres => ?_, fun hheld => ?_⟩
    · obtain ⟨t, ht, hadm, hwp, hfo⟩ := done_arriveWrite_queues hreach hrx hcred hroom hres
      refine ⟨t, hexec.trans ht, hadm, ?_⟩
      rw [hwp, hfo]
      exact ⟨rfl, hrx, rfl, rfl, rfl, rfl⟩
    · obtain ⟨t, ht, hadm, hwp, hkind, hfo⟩ := done_arriveWrite_completes hreach hrx hcred hroom hres
      refine ⟨t, hexec.trans ht, ?_⟩
      rw [hwp, hfo]
      exact ⟨rfl, hadm, rfl, hkind, rfl, rfl, rfl⟩
    · obtain ⟨t, ht, hwp, hlds⟩ := done_arriveWrite_waits hreach hrx hheld
      refine ⟨t, hexec.trans ht, ?_⟩
      rw [hwp]
      exact ⟨rfl, rfl, hlds, rfl, rfl⟩
  exact ⟨harrives _ _ _ rfl rfl rfl rfl rfl rfl, harrives _ _ _ rfl rfl rfl rfl rfl rfl⟩

end Sys2Proof.Machine
end

section
/-! PROOFS. What the operations of the write path leave of each other (03_write_path.md): a slot's allocation, a record of metadata, an entry and its
verify change the Shallows' own bookkeeping and none of the queues, interlock entries or index records. -/

namespace Sys2Proof.Machine

open Sys2Proof.Laws

/-! ### The allocation of a slot (R54, R56) -/

/-- What the allocation of a slot can lead to: a draw, numbers for segment marks, pairs opened and filled. -/
def State.Allocs (s t : State) : Prop := ∃ freeIx sec kp dr seq pairs marksAt,
  t = { s with freeIx := freeIx, sec := sec, kp := kp, dr := dr, wp := { s.wp with seq := seq, pairs := pairs, marksAt := marksAt } }

theorem State.Allocs.refl (s : State) : s.Allocs s := ⟨s.freeIx, s.sec, s.kp, s.dr, s.wp.seq, s.wp.pairs, s.wp.marksAt, rfl⟩

theorem State.Allocs.trans {s t u : State} (h : s.Allocs t) (h' : t.Allocs u) : s.Allocs u := by
  obtain ⟨_, _, _, _, _, _, _, rfl⟩ := h
  obtain ⟨f, c, k, d, q, p, m, rfl⟩ := h'
  exact ⟨f, c, k, d, q, p, m, rfl⟩

theorem State.Allocs.opened (s : State) (pairs : List Pair) (dr : Dr) :
    s.Allocs { s with dr := dr, wp := { s.wp with pairs := pairs } } :=
  ⟨s.freeIx, s.sec, s.kp, dr, s.wp.seq, pairs, s.wp.marksAt, rfl⟩

theorem State.nextSeq_allocs (s : State) : s.Allocs s.nextSeq.2 := by
  obtain ⟨c, k, h⟩ := State.nextSeq_touches s
  exact ⟨s.freeIx, c, k, s.dr, s.seqNext, s.wp.pairs, s.wp.marksAt, h⟩

theorem State.pick_allocs {α : Type} (s : State) (l : List α) : s.Allocs (s.pick l).2 := by
  unfold State.pick
  split
  · exact .refl s
  · exact .refl s
  · exact ⟨s.freeIx + 1, s.sec, s.kp, s.dr, s.wp.seq, s.wp.pairs, s.wp.marksAt, rfl⟩

theorem State.putMark_allocs (s : State) (p : Place) (base : Nat) : s.Allocs (s.putMark p base) :=
  s.nextSeq_allocs.trans ⟨s.nextSeq.2.freeIx, _, _, _, _, s.nextSeq.2.wp.pairs, _, rfl⟩

theorem State.openPair_allocs (s : State) (k : Fin 4) (running : Bool) (seq : Nat) : s.Allocs (s.openPair k running seq) := by
  unfold State.openPair
  extract_lets room bare
  have hfirst := s.pick_allocs (if bare.isEmpty then room else bare)
  generalize s.pick (if bare.isEmpty then room else bare) = picked at hfirst ⊢
  obtain ⟨_ | a, u⟩ := picked
  · exact hfirst
  · dsimp only at hfirst ⊢
    split
    · exact hfirst.trans ((u.pick_allocs _).trans ((State.Allocs.opened _ _ _).trans (State.putMark_allocs ..)))
    · exact hfirst.trans (u.pick_allocs _)

theorem State.openPairsUpTo_allocs (s : State) (k : Fin 4) (seq n : Nat) : s.Allocs (s.openPairsUpTo k seq n) := by
  induction n generalizing s with
  | zero => exact .refl s
  | succ n ih =>
    unfold State.openPairsUpTo
    split
    · exact (s.openPair_allocs k false seq).trans (ih _)
    · exact .refl s

theorem State.closeShort_allocs (s : State) (k : Fin 4) (seq : Nat) : s.Allocs (s.closeShort k seq) :=
  ⟨s.freeIx, s.sec, s.kp, s.dr, s.wp.seq, _, s.wp.marksAt, rfl⟩

theorem State.takeSlot_allocs (s : State) (p : Pair) (seq : Nat) : s.Allocs (s.takeSlot p seq).2 := by
  unfold State.takeSlot
  extract_lets slot base p' _ filled
  have hfilled : s.Allocs filled := ⟨s.freeIx, s.sec, s.kp, s.dr, s.wp.seq, _, s.wp.marksAt, rfl⟩
  dsimp only
  split
  · exact hfilled.trans (State.putMark_allocs ..)
  · exact hfilled

theorem State.slotOf_allocs (s : State) (k : Fin 4) (running : Bool) (seq : Nat) (ok : Pair → Bool) :
    s.Allocs (s.slotOf k running seq ok).2 := by
  unfold State.slotOf
  extract_lets can least
  have hpick := s.pick_allocs (can.filter fun p => s.pairBusy p = least)
  generalize s.pick (can.filter fun p => s.pairBusy p = least) = found at hpick ⊢
  obtain ⟨_ | p, u⟩ := found
  · exact hpick
  · exact hpick.trans (u.takeSlot_allocs p seq)

theorem State.allocSlot_allocs (s : State) (k : Fin 4) (seq : Nat) (ok : Pair → Bool) : s.Allocs (s.allocSlot k seq ok).2 :=
  (s.closeShort_allocs k seq).trans ((State.openPairsUpTo_allocs ..).trans (State.slotOf_allocs ..))

theorem State.allocRun_allocs (s : State) (k : Fin 4) (seq : Nat) : s.Allocs (s.allocRun k seq).2 := by
  unfold State.allocRun
  extract_lets closed
  have hclosed : s.Allocs closed := s.closeShort_allocs k seq
  split
  · exact hclosed.trans ((closed.openPair_allocs k true seq).trans (State.slotOf_allocs ..))
  · exact hclosed.trans (State.slotOf_allocs ..)

theorem State.allocFirst_allocs (s : State) (run : Bool) (seq : Nat) (ks : List (Fin 4)) : s.Allocs (s.allocFirst run seq ks).2 := by
  induction ks generalizing s with
  | nil => exact .refl s
  | cons k ks ih =>
    have htry : s.Allocs (if run then s.allocRun k seq else s.allocSlot k seq fun _ => true).2 := by
      split
      · exact State.allocRun_allocs ..
      · exact State.allocSlot_allocs ..
    unfold State.allocFirst
    generalize (if run then s.allocRun k seq else s.allocSlot k seq fun _ => true) = found at htry ⊢
    obtain ⟨_ | p, u⟩ := found
    · exact htry.trans (ih u)
    · exact htry

theorem State.allocMeta_allocs (s : State) (seq : Nat) (runOnly : Bool) : s.Allocs (s.allocMeta seq runOnly).2 := by
  unfold State.allocMeta
  split
  · exact State.allocFirst_allocs ..
  · have hhost := s.allocFirst_allocs false seq s.setList
    generalize s.allocFirst false seq s.setList = found at hhost ⊢
    obtain ⟨_ | p, u⟩ := found
    · exact hhost.trans (State.allocFirst_allocs ..)
    · exact hhost

theorem State.allocLine_allocs (s : State) (line seq : Nat) : s.Allocs (s.allocLine line seq).2 := by
  unfold State.allocLine
  have hhost := s.allocSlot_allocs (s.setOf (granOf line)) seq fun _ => true
  generalize (s.allocSlot (s.setOf (granOf line)) seq fun _ => true) = found at hhost ⊢
  obtain ⟨_ | p, u⟩ := found
  · exact hhost.trans (State.allocRun_allocs ..)
  · exact hhost

theorem State.newMeta_allocs (s : State) (r : MetaRec) (runOnly : Bool) : s.Allocs (s.newMeta r runOnly).2 :=
  s.nextSeq_allocs.trans (State.allocMeta_allocs ..)

/-! ### The traffic of the write path -/

/-- The write path without the Shallows' bookkeeping: its queues, interlock entries, index and groups' records stand; the sequence counter, the
pairs, entries and marks, the reserve's records, the channels' program counts and the fill fence are left out. -/
def Wp.traffic (w : Wp) : Wp :=
  { w with seq := 0, pairs := [], entries := [], marksAt := [], reserve := [], failBlocks := [], updates := [],
           progQ := .replicate 64 0, marks := .replicate 6 false }

/-- A part of the write path that stands in its traffic is the same where the traffic is. -/
theorem part_of_traffic {α : Type} (part : Wp → α) {w v : Wp} (h : w.traffic = v.traffic)
    (hpart : ∀ x : Wp, part x.traffic = part x := by intro x; rfl) : part w = part v := by
  rw [← hpart w, h, hpart]

theorem State.Allocs.traffic {s t : State} (h : s.Allocs t) : t.wp.traffic = s.wp.traffic := by
  obtain ⟨_, _, _, _, _, _, _, rfl⟩ := h
  rfl

theorem State.Allocs.out {s t : State} (h : s.Allocs t) : t.out = s.out := by
  obtain ⟨_, _, _, _, _, _, _, rfl⟩ := h
  rfl

theorem State.metaRec_traffic (s : State) (r : MetaRec) : (s.metaRec r).wp.traffic = s.wp.traffic :=
  (s.newMeta_allocs r _).traffic

theorem State.setDirtyBit_traffic (s : State) (t : Fin 8) (g : Nat) : (s.setDirtyBit t g).wp.traffic = s.wp.traffic := by
  unfold State.setDirtyBit
  split
  · rfl
  · exact State.metaRec_traffic ..

theorem State.modEntry_traffic (s : State) (p : Place) (f : Entry → Entry) : (s.modEntry p f).wp.traffic = s.wp.traffic := by
  unfold State.modEntry
  split
  · rfl
  · rfl

theorem State.kill_traffic (s : State) (p : Place) : (s.kill p).wp.traffic = s.wp.traffic := State.modEntry_traffic ..

theorem State.progAdd_traffic (s : State) (p : Place) (up : Bool) : (s.progAdd p up).wp.traffic = s.wp.traffic := by
  unfold State.progAdd
  split
  · rfl
  · rfl

theorem State.stage8_traffic (s : State) (line : Nat) (data : Line) (absent : Bool) :
    (s.stage8 line data absent).wp.traffic = s.wp.traffic := by
  have hdrop : ∀ u : State, (u.cacheDrop line).wp = u.wp := fun u => by unfold State.cacheDrop; split <;> rfl
  have henter : ∀ u : State, (u.cacheEnter line data true).wp = u.wp := fun u => by
    unfold State.cacheEnter
    split
    · rfl
    · simp only [State.dramPage, apply_ite State.wp, ite_self]
  unfold State.stage8
  extract_lets _ fenced
  have hfenced : fenced.wp.traffic = s.wp.traffic := rfl
  split
  · exact hfenced
  · split
    · rw [hdrop, hfenced]
    · rw [henter, hfenced]

/-! ### Operations that leave the write path -/

theorem State.poisonAdd_wp (s : State) (line lines : Nat) (src : PoisonSrc) : (s.poisonAdd line lines src).wp = s.wp := by
  unfold State.poisonAdd
  split
  · rfl
  · split
    · rfl
    · rfl

theorem State.tetherSend_wp (s : State) (t : Fin 8) (m : LodeMsg) : (s.tetherSend t m).wp = s.wp := by
  unfold State.tetherSend
  split
  · rfl
  · rfl

theorem State.pmCount_wp (s : State) (ev : Nat) (g : PmTag) : (s.pmCount ev g).wp = s.wp := by
  obtain ⟨_, _, h⟩ := State.pmCount_touches s ev g
  rw [h]

theorem State.wantPilot_wp (s : State) (b : BlockKey) : (s.wantPilot b).wp = s.wp := by
  unfold State.wantPilot
  extract_lets x
  split
  · rfl
  · exact State.pmCount_wp ..

theorem State.judgeHold_wp (s : State) (k : Fin 4) : (s.judgeHold k).wp = s.wp := by
  unfold State.judgeHold
  split
  · rfl
  · rfl

theorem State.enterEol_wp (s : State) (k : Fin 4) : (s.enterEol k).wp = s.wp := by
  unfold State.enterEol
  split
  · rfl
  · exact State.event_wp ..

theorem State.useSpare_wp (s : State) (d : DieKey) : (s.useSpare d).wp = s.wp := by
  unfold State.useSpare
  split
  · rfl
  · extract_lets k _ used
    split
    · exact State.enterEol_wp used k
    · rfl

theorem State.failBlock_traffic (s : State) (p : Place) (blk : Nat) : (s.failBlock p blk).wp.traffic = s.wp.traffic := by
  unfold State.failBlock
  extract_lets n _ failed _ retired pos d
  split
  · rw [State.event_wp, State.useSpare_wp]
    rfl
  · rfl

/-! ### Interlock entries through stages 3 and 4 (R47, R194, R196, R204) -/

theorem State.metaRec_ilocks (s : State) (r : MetaRec) : (s.metaRec r).wp.ilocks = s.wp.ilocks := part_of_traffic Wp.ilocks (s.metaRec_traffic r)

theorem State.kill_ilocks (s : State) (p : Place) : (s.kill p).wp.ilocks = s.wp.ilocks := part_of_traffic Wp.ilocks (s.kill_traffic p)

theorem State.indexLine_ilocks (s : State) (line : Nat) (p : Place) (seq : Nat) (psn : Bool) :
    (s.indexLine line p seq psn).wp.ilocks = s.wp.ilocks := by
  unfold State.indexLine
  extract_lets r
  split
  · rfl
  · split
    · rfl
    · split
      · exact State.kill_ilocks ..
      · exact State.kill_ilocks ..

theorem State.landLine_ilocks (s : State) (ld : Fin 16) (line : Nat) (psn : Bool) (ct : Line) (tag : Tag) :
    (s.landLine ld line psn ct tag).wp.ilocks = s.wp.ilocks := by
  have hplaced : s.Allocs (s.nextSeq.2.allocLine line s.nextSeq.1).2 := s.nextSeq_allocs.trans (State.allocLine_allocs ..)
  have hilocks := part_of_traffic Wp.ilocks hplaced.traffic
  unfold State.landLine
  generalize s.nextSeq = numbered at hilocks ⊢
  obtain ⟨n, u⟩ := numbered
  dsimp only at hilocks ⊢
  generalize u.allocLine line n = placed at hilocks ⊢
  obtain ⟨_ | p, v⟩ := placed
  · exact hilocks
  · exact (State.indexLine_ilocks ..).trans hilocks

theorem State.cacheDirty_wp (s : State) (line : Nat) (d : Bool) : (s.cacheDirty line d).wp = s.wp := rfl

theorem State.durPage_ilocks (s : State) (page : Nat) : (s.durPage page).wp.ilocks = s.wp.ilocks :=
  part_of_traffic Wp.ilocks s.nextSeq_allocs.traffic

theorem State.reencPage_ilocks (s : State) (page major : Nat) (posB early : Bool) :
    (s.reencPage page major posB early).wp.ilocks = s.wp.ilocks := by
  unfold State.reencPage
  extract_lets old plains blank landed
  rw [State.durPage_ilocks]
  refine foldl_keeps (fun u : State => u.wp.ilocks) (fun u x => ?_) plains blank
  dsimp only
  rw [State.cacheDirty_wp, State.landLine_ilocks]

theorem State.tetherSend_ilocks (s : State) (t : Fin 8) (m : LodeMsg) : (s.tetherSend t m).wp.ilocks = s.wp.ilocks := by
  rw [State.tetherSend_wp]

theorem State.alone_ilocks (s : State) (t : Fin 8) (w : Write) : (s.alone t w).wp.ilocks = s.wp.ilocks := by
  unfold State.alone
  extract_lets x
  split
  · exact part_of_traffic Wp.ilocks (s.setDirtyBit_traffic ..)
  · rfl

/-- An encrypted write goes on to stage 5 or to the partner as well. -/
theorem State.encrypt_ilocks (s : State) (w : Write) : (s.encrypt w).wp.ilocks = s.wp.ilocks := by
  unfold State.encrypt
  extract_lets posB bumped
  have hissued : (if w.win.isSome = true then (s.seqNonce w.line w.seq posB, s) else (bumped.blockNonce w.line, bumped)).2.wp = s.wp := by
    split
    · rfl
    · rfl
  generalize (if w.win.isSome = true then (s.seqNonce w.line w.seq posB, s) else (bumped.blockNonce w.line, bumped)) = issued at hissued ⊢
  obtain ⟨n, u⟩ := issued
  dsimp only at hissued ⊢
  rw [← hissued]
  split
  · split
    · exact State.tetherSend_ilocks ..
    · exact State.alone_ilocks ..
  · rfl

theorem State.encryptPsn_ilocks (s : State) (w : Write) : (s.encryptPsn w).wp.ilocks = s.wp.ilocks := by
  unfold State.encryptPsn
  extract_lets clear
  split
  · split
    · exact State.tetherSend_ilocks ..
    · exact State.alone_ilocks ..
  · rfl

theorem State.startRekey_ilocks (s : State) (r : Fin 256) (exhausted : Bool) : (s.startRekey r exhausted).wp.ilocks = s.wp.ilocks := by
  unfold State.startRekey
  rw [State.raise_wp, State.event_wp, State.metaRec_ilocks]
  rfl

end Sys2Proof.Machine
end

section
/-! PROOFS. Statements about the write path (03_write_path.md): each stage carries its write to the next (R46 to R67). -/

namespace Sys2Proof.Machine

open Sys2Proof.Laws

/-! ### The interlock entry of a line, apart from its nonce (R47) -/

/-- Who holds a line's interlock entry and who waits in it. -/
def State.lockOf (s : State) (line : Nat) : Option (Nat × List Write) := (s.ilock line).map fun l => (l.holder, l.waiting)

theorem State.lockOf_congr {s t : State} (h : t.wp.ilocks = s.wp.ilocks) (line : Nat) : t.lockOf line = s.lockOf line := by
  unfold State.lockOf State.ilock
  rw [h]

theorem State.ilock_of_lockOf {s : State} {line holder : Nat} {waiting : List Write} (h : s.lockOf line = some (holder, waiting)) :
    ∃ l, s.ilock line = some l ∧ l.holder = holder ∧ l.waiting = waiting := by
  obtain ⟨l, hl, hpair⟩ := Option.map_eq_some_iff.1 h
  exact ⟨l, hl, congrArg Prod.fst hpair, congrArg Prod.snd hpair⟩

/-- The entry of a line once the entries have changed, none of them its line. -/
theorem find_map_ilock {f : ILock → ILock} (hf : ∀ l, (f l).line = l.line) (line : Nat) (ls : List ILock) :
    (ls.map f).find? (fun (l : ILock) => l.line == line) = (ls.find? fun (l : ILock) => l.line == line).map f := by
  rw [List.find?_map]
  congr 2
  funext l
  simp [hf]

theorem State.relock_lockOf (s : State) (other line : Nat) : (s.relock other).lockOf line = s.lockOf line := by
  unfold State.lockOf State.ilock State.relock
  dsimp only
  rw [find_map_ilock fun l => by split <;> rfl, Option.map_map]
  congr 1
  funext l
  dsimp only [Function.comp]
  split <;> rfl

theorem State.earlyPage_lockOf (s : State) (page line : Nat) : (s.earlyPage page).lockOf line = s.lockOf line := by
  unfold State.earlyPage
  rw [State.relock_lockOf]
  exact State.lockOf_congr (by rw [modRegion_wp, State.reencPage_ilocks]) line

theorem State.encrypt_lockOf (s : State) (w : Write) (line : Nat) : (s.encrypt w).lockOf line = s.lockOf line :=
  State.lockOf_congr (s.encrypt_ilocks w) line

/-- Stage 4 renews nonces; the entries' holders and the writes that wait in them stay. -/
theorem State.stage4_lockOf (s : State) (w : Write) (line : Nat) : (s.stage4 w).lockOf line = s.lockOf line := by
  unfold State.stage4
  extract_lets stay page b r
  split
  · unfold State.encryptAny
    split
    · exact State.lockOf_congr (s.encryptPsn_ilocks w) line
    · exact State.encrypt_lockOf ..
  split
  · rfl
  split
  · exact State.encrypt_lockOf ..
  split
  · rfl
  split
  · rw [State.encrypt_lockOf, State.relock_lockOf]
    exact State.lockOf_congr (State.reencPage_ilocks ..) line
  split
  · rw [State.encrypt_lockOf, State.earlyPage_lockOf]
    exact State.lockOf_congr (State.startRekey_ilocks ..) line
  split
  · exact State.lockOf_congr (congrArg Wp.ilocks (State.event_wp ..)) line
  · rw [State.encrypt_lockOf, State.earlyPage_lockOf]

theorem State.startWrite_lockOf (s : State) (w : Write) (line : Nat) : (s.startWrite w).lockOf line = s.lockOf line := by
  unfold State.startWrite
  split
  · exact State.stage4_lockOf ..
  · refine State.lockOf_congr ?_ line
    dsimp only
    split
    · exact congrArg Wp.ilocks (State.wantPilot_wp ..)
    · rfl

section
variable {s : State} {w : Write}

/-- A line without an entry: the write holds a new one. -/
theorem State.takeLock_free (h : s.ilock w.line = none) : (s.takeLock w).lockOf w.line = some (w.seq, []) := by
  unfold State.takeLock
  rw [h]
  dsimp only
  rw [State.startWrite_lockOf]
  unfold State.ilock at h
  simp [State.lockOf, State.ilock, List.find?_append, h]

/-- A line whose entry is held: the write waits in it, in sequence order. -/
theorem State.takeLock_held {l : ILock} (h : s.ilock w.line = some l) :
    (s.takeLock w).lockOf w.line = some (l.holder, waitIn w l.waiting) := by
  have hline : l.line = w.line := by simpa using List.find?_some h
  unfold State.takeLock
  rw [h]
  unfold State.lockOf State.ilock
  dsimp only
  rw [find_map_ilock fun l => by split <;> rfl]
  rw [show s.wp.ilocks.find? _ = some l from h, Option.map_some, Option.map_some, if_pos hline]

/-! ### Admission (R47 to R49) -/

/-- A write that admission releases leaves its queue; the turn passes, and it counts in its millisecond. -/
def State.countAdmit (s : State) (k : Nat) (w : Write) : State :=
  let t := (s.admRemove k w.seq).takeTurn k
  { t with wp := { t.wp with admitted := t.wp.admitted + 1 } }

theorem State.countAdmit_touches (s : State) (k : Nat) (w : Write) : ∃ lds lo rrAt rrLeft admitted,
    s.countAdmit k w = { s with lds := lds, lo := lo, wp := { s.wp with rrAt := rrAt, rrLeft := rrLeft, admitted := admitted } } := by
  unfold State.countAdmit State.admRemove
  split
  · exact ⟨_, s.lo, _, _, _, rfl⟩
  · exact ⟨s.lds, _, _, _, _, rfl⟩

theorem State.admitWrite_of_no_window (k : Nat) (hwin : w.win = none) : s.admitWrite k w = (s.countAdmit k w).enter w := by
  unfold State.admitWrite
  rw [hwin]
  rfl

theorem State.enter_takes (hstate : (s.mapEnt (granOf w.line)).state ≠ .poisoned) (hset : s.fo.exhausted[s.setOf (granOf w.line)] = false) :
    s.enter w = s.takeLock w := by
  unfold State.enter
  extract_lets g
  rw [if_neg hstate, if_neg (by rw [hset]; exact Bool.false_ne_true)]

theorem State.complete_ilocks (s : State) (w : Write) : (s.complete w).wp.ilocks = s.wp.ilocks := by
  unfold State.complete
  split
  · rfl
  · rfl

theorem State.violate_wp (s : State) (who : Fin 17) (kind addr : Nat) : (s.violate who kind addr).wp = s.wp := by
  obtain ⟨_, _, _, _, _, _, _, _, h⟩ := State.violate_touches s who kind addr
  rw [h]

theorem State.stage1Write_ilocks (s : State) (r : RxReq) : (s.stage1Write r).wp.ilocks = s.wp.ilocks := by
  cases hres : s.resolve r.ld r.addr with
  | none =>
    obtain ⟨u, hone, _, _, _, _, _, rfl⟩ := State.stage1Write_unallocated hres
    rw [hone, State.complete_ilocks, State.violate_wp]
  | some found =>
    obtain ⟨_, _, _, _, _, hone⟩ := State.stage1Write_allocated hres
    rw [hone]
    rfl

theorem State.drainWrites_ilocks (s : State) : s.drainWrites.wp.ilocks = s.wp.ilocks := by
  unfold State.drainWrites
  refine foldl_keeps (fun u : State => u.wp.ilocks) (fun u r => ?_) s.wp.rx _
  dsimp only
  split
  · exact State.stage1Write_ilocks ..
  · rfl

theorem State.rollMs_of_now (h : s.wp.relMs = s.now / 800000) : s.rollMs = s := if_pos h.symm

/-- WRITE_ADMISSION while admission may release: of the interlock entries, what the write whose turn it is does to them. -/
theorem State.writeAdmission_lockOf {k : Nat} (hms : s.wp.relMs = s.now / 800000) (hadmits : s.admits = true)
    (hnext : s.nextAdmit = some (k, w)) (line : Nat) : s.writeAdmission.lockOf line = (s.admitWrite k w).lockOf line := by
  unfold State.writeAdmission
  rw [State.rollMs_of_now hms]
  dsimp only
  rw [if_pos hadmits, hnext]
  refine State.lockOf_congr ?_ line
  rw [State.judgeMarks_wp]
  exact State.drainWrites_ilocks _

theorem exec_writeAdmission_locks {k : Nat} (hms : s.wp.relMs = s.now / 800000) (hadmits : s.admits = true)
    (hnext : s.nextAdmit = some (k, w)) (hwin : w.win = none) (hstate : (s.mapEnt (granOf w.line)).state ≠ .poisoned)
    (hset : s.fo.exhausted[s.setOf (granOf w.line)] = false) : ∃ t : State, exec .writeAdmission s = .next t ∧
      (s.ilock w.line = none → ∃ l, t.ilock w.line = some l ∧ l.holder = w.seq ∧ l.waiting = []) ∧
      (∀ l, s.ilock w.line = some l → ∃ m, t.ilock w.line = some m ∧ m.holder = l.holder ∧ m.waiting = waitIn w l.waiting) := by
  obtain ⟨_, _, _, _, _, hcount⟩ := s.countAdmit_touches k w
  obtain ⟨_, _, hedges⟩ := State.pmEdges_touches s s.writeAdmission
  have hcounted : (s.countAdmit k w).ilock w.line = s.ilock w.line := by rw [hcount]; rfl
  have henter : (s.countAdmit k w).enter w = (s.countAdmit k w).takeLock w :=
    State.enter_takes (by rw [hcount]; exact hstate) (by rw [hcount]; exact hset)
  have hlock : (s.pmEdges s.writeAdmission).lockOf w.line = ((s.countAdmit k w).takeLock w).lockOf w.line := by
    rw [hedges, ← henter, ← State.admitWrite_of_no_window k hwin, ← State.writeAdmission_lockOf hms hadmits hnext]
    rfl
  refine ⟨_, rfl, fun hfree => ?_, fun l hheld => ?_⟩
  · exact State.ilock_of_lockOf (hlock.trans (State.takeLock_free (hcounted.trans hfree)))
  · exact State.ilock_of_lockOf (hlock.trans (State.takeLock_held (hcounted.trans hheld)))

end

/-! ### Placement (R54) -/

section
variable {s : State} {w : Write}

theorem exec_slotAllocation_places {u : State} (henc : s.wp.encQ = []) (hwait : s.wp.allocQ = [w]) (hroom : s.wp.idxQ.length < 512)
    (hplace : ({ s with wp := { s.wp with allocQ := [] } } : State).place5 w true = some u) :
    exec .slotAllocation s = .next (s.pmEdges u.judgeMarks) := by
  have hrun : s.runEnc = s := by
    unfold State.runEnc
    rw [henc, List.foldl_nil, ← henc]
  have hfree : s.indexHolds (s.setOf (granOf w.line)) = false := by simp [State.indexHolds, hroom]
  have hplaced : s.placeFirst [] [w] = u := by
    unfold State.placeFirst
    rw [hfree, List.append_nil, hplace]
    rfl
  show s.done (s.runEnc.placeFirst [] s.runEnc.wp.allocQ).judgeMarks = _
  rw [hrun, hwait, hplaced]
  rfl

/-! ### Verify (R57) -/

/-- A single write that both copies and the partner have confirmed enters the index update queue. -/
theorem State.toIndex_single (hprogs : s.wp.progs = [w]) (hlocal : w.localOk = true) (hack : w.partnerAck = true)
    (hroom : s.wp.idxQ.length < 512) : s.toIndex = { s with wp := { s.wp with progs := [], idxQ := s.wp.idxQ ++ [w] } } := by
  unfold State.toIndex
  rw [hprogs, List.foldl_cons, List.foldl_nil, if_pos ⟨hlocal, hack, hroom⟩]

/-- Both copies verify: of the traffic, the write alone is marked, and what may enter the index update queue does. -/
theorem State.verified_good (s : State) (w : Write) : ∃ u : State, u.wp.traffic = s.wp.traffic ∧
    s.verified w true true = ({ u with wp := { u.wp with progs := u.wp.progs.map fun (x : Write) =>
      if x.seq = w.seq then { x with localOk := true } else x } }).toIndex := by
  unfold State.verified
  extract_lets freed written sent
  have hwritten : written.wp.traffic = s.wp.traffic := by
    rw [State.modEntry_traffic, State.progAdd_traffic]
  refine ⟨sent, ?_, if_pos ⟨rfl, rfl⟩⟩
  rw [← hwritten]
  unfold sent
  split
  · rw [State.tetherSend_wp]
  · rw [State.tetherSend_wp]
  · rfl

/-- A copy fails verify: the write goes back before stage 5, first there, to be placed again. -/
theorem State.verified_bad (s : State) (w : Write) {a b : Bool} (h : (a && b) = false) : ∃ (u : State) (chans : List (Fin 64)),
    u.wp.traffic = s.wp.traffic ∧ s.verified w a b = { u with wp := { u.wp with
      progs := u.wp.progs.filter fun (x : Write) => x.seq ≠ w.seq,
      allocQ := { w with failed := w.failed ++ chans, tries := w.tries + 1, localOk := false } :: u.wp.allocQ } } := by
  have hbad : ¬ (a = true ∧ b = true) := by rw [← Bool.and_eq_true, h]; exact Bool.false_ne_true
  unfold State.verified
  extract_lets freed _ _ _ chans blks counted failed dead again
  refine ⟨dead, chans, ?_, if_neg hbad⟩
  have hcounted : counted.wp.traffic = freed.wp.traffic :=
    foldl_keeps (fun u : State => u.wp.traffic) (fun u c => by rw [State.pmCount_wp]) chans freed
  have hfailed : failed.wp.traffic = counted.wp.traffic :=
    foldl_keeps (fun u : State => u.wp.traffic) (fun u x => State.failBlock_traffic u w.place x) blks counted
  rw [State.kill_traffic, hfailed, hcounted, State.progAdd_traffic]

section
variable (hprogs : s.wp.progs = [w])
include hprogs

theorem findWrite_single : findWrite s.wp.progs w.seq = some w := by
  rw [hprogs]
  simp [findWrite]

theorem exec_shallowsPlacementVerified (hlocal : w.localOk = false) (a b : Bool) :
    exec (.shallowsPlacementVerified w.seq a b) s = s.done (s.verified w a b).judgeMarks := by
  show execShallowsPlacementVerified w.seq a b s = _
  unfold execShallowsPlacementVerified
  rw [findWrite_single hprogs]
  dsimp only
  rw [hlocal]
  exact if_neg Bool.false_ne_true

theorem exec_shallowsPlacementVerified_good (hlocal : w.localOk = false) (hack : w.partnerAck = true) (hroom : s.wp.idxQ.length < 512) :
    ∃ t : State, exec (.shallowsPlacementVerified w.seq true true) s = .next t ∧
      t.wp.idxQ = s.wp.idxQ ++ [{ w with localOk := true }] ∧ t.wp.progs = [] := by
  obtain ⟨u, htraffic, hverified⟩ := s.verified_good w
  have hu : u.wp.progs = [w] ∧ u.wp.idxQ = s.wp.idxQ :=
    ⟨(part_of_traffic Wp.progs htraffic).trans hprogs, part_of_traffic Wp.idxQ htraffic⟩
  rw [hu.1, List.map_singleton, if_pos rfl,
    State.toIndex_single (w := { w with localOk := true }) rfl rfl hack (by rw [hu.2]; exact hroom)] at hverified
  obtain ⟨_, _, hedges⟩ := State.pmEdges_touches s (s.verified w true true).judgeMarks
  refine ⟨_, exec_shallowsPlacementVerified hprogs hlocal true true, ?_⟩
  rw [hedges, State.judgeMarks_wp, hverified]
  exact ⟨congrArg (· ++ _) hu.2, rfl⟩

theorem exec_shallowsPlacementVerified_bad (hlocal : w.localOk = false) {a b : Bool} (h : (a && b) = false) :
    ∃ t : State, exec (.shallowsPlacementVerified w.seq a b) s = .next t ∧ t.wp.progs = [] ∧
      ∃ y, t.wp.allocQ = y :: s.wp.allocQ ∧ y.seq = w.seq ∧ y.tries = w.tries + 1 ∧ y.data = w.data := by
  obtain ⟨u, chans, htraffic, hverified⟩ := s.verified_bad w h
  have hu : u.wp.progs = [w] ∧ u.wp.allocQ = s.wp.allocQ :=
    ⟨(part_of_traffic Wp.progs htraffic).trans hprogs, part_of_traffic Wp.allocQ htraffic⟩
  obtain ⟨_, _, hedges⟩ := State.pmEdges_touches s (s.verified w a b).judgeMarks
  refine ⟨_, exec_shallowsPlacementVerified hprogs hlocal a b, ?_⟩
  rw [hedges, State.judgeMarks_wp, hverified, hu.1, hu.2]
  exact ⟨by simp, _, rfl, rfl, rfl, rfl⟩

end

end

/-! ### The index update (R23, R58) -/

/-- Where a line's index record points after the update by a write. -/
def Write.record (w : Write) : IndexRec := ⟨w.place.pair, w.place.slot, w.seq % 64, w.psn⟩

/-- The line has no index record, or its record names an entry that is not newer than a number (R58). -/
def State.NotNewer (s : State) (line seq : Nat) : Prop :=
  tfind s.wp.index line = none ∨ ∃ r e, tfind s.wp.index line = some r ∧ s.entryAt (s.recPlace line r) = some e ∧ newer e.ord seq = false

section
variable {s : State} {w : Write}

theorem State.takes_of_notNewer {line seq : Nat} (hstate : (s.mapEnt (granOf line)).state ≠ .poisoned) (h : s.NotNewer line seq) :
    s.takes line seq = true := by
  unfold State.takes
  rcases h with h | ⟨r, e, hrec, hentry, hold⟩
  · simp [hstate, h]
  · simp [hstate, hrec, hentry, hold]

/-- The line's record points to the write's entry; of the rest of the traffic nothing changes. -/
theorem State.indexLine_traffic (h : s.NotNewer w.line w.seq) : (s.indexLine w.line w.place w.seq w.psn).wp.traffic =
    ({ s.wp with index := tins w.line w.record s.wp.index } : Wp).traffic := by
  unfold State.indexLine
  rcases h with h | ⟨r, e, hrec, hentry, hold⟩
  · simp only [h]
    rfl
  · simp only [hrec, hentry, hold]
    have hdead := s.kill_traffic (s.recPlace w.line r)
    have hindex : (s.kill (s.recPlace w.line r)).wp.index = s.wp.index := part_of_traffic Wp.index hdead
    calc ((s.kill (s.recPlace w.line r)).setIndex w.line w.record).wp.traffic
        = { (s.kill (s.recPlace w.line r)).wp.traffic with index := tins w.line w.record (s.kill (s.recPlace w.line r)).wp.index } := rfl
      _ = { s.wp.traffic with index := tins w.line w.record s.wp.index } := by rw [hdead, hindex]

theorem State.index7_traffic (hsrc : w.src = .host) (hstate : (s.mapEnt (granOf w.line)).state ≠ .poisoned)
    (h : s.NotNewer w.line w.seq) : (s.index7 w).wp.traffic = ({ s.wp with index := tins w.line w.record s.wp.index } : Wp).traffic := by
  have hnamed : s.stillNamed w = true := by unfold State.stillNamed; rw [hsrc]
  have htakes := State.takes_of_notNewer hstate h
  unfold State.index7
  extract_lets indexed listed
  have hlisted : listed.wp = indexed.wp := by
    unfold listed
    split
    · exact State.poisonAdd_wp ..
    · rfl
  rw [if_neg (by simp [hnamed, htakes]), ← State.indexLine_traffic h, ← hlisted]
  split
  · split
    · exact State.setDirtyBit_traffic ..
    · rfl
  · rfl

/-- Stages 7 and 8 of a host's write of the committed view for whose line nothing waits. -/
theorem State.stage7_indexes (hwin : w.win = none) (hsrc : w.src = .host) (hdiscard : w.discard = false)
    (hstate : (s.mapEnt (granOf w.line)).state ≠ .poisoned) (h : s.NotNewer w.line w.seq)
    (hlock : s.ilock w.line = none ∨ ∃ l, s.ilock w.line = some l ∧ l.waiting = []) :
    (s.stage7 w).wp.index = tins w.line w.record s.wp.index ∧
    (s.stage7 w).wp.cplQ = s.wp.cplQ ++ [⟨w.seq, w.ld, w.line, none, w.gseq, .host⟩] := by
  unfold State.stage7
  rw [hwin]
  extract_lets keep indexed cached
  have hcached : cached.wp.traffic = ({ s.wp with index := tins w.line w.record s.wp.index } : Wp).traffic :=
    (State.stage8_traffic ..).trans (State.index7_traffic hsrc hstate h)
  have hindex := part_of_traffic Wp.index hcached
  have hcpl := part_of_traffic Wp.cplQ hcached
  have hilocks := part_of_traffic Wp.ilocks hcached
  have hsame : cached.ilock w.line = s.ilock w.line := by unfold State.ilock; rw [hilocks]
  rw [← hsame] at hlock
  obtain ⟨ilocks, hreleased⟩ := State.releaseLock_of_none_waiting hlock
  rw [State.judgeMarks_wp, State.judgeHold_wp, State.finishWrite_host hsrc hdiscard, hreleased, hwin]
  exact ⟨hindex, congrArg (· ++ _) hcpl⟩

/-- Of the index and the completions, moving writes into the index update queue changes nothing. -/
theorem State.toIndex_keeps (s : State) : (s.toIndex.wp.index, s.toIndex.wp.cplQ) = (s.wp.index, s.wp.cplQ) := by
  unfold State.toIndex
  refine foldl_keeps (fun u : State => (u.wp.index, u.wp.cplQ)) (fun u x => ?_) s.wp.progs _
  split
  · rfl
  · rfl

theorem exec_indexUpdate_indexes {rest : List Write} (hqueue : s.wp.idxQ = w :: rest) : ∃ t : State, exec .indexUpdate s = .next t ∧
    (w.win = none → w.src = .host → w.discard = false → (s.mapEnt (granOf w.line)).state ≠ .poisoned → s.NotNewer w.line w.seq →
      (s.ilock w.line).all (fun l => l.waiting.isEmpty) = true →
      tfind t.wp.index w.line = some w.record ∧ t.wp.cplQ = s.wp.cplQ ++ [(⟨w.seq, w.ld, w.line, none, w.gseq, .host⟩ : Completion)]) := by
  obtain ⟨_, _, hedges⟩ := State.pmEdges_touches s s.indexUpdate
  have hupdate : s.indexUpdate = (({ s with wp := { s.wp with idxQ := rest } } : State).stage7 w).toIndex := by
    unfold State.indexUpdate
    rw [hqueue]
  refine ⟨_, rfl, fun hwin hsrc hdiscard hstate hnewer hall => ?_⟩
  have hlock : s.ilock w.line = none ∨ ∃ l, s.ilock w.line = some l ∧ l.waiting = [] := by
    cases hl : s.ilock w.line with
    | none => exact .inl rfl
    | some l => exact .inr ⟨l, rfl, by simpa [hl] using hall⟩
  obtain ⟨hindex, hcpl⟩ := State.stage7_indexes (s := { s with wp := { s.wp with idxQ := rest } }) hwin hsrc hdiscard hstate hnewer hlock
  obtain ⟨hindex', hcpl'⟩ := Prod.mk.inj (State.toIndex_keeps (({ s with wp := { s.wp with idxQ := rest } } : State).stage7 w))
  rw [hedges, hupdate]
  exact ⟨by rw [hindex', hindex, tfind_tins_same], hcpl'.trans hcpl⟩

end

/-! ### Completions leave (R27, R63, R67) -/

theorem State.tetherSend_keeps_out (s : State) (t : Fin 8) (m : LodeMsg) : s.out <:+ (s.tetherSend t m).out := by
  unfold State.tetherSend
  split
  · exact List.suffix_cons ..
  · exact List.suffix_rfl

theorem State.issueCommit_keeps_out (s : State) (n : Fin 16) (w : Fin 64) : s.out <:+ (s.issueCommit n w).out := by
  have hrecord := s.nextSeq_allocs.trans (State.allocMeta_allocs s.nextSeq.2 s.nextSeq.1 false)
  unfold State.issueCommit
  extract_lets v
  split
  · dsimp only
    rw [← hrecord.out]
    split
    · exact State.tetherSend_keeps_out ..
    · exact List.suffix_rfl
  · exact List.suffix_rfl

theorem State.ackGroup_keeps_out (s : State) (n : Fin 16) (w : Fin 64) (gseq : Nat) : s.out <:+ (s.ackGroup n w gseq).out := by
  unfold State.ackGroup
  split
  · exact State.issueCommit_keeps_out (s.modWin n w _) n w
  · exact List.suffix_rfl

section
variable {s : State}

/-- The completion chosen leaves with its LD's DevLoad; unless it is of a group, the rest of the queue is what stays. -/
theorem State.returnNdr_sends {c : Completion} {rest : List Completion} (h : s.nextNdr [] s.wp.cplQ = some (rest, c)) :
    .ndr c.ld c.seq (s.devLoad c.ld) ∈ s.returnNdr.out ∧ (c.win = none → s.returnNdr.wp.cplQ = rest) := by
  unfold State.returnNdr
  rw [h]
  dsimp only
  cases hwin : c.win with
  | none => exact ⟨List.mem_cons_self, fun _ => rfl⟩
  | some v => exact ⟨(State.ackGroup_keeps_out ..).subset List.mem_cons_self, fun hnone => nomatch hnone⟩

theorem exec_ndrReturn_sends {c : Completion} {rest : List Completion} (h : s.nextNdr [] s.wp.cplQ = some (rest, c)) :
    ∃ t : State, exec .ndrReturn s = .next t ∧ .ndr c.ld c.seq (s.devLoad c.ld) ∈ t.out ∧ (c.win = none → t.wp.cplQ = rest) := by
  obtain ⟨_, _, hedges⟩ := State.pmEdges_touches s s.returnNdr
  refine ⟨_, rfl, ?_⟩
  rw [hedges]
  exact State.returnNdr_sends h

/-- A completion that may leave, with none of its line before it, is the one that does. -/
theorem State.nextNdr_takes {before rest : List Completion} {c : Completion} (hmay : s.mayReturn c = true)
    (hline : ∀ x ∈ before, x.line ≠ c.line) : s.nextNdr before (c :: rest) = some (before ++ rest, c) :=
  if_pos ⟨hmay, List.all_eq_true.2 fun x hx => decide_eq_true (hline x hx)⟩

theorem State.nextNdr_skips {before rest : List Completion} {c : Completion} (hmay : s.mayReturn c = false) :
    s.nextNdr before (c :: rest) = s.nextNdr (before ++ [c]) rest :=
  if_neg fun h => by rw [hmay] at h; exact Bool.false_ne_true h.1

theorem State.nextNdr_none {l : List Completion} (h : ∀ x ∈ l, s.mayReturn x = false) (before : List Completion) :
    s.nextNdr before l = none := by
  induction l generalizing before with
  | nil => rfl
  | cons c l ih =>
    rw [State.nextNdr_skips (h c List.mem_cons_self)]
    exact ih (fun x hx => h x (List.mem_cons_of_mem c hx)) _

theorem exec_ndrReturn_none (h : ∀ x ∈ s.wp.cplQ, s.mayReturn x = false) : exec .ndrReturn s = .next (s.pmEdges s) := by
  show s.done s.returnNdr = _
  unfold State.returnNdr
  rw [State.nextNdr_none h]
  rfl

/-! ### The sequence counter (R46, R189) -/

theorem exec_sequenceCounterWrap (h : s.wp.seq = 2 ^ 48 - 1) : ∃ t : State, exec .sequenceCounterWrap s = .next t ∧
    t.wp.seq = 0 ∧ t.sec.seqEpoch = s.sec.seqEpoch + 1 := by
  have hwrap : (s.wp.seq + 1) % 2 ^ 48 = 0 := by omega
  refine ⟨s.nextSeq.2, if_pos h, ?_⟩
  unfold State.nextSeq
  dsimp only
  rw [if_pos hwrap]
  exact ⟨hwrap, rfl⟩

/-! ### Granules of old entries (R46) -/

theorem State.foldFirst_orders (s : State) (g : Nat) : ∃ lane, (g, lane) ∈ (s.foldFirst g).fo.orderQ[s.setOf g] := by
  unfold State.foldFirst
  dsimp only
  rw [vmod_same]
  exact ⟨_, List.mem_cons_self⟩

/-- A granule stays ordered in its set when another is put ahead of it. -/
theorem State.foldFirst_keeps {g : Nat} (other : Nat) (h : ∃ lane, (g, lane) ∈ s.fo.orderQ[s.setOf g]) :
    ∃ lane, (g, lane) ∈ (s.foldFirst other).fo.orderQ[s.setOf g] := by
  by_cases hg : g = other
  · subst hg
    exact s.foldFirst_orders g
  · obtain ⟨lane, hmem⟩ := h
    refine ⟨lane, ?_⟩
    unfold State.foldFirst
    dsimp only
    rw [vmod_get]
    split
    · exact List.mem_cons_of_mem _ (List.mem_filter.2 ⟨hmem, by simpa using hg⟩)
    · exact hmem

theorem foldl_foldFirst_keeps {g : Nat} (l : List Nat) (h : ∃ lane, (g, lane) ∈ s.fo.orderQ[s.setOf g]) :
    ∃ lane, (g, lane) ∈ (l.foldl State.foldFirst s).fo.orderQ[s.setOf g] := by
  induction l generalizing s with
  | nil => exact h
  | cons x l ih => exact ih (s := s.foldFirst x) (State.foldFirst_keeps x h)

theorem foldl_foldFirst_orders {g : Nat} {l : List Nat} (hg : g ∈ l) :
    ∃ lane, (g, lane) ∈ (l.foldl State.foldFirst s).fo.orderQ[s.setOf g] := by
  induction l generalizing s with
  | nil => cases hg
  | cons x l ih =>
    rcases List.mem_cons.1 hg with rfl | hg
    · exact foldl_foldFirst_keeps (s := s.foldFirst g) l (s.foldFirst_orders g)
    · exact ih (s := s.foldFirst x) hg

theorem exec_seqAgeFold_orders : ∃ t : State, exec .seqAgeFold s = .next t ∧
    ∀ g ∈ s.agedGrans, ∃ lane, (g, lane) ∈ t.fo.orderQ[s.setOf g] := by
  obtain ⟨_, _, hedges⟩ := State.pmEdges_touches s (s.agedGrans.foldl State.foldFirst s)
  refine ⟨_, rfl, fun g hg => ?_⟩
  rw [hedges]
  exact foldl_foldFirst_orders hg

end

/-- Settles O37: each command's effect is that of its stage, and what the other stages hold stands. -/
theorem writeStagesAdvance : Obligations.WriteStagesAdvance := by
  unfold Obligations.WriteStagesAdvance
  intro s
  refine ⟨fun k w hms hadmits hnext hwin _ hstate hset => exec_writeAdmission_locks hms hadmits hnext hwin hstate hset,
    fun w u henc hwait hroom hplace => exec_slotAllocation_places henc hwait hroom hplace,
    fun w hprogs hlocal => ⟨exec_shallowsPlacementVerified_good hprogs hlocal, fun a b => exec_shallowsPlacementVerified_bad hprogs hlocal⟩,
    fun w rest hqueue _ => ?_, fun c rest hqueue hmay => ?_, fun c rest _ hnone => exec_ndrReturn_none hnone,
    fun a b rest hqueue ha hb hline => ?_, exec_sequenceCounterWrap, exec_seqAgeFold_orders⟩
  · exact exec_indexUpdate_indexes hqueue
  · exact exec_ndrReturn_sends (by rw [hqueue]; exact State.nextNdr_takes hmay fun x hx => nomatch hx)
  · refine exec_ndrReturn_sends ?_
    rw [hqueue, State.nextNdr_skips ha]
    exact State.nextNdr_takes hb (by simpa using hline)

end Sys2Proof.Machine
end

section
/-! PROOFS. Statements about the read path (04_read_path.md): a read that arrives takes a tracker entry, is answered with zeros where the capacity is
not allocated, or waits (R70, R88, R249). -/

namespace Sys2Proof.Machine

open Sys2Proof.Laws

/-! ### The host address map under an event (R243, R260) -/

/-- One LD after an event that firmware may forward to it: its event logs and pending vectors alone can differ. -/
def LD.Notified (l m : LD) : Prop := ∃ evLogs vecPending, m = { l with evLogs := evLogs, vecPending := vecPending }

theorem LD.Notified.refl (l : LD) : l.Notified l := ⟨l.evLogs, l.vecPending, rfl⟩

theorem LD.Notified.trans {l m k : LD} (h : l.Notified m) (h' : m.Notified k) : l.Notified k := by
  obtain ⟨_, _, rfl⟩ := h
  obtain ⟨g, p, rfl⟩ := h'
  exact ⟨g, p, rfl⟩

/-- The LDs after events: each can have been notified. -/
def State.Notifies (s t : State) : Prop := ∀ m, (s.ld m).Notified (t.ld m)

theorem State.Notifies.of_lds {s t : State} (h : t.lds = s.lds) : s.Notifies t := fun m => by
  have hld : t.ld m = s.ld m := congrArg (fun v : Vector LD 16 => v[m]) h
  rw [hld]
  exact .refl _

theorem State.Notifies.trans {s t u : State} (h : s.Notifies t) (h' : t.Notifies u) : s.Notifies u := fun m => (h m).trans (h' m)

theorem State.modLd_notifies (s : State) (n : Fin 16) {f : LD → LD} (hf : ∀ l : LD, l.Notified (f l)) : s.Notifies (s.modLd n f) := by
  intro m
  by_cases h : n = m
  · subst h; rw [modLd_ld]; exact hf _
  · rw [modLd_ld_other _ _ _ _ h]; exact .refl _

theorem State.signal_notifies (s : State) (n : Fin 16) (v : Fin 4) : s.Notifies (s.signal n v) := by
  unfold State.signal
  split
  · exact s.modLd_notifies n fun l => ⟨l.evLogs, _, rfl⟩
  · exact .of_lds rfl

theorem State.cxlLog_notifies (s : State) (n : Fin 16) (e : EventRec) : s.Notifies (s.cxlLog n e) := by
  unfold State.cxlLog
  extract_lets k was logged
  have hlogged : s.Notifies logged := s.modLd_notifies n fun l => ⟨_, l.vecPending, rfl⟩
  split
  · exact hlogged.trans (logged.signal_notifies n 1)
  · exact hlogged

theorem State.forward_notifies (s : State) (e : EventRec) : s.Notifies (s.forward e) := by
  unfold State.forward
  generalize allFin 16 = l
  induction l generalizing s with
  | nil => exact .of_lds rfl
  | cons n l ih =>
    refine State.Notifies.trans ?_ (ih _)
    dsimp only
    split
    · split
      · exact s.cxlLog_notifies n e
      · exact .of_lds rfl
    · split
      · exact s.cxlLog_notifies n e
      · exact .of_lds rfl

theorem State.logRepeat_lds (s : State) : s.logRepeat.lds = s.lds := by
  obtain ⟨_, _, h⟩ := State.logRepeat_touches s
  rw [h]

theorem State.evBlock_lds (s : State) : s.evBlock.lds = s.lds := by
  obtain ⟨_, _, _, h⟩ := State.evBlock_touches s
  rw [h]

theorem State.logAppend_lds (s : State) (r : EventRec) : (s.logAppend r).lds = s.lds := by
  obtain ⟨_, _, h⟩ := State.logAppend_touches s r
  rw [h]

theorem State.pmCount_lds (s : State) (ev : Nat) (g : PmTag) : (s.pmCount ev g).lds = s.lds := by
  obtain ⟨_, _, h⟩ := State.pmCount_touches s ev g
  rw [h]

theorem State.eventStore_notifies (s : State) (code sev org p0 p1 p2 p3 : Nat) : s.Notifies (s.eventStore code sev org p0 p1 p2 p3) := by
  unfold State.eventStore
  split
  · exact .of_lds rfl
  · extract_lets opened supp r counted inserted ringed kept noted fatal
    have hringed : ringed.lds = s.lds := by
      have hcounted : counted.lds = s.lds := (State.evBlock_lds _).trans s.logRepeat_lds
      unfold ringed
      split
      · exact hcounted
      · exact (State.pmCount_lds ..).trans hcounted
    have hfatal : fatal.lds = s.lds := by
      simp only [fatal, noted, kept, apply_ite State.lds, State.raise_lds, State.logAppend_lds, ite_self, hringed]
    exact (State.Notifies.of_lds hfatal).trans (fatal.forward_notifies r)

theorem State.event_notifies (s : State) (code sev org p0 p1 p2 p3 : Nat) : s.Notifies (s.event code sev org p0 p1 p2 p3) := by
  unfold State.event
  split
  · obtain ⟨_, _, _, h⟩ := State.keeperEvent_touches s code sev org p0 p1 p2 p3
    exact .of_lds (by rw [h])
  · split
    · split
      · exact .of_lds rfl
      · exact s.eventStore_notifies code sev org p0 p1 p2 p3
    · exact s.eventStore_notifies code sev org p0 p1 p2 p3

theorem State.violate_notifies (s : State) (who : Fin 17) (kind addr : Nat) : s.Notifies (s.violate who kind addr) := by
  unfold State.violate
  extract_lets v total _ counted
  split
  · exact State.Notifies.trans (.of_lds rfl) (counted.event_notifies _ _ _ _ _ _ _)
  · exact .of_lds rfl

/-- An address names the same number for an LD while its decoders stand. -/
theorem State.Notifies.addrNum {s t : State} (h : s.Notifies t) (n : Fin 16) (a : Addr) : t.addrNum n a = s.addrNum n a := by
  have hdpa : t.dpaOf n a = s.dpaOf n a := by
    obtain ⟨_, _, hld⟩ := h n
    cases a with
    | dpa a => rfl
    | hpa a =>
      show (t.ld n).dpaOf a = (s.ld n).dpaOf a
      rw [hld]
      rfl
  unfold State.addrNum
  rw [hdpa]

/-! ### Detectors and prefetches (R90, R91) -/

/-- What training a detector and issuing prefetches leave: the write path, the map and the receive buffer as they were, and every read in the
tracker, in its place. -/
structure State.Prefetches (s t : State) : Prop where
  wp : t.wp = s.wp
  fo : t.fo = s.fo
  rx : t.rp.rx = s.rp.rx
  tracker : s.rp.tracker <+: t.rp.tracker

theorem State.Prefetches.refl (s : State) : s.Prefetches s := ⟨rfl, rfl, rfl, List.prefix_rfl⟩

theorem State.Prefetches.trans {s t u : State} (h : s.Prefetches t) (h' : t.Prefetches u) : s.Prefetches u :=
  ⟨h'.wp.trans h.wp, h'.fo.trans h.fo, h'.rx.trans h.rx, h.tracker.trans h'.tracker⟩

theorem foldl_prefetches {α : Type} {f : State → α → State} (hf : ∀ (s : State) (x : α), s.Prefetches (f s x)) (l : List α) (s : State) :
    s.Prefetches (l.foldl f s) := by
  induction l generalizing s with
  | nil => exact .refl s
  | cons x l ih => exact (hf s x).trans (ih _)

theorem State.pmCount_prefetches (s : State) (ev : Nat) (g : PmTag) : s.Prefetches (s.pmCount ev g) := by
  obtain ⟨_, _, h⟩ := State.pmCount_touches s ev g
  rw [h]
  exact ⟨rfl, rfl, rfl, List.prefix_rfl⟩

theorem State.readAdd_prefetches (s : State) (c : Fin 64) (up : Bool) : s.Prefetches (s.readAdd c up) := ⟨rfl, rfl, rfl, List.prefix_rfl⟩

theorem State.issuePrefetch_prefetches (s : State) (n : Fin 16) (line : Nat) : s.Prefetches (s.issuePrefetch n line) := by
  obtain ⟨_, _, h⟩ := State.pmCount_touches s 0x010 ⟨some n.val, none, none⟩
  unfold State.issuePrefetch
  rw [h]
  exact ⟨rfl, rfl, rfl, List.prefix_append ..⟩

theorem State.queuePrefetch_prefetches (s : State) (n : Fin 16) (line : Nat) : s.Prefetches (s.queuePrefetch n line) := by
  unfold State.queuePrefetch
  extract_lets q
  split
  · refine State.Prefetches.trans ?_ (State.pmCount_prefetches _ _ _)
    exact ⟨rfl, rfl, rfl, List.prefix_rfl⟩
  · exact ⟨rfl, rfl, rfl, List.prefix_rfl⟩

theorem State.runPrefetch_prefetches (s : State) : s.Prefetches s.runPrefetch := by
  unfold State.runPrefetch
  have hemptied : s.Prefetches { s with rp := { s.rp with pfQ := [] } } := ⟨rfl, rfl, rfl, List.prefix_rfl⟩
  refine hemptied.trans (foldl_prefetches (fun u x => ?_) _ _)
  split
  · exact .refl u
  · split
    · exact u.issuePrefetch_prefetches ..
    · exact ⟨rfl, rfl, rfl, List.prefix_rfl⟩

theorem State.detect_prefetches (s : State) (n : Fin 16) (line : Nat) : s.Prefetches (s.detect n line) := by
  unfold State.detect
  dsimp only
  split
  · split
    · exact ⟨rfl, rfl, rfl, List.prefix_rfl⟩
    · refine State.Prefetches.trans ?_ (State.runPrefetch_prefetches _)
      refine State.Prefetches.trans ?_ (foldl_prefetches (fun u l => ?_) _ _)
      · exact ⟨rfl, rfl, rfl, List.prefix_rfl⟩
      · split
        · exact u.queuePrefetch_prefetches n l
        · exact .refl u
  · split
    · exact .refl s
    · exact ⟨rfl, rfl, rfl, List.prefix_rfl⟩

/-! ### Stage 1 (R70, R249, R256, R423) -/

/-- Leaving the receive buffer counts a read: for its LD's limit fraction, the read cap and the performance monitor. -/
theorem State.stage1Read_counts (s : State) (n : Fin 16) : ∃ t,
    ((s.countLeft n).countRead).pmCount 0x001 ⟨some n.val, none, none⟩ = t ∧ ∃ leftNow bytesMs bytesTick pm nt,
      t = { s with rp := { s.rp with leftNow := leftNow, bytesMs := bytesMs, bytesTick := bytesTick }, pm := pm, nt := nt } := by
  obtain ⟨pm, nt, h⟩ := State.pmCount_touches (s.countLeft n).countRead 0x001 ⟨some n.val, none, none⟩
  exact ⟨_, rfl, _, _, _, pm, nt, h⟩

/-- The read that a request of allocated capacity becomes: it waits for its lookups. -/
def State.newRead (s : State) (r : RxReq) (line : Nat) (win : Option (Fin 64)) : Read :=
  { id := r.id, ld := r.ld, line := line, win := win, src := .host, arrived := r.tick, path := .lookup, nonce := noNonce,
    lookupTick := s.now, fillOk := true, runAhead := s.runAhead line, chan := none, paused := r.paused, recovering := false, data := 0,
    poison := false }

/-- The tracker with that read. -/
def State.enterRead (s : State) (r : RxReq) (line : Nat) (win : Option (Fin 64)) : State :=
  { s with rp := { s.rp with tracker := s.rp.tracker ++ [s.newRead r line win] } }

section
variable {s t : State} {r : RxReq}

theorem State.stage1Read_enters {line : Nat} {win : Option (Fin 64)}
    (hcounted : ((s.countLeft r.ld).countRead).pmCount 0x001 ⟨some r.ld.val, none, none⟩ = t)
    (hres : t.resolve r.ld r.addr = some (line, win)) : s.stage1Read r =
      let entered := t.enterRead r line win
      let queued := if (t.runAhead line).isSome then entered.readAdd (entered.peatChan line) true else entered
      if win.isNone then queued.detect r.ld line else queued := by
  unfold State.stage1Read
  simp only [hcounted, hres]
  rfl

/-- A read of allocated capacity stands in the tracker and waits for its lookups. -/
theorem State.stage1Read_allocated {line : Nat} {win : Option (Fin 64)} (h : s.resolve r.ld r.addr = some (line, win)) :
    (s.stage1Read r).wp = s.wp ∧ (s.stage1Read r).fo = s.fo ∧ (s.stage1Read r).rp.rx = s.rp.rx ∧
    ∃ x ∈ (s.stage1Read r).rp.tracker, x.id = r.id ∧ x.ld = r.ld ∧ x.line = line ∧ x.win = win ∧ x.src = .host ∧ x.path = .lookup := by
  obtain ⟨t, hcounted, leftNow, bytesMs, bytesTick, pm, nt, ht⟩ := s.stage1Read_counts r.ld
  have hres : t.resolve r.ld r.addr = some (line, win) := by rw [ht]; exact h
  have hparts : t.wp = s.wp ∧ t.fo = s.fo ∧ t.rp.rx = s.rp.rx := by rw [ht]; exact ⟨rfl, rfl, rfl⟩
  obtain ⟨hwp, hfo, hrx⟩ := hparts
  rw [State.stage1Read_enters hcounted hres]
  extract_lets entered queued
  have hqueued : entered.Prefetches queued := by
    unfold queued
    split
    · exact entered.readAdd_prefetches ..
    · exact .refl entered
  have hdetected : entered.Prefetches (if win.isNone then queued.detect r.ld line else queued) := by
    split
    · exact hqueued.trans (queued.detect_prefetches ..)
    · exact hqueued
  have hread : t.newRead r line win ∈ entered.rp.tracker := List.mem_append_right _ (List.mem_singleton_self _)
  exact ⟨hdetected.wp.trans hwp, hdetected.fo.trans hfo, hdetected.rx.trans hrx,
    _, hdetected.tracker.subset hread, rfl, rfl, rfl, rfl, rfl, rfl⟩

/-- A read of capacity not allocated to its LD is answered with a line of zeros, and counted as a violation of kind 5. -/
theorem State.stage1Read_unallocated (h : s.resolve r.ld r.addr = none) :
    (s.stage1Read r).rp.rsp = s.rp.rsp ++ [⟨r.ld, s.addrNum r.ld r.addr / 64, 0, false⟩] ∧ (s.stage1Read r).rp.tracker = s.rp.tracker ∧
    (s.stage1Read r).mb.viol[whoOf r.ld].lastKind = 5 ∧ (s.stage1Read r).wp = s.wp := by
  obtain ⟨t, hcounted, leftNow, bytesMs, bytesTick, pm, nt, ht⟩ := s.stage1Read_counts r.ld
  have hres : t.resolve r.ld r.addr = none := by rw [ht]; exact h
  have hkind := State.violate_lastKind t (whoOf r.ld) 5 (t.addrNum r.ld r.addr)
  have hnum := (State.violate_notifies t (whoOf r.ld) 5 (t.addrNum r.ld r.addr)).addrNum r.ld r.addr
  obtain ⟨_, _, _, _, _, _, _, _, htouched⟩ := State.violate_touches t (whoOf r.ld) 5 (t.addrNum r.ld r.addr)
  generalize hviolated : t.violate (whoOf r.ld) 5 (t.addrNum r.ld r.addr) = v at hkind hnum htouched
  obtain ⟨_, _, hzeros⟩ := State.pmCount_touches v 0x008 ⟨some r.ld.val, none, none⟩
  unfold State.stage1Read
  simp only [hcounted, hres, hviolated, hzeros]
  refine ⟨?_, ?_, hkind, ?_⟩
  · calc v.rp.rsp ++ [⟨r.ld, v.addrNum r.ld r.addr / 64, 0, false⟩]
      _ = t.rp.rsp ++ [⟨r.ld, t.addrNum r.ld r.addr / 64, 0, false⟩] := by rw [hnum, htouched]
      _ = s.rp.rsp ++ [⟨r.ld, s.addrNum r.ld r.addr / 64, 0, false⟩] := by rw [ht]; rfl
  · rw [htouched, ht]
  · rw [htouched, ht]

end

/-! ### The receive buffer (R88) -/

/-- A read request as it reaches the receive buffer. -/
def State.readReq (s : State) (kind : Nat) (n : Fin 16) (a : Addr) : RxReq := ⟨s.nextId, kind, n, a, 0, 0, false, s.now, s.rp.paused⟩

/-- Whether a read of an LD leaves the receive buffer: credits, room in the tracker and the response buffer, the read cap, the data path. -/
abbrev State.TakesRead (s : State) (n : Fin 16) : Prop :=
  s.credits n = true ∧ s.rp.tracker.length < 4096 ∧ s.rp.rsp.length < 1024 ∧ s.readCapOk = true ∧ s.pw.dataPath = true

section
variable {s : State} {n : Fin 16} (hreach : s.reachable n = true) (hrx : s.rp.rx = [])
include hreach hrx

/-- At an empty receive buffer a read passes stage 1 at once, or waits in the buffer. -/
theorem State.arriveRead_of_empty (kind : Nat) (a : Addr) : s.arriveRead kind n a =
    if s.TakesRead n then s.newId.2.stage1Read (s.readReq kind n a)
    else { s.newId.2 with rp := { s.rp with rx := [s.readReq kind n a] } } := by
  have hempty : ({ s.newId.2 with rp := { s.rp with rx := [] } } : State) = s.newId.2 := by rw [← hrx]; rfl
  have hroom : s.reachable n = true ∧ s.rp.rx.length < 1024 := ⟨hreach, by simp [hrx]⟩
  unfold State.arriveRead State.drainReads
  rw [if_pos hroom]
  simp only [newId_rp, hrx, List.nil_append, List.foldl_cons, List.foldl_nil, hempty]
  rfl

/-! ### MEM_RD and MEM_RD_DATA at an empty receive buffer -/

theorem done_arriveRead_enters (h : s.TakesRead n) (kind : Nat) {a : Addr} {line : Nat} {win : Option (Fin 64)}
    (hres : s.resolve n a = some (line, win)) : ∃ t : State, s.done (s.arriveRead kind n a) = .next t ∧
      t.rp.rx = [] ∧ t.wp = s.wp ∧ t.fo = s.fo ∧
      ∃ x ∈ t.rp.tracker, x.id = s.nextId ∧ x.ld = n ∧ x.line = line ∧ x.win = win ∧ x.src = .host ∧ x.path = .lookup := by
  obtain ⟨hwp, hfo, hbuffer, hread⟩ := State.stage1Read_allocated (s := s.newId.2) (r := s.readReq kind n a) hres
  obtain ⟨_, _, hedges⟩ := State.pmEdges_touches s (s.arriveRead kind n a)
  refine ⟨_, rfl, ?_⟩
  rw [hedges, State.arriveRead_of_empty hreach hrx, if_pos h]
  exact ⟨hbuffer.trans hrx, hwp, hfo, hread⟩

theorem done_arriveRead_zeros (h : s.TakesRead n) (kind : Nat) {a : Addr} (hres : s.resolve n a = none) :
    ∃ t : State, s.done (s.arriveRead kind n a) = .next t ∧
      t.rp.rsp = s.rp.rsp ++ [⟨n, s.addrNum n a / 64, 0, false⟩] ∧ t.rp.tracker = s.rp.tracker ∧
      t.mb.viol[whoOf n].lastKind = 5 ∧ t.wp = s.wp := by
  obtain ⟨_, _, hedges⟩ := State.pmEdges_touches s (s.arriveRead kind n a)
  refine ⟨_, rfl, ?_⟩
  rw [hedges, State.arriveRead_of_empty hreach hrx, if_pos h]
  exact State.stage1Read_unallocated (s := s.newId.2) (r := s.readReq kind n a) hres

theorem done_arriveRead_waits (hfull : 4096 ≤ s.rp.tracker.length ∨ 1024 ≤ s.rp.rsp.length) (kind : Nat) (a : Addr) :
    ∃ t : State, s.done (s.arriveRead kind n a) = .next t ∧ t.rp.rx.length = 1 ∧ t.rp.tracker = s.rp.tracker := by
  have hstays : ¬ s.TakesRead n := by
    rintro ⟨_, htracker, hrsp, _⟩
    omega
  obtain ⟨_, _, hedges⟩ := State.pmEdges_touches s (s.arriveRead kind n a)
  refine ⟨_, rfl, ?_⟩
  rw [hedges, State.arriveRead_of_empty hreach hrx, if_neg hstays]
  exact ⟨rfl, rfl⟩

end

/-! ### MEM_INV and DETECTOR_TIMEOUT (R90, R249, R466) -/

theorem State.memInv_completes {s : State} {n : Fin 16} (hreach : s.reachable n = true) (hmem : s.lk.memActive = true) (a : Addr) :
    .cmp n ∈ (s.memInv n a).out ∧ (s.memInv n a).wp = s.wp ∧ (s.resolve n a = none → (s.memInv n a).mb.viol[whoOf n].lastKind = 5) ∧
    ((s.resolve n a).isSome = true → (s.memInv n a).mb = s.mb) := by
  unfold State.memInv
  rw [if_pos ⟨hreach, hmem⟩]
  cases hres : s.resolve n a with
  | none =>
    have hkind := State.violate_lastKind s (whoOf n) 5 (s.addrNum n a)
    obtain ⟨_, _, _, _, _, _, _, _, hviolate⟩ := State.violate_touches s (whoOf n) 5 (s.addrNum n a)
    have hwp : (s.violate (whoOf n) 5 (s.addrNum n a)).wp = s.wp := by rw [hviolate]
    exact ⟨List.mem_cons_self, hwp, fun _ => hkind, fun h => nomatch h⟩
  | some x => exact ⟨List.mem_cons_self, rfl, fun h => absurd h (Option.some_ne_none x), fun _ => rfl⟩

/-- The time a row speaks of passes: of the read path, only the pause of the cutoffs can grow. -/
theorem State.since_rp (s : State) (t0 d : Nat) : ∃ paused, (s.since t0 d).rp = { s.rp with paused := paused } := by
  show ∃ paused, (s.ticked (d - (s.now - t0))).rp = _
  generalize d - (s.now - t0) = d
  unfold State.ticked
  split
  · exact ⟨s.rp.paused, rfl⟩
  · extract_lets counted timed _ paused
    have hcounted : counted.rp = s.rp := by
      obtain ⟨_, _, h⟩ := State.pmTicks_touches s.swapBanks d
      rw [show counted = s.swapBanks.pmTicks d from rfl, h]
      unfold State.swapBanks
      split
      · rfl
      · rfl
    have htimed : timed.rp = s.rp := by
      rw [← hcounted]
      unfold timed
      split
      · rfl
      · rfl
    refine ⟨paused.rp.paused, ?_⟩
    show paused.rp = { s.rp with paused := paused.rp.paused }
    rw [← htimed]
    unfold paused
    split
    · rfl
    · rfl

theorem exec_detectorTimeout_frees {s : State} {d : Detector} (hd : d ∈ s.rp.detectors) :
    ∃ t : State, exec (.detectorTimeout d.ld d.line) s = .next t ∧ t.rp.detectors.length < s.rp.detectors.length := by
  show ∃ t : State, execDetectorTimeout d.ld d.line s = .next t ∧ _
  unfold execDetectorTimeout
  split
  next x hx =>
    obtain ⟨_, hrp⟩ := s.since_rp x.lastTick (usTicks 64)
    refine ⟨_, rfl, ?_⟩
    dsimp only
    rw [hrp]
    exact List.length_filter_lt_length_iff_exists.2 ⟨x, List.mem_of_find?_eq_some hx, by simp⟩
  next hnone =>
    have hno := List.find?_eq_none.1 hnone d hd
    simp at hno

/-- Settles O38: both requests arrive as one in the receive buffer, where stage 1 enters the read, answers zeros or leaves it to wait. -/
theorem readsEnterTheTracker : Obligations.ReadsEnterTheTracker := by
  unfold Obligations.ReadsEnterTheTracker
  intro s n a hreach go
  have harrives : ∀ (c : Instr) (kind : Nat), exec c s = s.done (s.arriveRead kind n a) → go c := by
    intro c kind hexec hrx
    rw [hexec]
    refine ⟨fun hcred htracker hrsp hcap hpath => ?_, fun hfull => done_arriveRead_waits hreach hrx hfull kind a⟩
    have htakes : s.TakesRead n := ⟨hcred, htracker, hrsp, hcap, hpath⟩
    refine ⟨fun line win hres => ?_, fun hres => ?_⟩
    · obtain ⟨t, ht, hbuffer, hwp, hfo, hread⟩ := done_arriveRead_enters hreach hrx htakes kind hres
      exact ⟨t, ht, hbuffer, congrArg Wp.index hwp, congrArg Wp.entries hwp, congrArg Fo.map hfo, hread⟩
    · obtain ⟨t, ht, hzeros, hkept, hkind, hwp⟩ := done_arriveRead_zeros hreach hrx htakes kind hres
      exact ⟨t, ht, hzeros, hkept, hkind, congrArg Wp.index hwp, congrArg Wp.entries hwp⟩
  refine ⟨harrives _ 0 rfl, harrives _ 1 rfl, fun m b => rfl, fun hmem c hc => ?_, fun d hd hld => ?_⟩
  · have hinv : exec c s = .next (s.memInv n a) := by
      rcases hc with rfl | rfl
      · rfl
      · rfl
    exact ⟨_, hinv, State.memInv_completes hreach hmem a⟩
  · rw [← hld]
    exact exec_detectorTimeout_frees hd

end Sys2Proof.Machine
end

section
/-! PROOFS. Statements about the read path (04_read_path.md): the cutoff of a read hands its line to the patrol, where it does not stand in the
patrol's queue already (R86). -/

namespace Sys2Proof.Machine

/-! ### The cutoff (R86) -/

/-- A line whose recovery the patrol holds already is not queued again. -/
theorem State.toPatrol_of_mem {s : State} {line : Nat} {cut : Bool} (h : (line, cut) ∈ s.rp.patrolQ) : s.toPatrol line cut = s :=
  if_pos (List.contains_iff_mem.2 h)

/-- Of the read path, the cutoff of a read reaches the patrol's queue alone, and not even that where its line stands there. -/
theorem State.cutoff_rp_of_mem {s : State} {line : Nat} (h : (line, true) ∈ s.rp.patrolQ) (n : Fin 16) (waited : Nat) :
    (s.cutoff n line waited).rp = s.rp := by
  unfold State.cutoff
  extract_lets a recorded queued
  have hrecorded : recorded.rp = s.rp := by
    obtain ⟨_, _, hcount⟩ := State.pmCount_touches s 0x00B ⟨some n.val, none, none⟩
    obtain ⟨_, _, _, _, _, _, _, hevent⟩ :=
      State.event_touches (s.pmCount 0x00B ⟨some n.val, none, none⟩) 0x1002 2 oDev (lo32 a) (hi32 a) n.val waited
    unfold recorded
    rw [hevent, hcount]
  have hqueued : queued.rp = s.rp := by
    unfold queued
    rw [State.toPatrol_of_mem (by rw [hrecorded]; exact h), hrecorded]
  split
  · exact hqueued
  · exact hqueued

/-- The queues of the read path, with the number and the source of each read in the tracker. -/
structure ReadQueues where
  rx : List RxReq
  pfQ : List Nat
  rsp : List Response
  patrolQ : List (Nat × Bool)
  reads : List (Nat × RSrc)

/-- The queues of the read path as they stand. -/
def State.readQueues (s : State) : ReadQueues :=
  ⟨s.rp.rx, s.rp.pfQ, s.rp.rsp, s.rp.patrolQ, s.rp.tracker.map fun (r : Read) => (r.id, r.src)⟩

/-- A change of a read that leaves its number and its source leaves the queues. -/
theorem State.modRead_readQueues (s : State) (id : Nat) {f : Read → Read} (hf : ∀ r, ((f r).id, (f r).src) = (r.id, r.src)) :
    (s.modRead id f).readQueues = s.readQueues := by
  have hreads : (s.modRead id f).readQueues.reads = s.readQueues.reads := by
    show List.map _ (List.map _ s.rp.tracker) = _
    rw [List.map_map]
    refine List.map_congr_left fun r _ => ?_
    dsimp only [Function.comp]
    split
    · exact hf r
    · rfl
  exact congrArg (ReadQueues.mk s.rp.rx s.rp.pfQ s.rp.rsp s.rp.patrolQ) hreads

theorem State.leaveQueue_readQueues (s : State) (r : Read) : (s.leaveQueue r).readQueues = s.readQueues := by
  unfold State.leaveQueue
  extract_lets left _ freed
  have hleft : left.readQueues = s.readQueues := by
    unfold left
    split
    · rfl
    · rfl
  have hfreed : freed.readQueues = left.readQueues := by
    unfold freed
    split
    · rfl
    · rfl
  refine (State.modRead_readQueues freed r.id ?_).trans (hfreed.trans hleft)
  exact fun _ => rfl

/-- A finished host read enters the response buffer and leaves the tracker. -/
theorem State.respond_single {s : State} {r : Read} (h : s.rp.tracker = [r]) (hpath : r.path = .finished) (hsrc : r.src = .host)
    (hroom : s.rp.rsp.length < 1024) :
    s.respond = { s with rp := { s.rp with rsp := s.rp.rsp ++ [⟨r.ld, r.line, r.data, r.poison⟩], tracker := [] } } := by
  have hleaves : [r].filter (fun (x : Read) => x.id ≠ r.id) = [] := by simp
  unfold State.respond
  rw [h, List.foldl_cons, List.foldl_nil, if_pos hpath, if_pos hsrc, if_pos hroom, h, hleaves]

/-- A read that has ended with a line or with poison. -/
def Read.ended (r : Read) (data : Line) (poison : Bool) : Read :=
  { r with path := .finished, data := if poison || r.poison then 0 else data, poison := poison || r.poison }

/-- The one read in the tracker ends: with room for its answer the tracker is empty, and only the response buffer is changed besides. -/
theorem State.finishRead_single {s : State} {r : Read} (h : s.rp.tracker = [r]) (hsrc : r.src = .host) (hroom : s.rp.rsp.length < 1024)
    (data : Line) (poison : Bool) : ∃ rsp, (s.finishRead r.id data poison).rp = { s.rp with rsp := rsp, tracker := [] } := by
  have hended : (s.modRead r.id (Read.ended · data poison)).rp.tracker = [r.ended data poison] := by
    unfold State.modRead
    rw [h, List.map_singleton, if_pos rfl]
  exact ⟨_, congrArg State.rp (State.respond_single hended rfl hsrc hroom)⟩

/-- With no read in the tracker or waiting, no room is taken. -/
theorem State.moveReads_of_empty {s : State} (htracker : s.rp.tracker = []) (hpf : s.rp.pfQ = []) (hrx : s.rp.rx = []) : s.moveReads = s := by
  have hfill : s.fillQueues = s := by
    unfold State.fillQueues
    rw [htracker]
    rfl
  have hprefetch : s.runPrefetch = s := by
    unfold State.runPrefetch
    rw [hpf, List.foldl_nil, ← hpf]
  unfold State.moveReads State.drainReads
  rw [hfill, hprefetch, hrx, List.foldl_nil, ← hrx]

/-- The one read in the tracker ends, with nothing waiting: the patrol's queue stays as it was. -/
theorem State.finishRead_moveReads_patrolQ {s t : State} {r : Read} (h : t.readQueues = s.readQueues) (htracker : s.rp.tracker = [r])
    (hsrc : r.src = .host) (hrx : s.rp.rx = []) (hpf : s.rp.pfQ = []) (hroom : s.rp.rsp.length < 1024) (data : Line) (poison : Bool) :
    (t.finishRead r.id data poison).moveReads.rp.patrolQ = s.rp.patrolQ := by
  have hread : t.rp.tracker.map (fun (x : Read) => (x.id, x.src)) = [(r.id, r.src)] :=
    (congrArg ReadQueues.reads h).trans (congrArg (List.map _) htracker)
  obtain ⟨x, hx, hsame⟩ := List.map_eq_singleton_iff.1 hread
  obtain ⟨hid, hxsrc⟩ := Prod.mk.inj hsame
  have hrsp : t.rp.rsp.length < 1024 := (congrArg (fun q : ReadQueues => q.rsp.length) h).trans_lt hroom
  obtain ⟨rsp, hended⟩ := State.finishRead_single hx (hxsrc.trans hsrc) hrsp data poison
  rw [← hid, State.moveReads_of_empty]
  · rw [hended]; exact congrArg ReadQueues.patrolQ h
  · rw [hended]
  · rw [hended]; exact (congrArg ReadQueues.pfQ h).trans hpf
  · rw [hended]; exact (congrArg ReadQueues.rx h).trans hrx

/-- READ_CUTOFF of the one read in the tracker, whose line an earlier cutoff has handed to the patrol: the patrol's queue stays as it was. -/
theorem exec_readCutoff_keeps_patrolQ {s : State} {r : Read} (htracker : s.rp.tracker = [r]) (hsrc : r.src = .host)
    (hpath : r.path ≠ .finished) (hrx : s.rp.rx = []) (hpf : s.rp.pfQ = []) (hroom : s.rp.rsp.length < 1024)
    (hwindow : s.anyWindow = false) (hcap : s.readCap = false) (hmem : (r.line, true) ∈ s.rp.patrolQ) :
    ∃ t : State, exec (.readCutoff r.id) s = .next t ∧ t.rp.patrolQ = s.rp.patrolQ := by
  have hfound : s.readOf r.id = some r := by simp [State.readOf, htracker]
  obtain ⟨paused, htimed⟩ := s.since_rp r.arrived (4640 + (s.rp.paused - r.paused))
  have hcut : ∀ waited, ((s.since r.arrived (4640 + (s.rp.paused - r.paused))).cutoff r.ld r.line waited).readQueues = s.readQueues := by
    intro waited
    unfold State.readQueues
    rw [State.cutoff_rp_of_mem (by rw [htimed]; exact hmem), htimed]
  show ∃ t, execReadCutoff r.id s = .next t ∧ _
  unfold execReadCutoff
  rw [if_neg (by simp [hwindow, hcap]), hfound]
  dsimp only
  rw [if_neg (by simp [hsrc, hpath])]
  refine ⟨_, rfl, ?_⟩
  obtain ⟨_, _, hedges⟩ := State.pmEdges_touches s _
  rw [hedges]
  refine State.finishRead_moveReads_patrolQ ?_ htracker hsrc hrx hpf hroom 0 true
  split
  · refine (State.modRead_readQueues _ r.id ?_).trans ((State.leaveQueue_readQueues _ r).trans (hcut _))
    exact fun _ => rfl
  · exact (State.leaveQueue_readQueues _ r).trans (hcut _)

/-- A host's read of line 0 that waits for its lookups. -/
def lineZeroRead : Read := ⟨0, 0, 0, none, .host, 0, .lookup, noNonce, 0, true, none, none, 0, false, 0, false⟩

/-- A running device with that read alone in its tracker, and the line in the patrol's queue since an earlier read of it met the cutoff. -/
def cutBefore : State :=
  { State.reset with
    pw := { Pw.init with st := .running, dieUp := true, dataPath := true }
    rp := { Rp.init with tracker := [lineZeroRead], patrolQ := [(0, true)] } }

theorem cutBefore_anyWindow : cutBefore.anyWindow = false := by
  show (Vector.replicate 5 none).any _ = false
  simp

/-- Refutes O39: where an earlier cutoff has handed the read's line to the patrol, READ_CUTOFF does not queue the line a second time. -/
theorem not_readsAnswerTheCurrentVersion : ¬ Obligations.ReadsAnswerTheCurrentVersion := by
  unfold Obligations.ReadsAnswerTheCurrentVersion
  intro h
  have hcap : cutBefore.readCap = false := by decide
  obtain ⟨_, _, hcutoff, _⟩ := h cutBefore lineZeroRead rfl rfl rfl rfl rfl (by decide)
  obtain ⟨t, ht, _, _, htwice, _⟩ := hcutoff (by decide) cutBefore_anyWindow hcap
  obtain ⟨u, hu, honce⟩ := exec_readCutoff_keeps_patrolQ (s := cutBefore) (r := lineZeroRead) rfl rfl (by decide) rfl rfl (by decide)
    cutBefore_anyWindow hcap (List.mem_singleton_self _)
  have hsame : t = u := Host.Outcome.next.inj (ht.symm.trans hu)
  rw [← hsame, htwice] at honce
  exact absurd honce (by decide)

end Sys2Proof.Machine
end

section
/-! PROOFS. What the shared operations leave of the fold engine, the map and the segments (05_folding_and_wear.md): a counter, an event, a slot, a
lost line marked and a spare block change none of its bands, folds and orders. -/

namespace Sys2Proof.Machine

open Sys2Proof.Laws

/-! ### The map and the segments after an update -/

theorem State.setMap_mapEnt (s : State) (g g' : Nat) (m : MapEnt) : (s.setMap g m).mapEnt g' = if g' = g then m else s.mapEnt g' := by
  split
  next h => subst h; exact tget_tput_same ..
  next h => exact tget_tput_other _ _ _ _ h

theorem State.setSeg_seg (s : State) (k q : SegKey) (x : Segment) :
    (s.setSeg k x).seg q = if segCode q = segCode k then x else s.seg q := by
  unfold State.seg State.setSeg
  split
  next h => rw [h]; exact tget_tput_same ..
  next h => exact tget_tput_other _ _ _ _ h

theorem State.setSeg_seg_same (s : State) (k : SegKey) (x : Segment) : (s.setSeg k x).seg k = x := by
  rw [State.setSeg_seg, if_pos rfl]

/-! ### Operations that leave the fold engine -/

/-- The answer of a command of the data path: its state, with the performance monitor's edges counted. -/
theorem State.done_touches (s t : State) : ∃ pm nt, s.done t = .next { t with pm := pm, nt := nt } := by
  obtain ⟨pm, nt, h⟩ := State.pmEdges_touches s t
  exact ⟨pm, nt, congrArg Host.Outcome.next h⟩

/-- With nothing changed no edge is counted. -/
theorem State.pmEdges_self (s : State) : s.pmEdges s = s := by
  unfold State.pmEdges
  split
  · refine foldl_keeps id (fun t n => ?_) _ s
    dsimp only [id]
    refine if_neg fun ⟨_, _, _, hlow, hhigh⟩ => ?_
    rw [hlow] at hhigh
    cases hhigh
  · rfl

theorem State.event_fo (s : State) (code sev org p0 p1 p2 p3 : Nat) : (s.event code sev org p0 p1 p2 p3).fo = s.fo := by
  obtain ⟨_, _, _, _, _, _, _, h⟩ := State.event_touches s code sev org p0 p1 p2 p3
  rw [h]

theorem State.pmCount_fo (s : State) (ev : Nat) (g : PmTag) : (s.pmCount ev g).fo = s.fo := by
  obtain ⟨_, _, h⟩ := State.pmCount_touches s ev g
  rw [h]

theorem State.judgeMarks_fo (s : State) : s.judgeMarks.fo = s.fo := by
  obtain ⟨_, _, _, _, _, _, _, _, h⟩ := State.judgeMarks_touches s
  rw [h]

theorem State.lifeEdge_touches (s t : State) : ∃ nt, s.lifeEdge t = { t with nt := nt } := by
  unfold State.lifeEdge
  split
  · exact ⟨t.nt, rfl⟩
  · exact State.raise_touches ..

theorem State.lifeEdge_fo (s t : State) : (s.lifeEdge t).fo = t.fo := by
  obtain ⟨_, h⟩ := State.lifeEdge_touches s t
  rw [h]

theorem State.wantPilot_fo (s : State) (b : BlockKey) : (s.wantPilot b).fo = s.fo := by
  unfold State.wantPilot
  extract_lets x
  split
  · rfl
  · exact State.pmCount_fo ..

theorem State.toPatrol_fo (s : State) (line : Nat) (cut : Bool) : (s.toPatrol line cut).fo = s.fo := by
  unfold State.toPatrol
  split
  · rfl
  · rfl

/-- Packets on the channels leave the device, and nothing else happens. -/
theorem foldl_vyvon_touches {α : Type} (blk : α → VyBlock) (cmd : α → VyCmd) (l : List α) (s : State) :
    ∃ out, l.foldl (fun (s : State) x => s.vyvon (blk x) (cmd x)) s = { s with out := out } := by
  induction l generalizing s with
  | nil => exact ⟨s.out, rfl⟩
  | cons x l ih =>
    obtain ⟨out, h⟩ := ih (s.vyvon (blk x) (cmd x))
    exact ⟨out, h⟩

/-! ### Lost lines marked poisoned (R35, R85) -/

theorem State.Allocs.fo {s t : State} (h : s.Allocs t) : t.fo = s.fo := by
  obtain ⟨_, _, _, _, _, _, _, rfl⟩ := h
  rfl

theorem State.kill_fo (s : State) (p : Place) : (s.kill p).fo = s.fo := by
  unfold State.kill State.modEntry
  split
  · rfl
  · rfl

theorem State.indexLine_fo (s : State) (line : Nat) (p : Place) (seq : Nat) (psn : Bool) : (s.indexLine line p seq psn).fo = s.fo := by
  unfold State.indexLine
  extract_lets r
  split
  · rfl
  · split
    · rfl
    · split
      · exact State.kill_fo ..
      · exact State.kill_fo ..

theorem State.landLine_fo (s : State) (ld : Fin 16) (line : Nat) (psn : Bool) (ct : Line) (tag : Tag) :
    (s.landLine ld line psn ct tag).fo = s.fo := by
  have hplaced : s.Allocs (s.nextSeq.2.allocLine line s.nextSeq.1).2 := s.nextSeq_allocs.trans (State.allocLine_allocs ..)
  have hfo := hplaced.fo
  unfold State.landLine
  generalize s.nextSeq = numbered at hfo ⊢
  obtain ⟨n, u⟩ := numbered
  dsimp only at hfo ⊢
  generalize u.allocLine line n = placed at hfo ⊢
  obtain ⟨_ | p, v⟩ := placed
  · exact hfo
  · exact (State.indexLine_fo ..).trans hfo

theorem State.durPage_fo (s : State) (page : Nat) : (s.durPage page).fo = s.fo := s.nextSeq_allocs.fo

theorem State.cacheDirty_fo (s : State) (line : Nat) (d : Bool) : (s.cacheDirty line d).fo = s.fo := rfl

theorem State.dropPrefetch_fo (s : State) (line : Nat) : (s.dropPrefetch line).fo = s.fo := rfl

theorem State.reencPage_fo (s : State) (page major : Nat) (posB early : Bool) : (s.reencPage page major posB early).fo = s.fo := by
  unfold State.reencPage
  extract_lets old plains blank landed
  rw [State.durPage_fo]
  refine foldl_keeps State.fo (fun u x => ?_) plains blank
  dsimp only
  rw [State.cacheDirty_fo, State.landLine_fo]

theorem State.stage8_fo (s : State) (line : Nat) (data : Line) (absent : Bool) : (s.stage8 line data absent).fo = s.fo := by
  have hdrop : ∀ u : State, (u.cacheDrop line).fo = u.fo := fun u => by unfold State.cacheDrop; split <;> rfl
  have henter : ∀ u : State, (u.cacheEnter line data true).fo = u.fo := fun u => by
    unfold State.cacheEnter
    split
    · rfl
    · simp only [State.dramPage, apply_ite State.fo, ite_self]
  unfold State.stage8
  extract_lets _ fenced
  split
  · rfl
  · split
    · exact hdrop fenced
    · exact henter fenced

theorem State.poisonAdd_fo (s : State) (line lines : Nat) (src : PoisonSrc) : (s.poisonAdd line lines src).fo = s.fo := by
  unfold State.poisonAdd
  split
  · rfl
  · split
    · rfl
    · rfl

theorem State.markPoison_fo (s : State) (ld : Fin 16) (line : Nat) (src : PoisonSrc) : (s.markPoison ld line src).fo = s.fo := by
  unfold State.markPoison
  rw [State.poisonAdd_fo, State.stage8_fo, State.dropPrefetch_fo, State.landLine_fo]

/-- A write that waits in its line's interlock entry goes nowhere else. -/
theorem State.takeLock_fo_of_held {s : State} {w : Write} (h : (s.ilock w.line).isSome = true) : (s.takeLock w).fo = s.fo := by
  obtain ⟨l, hl⟩ := Option.isSome_iff_exists.1 h
  unfold State.takeLock
  rw [hl]

theorem State.markVersion_fo (s : State) (ld : Fin 16) (line ver : Nat) : (s.markVersion ld line ver).fo = s.fo := by
  unfold State.markVersion
  split
  · rfl
  split
  · exact State.markPoison_fo ..
  next hfree =>
    have hheld : (s.nextSeq.2.ilock line).isSome = true := by
      have hilocks := part_of_traffic Wp.ilocks s.nextSeq_allocs.traffic
      unfold State.ilock at hfree ⊢
      rw [hilocks]
      simpa using hfree
    exact (State.takeLock_fo_of_held hheld).trans s.nextSeq_allocs.fo

/-! ### Spare blocks (R105, R123) -/

/-- What a spare block that takes a block's place can change: the counts of spare blocks and the set's end of life, the blocks retired, and what an
event reaches. -/
def State.Spares (s t : State) : Prop := ∃ kp lk ev sec nt pm lds out blkBase dieUsed spare hold retired,
  t = { s with kp := kp, lk := lk, ev := ev, sec := sec, nt := nt, pm := pm, lds := lds, out := out,
               fo := { s.fo with blkBase := blkBase, dieUsed := dieUsed, spare := spare, hold := hold, retired := retired } }

theorem State.Spares.refl (s : State) : s.Spares s :=
  ⟨s.kp, s.lk, s.ev, s.sec, s.nt, s.pm, s.lds, s.out, s.fo.blkBase, s.fo.dieUsed, s.fo.spare, s.fo.hold, s.fo.retired, rfl⟩

theorem State.Spares.trans {s t u : State} (h : s.Spares t) (h' : t.Spares u) : s.Spares u := by
  obtain ⟨_, _, _, _, _, _, _, _, _, _, _, _, _, rfl⟩ := h
  obtain ⟨kp, lk, ev, sec, nt, pm, lds, out, blkBase, dieUsed, spare, hold, retired, rfl⟩ := h'
  exact ⟨kp, lk, ev, sec, nt, pm, lds, out, blkBase, dieUsed, spare, hold, retired, rfl⟩

theorem State.Spares.wp {s t : State} (h : s.Spares t) : t.wp = s.wp := by
  obtain ⟨_, _, _, _, _, _, _, _, _, _, _, _, _, rfl⟩ := h
  rfl

/-- A part of the fold engine that is none of the spare blocks' bookkeeping stands. -/
theorem State.Spares.part {α : Type} (part : Fo → α) {s t : State} (h : s.Spares t)
    (hpart : ∀ (f : Fo) (blkBase dieUsed : Tbl Nat) (spare : Vector Spare 4) (hold : Vector Nat 4) (retired : List BlockKey),
      part { f with blkBase := blkBase, dieUsed := dieUsed, spare := spare, hold := hold, retired := retired } = part f := by intros; rfl) :
    part t.fo = part s.fo := by
  obtain ⟨_, _, _, _, _, _, _, _, _, _, _, _, _, rfl⟩ := h
  exact hpart ..

theorem State.event_spares (s : State) (code sev org p0 p1 p2 p3 : Nat) : s.Spares (s.event code sev org p0 p1 p2 p3) := by
  obtain ⟨ev, kp, sec, nt, pm, lds, out, h⟩ := State.event_touches s code sev org p0 p1 p2 p3
  exact ⟨kp, s.lk, ev, sec, nt, pm, lds, out, s.fo.blkBase, s.fo.dieUsed, s.fo.spare, s.fo.hold, s.fo.retired, h⟩

theorem State.enterEol_spares (s : State) (k : Fin 4) : s.Spares (s.enterEol k) := by
  unfold State.enterEol
  split
  · exact .refl s
  · refine State.Spares.trans ?_ (State.event_spares _ _ _ _ _ _ _ _)
    exact ⟨_, _, s.ev, s.sec, s.nt, s.pm, s.lds, s.out, s.fo.blkBase, s.fo.dieUsed, s.fo.spare, _, s.fo.retired, rfl⟩

theorem State.useSpare_spares (s : State) (d : DieKey) : s.Spares (s.useSpare d) := by
  unfold State.useSpare
  split
  · exact .refl s
  · extract_lets k _ used
    have hused : s.Spares used :=
      ⟨s.kp, s.lk, s.ev, s.sec, s.nt, s.pm, s.lds, s.out, s.fo.blkBase, _, _, s.fo.hold, s.fo.retired, rfl⟩
    split
    · exact hused.trans (used.enterEol_spares k)
    · exact hused

theorem State.replaceBlock_spares (s : State) (b : BlockKey) : s.Spares (s.replaceBlock b) :=
  State.Spares.trans ⟨s.kp, s.lk, s.ev, s.sec, s.nt, s.pm, s.lds, s.out, _, s.fo.dieUsed, s.fo.spare, s.fo.hold, s.fo.retired, rfl⟩
    (State.useSpare_spares _ _)

theorem State.retireBlock_spares (s : State) (b : BlockKey) (cause : Nat) : s.Spares (s.retireBlock b cause) :=
  State.Spares.trans
    (State.Spares.trans ⟨s.kp, s.lk, s.ev, s.sec, s.nt, s.pm, s.lds, s.out, s.fo.blkBase, s.fo.dieUsed, s.fo.spare, s.fo.hold, _, rfl⟩
      (State.replaceBlock_spares _ b))
    (State.event_spares _ _ _ _ _ _ _ _)

theorem foldl_spares {α : Type} {f : State → α → State} (hf : ∀ (s : State) (x : α), s.Spares (f s x)) (l : List α) (s : State) :
    s.Spares (l.foldl f s) := by
  induction l generalizing s with
  | nil => exact .refl s
  | cons x l ih => exact (hf s x).trans (ih _)

theorem State.useSpare_retired (s : State) (d : DieKey) : (s.useSpare d).fo.retired = s.fo.retired := by
  have heol : ∀ (u : State) (k : Fin 4), (u.enterEol k).fo.retired = u.fo.retired := fun u k => by
    unfold State.enterEol
    split
    · rfl
    · rw [State.event_fo]; rfl
  unfold State.useSpare
  split
  · rfl
  · extract_lets k _ used
    split
    · exact heol used k
    · rfl

theorem State.retireBlock_retired (s : State) (b : BlockKey) (cause : Nat) : (s.retireBlock b cause).fo.retired = b :: s.fo.retired := by
  unfold State.retireBlock State.replaceBlock
  rw [State.event_fo, State.useSpare_retired]

end Sys2Proof.Machine
end

section
/-! PROOFS. Statements about folding (05_folding_and_wear.md): folds are ordered by firmware or by age, gathered while their lane has room, and
placed in the band their lane assembles (R110 to R115, R122; 01_architecture.md R18). -/

namespace Sys2Proof.Machine

open Sys2Proof.Laws

/-! ### The fold order queue (R115) -/

/-- A granule stands in its set's queue, or the queue is full. -/
def State.Ordered (s : State) (k : Fin 4) (g : Nat) : Prop := (∃ l, (g, l) ∈ s.fo.orderQ[k]) ∨ 4096 ≤ s.fo.orderQ[k].length

section
variable {s : State} {k : Fin 4} {g : Nat}

theorem State.orderFold_enters (hroom : s.fo.orderQ[k].length < 4096) (hnew : (s.fo.orderQ[k].any fun p => p.1 == g) = false)
    (lane : Option (Fin 16)) : s.orderFold k g lane = { s with fo := { s.fo with orderQ := vmod s.fo.orderQ k fun q => q ++ [(g, lane)] } } :=
  if_neg (by simp only [hnew, Bool.false_eq_true, or_false]; omega)

/-- A queue with the granule in it, or without room, is left as it is; the others take the granule at their end. -/
theorem State.orderFold_orderQ (s : State) (k : Fin 4) (g : Nat) (lane : Option (Fin 16)) :
    (s.orderFold k g lane = s ∧ s.Ordered k g) ∨ (s.orderFold k g lane).fo.orderQ[k] = s.fo.orderQ[k] ++ [(g, lane)] := by
  unfold State.orderFold
  split
  next hstays =>
    refine .inl ⟨rfl, ?_⟩
    rcases hstays with hfull | hthere
    · exact .inr hfull
    · obtain ⟨⟨g', l⟩, hmem, hg⟩ := List.any_eq_true.1 hthere
      exact .inl ⟨l, by rwa [← show g' = g by simpa using hg]⟩
  next => exact .inr (vmod_same ..)

theorem State.orderFold_orders (s : State) (k : Fin 4) (g : Nat) (lane : Option (Fin 16)) : (s.orderFold k g lane).Ordered k g := by
  rcases s.orderFold_orderQ k g lane with ⟨hsame, hordered⟩ | hend
  · rwa [hsame]
  · exact .inl ⟨lane, by rw [hend]; simp⟩

theorem State.Ordered.orderFold (h : s.Ordered k g) (other : Nat) (lane : Option (Fin 16)) : (s.orderFold k other lane).Ordered k g := by
  rcases s.orderFold_orderQ k other lane with ⟨hsame, _⟩ | hend
  · rwa [hsame]
  · rcases h with ⟨l, hmem⟩ | hfull
    · exact .inl ⟨l, by rw [hend]; exact List.mem_append_left _ hmem⟩
    · exact .inr (by rw [hend, List.length_append]; omega)

theorem State.Ordered.foldl_orderFold (h : s.Ordered k g) (l : List Nat) :
    (l.foldl (fun (s : State) x => s.orderFold k x none) s).Ordered k g := by
  induction l generalizing s with
  | nil => exact h
  | cons x l ih => exact ih (h.orderFold x none)

theorem foldl_orderFold_orders {l : List Nat} (hg : g ∈ l) (s : State) :
    (l.foldl (fun (s : State) x => s.orderFold k x none) s).Ordered k g := by
  induction l generalizing s with
  | nil => cases hg
  | cons x l ih =>
    rcases List.mem_cons.1 hg with rfl | hg
    · exact (s.orderFold_orders k g none).foldl_orderFold l
    · exact ih hg _

theorem State.orderFold_autonomous (s : State) (k : Fin 4) (g : Nat) (lane : Option (Fin 16)) :
    (s.orderFold k g lane).fo.autonomous = s.fo.autonomous := by
  unfold State.orderFold
  split
  · rfl
  · rfl

theorem mem_firstOf {l : List Nat} (h : g ∈ l) : g ∈ firstOf l := by
  induction l with
  | nil => cases h
  | cons x l ih =>
    by_cases hx : g = x
    · exact hx ▸ List.mem_cons_self
    · have hl := ih ((List.mem_cons.1 h).resolve_left hx)
      exact List.mem_cons_of_mem _ (List.mem_filter.2 ⟨hl, by simpa using hx⟩)

/-- Every granule of the set with a line in the index has its turn. -/
theorem State.mem_byAge {p : Nat × IndexRec} (hp : p ∈ s.wp.index) (hset : s.setOf (granOf p.1) = k) : granOf p.1 ∈ s.byAge k := by
  unfold State.byAge
  extract_lets l
  have hl : ∃ age, (age, granOf p.1) ∈ l := ⟨_, List.mem_filterMap.2 ⟨p, hp, if_pos hset⟩⟩
  obtain ⟨age, hmem⟩ := hl
  exact mem_firstOf (List.mem_map.2 ⟨_, (List.mem_insertionSort _).2 hmem, rfl⟩)

theorem exec_foldOrder_orders (hset : s.setOf g = k) (hroom : s.fo.orderQ[k].length < 4096)
    (hnew : (s.fo.orderQ[k].any fun p => p.2.isSome && p.1 == g) = false) (l : Fin 16) : ∃ t : State,
      exec (.foldOrder k g l) s = .next t ∧ t.fo.orderQ[k] = (s.fo.orderQ[k].filter fun p => p.2.isSome) ++ [(g, some l)] ∧
      t.fo.lastOrder[k] = s.now ∧ t.fo.autonomous[k] = false ∧ t.fo.map = s.fo.map ∧ t.wp = s.wp := by
  show ∃ t, execFoldOrder k g l s = .next t ∧ _
  unfold execFoldOrder
  rw [if_neg (by simp only [hset, ne_eq, not_true, false_or]; omega)]
  extract_lets _ ours
  have hours : ours.fo.orderQ[k] = s.fo.orderQ[k].filter fun p => p.2.isSome := vmod_same ..
  have hfits : ours.fo.orderQ[k].length < 4096 := by
    rw [hours]
    exact (List.length_filter_le ..).trans_lt hroom
  have habsent : (ours.fo.orderQ[k].any fun p => p.1 == g) = false := by rw [hours, List.any_filter]; exact hnew
  rw [State.orderFold_enters hfits habsent]
  obtain ⟨_, _, hdone⟩ := s.done_touches { ours with fo := { ours.fo with orderQ := vmod ours.fo.orderQ k fun q => q ++ [(g, some l)] } }
  refine ⟨_, hdone, (vmod_same ..).trans (by rw [hours]), ?_, ?_, rfl, rfl⟩
  · exact Vector.getElem_set_self ..
  · exact Vector.getElem_set_self ..

theorem exec_foldOrder_refused (hfull : 4096 ≤ s.fo.orderQ[k].length) (l : Fin 16) : exec (.foldOrder k g l) s = .next s :=
  if_pos (.inr hfull)

theorem exec_autonomousFold_orders (hlow : s.wp.marks[0] = true) (hpath : s.pw.dataPath = true) (hset : s.setFrozen k = false) :
    ∃ t : State, exec (.autonomousFold k) s = .next t ∧ t.fo.autonomous[k] = true ∧
      ∀ p ∈ s.wp.index, s.setOf (granOf p.1) = k → (∃ l, (granOf p.1, l) ∈ t.fo.orderQ[k]) ∨ 4096 ≤ t.fo.orderQ[k].length := by
  refine ⟨_, if_pos ⟨hlow, hpath, hset⟩, ?_, fun p hp hk => ?_⟩
  · rw [foldl_keeps (fun u : State => u.fo.autonomous) (fun u x => u.orderFold_autonomous k x none)]
    exact Vector.getElem_set_self ..
  · exact foldl_orderFold_orders (State.mem_byAge hp hk) _

end

/-! ### The gather (R110, R115, R122) -/

section
variable (s : State) (k : Fin 4) (g : Nat) (lane : Option (Fin 16))

theorem State.dropMove_folds : (s.dropMove g).fo.folds = s.fo.folds := by
  unfold State.dropMove
  split
  · rfl
  · rfl

theorem State.dropMove_orderQ : (s.dropMove g).fo.orderQ = s.fo.orderQ := by
  unfold State.dropMove
  split
  · rfl
  · rfl

theorem State.dropMove_wp : (s.dropMove g).wp = s.wp := by
  unfold State.dropMove
  split
  · rfl
  · rfl

/-- An abandoned move leaves its granule live: it poisons none. -/
theorem State.dropMove_poisoned : ((s.dropMove g).mapEnt g).state = .poisoned ↔ (s.mapEnt g).state = .poisoned := by
  unfold State.dropMove
  split
  next hmoving =>
    have hlive : ((s.setMap g { s.mapEnt g with state := .live }).mapEnt g).state = .live := by rw [State.setMap_mapEnt, if_pos rfl]
    constructor
    · intro h
      exact absurd (hlive.symm.trans h) (by decide)
    · intro h
      rw [hmoving] at h
      cases h
  next => rfl

/-- A fold stands last among those in progress. -/
def State.addFold (f : Fold) : State := { s with fo := { s.fo with folds := s.fo.folds ++ [f] } }

/-- What a gather can come to: a map entry changes at most, where the granule is poisoned or has no line to take; or a fold of the granule's lines
stands last among those in progress. -/
theorem State.gather_cases :
    (((s.mapEnt g).state = .poisoned ∨ s.gatherLines g = []) ∧
      (s.gather k g lane = s.dropMove g ∨ ∃ m, s.gather k g lane = (s.dropMove g).setMap g m)) ∨
    ((s.mapEnt g).state ≠ .poisoned ∧ ∃ (u : State) (id : Nat) (full : Bool), u.fo = (s.dropMove g).fo ∧ u.wp = s.wp ∧
      s.gather k g lane = u.addFold ⟨id, k, g, s.foldLane k g lane, full, s.gatherLines g⟩) := by
  have hsame : (s.dropMove g).gatherLines g = s.gatherLines g := by
    unfold State.gatherLines
    rw [s.dropMove_wp g]
  unfold State.gather
  extract_lets l dropped m lines full
  split
  next hskip =>
    refine .inl ⟨hskip.imp (s.dropMove_poisoned g).1 fun h => hsame.symm.trans (List.isEmpty_iff.1 h.1), ?_⟩
    split
    · exact .inr ⟨_, rfl⟩
    · exact .inl rfl
  next htakes =>
    refine .inr ⟨fun h => htakes (.inl ((s.dropMove_poisoned g).2 h)), ?_⟩
    rw [show dropped.newId = (dropped.nextId, dropped.newId.2) from rfl]
    dsimp -zeta only
    extract_lets counted noted asked
    have hcounted : (counted.fo, counted.wp) = (dropped.fo, dropped.wp) :=
      foldl_keeps (fun u : State => (u.fo, u.wp)) (fun u _ => Prod.ext (u.pmCount_fo ..) (u.pmCount_wp ..)) _ _
    have hnoted : (noted.fo, noted.wp) = (dropped.fo, dropped.wp) := by
      rw [← hcounted]
      unfold noted
      split
      · rfl
      · exact Prod.ext (counted.pmCount_fo ..) (counted.pmCount_wp ..)
    have hasked : (asked.fo, asked.wp) = (dropped.fo, dropped.wp) :=
      (foldl_keeps (fun u : State => (u.fo, u.wp)) (fun u b => Prod.ext (u.wantPilot_fo b) (u.wantPilot_wp b)) _ _).trans hnoted
    obtain ⟨hfo, hwp⟩ := Prod.mk.inj hasked
    refine ⟨asked, dropped.nextId, full, hfo, hwp.trans (s.dropMove_wp g), ?_⟩
    rw [← hsame]
    rfl

theorem State.gather_keeps : (s.gather k g lane).fo.orderQ = s.fo.orderQ ∧ (s.gather k g lane).wp = s.wp := by
  rcases s.gather_cases k g lane with ⟨_, h | ⟨m, h⟩⟩ | ⟨_, u, id, full, hfo, hwp, h⟩
  · rw [h]
    exact ⟨s.dropMove_orderQ g, s.dropMove_wp g⟩
  · rw [h]
    exact ⟨s.dropMove_orderQ g, s.dropMove_wp g⟩
  · rw [h]
    exact ⟨(congrArg Fo.orderQ hfo).trans (s.dropMove_orderQ g), hwp⟩

theorem State.gather_of_poisoned (h : (s.mapEnt g).state = .poisoned) : (s.gather k g lane).fo.folds = s.fo.folds := by
  rcases s.gather_cases k g lane with ⟨_, hsame | ⟨m, hsame⟩⟩ | ⟨hstate, _⟩
  · rw [hsame, s.dropMove_folds g]
  · rw [hsame]
    exact s.dropMove_folds g
  · exact absurd h hstate

theorem State.gather_of_lines (hstate : (s.mapEnt g).state ≠ .poisoned) (hlines : s.gatherLines g ≠ []) : ∃ id full,
    (⟨id, k, g, s.foldLane k g lane, full, s.gatherLines g⟩ : Fold) ∈ (s.gather k g lane).fo.folds := by
  rcases s.gather_cases k g lane with ⟨hskip, _⟩ | ⟨_, u, id, full, _, _, h⟩
  · exact absurd hskip (not_or.2 ⟨hstate, hlines⟩)
  · refine ⟨id, full, ?_⟩
    rw [h]
    exact List.mem_concat_self

end

theorem exec_foldGather_gathers {s : State} {k : Fin 4} {g : Nat} {l : Option (Fin 16)} {rest : List (Nat × Option (Fin 16))}
    (hqueue : s.fo.orderQ[k] = (g, l) :: rest) (hset : s.setFrozen k = false)
    (hroom : (s.judgeGran k g).bandsFull k ((s.judgeGran k g).foldLane k g l) false (s.hotGran g) = false) (hpath : s.pw.dataPath = true) :
    ∃ t : State, exec (.foldGather k) s = .next t ∧ t.fo.orderQ[k] = rest ∧ t.wp.index = s.wp.index ∧
      ((s.mapEnt g).state ≠ .poisoned → s.gatherLines g ≠ [] → ∃ f ∈ t.fo.folds, f.set = k ∧ f.granule = g ∧
        f.lane = (s.judgeGran k g).foldLane k g l ∧ f.gathered = s.gatherLines g) ∧
      ((s.mapEnt g).state = .poisoned → t.fo.folds = s.fo.folds) := by
  have hnext : s.nextGather k = some (g, l) := by
    unfold State.nextGather
    rw [hqueue]
  show ∃ t, execFoldGather k s = .next t ∧ _
  unfold execFoldGather
  rw [hnext]
  dsimp only
  rw [if_neg (by simp [hset, hroom, hpath])]
  generalize htaken : ({ s.judgeGran k g with fo := { (s.judgeGran k g).fo with orderQ := vmod (s.judgeGran k g).fo.orderQ k (·.drop 1) } } :
    State) = taken
  have horders : taken.fo.orderQ[k] = rest := by
    rw [← htaken]
    exact (vmod_same ..).trans (congrArg (List.drop 1) hqueue)
  have hsame : taken.wp = s.wp ∧ taken.fo.folds = s.fo.folds ∧ taken.mapEnt g = s.mapEnt g ∧ taken.gatherLines g = s.gatherLines g ∧
      taken.foldLane k g l = (s.judgeGran k g).foldLane k g l := by
    rw [← htaken]
    exact ⟨rfl, rfl, rfl, rfl, rfl⟩
  obtain ⟨hwp, hfolds, hmap, hlines, hlane⟩ := hsame
  rw [← hmap, ← hlines, ← hlane]
  obtain ⟨_, _, hdone⟩ := s.done_touches (taken.gather k g l)
  obtain ⟨hkept, hwrites⟩ := taken.gather_keeps k g l
  refine ⟨_, hdone, ?_, congrArg Wp.index (hwrites.trans hwp), fun hstate hsome => ?_, fun hpoisoned => ?_⟩
  · exact (congrArg (fun v : Vector (List (Nat × Option (Fin 16))) 4 => v[k]) hkept).trans horders
  · obtain ⟨id, full, hgathered⟩ := taken.gather_of_lines k g l hstate hsome
    exact ⟨_, hgathered, rfl, rfl, rfl, rfl⟩
  · exact (taken.gather_of_poisoned k g l hpoisoned).trans hfolds

end Sys2Proof.Machine
end

section
/-! PROOFS. Statements about folding (05_folding_and_wear.md): the reads of a fold end with its frame placed in the band its lane assembles (R110
to R113). -/

namespace Sys2Proof.Machine

open Sys2Proof.Laws

/-! ### What the reads of a fold leave (R83, R85, R113) -/

/-- What decides where a fold's frame is placed stands: the bands, the folds in progress, each granule's heat and which segments are hot. -/
structure State.AssemblyKept (s t : State) : Prop where
  bands : t.fo.bands = s.fo.bands
  folds : t.fo.folds = s.fo.folds
  heat : ∀ g, (t.mapEnt g).heat = (s.mapEnt g).heat
  hot : ∀ k, (t.seg k).hot = (s.seg k).hot

theorem State.AssemblyKept.of_fo {s t : State} (h : t.fo = s.fo) : s.AssemblyKept t where
  bands := congrArg Fo.bands h
  folds := congrArg Fo.folds h
  heat g := by unfold State.mapEnt; rw [h]
  hot k := by unfold State.seg; rw [h]

theorem State.AssemblyKept.refl (s : State) : s.AssemblyKept s := .of_fo rfl

theorem State.AssemblyKept.trans {s t u : State} (h : s.AssemblyKept t) (h' : t.AssemblyKept u) : s.AssemblyKept u where
  bands := h'.bands.trans h.bands
  folds := h'.folds.trans h.folds
  heat g := (h'.heat g).trans (h.heat g)
  hot k := (h'.hot k).trans (h.hot k)

theorem State.setRfsh_assemblyKept (s : State) (g : Nat) : s.AssemblyKept (s.setRfsh g) := by
  unfold State.setRfsh
  extract_lets m
  split
  · refine ⟨rfl, rfl, fun g' => ?_, fun _ => rfl⟩
    rw [State.setMap_mapEnt]
    split
    next h => rw [h]
    next => rfl
  · exact .refl s

theorem State.modDrBlk_assemblyKept (s : State) (b : BlockKey) (f : DriftBlk → DriftBlk) : s.AssemblyKept (s.modDrBlk b f) := .of_fo rfl

theorem State.slotFailed_assemblyKept (s : State) (b : BlockKey) (g : Nat) : s.AssemblyKept (s.slotFailed b g) :=
  (s.modDrBlk_assemblyKept b _).trans (State.setRfsh_assemblyKept _ g)

/-- A full segment that becomes a victim is as hot as it was. -/
theorem State.victimize_assemblyKept (s : State) (k : SegKey) : s.AssemblyKept (s.victimize k) := by
  unfold State.victimize
  split
  · refine ⟨rfl, rfl, fun _ => rfl, fun q => ?_⟩
    show ((s.setSeg k { s.seg k with state := .victim }).seg q).hot = (s.seg q).hot
    rw [State.setSeg_seg]
    split
    next h => unfold State.seg; rw [h]
    next => rfl
  · exact .refl s

theorem State.retireAfterCopy_assemblyKept (s : State) (b : BlockKey) (cause : Nat) : s.AssemblyKept (s.retireAfterCopy b cause) := by
  unfold State.retireAfterCopy
  split
  · exact .refl s
  · refine State.AssemblyKept.trans ?_ (State.victimize_assemblyKept _ b.seg)
    exact ⟨rfl, rfl, fun _ => rfl, fun _ => rfl⟩

theorem State.noteRecon_assemblyKept (s : State) (b : BlockKey) (slot : Nat) : s.AssemblyKept (s.noteRecon b slot) := by
  unfold State.noteRecon
  extract_lets old now _ noted
  have hnoted : s.AssemblyKept noted := ⟨rfl, rfl, fun _ => rfl, fun _ => rfl⟩
  split
  · exact hnoted.trans (noted.retireAfterCopy_assemblyKept b 3)
  · exact hnoted

theorem State.peatFound_assemblyKept (s : State) (b : BlockKey) (line slot : Nat) (x : Sense) :
    s.AssemblyKept (s.peatFound b line slot x) := by
  unfold State.peatFound
  split
  · exact (s.modDrBlk_assemblyKept b _).trans (State.slotFailed_assemblyKept _ b (granOf line))
  · split
    · exact (s.slotFailed_assemblyKept b (granOf line)).trans (State.noteRecon_assemblyKept _ b slot)
    · exact .refl s
  · exact s.slotFailed_assemblyKept b (granOf line)
  · exact .refl s

/-- One slot found bad: its block's drift entries, its granule's RFSH and its line's marking are all that follow. -/
theorem State.foldFound_assemblyKept (a : State × Tbl PeatSlot) (x : LineSense) : a.1.AssemblyKept (State.foldFound a x).1 := by
  obtain ⟨s, slots⟩ := a
  unfold State.foldFound
  dsimp only
  split
  · exact .refl s
  · have hfound := s.peatFound_assemblyKept (s.lineBlock x.line (s.mapEnt (granOf x.line)).lane (s.mapEnt (granOf x.line)).frame) x.line
      (slotNo x.line (s.mapEnt (granOf x.line)).frame)
      (s.rowSense (s.lineBlock x.line (s.mapEnt (granOf x.line)).lane (s.mapEnt (granOf x.line)).frame) x.sense)
    split
    · exact hfound.trans (.of_fo ((State.markVersion_fo ..).trans (State.event_fo ..)))
    · exact hfound
    · split
      · exact hfound.trans (.of_fo (State.toPatrol_fo ..))
      · exact hfound

theorem State.foldSlot_fo (s : State) (x : Gathered) : (s.foldSlot x).2.fo = s.fo := by
  unfold State.foldSlot
  split
  · rfl
  split
  · rfl
  split
  · split
    · rfl
    split
    · rfl
    split
    · rfl
    · extract_lets b
      dsimp only
      split
      · exact State.reencPage_fo ..
      · rfl
  · rfl

theorem State.foldLine_fo (a : State × Tbl PeatSlot × List Gathered) (lost : List Nat) (x : Gathered) :
    (State.foldLine a lost x).1.fo = a.1.fo := by
  obtain ⟨s, slots, keep⟩ := a
  unfold State.foldLine
  dsimp only
  split
  · split
    · exact (State.markVersion_fo ..).trans (State.event_fo ..)
    · exact State.event_fo ..
  · have hslot := s.foldSlot_fo x
    generalize s.foldSlot x = made at hslot ⊢
    obtain ⟨⟨_ | p, ok⟩, u⟩ := made
    · exact hslot
    · exact hslot

theorem foldl_foldFound_assemblyKept (l : List LineSense) (a : State × Tbl PeatSlot) :
    a.1.AssemblyKept (l.foldl State.foldFound a).1 := by
  induction l generalizing a with
  | nil => exact .refl a.1
  | cons x l ih => exact (State.foldFound_assemblyKept a x).trans (ih _)

theorem foldl_foldLine_fo (lost : List Nat) (l : List Gathered) (a : State × Tbl PeatSlot × List Gathered) :
    (l.foldl (fun a x => State.foldLine a lost x) a).1.fo = a.1.fo := by
  induction l generalizing a with
  | nil => rfl
  | cons x l ih => rw [List.foldl_cons, ih, State.foldLine_fo]

/-! ### The frame's place (R114, Table 05-9) -/

/-- The one band of ten frames that a lane's end of program issues, if any. -/
theorem State.issueWaiting_cases (s : State) (k : Fin 4) (l : Fin 16) : s.issueWaiting k l = s ∨
    ∃ b ∈ s.fo.bands, b.phase = .assembling ∧ b.frames.length = 10 ∧ s.issueWaiting k l = s.issueBand b.key := by
  unfold State.issueWaiting
  split
  · exact .inl rfl
  · split
    next b hb =>
      have hwaits := List.find?_some hb
      simp only [Bool.and_eq_true, beq_iff_eq] at hwaits
      exact .inr ⟨b, List.mem_of_find?_eq_some hb, hwaits.1.2, hwaits.2, rfl⟩
    next => exact .inl rfl

section
variable {s : State}

/-- In the one band, which holds fewer than nine frames, a frame is placed and nothing is issued. -/
theorem State.placeFrame_single {b : Band} (hbands : s.fo.bands = [b]) (hroom : b.frames.length < 9) (p : Placed) :
    (s.placeFrame b.key p).fo = { s.fo with bands := [{ b with frames := b.frames ++ [p] }] } := by
  have hplaced : s.modBand b.key (fun b => { b with frames := b.frames ++ [p] }) =
      { s with fo := { s.fo with bands := [{ b with frames := b.frames ++ [p] }] } } := by
    unfold State.modBand
    rw [hbands, List.map_singleton, if_pos rfl]
  unfold State.placeFrame
  rw [hplaced]
  rcases State.issueWaiting_cases { s with fo := { s.fo with bands := [{ b with frames := b.frames ++ [p] }] } } b.key.seg.set b.key.seg.lane
    with h | ⟨c, hc, _, hten, _⟩
  · rw [h]
  · rw [List.mem_singleton.1 hc, List.length_append, List.length_singleton] at hten
    omega

theorem State.AssemblyKept.assembling {t : State} (h : s.AssemblyKept t) (k : Fin 4) (l : Fin 16) (copy hot : Bool) :
    t.assembling k l copy hot = s.assembling k l copy hot := by
  unfold State.assembling
  rw [h.bands]
  simp only [h.hot]

theorem State.AssemblyKept.hotGran {t : State} (h : s.AssemblyKept t) (g : Nat) : t.hotGran g = s.hotGran g := by
  unfold State.hotGran
  rw [h.heat]

theorem State.bandFor_assembling {k : Fin 4} {l : Fin 16} {copy hot : Bool} {b : Band} (h : s.assembling k l copy hot = some b)
    (want : Option SegKey) : s.bandFor k l copy hot want = (some b.key, s) := by
  unfold State.bandFor
  rw [h]

theorem State.foldRead_places {f : Fold} {b : Band} (hbands : s.fo.bands = [b])
    (hband : s.assembling f.set f.lane false (s.hotGran f.granule) = some b) (hroom : b.frames.length < 9) (lost : List Nat)
    (found : List LineSense) : ∃ slots keep, (s.foldRead f lost found).fo.folds = s.fo.folds.filter (fun (x : Fold) => x.id ≠ f.id) ∧
      (s.foldRead f lost found).fo.bands = [{ b with frames := b.frames ++ [⟨f.granule, slots, keep, none⟩] }] := by
  unfold State.foldRead
  extract_lets _ taken m base sensed bad
  have htaken : taken.AssemblyKept sensed := by
    unfold sensed
    split
    · exact .refl taken
    · exact .of_fo rfl
  have hfound := htaken.trans (foldl_foldFound_assemblyKept bad (sensed, base))
  generalize bad.foldl State.foldFound (sensed, base) = afterFound at hfound ⊢
  obtain ⟨u, slots⟩ := afterFound
  have hlines := hfound.trans (.of_fo (foldl_foldLine_fo lost f.gathered (u, slots, [])))
  dsimp -zeta only
  generalize f.gathered.foldl (fun a x => State.foldLine a lost x) (u, slots, []) = afterLines at hlines ⊢
  obtain ⟨v, slots, keep⟩ := afterLines
  dsimp -zeta only at hlines ⊢
  have hassembling : v.assembling f.set f.lane false (v.hotGran f.granule) = some b := by
    rw [hlines.assembling, hlines.hotGran]
    exact hband
  rw [State.bandFor_assembling hassembling]
  dsimp -zeta only
  extract_lets _ held
  have hheld : held.fo.bands = [b] ∧ held.fo.folds = s.fo.folds.filter fun (x : Fold) => x.id ≠ f.id := by
    unfold held
    split
    · exact ⟨hlines.bands.trans hbands, hlines.folds⟩
    · exact ⟨hlines.bands.trans hbands, hlines.folds⟩
  refine ⟨slots, keep, ?_⟩
  rw [State.placeFrame_single hheld.1 hroom]
  exact ⟨hheld.2, rfl⟩

theorem exec_foldReadsComplete_places {f : Fold} {b : Band} (lost : FoldSense)
    (hfold : s.fo.folds.find? (fun (x : Fold) => x.id == f.id) = some f) (hset : s.setFrozen f.set = false)
    (hpilots : s.anyPend (s.homeBlocks f.granule) = false) (hbands : s.fo.bands = [b])
    (hband : s.assembling f.set f.lane false (s.hotGran f.granule) = some b) (hroom : b.frames.length < 9) :
    ∃ (t : State) (slots : Tbl PeatSlot) (keep : List Gathered), exec (.foldReadsComplete f.id lost) s = .next t ∧
      t.fo.folds = s.fo.folds.filter (fun (x : Fold) => x.id ≠ f.id) ∧
      t.fo.bands = [{ b with frames := b.frames ++ [⟨f.granule, slots, keep, none⟩] }] := by
  obtain ⟨slots, keep, hfolds, hplaced⟩ := State.foldRead_places hbands hband hroom lost.lost lost.found
  have hexec : exec (.foldReadsComplete f.id lost) s = s.done (s.foldRead f lost.lost lost.found).judgeMarks := by
    show execFoldReadsComplete f.id lost s = _
    unfold execFoldReadsComplete
    rw [hfold]
    exact if_neg (by simp [hset, hpilots])
  obtain ⟨_, _, hdone⟩ := s.done_touches (s.foldRead f lost.lost lost.found).judgeMarks
  have hmarks := (s.foldRead f lost.lost lost.found).judgeMarks_fo
  exact ⟨_, slots, keep, hexec.trans hdone, (congrArg Fo.folds hmarks).trans hfolds, (congrArg Fo.bands hmarks).trans hplaced⟩

/-! ### The slot of a gathered line (R113, R189) -/

theorem State.foldSlot_poison {x : Gathered} {e : Entry} (h : s.entryAt (s.recPlace x.line x.ix) = some e) (hpsn : e.psn = true) :
    s.foldSlot x = ((some ⟨0, 0, true⟩, true), s) := by
  simp [State.foldSlot, h, hpsn]

theorem State.foldSlot_committed {x : Gathered} {e : Entry} (h : s.entryAt (s.recPlace x.line x.ix) = some e) (hpsn : e.psn = false)
    (hwin : e.win = none) : s.foldSlot x = ((some ⟨e.data, e.tag, false⟩, true), s) := by
  simp [State.foldSlot, h, hpsn, hwin]

end

/-- Settles O40: an order enters its set's queue, a gather takes the head of it, and the frame read is placed in the one band. -/
theorem foldsAreOrderedAndGathered : Obligations.FoldsAreOrderedAndGathered := by
  unfold Obligations.FoldsAreOrderedAndGathered
  intro s k
  exact ⟨fun g l hset hroom hnew => exec_foldOrder_orders hset hroom hnew l,
    fun g l hfull => exec_foldOrder_refused hfull l,
    fun hlow hpath hset => exec_autonomousFold_orders hlow hpath hset,
    fun g l rest hqueue hset hroom hpath => exec_foldGather_gathers hqueue hset hroom hpath,
    fun f b lost hfold hset hpilots hbands hband hroom => exec_foldReadsComplete_places lost hfold hset hpilots hbands hband hroom,
    fun x e h => ⟨State.foldSlot_poison h, State.foldSlot_committed h⟩⟩

end Sys2Proof.Machine
end

section
/-! PROOFS. Statements about folding (05_folding_and_wear.md): a band is issued, passed to its commit record, or abandoned (R105, R110, R114, R136,
Tables 05-9 and 05-10). -/

namespace Sys2Proof.Machine

open Sys2Proof.Laws

/-! ### The bands in progress -/

theorem State.key_of_bandOf {s : State} {key : BandKey} {b : Band} (h : s.bandOf key = some b) : b.key = key := by
  simpa using List.find?_some h

theorem State.bandOf_modBand (s : State) (key other : BandKey) {f : Band → Band} (hf : ∀ b, (f b).key = b.key) :
    (s.modBand key f).bandOf other = (s.bandOf other).map fun b => if b.key = key then f b else b := by
  unfold State.bandOf State.modBand
  dsimp only
  rw [List.find?_map]
  congr 2
  funext b
  dsimp only [Function.comp]
  split
  · rw [hf]
  · rfl

/-- A band as the issue of its program leaves it (R102, R114). -/
def State.issued (s : State) (key : BandKey) (b : Band) : Band :=
  { b with phase := .programming, bseq := s.wp.seq, grans := b.summaryGrans, wclk := (s.drDie (segDie key.seg)).wclk,
           tband := (s.drDie (segDie key.seg)).band }

/-- Packets leave the device, and the band is issued. -/
theorem State.issueBand_touches (s : State) (key : BandKey) : ∃ out, s.issueBand key = ({ s with out := out } : State).modBand key (s.issued key) := by
  unfold State.issueBand
  extract_lets d packets sent
  obtain ⟨out, hsent⟩ := foldl_vyvon_touches (fun p : VyBlock × VyCmd => p.1) (fun p => p.2) packets s
  refine ⟨out, ?_⟩
  rw [show sent = { s with out := out } from hsent]
  rfl

theorem State.bandOf_issueBand (s : State) (key other : BandKey) :
    (s.issueBand key).bandOf other = (s.bandOf other).map fun b => if b.key = key then s.issued key b else b := by
  obtain ⟨out, h⟩ := s.issueBand_touches key
  rw [h]
  exact State.bandOf_modBand _ key other fun _ => rfl

theorem State.issueWaiting_touches (s : State) (k : Fin 4) (l : Fin 16) : ∃ out bands,
    s.issueWaiting k l = { s with out := out, fo := { s.fo with bands := bands } } := by
  rcases s.issueWaiting_cases k l with h | ⟨b, _, _, _, h⟩
  · exact ⟨s.out, s.fo.bands, h⟩
  · obtain ⟨out, hissued⟩ := s.issueBand_touches b.key
    exact ⟨out, _, h.trans hissued⟩

/-- A band that assembles nothing is none of the lane's concern. -/
theorem State.bandOf_issueWaiting {s : State} {key : BandKey} (h : ∀ b ∈ s.fo.bands, b.key = key → b.phase ≠ .assembling) (k : Fin 4)
    (l : Fin 16) : (s.issueWaiting k l).bandOf key = s.bandOf key := by
  rcases s.issueWaiting_cases k l with hsame | ⟨c, hc, hassembling, _, hissued⟩
  · rw [hsame]
  · rw [hissued, State.bandOf_issueBand]
    cases hb : s.bandOf key with
    | none => rfl
    | some b =>
      have hother : b.key ≠ c.key := fun hkey => h c hc (hkey.symm.trans (State.key_of_bandOf hb)) hassembling
      rw [Option.map_some, if_neg hother]

section
variable {s : State} {b : Band} (hb : s.bandOf b.key = some b)
include hb

theorem exec_bandFillTimeout_issues (hphase : b.phase = .assembling) (hframes : 0 < b.frames.length) (hset : s.setFrozen b.key.seg.set = false)
    (hlane : s.lanePrograms b.key.seg.set b.key.seg.lane = false) : ∃ (t : State) (c : Band), exec (.bandFillTimeout b.key) s = .next t ∧
      t.bandOf b.key = some c ∧ c.phase = .programming ∧ c.bseq = s.wp.seq ∧ c.frames = b.frames := by
  have hexec : exec (.bandFillTimeout b.key) s = s.done ((s.since b.since (usTicks 100)).issueBand b.key) := by
    show execBandFillTimeout b.key s = _
    unfold execBandFillTimeout
    rw [hb]
    exact if_pos ⟨hphase, hframes, hset, hlane⟩
  have hissued := (s.since b.since (usTicks 100)).bandOf_issueBand b.key b.key
  rw [show (s.since b.since (usTicks 100)).bandOf b.key = some b from hb, Option.map_some, if_pos rfl] at hissued
  obtain ⟨_, _, hdone⟩ := s.done_touches ((s.since b.since (usTicks 100)).issueBand b.key)
  exact ⟨_, _, hexec.trans hdone, hissued, rfl, rfl, rfl⟩

end

/-! ### Segments that close (R136, Table 05-10) -/

theorem State.bandDrift_touches (s : State) (k : SegKey) (band wclk tband : Nat) : ∃ dr, s.bandDrift k band wclk tband = { s with dr := dr } := by
  have hblocks : ∀ (l : List (Fin 16)) (u : State),
      ∃ dr, l.foldl (fun (s : State) p => s.modDrBlk ⟨k, p⟩ fun x => { x with ofs := 0, est := true, pend := false }) u = { u with dr := dr } := by
    intro l
    induction l with
    | nil => exact fun u => ⟨u.dr, rfl⟩
    | cons p l ih => exact fun u => ih (u.modDrBlk ⟨k, p⟩ _)
  unfold State.bandDrift
  extract_lets measured
  exact hblocks (allFin 16) measured

theorem State.forceClose_touches (s : State) (k : SegKey) : ∃ dr, s.forceClose k = ({ s with dr := dr } : State).closeSeg k := by
  have hblank : ∀ (l : List Nat) (d : DriftDie) (u : State),
      ∃ dr, l.foldl (fun (t : State) i => t.bandDrift k ((t.seg k).bands + i) d.wclk d.band) u = { u with dr := dr } := by
    intro l d
    induction l with
    | nil => exact fun u => ⟨u.dr, rfl⟩
    | cons i l ih =>
      intro u
      obtain ⟨dr, h⟩ := u.bandDrift_touches k ((u.seg k).bands + i) d.wclk d.band
      rw [List.foldl_cons, h]
      exact ih { u with dr := dr }
  obtain ⟨dr, h⟩ := hblank (List.range (7 - (s.seg k).bands)) (s.drDie (segDie k)) s
  exact ⟨dr, congrArg (State.closeSeg · k) h⟩

theorem exec_openSegmentForceClose_closes {s : State} {q : SegKey} (hopen : (s.seg q).state = .opened)
    (hold : (s.seg q).openedEpoch + 24 ≤ s.dr.epoch) (hbands : 0 < (s.seg q).bands)
    (hnone : (s.fo.bands.all fun (x : Band) => x.key.seg != q) = true) : ∃ t : State, exec (.openSegmentForceClose q) s = .next t ∧
      (t.seg q).state = .full ∧ t.fo.map = s.fo.map ∧ t.wp.index = s.wp.index := by
  have hfind : s.fo.bands.find? (fun (b : Band) => b.key.seg == q) = none :=
    List.find?_eq_none.2 fun b hb => by simpa using List.all_eq_true.1 hnone b hb
  have hexec : exec (.openSegmentForceClose q) s = .next (s.forceClose q) := by
    show execOpenSegmentForceClose q s = _
    unfold execOpenSegmentForceClose
    rw [if_pos ⟨hopen, hold, hbands⟩, hfind]
  obtain ⟨dr, hclosed⟩ := s.forceClose_touches q
  refine ⟨_, hexec, ?_⟩
  rw [hclosed]
  refine ⟨?_, rfl, rfl⟩
  unfold State.closeSeg
  rw [State.setSeg_seg_same]

/-! ### The end of a band's program (R105, R110) -/

/-- The blocks of a segment at the positions that failed. -/
def failedBlocks (seg : SegKey) (failed : List Nat) : List BlockKey :=
  failed.dedup.filterMap fun p => if h : p < 16 then some (⟨seg, ⟨p, h⟩⟩ : BlockKey) else none

theorem failedBlocks_seg {seg : SegKey} {failed : List Nat} {x : BlockKey} (h : x ∈ failedBlocks seg failed) : x = ⟨seg, x.pos⟩ := by
  obtain ⟨p, _, hp⟩ := List.mem_filterMap.1 h
  split at hp
  · cases hp; rfl
  · cases hp

theorem failedBlocks_single (seg : SegKey) (p : Fin 16) : failedBlocks seg [p.val] = [⟨seg, p⟩] := by
  simp [failedBlocks]

section
variable {s : State} {b : Band} (hb : s.bandOf b.key = some b) (hphase : b.phase = .programming) (hset : s.setFrozen b.key.seg.set = false)
include hb hphase hset

/-- With every unit good, or good after its retry in spare blocks, the band goes on to its commit record. -/
theorem exec_bandProgramComplete_commits {failed : List Nat} {r : Bool}
    (hgood : failed = [] ∨ (r = true ∧ ∀ p : Fin 16, 0 < s.dieSpare (blockDie ⟨b.key.seg, p⟩))) : ∃ (t : State) (c : Band),
      exec (.bandProgramComplete b.key failed r) s = .next t ∧
      t.bandOf b.key = some c ∧ c.phase = .committing ∧ c.frames = b.frames ∧ t.fo.map = s.fo.map := by
  have hexec : ∃ u, s.Spares u ∧ exec (.bandProgramComplete b.key failed r) s =
      s.done (((s.lifeEdge u).modBand b.key fun b => { b with phase := .committing }).issueWaiting b.key.seg.set b.key.seg.lane) := by
    show ∃ u, s.Spares u ∧ execBandProgramComplete b.key failed r s = _
    unfold execBandProgramComplete
    rw [hb]
    dsimp -zeta only
    rw [if_neg (by simp [hphase, hset])]
    extract_lets blocks again replaced
    have hpass : blocks = [] ∨ again = true := by
      rcases hgood with rfl | ⟨rfl, hspare⟩
      · exact .inl rfl
      · refine .inr (List.all_eq_true.2 fun x hx => decide_eq_true ?_)
        rw [failedBlocks_seg hx]
        exact hspare x.pos
    refine ⟨replaced, ?_, if_pos hpass⟩
    unfold replaced
    split
    · exact foldl_spares State.replaceBlock_spares blocks s
    · exact foldl_spares (fun u x => u.retireBlock_spares x 1) blocks s
  obtain ⟨u, hspares, hexec⟩ := hexec
  have hbands : (s.lifeEdge u).fo.bands = s.fo.bands := (congrArg Fo.bands (s.lifeEdge_fo u)).trans (hspares.part Fo.bands)
  have hmap : (s.lifeEdge u).fo.map = s.fo.map := (congrArg Fo.map (s.lifeEdge_fo u)).trans (hspares.part Fo.map)
  have hsame : (s.lifeEdge u).bandOf b.key = some b := by unfold State.bandOf; rw [hbands]; exact hb
  generalize s.lifeEdge u = v at hexec hbands hmap hsame
  have hband := v.bandOf_modBand b.key b.key (f := fun b => { b with phase := .committing }) fun _ => rfl
  rw [hsame, Option.map_some, if_pos rfl] at hband
  have hcommitting : ∀ c ∈ (v.modBand b.key fun b => { b with phase := .committing }).fo.bands, c.key = b.key → c.phase ≠ .assembling := by
    intro c hc hkey
    obtain ⟨c', _, rfl⟩ := List.mem_map.1 hc
    dsimp only at hkey ⊢
    split at hkey
    next h => rw [if_pos h]; exact fun hne => nomatch hne
    next h => exact absurd hkey h
  have hpassed : (v.modBand b.key fun b => { b with phase := .committing }).fo.map = s.fo.map := hmap
  generalize v.modBand b.key (fun b => { b with phase := .committing }) = passed at hexec hband hcommitting hpassed
  obtain ⟨_, _, hwaiting⟩ := passed.issueWaiting_touches b.key.seg.set b.key.seg.lane
  have hfinal : (passed.issueWaiting b.key.seg.set b.key.seg.lane).fo.map = s.fo.map := by rw [hwaiting]; exact hpassed
  obtain ⟨_, _, hdone⟩ := s.done_touches (passed.issueWaiting b.key.seg.set b.key.seg.lane)
  exact ⟨_, _, hexec.trans hdone, (State.bandOf_issueWaiting hcommitting ..).trans hband, rfl, rfl, hfinal⟩

end

end Sys2Proof.Machine
end

section
/-! PROOFS. Statements about folding (05_folding_and_wear.md): a band with a unit that fails again is abandoned, and its folds are ordered again
(R105, R120, Tables 05-6, 05-10 and 05-11). -/

namespace Sys2Proof.Machine

open Sys2Proof.Laws

/-! ### The copy queue (R117) -/

/-- With no victim queued the copy engine of a set has nothing to feed. -/
theorem State.feedCopies_of_empty {s : State} {k : Fin 4} (h : s.fo.copyQ[k] = []) : s.feedCopies k = s := by
  have hnothing : (s.fo.copyQ[k].filter fun seg => !(s.toCopy seg).isEmpty) = s.fo.copyQ[k] := by rw [h]; rfl
  have hqueue : vmod s.fo.copyQ k (fun q => q.filter fun seg => !(s.toCopy seg).isEmpty) = s.fo.copyQ := by
    unfold vmod
    dsimp only
    rw [hnothing]
    exact Vector.set_getElem_self ..
  unfold State.feedCopies
  split
  · rfl
  · rw [h, List.foldl_nil]
    dsimp only
    rw [hqueue]

/-! ### The segments of a lane -/

theorem mem_of_tfind {γ : Type} {m : Tbl γ} {k : Nat} {v : γ} (h : tfind m k = some v) : (k, v) ∈ m := by
  induction m with
  | nil => cases h
  | cons p m ih =>
    unfold tfind at h
    split at h
    next hk => exact List.mem_cons.2 (.inl (Prod.ext hk.symm (Option.some.inj h).symm))
    next => exact List.mem_cons_of_mem _ (ih h)

theorem mem_tput {β : Type} [DecidableEq β] {d : β} {m : Tbl β} {k : Nat} {v : β} {p : Nat × β} (h : p ∈ tput d k v m) :
    p = (k, v) ∨ p ∈ m := by
  unfold tput at h
  split at h
  · exact .inr (List.mem_of_mem_filter h)
  · exact mem_tins h

/-- A segment that is not as it was never used is listed in the table. -/
theorem State.mem_segs_of_used {s : State} {q : SegKey} (h : s.seg q ≠ Segment.free) : (segCode q, s.seg q) ∈ s.fo.segs := by
  have hseg : s.seg q = (tfind s.fo.segs (segCode q)).getD Segment.free := tget_eq ..
  cases hfind : tfind s.fo.segs (segCode q) with
  | none => rw [hfind] at hseg; exact absurd hseg h
  | some x =>
    rw [hfind] at hseg
    rw [hseg]
    exact mem_of_tfind hfind

theorem State.mem_laneSegs {s : State} {k : Fin 4} {l : Fin 16} {x : Nat × Segment} :
    x ∈ s.laneSegs k l ↔ ∃ p ∈ s.fo.segs, p.1 / 2 ^ 32 = laneCode k l ∧ (p.1 % 2 ^ 32, p.2) = x := by
  unfold State.laneSegs
  rw [List.mem_filterMap]
  refine exists_congr fun p => and_congr_right fun _ => ?_
  split
  next h => exact ⟨fun hx => ⟨h, Option.some.inj hx⟩, fun hx => congrArg some hx.2⟩
  next h => exact iff_of_false (fun hx => nomatch hx) fun hx => h hx.1

/-- No segment of a lane waits to be copied away. -/
def State.NoVictim (s : State) (k : Fin 4) (l : Fin 16) : Prop := ∀ x ∈ s.laneSegs k l, x.2.state ≠ .victim

section
variable {s : State} {k : Fin 4} {l : Fin 16} {q : SegKey}

theorem State.NoVictim.seg (h : s.NoVictim k l) (hlane : segCode q / 2 ^ 32 = laneCode k l) : (s.seg q).state ≠ .victim := by
  by_cases hfree : s.seg q = Segment.free
  · rw [hfree]; decide
  · exact h _ (State.mem_laneSegs.2 ⟨_, State.mem_segs_of_used hfree, hlane, rfl⟩)

theorem State.NoVictim.setSeg (h : s.NoVictim k l) {x : Segment} (hx : segCode q / 2 ^ 32 = laneCode k l → x.state ≠ .victim) :
    (s.setSeg q x).NoVictim k l := by
  intro y hy
  obtain ⟨p, hp, hlane, rfl⟩ := State.mem_laneSegs.1 hy
  rcases mem_tput hp with rfl | hp
  · exact hx hlane
  · exact h _ (State.mem_laneSegs.2 ⟨p, hp, hlane, rfl⟩)

theorem State.NoVictim.of_segs {t : State} (h : s.NoVictim k l) (hsegs : t.fo.segs = s.fo.segs) : t.NoVictim k l := by
  unfold State.NoVictim State.laneSegs
  rw [hsegs]
  exact h

end

/-! ### An abandoned band (R105, R120) -/

/-- A frame of an abandoned band is folded or copied again: its move leaves the move table, or its fold stands first among its set's orders. -/
def State.redoFrame (b : Band) (s : State) (p : Placed) : State :=
  match p.copyOf with
  | some _ =>
    if (s.mapEnt p.granule).state = .moving ∧ p.granule ≠ 0xFFFFFFFF then { s with fo := { s.fo with moves := tdel p.granule s.fo.moves } }
    else s
  | none => if p.granule = 0xFFFFFFFF then s
    else { s with fo := { s.fo with orderQ := vmod s.fo.orderQ b.key.seg.set fun q => (p.granule, some b.key.seg.lane) :: q } }

theorem State.redoFrame_touches (b : Band) (s : State) (p : Placed) : ∃ moves orderQ,
    State.redoFrame b s p = { s with fo := { s.fo with moves := moves, orderQ := orderQ } } := by
  unfold State.redoFrame
  split
  · split
    · exact ⟨_, s.fo.orderQ, rfl⟩
    · exact ⟨s.fo.moves, s.fo.orderQ, rfl⟩
  · split
    · exact ⟨s.fo.moves, s.fo.orderQ, rfl⟩
    · exact ⟨s.fo.moves, _, rfl⟩

theorem foldl_redoFrame_touches (b : Band) (l : List Placed) (s : State) : ∃ moves orderQ,
    l.foldl (State.redoFrame b) s = { s with fo := { s.fo with moves := moves, orderQ := orderQ } } := by
  induction l generalizing s with
  | nil => exact ⟨s.fo.moves, s.fo.orderQ, rfl⟩
  | cons p l ih =>
    obtain ⟨m, o, h⟩ := State.redoFrame_touches b s p
    obtain ⟨m', o', h'⟩ := ih (State.redoFrame b s p)
    exact ⟨m', o', by rw [List.foldl_cons, h', h]⟩

/-- What is ordered stays ordered. -/
theorem State.redoFrame_keeps (b : Band) {s : State} {x : Nat × Option (Fin 16)} (h : x ∈ s.fo.orderQ[b.key.seg.set]) (p : Placed) :
    x ∈ (State.redoFrame b s p).fo.orderQ[b.key.seg.set] := by
  unfold State.redoFrame
  split
  · split
    · exact h
    · exact h
  · split
    · exact h
    · dsimp only
      rw [vmod_same]
      exact List.mem_cons_of_mem _ h

theorem foldl_redoFrame_keeps (b : Band) (l : List Placed) {s : State} {x : Nat × Option (Fin 16)}
    (h : x ∈ s.fo.orderQ[b.key.seg.set]) : x ∈ (l.foldl (State.redoFrame b) s).fo.orderQ[b.key.seg.set] := by
  induction l generalizing s with
  | nil => exact h
  | cons p l ih => exact ih (State.redoFrame_keeps b h p)

/-- Every folded frame of a granule is ordered again, into the lane of its band. -/
theorem foldl_redoFrame_orders (b : Band) {l : List Placed} {p : Placed} (hp : p ∈ l) (hfold : p.copyOf = none) (hgran : p.granule ≠ 0xFFFFFFFF)
    (s : State) : (p.granule, some b.key.seg.lane) ∈ (l.foldl (State.redoFrame b) s).fo.orderQ[b.key.seg.set] := by
  induction l generalizing s with
  | nil => cases hp
  | cons y l ih =>
    rcases List.mem_cons.1 hp with rfl | hp
    · refine foldl_redoFrame_keeps b l ?_
      unfold State.redoFrame
      rw [hfold]
      dsimp only
      rw [if_neg hgran]
      dsimp only
      rw [vmod_same]
      exact List.mem_cons_self
    · exact ih hp _

/-- What an abandoned band leaves where its lane holds no victim and nothing waits to be copied. -/
structure State.Abandons (s : State) (b : Band) (t : State) : Prop where
  gone : t.bandOf b.key = none
  orders : ∀ p ∈ b.frames, p.copyOf = none → p.granule ≠ 0xFFFFFFFF → (p.granule, some b.key.seg.lane) ∈ t.fo.orderQ[b.key.seg.set]
  map : t.fo.map = s.fo.map
  retired : t.fo.retired = s.fo.retired

theorem State.abandonBand_abandons {s : State} {b : Band} (hqueue : s.fo.copyQ[b.key.seg.set] = [])
    (hlane : s.NoVictim b.key.seg.set b.key.seg.lane) : s.Abandons b (s.abandonBand b) := by
  unfold State.abandonBand
  extract_lets _ dropped redone x counted closed back queued
  have hnone : dropped.bandOf b.key = none := List.find?_eq_none.2 fun c hc => by simpa using (List.mem_filter.1 hc).2
  obtain ⟨moves, orderQ, hredone⟩ : ∃ moves orderQ, redone = { dropped with fo := { dropped.fo with moves := moves, orderQ := orderQ } } :=
    foldl_redoFrame_touches b b.frames dropped
  have horders : ∀ p ∈ b.frames, p.copyOf = none → p.granule ≠ 0xFFFFFFFF →
      (p.granule, some b.key.seg.lane) ∈ redone.fo.orderQ[b.key.seg.set] :=
    fun p hp hfold hgran => foldl_redoFrame_orders b hp hfold hgran dropped
  have hredoneLane : redone.NoVictim b.key.seg.set b.key.seg.lane := hlane.of_segs (by rw [hredone])
  have hcountedLane : counted.NoVictim b.key.seg.set b.key.seg.lane := hredoneLane.setSeg fun hcode => hredoneLane.seg hcode
  have hclosed : ∃ segs, closed = { redone with fo := { redone.fo with segs := segs } } := by
    unfold closed
    split
    · exact ⟨_, rfl⟩
    · exact ⟨_, rfl⟩
  have hclosedLane : closed.NoVictim b.key.seg.set b.key.seg.lane := by
    unfold closed
    split
    · exact hcountedLane.setSeg fun _ h => nomatch h
    · exact hcountedLane
  have hback : back = [] := List.filterMap_eq_nil_iff.2 fun p hp => if_neg (hclosedLane p hp)
  have hqueued : queued = closed := by
    unfold queued
    rw [hback, List.foldl_nil]
  obtain ⟨segs, hclosed⟩ := hclosed
  obtain ⟨out, bands, hwaiting⟩ := queued.issueWaiting_touches b.key.seg.set b.key.seg.lane
  have hempty : (queued.issueWaiting b.key.seg.set b.key.seg.lane).fo.copyQ[b.key.seg.set] = [] := by
    rw [hwaiting, hqueued, hclosed, hredone]
    exact hqueue
  rw [State.feedCopies_of_empty hempty]
  refine ⟨?_, ?_, ?_, ?_⟩
  · rw [State.bandOf_issueWaiting]
    · rw [hqueued, hclosed, hredone]
      exact hnone
    · intro c hc hkey
      rw [hqueued, hclosed, hredone] at hc
      exact absurd hkey (by simpa using (List.mem_filter.1 hc).2)
  · rw [hwaiting, hqueued, hclosed]
    exact horders
  · rw [hwaiting, hqueued, hclosed, hredone]
  · rw [hwaiting, hqueued, hclosed, hredone]

/-- With the retry failed too, or no spare block on the die, the block is retired and the band abandoned. -/
theorem exec_bandProgramComplete_abandons {s : State} {b : Band} (hb : s.bandOf b.key = some b) (hphase : b.phase = .programming)
    (hset : s.setFrozen b.key.seg.set = false) {p : Fin 16} {r : Bool} (hfail : r = false ∨ s.dieSpare (blockDie ⟨b.key.seg, p⟩) = 0)
    (hqueue : s.fo.copyQ[b.key.seg.set] = []) (hlane : s.NoVictim b.key.seg.set b.key.seg.lane) : ∃ t : State,
      exec (.bandProgramComplete b.key [p.val] r) s = .next t ∧ t.bandOf b.key = none ∧ ⟨b.key.seg, p⟩ ∈ t.fo.retired ∧ t.fo.map = s.fo.map ∧
      ∀ q ∈ b.frames, q.copyOf = none → q.granule ≠ 0xFFFFFFFF → (q.granule, some b.key.seg.lane) ∈ t.fo.orderQ[b.key.seg.set] := by
  have hexec : exec (.bandProgramComplete b.key [p.val] r) s = s.done ((s.lifeEdge (s.retireBlock ⟨b.key.seg, p⟩ 1)).abandonBand b) := by
    show execBandProgramComplete b.key [p.val] r s = _
    unfold execBandProgramComplete
    rw [hb]
    dsimp -zeta only
    rw [if_neg (by simp [hphase, hset])]
    extract_lets blocks again replaced
    have hblocks : blocks = [⟨b.key.seg, p⟩] := failedBlocks_single b.key.seg p
    have hagain : again = false := by
      unfold again
      rw [hblocks]
      rcases hfail with rfl | hspare
      · rfl
      · simp [hspare]
    have hreplaced : replaced = s.retireBlock ⟨b.key.seg, p⟩ 1 := by
      unfold replaced
      rw [hagain, hblocks]
      rfl
    rw [hblocks, hagain, hreplaced]
    exact if_neg (by simp)
  have hspares := s.retireBlock_spares ⟨b.key.seg, p⟩ 1
  have hretired := s.retireBlock_retired ⟨b.key.seg, p⟩ 1
  have hlife := s.lifeEdge_fo (s.retireBlock ⟨b.key.seg, p⟩ 1)
  generalize s.lifeEdge (s.retireBlock ⟨b.key.seg, p⟩ 1) = u at hexec hlife
  rw [← hlife] at hretired
  have hsegs : u.fo.segs = s.fo.segs := (congrArg Fo.segs hlife).trans (hspares.part Fo.segs)
  have hcopyQ : u.fo.copyQ = s.fo.copyQ := (congrArg Fo.copyQ hlife).trans (hspares.part Fo.copyQ)
  have hmap : u.fo.map = s.fo.map := (congrArg Fo.map hlife).trans (hspares.part Fo.map)
  have habandons := State.abandonBand_abandons (s := u) (b := b) (by rw [hcopyQ]; exact hqueue) (hlane.of_segs hsegs)
  generalize u.abandonBand b = v at hexec habandons
  have hmem : ⟨b.key.seg, p⟩ ∈ v.fo.retired := by rw [habandons.retired, hretired]; exact List.mem_cons_self
  obtain ⟨_, _, hdone⟩ := s.done_touches v
  exact ⟨_, hexec.trans hdone, habandons.gone, hmem, habandons.map.trans hmap, habandons.orders⟩

end Sys2Proof.Machine
end

section
/-! PROOFS. Statements about folding (05_folding_and_wear.md): a band's commit record verifies and its granules switch; folded slots are released;
a checkpoint piece is written (R109, R110, R112, R117; 03_write_path.md R54, R78). -/

namespace Sys2Proof.Machine

open Sys2Proof.Laws

/-! ### Folded lines leave the index (R112) -/

section
variable {s : State} {x : Gathered} {line : Nat}

theorem State.foldRemove_touches (s : State) (x : Gathered) : ∃ index relQ ca,
    s.foldRemove x = { s with ca := ca, wp := { s.wp with index := index }, fo := { s.fo with relQ := relQ } } := by
  unfold State.foldRemove
  split
  · exact ⟨_, _, _, rfl⟩
  · exact ⟨s.wp.index, s.fo.relQ, s.ca, rfl⟩

theorem State.foldRemove_index (s : State) (x : Gathered) :
    (s.foldRemove x).wp.index = if s.stillGathered x = true then tdel x.line s.wp.index else s.wp.index := by
  unfold State.foldRemove
  split
  · rfl
  · rfl

/-- Whether an entry is still the one gathered is a matter of its line's record alone. -/
theorem State.stillGathered_congr {t : State} (h : tfind t.wp.index x.line = tfind s.wp.index x.line) :
    t.stillGathered x = s.stillGathered x := by
  unfold State.stillGathered
  rw [h]

/-- A line whose record has been replaced keeps its record, and so does every other line. -/
theorem State.foldRemove_keeps (h : x.line = line → s.stillGathered x = false) :
    tfind (s.foldRemove x).wp.index line = tfind s.wp.index line := by
  rw [State.foldRemove_index]
  split
  next hstill =>
    refine tfind_tdel_other _ _ _ fun hline => ?_
    rw [h hline.symm] at hstill
    cases hstill
  next => rfl

theorem State.foldRemove_removes (h : s.stillGathered x = true) : tfind (s.foldRemove x).wp.index x.line = none := by
  rw [State.foldRemove_index, if_pos h]
  exact tfind_tdel_same ..

/-- A line without a record gets none. -/
theorem State.foldRemove_none (h : tfind s.wp.index line = none) : tfind (s.foldRemove x).wp.index line = none := by
  by_cases hx : x.line = line ∧ s.stillGathered x = true
  · rw [← hx.1]
    exact State.foldRemove_removes hx.2
  · rw [State.foldRemove_keeps fun hline => Bool.eq_false_iff.2 fun hstill => hx ⟨hline, hstill⟩]
    exact h

theorem foldl_foldRemove_none {l : List Gathered} (h : tfind s.wp.index line = none) :
    tfind (l.foldl State.foldRemove s).wp.index line = none := by
  induction l generalizing s with
  | nil => exact h
  | cons y l ih => exact ih (State.foldRemove_none h)

theorem foldl_foldRemove_removes {l : List Gathered} (hx : x ∈ l) (h : s.stillGathered x = true) :
    tfind (l.foldl State.foldRemove s).wp.index x.line = none := by
  induction l generalizing s with
  | nil => cases hx
  | cons y l ih =>
    rw [List.foldl_cons]
    by_cases hy : y.line = x.line ∧ s.stillGathered y = true
    · exact foldl_foldRemove_none (hy.1 ▸ State.foldRemove_removes hy.2)
    · have hsame : tfind (s.foldRemove y).wp.index x.line = tfind s.wp.index x.line :=
        State.foldRemove_keeps fun hline => Bool.eq_false_iff.2 fun hstill => hy ⟨hline, hstill⟩
      rcases List.mem_cons.1 hx with rfl | hx
      · exact absurd ⟨rfl, h⟩ hy
      · exact ih hx ((State.stillGathered_congr hsame).trans h)

theorem foldl_foldRemove_keeps {l : List Gathered} (h : ∀ x ∈ l, x.line = line → s.stillGathered x = false) :
    tfind (l.foldl State.foldRemove s).wp.index line = tfind s.wp.index line := by
  induction l generalizing s with
  | nil => rfl
  | cons y l ih =>
    have hsame : tfind (s.foldRemove y).wp.index line = tfind s.wp.index line := State.foldRemove_keeps (h y List.mem_cons_self)
    rw [List.foldl_cons, ih, hsame]
    intro x hx hline
    rw [← h x (List.mem_cons_of_mem y hx) hline]
    exact State.stillGathered_congr (hline ▸ hsame)

end

/-! ### The map switch (R112, R119) -/

/-- The map and the copy order queues. -/
def State.mapAndCopies (s : State) : Tbl MapEnt × Vector (List SegKey) 4 := (s.fo.map, s.fo.copyQ)

theorem State.foldRemove_mapAndCopies (s : State) (x : Gathered) : (s.foldRemove x).mapAndCopies = s.mapAndCopies := by
  obtain ⟨_, _, _, h⟩ := s.foldRemove_touches x
  rw [h]
  rfl

theorem State.killFrame_touches (s : State) (k : Fin 4) (lane : Fin 16) (frame : Nat) : ∃ frames,
    s.killFrame k lane frame = { s with fo := { s.fo with frames := frames } } := by
  unfold State.killFrame
  split
  · exact ⟨_, rfl⟩
  · exact ⟨s.fo.frames, rfl⟩

/-- A fold's frame that is switched: what the granule's entry names, and what the index and the copy queue hold afterwards. -/
structure State.Switched (s : State) (key : BandKey) (p : Placed) (t : State) : Prop where
  state : (t.mapEnt p.granule).state = .live
  lane : (t.mapEnt p.granule).lane = key.seg.lane
  frame : (t.mapEnt p.granule).frame = frameNo key 0
  copyQ : t.fo.copyQ = s.fo.copyQ
  removed : ∀ x ∈ p.gathered, s.stillGathered x = true → tfind t.wp.index x.line = none
  kept : ∀ line, (∀ x ∈ p.gathered, x.line = line → s.stillGathered x = false) → tfind t.wp.index line = tfind s.wp.index line

theorem State.switchFrame_switched {s : State} {p : Placed} (key : BandKey) (hgran : p.granule ≠ 0xFFFFFFFF) (hfold : p.copyOf = none)
    (hstate : (s.mapEnt p.granule).state ≠ .poisoned) : s.Switched key p (s.switchFrame key 0 p) := by
  unfold State.switchFrame
  extract_lets k lane f m put predict
  rw [if_neg (by simpa [hgran] using hstate), hfold]
  dsimp -zeta only
  rename_i killed placed mapped
  obtain ⟨frames, hkilled⟩ : ∃ frames, killed = { s with fo := { s.fo with frames := frames } } := by
    unfold killed
    split
    · exact s.killFrame_touches ..
    · exact ⟨s.fo.frames, rfl⟩
  have hwp : mapped.wp = s.wp := by
    show killed.wp = s.wp
    rw [hkilled]
  have hcopyQ : mapped.fo.copyQ = s.fo.copyQ := by
    show killed.fo.copyQ = s.fo.copyQ
    rw [hkilled]
  have hmap : mapped.mapEnt p.granule = { state := .live, lane := lane, frame := f, heat := sat 7 (m.heat + 1), rfsh := false } := by
    unfold mapped
    rw [State.setMap_mapEnt, if_pos rfl]
  obtain ⟨hkeptMap, hkeptCopies⟩ := Prod.mk.inj (foldl_keeps State.mapAndCopies State.foldRemove_mapAndCopies p.gathered mapped)
  have hent : (p.gathered.foldl State.foldRemove mapped).mapEnt p.granule = mapped.mapEnt p.granule := by
    unfold State.mapEnt
    rw [hkeptMap]
  have hstill : ∀ x, mapped.stillGathered x = s.stillGathered x := fun x => State.stillGathered_congr (by rw [hwp])
  generalize hswitched : p.gathered.foldl State.foldRemove mapped = switched at hkeptMap hkeptCopies hent ⊢
  refine ⟨congrArg MapEnt.state (hent.trans hmap), congrArg MapEnt.lane (hent.trans hmap), congrArg MapEnt.frame (hent.trans hmap),
    hkeptCopies.trans hcopyQ, fun x hx h => ?_, fun line h => ?_⟩
  · show tfind switched.wp.index x.line = none
    rw [← hswitched]
    exact foldl_foldRemove_removes hx ((hstill x).trans h)
  · show tfind switched.wp.index line = _
    rw [← hswitched, foldl_foldRemove_keeps fun x hx hline => (hstill x).trans (h x hx hline), hwp]

/-! ### The commit of a band (R110, R117) -/

theorem State.journal_touches (s : State) (r : MetaRec) : ∃ u journal, s.Allocs u ∧
    s.journal r = { u with fo := { u.fo with journal := journal } } := ⟨_, _, s.newMeta_allocs r false, rfl⟩

theorem State.journal_wp_index (s : State) (r : MetaRec) : (s.journal r).wp.index = s.wp.index := by
  obtain ⟨u, journal, hallocs, h⟩ := s.journal_touches r
  rw [h]
  exact part_of_traffic Wp.index hallocs.traffic

theorem State.journal_fo (s : State) (r : MetaRec) : ∃ journal, (s.journal r).fo = { s.fo with journal := journal } := by
  obtain ⟨u, journal, hallocs, h⟩ := s.journal_touches r
  refine ⟨journal, ?_⟩
  rw [h, ← hallocs.fo]

theorem State.judgeHold_touches (s : State) (k : Fin 4) : ∃ exhausted, s.judgeHold k = { s with fo := { s.fo with exhausted := exhausted } } := by
  unfold State.judgeHold
  split
  · exact ⟨_, rfl⟩
  · exact ⟨s.fo.exhausted, rfl⟩

theorem State.Switched.of_parts {s t u : State} {key : BandKey} {p : Placed} (h : s.Switched key p t) (hmap : u.fo.map = t.fo.map)
    (hcopyQ : u.fo.copyQ = t.fo.copyQ) (hindex : u.wp.index = t.wp.index) : s.Switched key p u := by
  have hent : u.mapEnt p.granule = t.mapEnt p.granule := by unfold State.mapEnt; rw [hmap]
  exact ⟨(congrArg MapEnt.state hent).trans h.state, (congrArg MapEnt.lane hent).trans h.lane, (congrArg MapEnt.frame hent).trans h.frame,
    hcopyQ.trans h.copyQ, fun x hx hstill => by rw [hindex]; exact h.removed x hx hstill,
    fun line hline => by rw [hindex]; exact h.kept line hline⟩

theorem State.Switched.of_start {s s' t : State} {key : BandKey} {p : Placed} (h : s'.Switched key p t) (hcopyQ : s'.fo.copyQ = s.fo.copyQ)
    (hindex : s'.wp.index = s.wp.index) : s.Switched key p t := by
  have hstill : ∀ x, s'.stillGathered x = s.stillGathered x := fun x => State.stillGathered_congr (by rw [hindex])
  refine ⟨h.state, h.lane, h.frame, h.copyQ.trans hcopyQ, fun x hx hx' => h.removed x hx ((hstill x).trans hx'), fun line hline => ?_⟩
  rw [h.kept line fun x hx heq => (hstill x).trans (hline x hx heq), hindex]

/-- What the tail of a commit leaves as the switch made it: the map, the copy queues and the index. -/
def State.switchView (s : State) : (Tbl MapEnt × Vector (List SegKey) 4) × Tbl IndexRec := ((s.fo.map, s.fo.copyQ), s.wp.index)

theorem State.Switched.of_view {s t u : State} {key : BandKey} {p : Placed} (h : s.Switched key p t) (hview : u.switchView = t.switchView) :
    s.Switched key p u := by
  obtain ⟨hfo, hindex⟩ := Prod.mk.inj hview
  obtain ⟨hmap, hcopyQ⟩ := Prod.mk.inj hfo
  exact h.of_parts hmap hcopyQ hindex

theorem State.setSeg_switchView (s : State) (k : SegKey) (x : Segment) : (s.setSeg k x).switchView = s.switchView := rfl

theorem State.laneBands_switchView (s : State) (laneBands : Tbl Nat) :
    ({ s with fo := { s.fo with laneBands := laneBands } } : State).switchView = s.switchView := rfl

theorem State.closeSeg_switchView (s : State) (k : SegKey) : (s.closeSeg k).switchView = s.switchView := rfl

theorem State.bandDrift_switchView (s : State) (seg : SegKey) (band wclk tband : Nat) :
    (s.bandDrift seg band wclk tband).switchView = s.switchView := by
  obtain ⟨_, h⟩ := s.bandDrift_touches seg band wclk tband
  rw [h]
  rfl

theorem State.forceClose_switchView (s : State) (k : SegKey) : (s.forceClose k).switchView = s.switchView := by
  obtain ⟨_, h⟩ := s.forceClose_touches k
  rw [h, State.closeSeg_switchView]
  rfl

theorem State.judgeHold_switchView (s : State) (k : Fin 4) : (s.judgeHold k).switchView = s.switchView := by
  obtain ⟨_, h⟩ := s.judgeHold_touches k
  rw [h]
  rfl

theorem State.journal_switchView (s : State) (r : MetaRec) : (s.journal r).switchView = s.switchView := by
  obtain ⟨_, hfo⟩ := s.journal_fo r
  unfold State.switchView
  rw [hfo, State.journal_wp_index]

theorem State.keepSummary_switchView (s : State) (b : Band) : (s.keepSummary b).switchView = s.switchView := rfl

theorem State.commitBand_switched {s : State} {b : Band} {p : Placed} (hframes : b.frames = [p]) (hgran : p.granule ≠ 0xFFFFFFFF)
    (hfold : p.copyOf = none) (hstate : (s.mapEnt p.granule).state ≠ .poisoned) (hqueue : s.fo.copyQ[b.key.seg.set] = []) :
    s.Switched b.key p (s.commitBand b) := by
  unfold State.commitBand
  extract_lets _ dropped kept switched seg drifted lc _ counted x added closed
  have hdropped : dropped.switchView = s.switchView := rfl
  have hkept : kept.switchView = s.switchView :=
    (State.keepSummary_switchView _ b).trans ((dropped.journal_switchView (.bandCommit b.key b.bseq)).trans hdropped)
  have hone : switched = kept.switchFrame b.key 0 p := by
    unfold switched
    rw [hframes]
    rfl
  have hswitched : s.Switched b.key p switched := by
    obtain ⟨hfo, hindex⟩ := Prod.mk.inj hkept
    obtain ⟨hmap, hcopyQ⟩ := Prod.mk.inj hfo
    rw [hone]
    refine (State.switchFrame_switched b.key hgran hfold ?_).of_start hcopyQ hindex
    unfold State.mapEnt
    rw [hmap]
    exact hstate
  have hdrifted : drifted.switchView = switched.switchView :=
    switched.bandDrift_switchView seg b.key.band b.wclk b.tband
  have hcounted : counted.switchView = drifted.switchView := drifted.laneBands_switchView _
  have hadded : added.switchView = switched.switchView := by
    unfold added
    exact (State.setSeg_switchView ..).trans (hcounted.trans hdrifted)
  have hclosed : closed.switchView = switched.switchView := by
    unfold closed
    split
    · exact (added.closeSeg_switchView seg).trans hadded
    · split
      · exact (added.forceClose_switchView seg).trans hadded
      · exact hadded
  have hbefore := hswitched.of_view hclosed
  rw [State.feedCopies_of_empty (by rw [hbefore.copyQ]; exact hqueue)]
  exact hbefore.of_view (closed.judgeHold_switchView seg.set)

theorem exec_bandCommitVerified_switches {s : State} {b : Band} {p : Placed} (hb : s.bandOf b.key = some b) (hphase : b.phase = .committing)
    (hset : s.setFrozen b.key.seg.set = false) (hframes : b.frames = [p]) (hgran : p.granule ≠ 0xFFFFFFFF) (hfold : p.copyOf = none)
    (hstate : (s.mapEnt p.granule).state ≠ .poisoned) (hqueue : s.fo.copyQ[b.key.seg.set] = []) : ∃ t : State,
      exec (.bandCommitVerified b.key) s = .next t ∧ s.Switched b.key p t := by
  have hexec : exec (.bandCommitVerified b.key) s = s.done (s.commitBand b) := by
    show execBandCommitVerified b.key s = _
    unfold execBandCommitVerified
    rw [hb]
    exact if_pos ⟨hphase, hset⟩
  have hswitched := State.commitBand_switched hframes hgran hfold hstate hqueue
  generalize s.commitBand b = u at hexec hswitched
  obtain ⟨_, _, hdone⟩ := s.done_touches u
  exact ⟨_, hexec.trans hdone, hswitched.of_parts rfl rfl rfl⟩

/-! ### Slot release (R54, R110) -/

/-- The entry at a place, if there is one, is released. -/
def State.ReleasedAt (s : State) (p : Place) : Prop := ∀ e, s.entryAt p = some e → e.released = true

theorem State.durPage_entries (s : State) (page : Nat) : (s.durPage page).wp.entries = s.wp.entries := by
  obtain ⟨_, _, h⟩ := s.nextSeq_touches
  show s.nextSeq.2.wp.entries = _
  rw [h]

section
variable {s : State}

/-- The release of a slot marks its entry, where there is one, and no other. -/
theorem State.releaseSlot_entries (s : State) (c : Nat) :
    (s.entryAt (placeOf c) = none ∧ (s.releaseSlot c).wp.entries = s.wp.entries) ∨
    ∃ e : Entry, e.released = true ∧ (s.releaseSlot c).wp.entries = tins (placeOf c).code e s.wp.entries := by
  unfold State.releaseSlot
  extract_lets p
  split
  next e he =>
    have hdurable : (s.durPage (pageOf e.line)).entryAt p = some e := by
      unfold State.entryAt
      rw [State.durPage_entries]
      exact he
    refine .inr ⟨{ e with released := true }, rfl, ?_⟩
    unfold State.modEntry
    rw [hdurable]
    dsimp only
    rw [State.durPage_entries]
  next he => exact .inl ⟨he, rfl⟩

theorem State.releaseSlot_releases (s : State) (c : Nat) : (s.releaseSlot c).ReleasedAt (placeOf c) := by
  intro e he
  unfold State.entryAt at he
  rcases s.releaseSlot_entries c with ⟨hnone, hsame⟩ | ⟨e', hreleased, hmarked⟩
  · rw [hsame] at he
    cases hnone.symm.trans he
  · rw [hmarked, tfind_tins_same] at he
    cases he
    exact hreleased

theorem State.ReleasedAt.releaseSlot {p : Place} (h : s.ReleasedAt p) (c : Nat) : (s.releaseSlot c).ReleasedAt p := by
  intro e he
  unfold State.entryAt at he
  rcases s.releaseSlot_entries c with ⟨_, hsame⟩ | ⟨e', hreleased, hmarked⟩
  · rw [hsame] at he
    exact h e he
  · rw [hmarked] at he
    by_cases hcode : p.code = (placeOf c).code
    · rw [hcode, tfind_tins_same] at he
      cases he
      exact hreleased
    · rw [tfind_tins_other _ _ _ _ hcode] at he
      exact h e he

/-- Every slot of a list is released, and stays so. -/
theorem foldl_releaseSlot_releases {l : List Nat} {c : Nat} (h : c ∈ l ∨ s.ReleasedAt (placeOf c)) :
    (l.foldl State.releaseSlot s).ReleasedAt (placeOf c) := by
  induction l generalizing s with
  | nil => exact h.resolve_left List.not_mem_nil
  | cons d l ih =>
    refine ih ?_
    rcases h with hc | hreleased
    · rcases List.mem_cons.1 hc with rfl | hc
      · exact .inr (s.releaseSlot_releases c)
      · exact .inl hc
    · exact .inr (hreleased.releaseSlot d)

end

/-- The release of a slot leaves the fold engine and the index. -/
theorem State.releaseSlot_keeps (s : State) (c : Nat) : ((s.releaseSlot c).fo, (s.releaseSlot c).wp.index) = (s.fo, s.wp.index) := by
  unfold State.releaseSlot
  extract_lets p
  split
  next e he =>
    refine Prod.ext ?_ ?_
    · show ((s.durPage (pageOf e.line)).modEntry p fun e => { e with released := true }).fo = s.fo
      rw [← s.durPage_fo (pageOf e.line)]
      unfold State.modEntry
      split
      · rfl
      · rfl
    · show ((s.durPage (pageOf e.line)).modEntry p fun e => { e with released := true }).wp.index = s.wp.index
      exact part_of_traffic Wp.index ((State.modEntry_traffic ..).trans s.nextSeq_allocs.traffic)
  next => rfl

theorem State.rollMs_touches (s : State) : ∃ relPrev relNow admitted relMs,
    s.rollMs = { s with wp := { s.wp with relPrev := relPrev, relNow := relNow, admitted := admitted, relMs := relMs } } := by
  unfold State.rollMs
  extract_lets m
  split
  · exact ⟨s.wp.relPrev, s.wp.relNow, s.wp.admitted, s.wp.relMs, rfl⟩
  · exact ⟨_, _, _, _, rfl⟩

/-- What is found in a table from which some keys are taken out was found before. -/
theorem tfind_of_filter_keys {γ : Type} {keep : Nat × γ → Bool} (hkeep : ∀ e e' : Nat × γ, e.1 = e'.1 → keep e = keep e') {m : Tbl γ} {k : Nat}
    {v : γ} (h : tfind (m.filter keep) k = some v) : tfind m k = some v := by
  induction m with
  | nil => exact h
  | cons e m ih =>
    unfold tfind
    rw [List.filter_cons] at h
    by_cases hkey : e.1 = k
    · rw [if_pos hkey]
      split at h
      · unfold tfind at h
        rwa [if_pos hkey] at h
      next hgone =>
        have hkept := List.of_mem_filter (mem_of_tfind h)
        exact absurd ((hkeep e (k, v) hkey).trans hkept) hgone
    · rw [if_neg hkey]
      split at h
      · unfold tfind at h
        rw [if_neg hkey] at h
        exact ih h
      · exact ih h

/-- Pairs that are freed take entries away and add none. -/
theorem State.ReleasedAt.freePairs {s : State} {p : Place} (h : s.ReleasedAt p) : s.freePairs.ReleasedAt p :=
  fun e he => h e (tfind_of_filter_keys (fun _ _ hkey => by rw [hkey]) he)

theorem exec_slotRelease_releases (s : State) : ∃ t : State, exec .slotRelease s = .next t ∧ t.fo.relQ = [] ∧ t.wp.index = s.wp.index ∧
    ∀ c ∈ s.fo.relQ, t.ReleasedAt (placeOf c) := by
  show ∃ t : State, execSlotRelease s = .next t ∧ _
  unfold execSlotRelease
  extract_lets rolled _ released _ _ kept
  obtain ⟨hrelQ, hrolledIndex⟩ : rolled.fo.relQ = s.fo.relQ ∧ rolled.wp.index = s.wp.index := by
    obtain ⟨_, _, _, _, hrolled⟩ := s.rollMs_touches
    exact ⟨by unfold rolled; rw [hrolled], by unfold rolled; rw [hrolled]⟩
  obtain ⟨hfo, hindex⟩ := Prod.mk.inj (foldl_keeps (fun s : State => (s.fo, s.wp.index)) State.releaseSlot_keeps rolled.fo.relQ
    { rolled with fo := { rolled.fo with relQ := [] } })
  have hreleased : ∀ c ∈ s.fo.relQ, released.ReleasedAt (placeOf c) := fun c hc =>
    foldl_releaseSlot_releases (.inl (by rw [hrelQ]; exact hc))
  have hkept : kept.fo.relQ = [] ∧ kept.wp.index = s.wp.index :=
    ⟨congrArg Fo.relQ hfo, hindex.trans hrolledIndex⟩
  have hfreed : ∀ c ∈ s.fo.relQ, kept.freePairs.ReleasedAt (placeOf c) := fun c hc => State.ReleasedAt.freePairs (s := kept) (hreleased c hc)
  have hfreedKeeps : kept.freePairs.fo.relQ = [] ∧ kept.freePairs.wp.index = s.wp.index := hkept
  generalize kept.freePairs = freed at hfreed hfreedKeeps ⊢
  have hentries : freed.judgeMarks.wp.entries = freed.wp.entries := by rw [State.judgeMarks_wp]
  have hjudgedIndex : freed.judgeMarks.wp.index = freed.wp.index := by rw [State.judgeMarks_wp]
  have hjudgedFo := freed.judgeMarks_fo
  generalize freed.judgeMarks = judged at hentries hjudgedIndex hjudgedFo ⊢
  obtain ⟨_, _, hdone⟩ := s.done_touches judged
  refine ⟨_, hdone, (congrArg Fo.relQ hjudgedFo).trans hfreedKeeps.1, hjudgedIndex.trans hfreedKeeps.2, fun c hc e he => ?_⟩
  refine hfreed c hc e ?_
  unfold State.entryAt at he ⊢
  rw [← hentries]
  exact he

/-! ### Checkpoint pieces (R109) -/

theorem exec_checkpointPieceWrite_records (s : State) (piece : Nat) : ∃ t : State, exec (.checkpointPieceWrite piece) s = .next t ∧
    tfind t.fo.pieces piece = some s.wp.seq := by
  show ∃ t : State, execCheckpointPieceWrite piece s = .next t ∧ _
  unfold execCheckpointPieceWrite
  extract_lets _ journaled _ recorded
  have hrecorded : tfind recorded.fo.pieces piece = some s.wp.seq := tfind_tins_same _ piece s.wp.seq
  split
  · exact ⟨_, rfl, hrecorded⟩
  · exact ⟨_, rfl, hrecorded⟩

/-! ### The obligation -/

/-- Settles O41: each command of a band's life leaves what the band's own operation leaves (issue, close, pass, abandon, switch, release); the
index loses a gathered line exactly where `foldRemove` finds its record unchanged. -/
theorem bandsProgramCommitAndSwitch : Obligations.BandsProgramCommitAndSwitch := by
  unfold Obligations.BandsProgramCommitAndSwitch
  intro s b hb k
  refine ⟨exec_bandFillTimeout_issues hb, fun q => exec_openSegmentForceClose_closes,
    fun hphase hset => ⟨fun failed r => exec_bandProgramComplete_commits hb hphase hset,
      fun p r => exec_bandProgramComplete_abandons hb hphase hset⟩,
    fun p hphase hset hframes hgran hfold hstate hqueue => ?_, exec_slotRelease_releases s, exec_checkpointPieceWrite_records s⟩
  obtain ⟨t, hexec, hswitched⟩ := exec_bandCommitVerified_switches hb hphase hset hframes hgran hfold hstate hqueue
  exact ⟨t, hexec, hswitched.state, hswitched.lane, hswitched.frame, hswitched.removed, hswitched.kept⟩

end Sys2Proof.Machine
end

section
/-! PROOFS. Statements about wear (05_folding_and_wear.md): what the copy engine of a set leaves of the segments in use, and which segment it opens
for output (R117, R121, Table 05-10; 09_redundancy_and_degraded.md R225, R226). -/

namespace Sys2Proof.Machine

open Sys2Proof.Laws

/-! ### The numbers of a lane's segments -/

theorem segCode_lane {q : SegKey} (h : q.seg < 2 ^ 32) : segCode q / 2 ^ 32 = laneCode q.set q.lane := by
  unfold segCode laneCode
  omega

theorem segCode_seg {q : SegKey} (h : q.seg < 2 ^ 32) : segCode q % 2 ^ 32 = q.seg := by
  unfold segCode
  omega

theorem mem_tput_of_mem {β : Type} [DecidableEq β] {d : β} {m : Tbl β} {k : Nat} {v : β} {p : Nat × β} (h : p ∈ m) (hk : p.1 ≠ k) :
    p ∈ tput d k v m := by
  unfold tput
  split
  · exact List.mem_filter.2 ⟨h, by simpa using hk⟩
  · induction m with
    | nil => cases h
    | cons e m ih =>
      unfold tins
      split
      · exact List.mem_cons_of_mem _ h
      · split
        next hkey =>
          refine List.mem_cons_of_mem _ ((List.mem_cons.1 h).resolve_left ?_)
          rintro rfl
          exact hk hkey.symm
        next => exact (List.mem_cons.1 h).elim (fun he => he ▸ List.mem_cons_self) fun h => List.mem_cons_of_mem _ (ih h)

theorem foldl_choice_mem {α : Type} {f : α → α → α} (hf : ∀ b x, f b x = x ∨ f b x = b) (l : List α) (p : α) : l.foldl f p ∈ p :: l := by
  induction l generalizing p with
  | nil => exact List.mem_cons_self
  | cons x l ih =>
    rw [List.foldl_cons]
    rcases List.mem_cons.1 (ih (f p x)) with h | h
    · rcases hf p x with hx | hp
      · rw [h, hx]
        exact List.mem_cons_of_mem _ List.mem_cons_self
      · rw [h, hp]
        exact List.mem_cons_self
    · exact List.mem_cons_of_mem _ (List.mem_cons_of_mem _ h)

/-! ### The free segment that is taken (R121) -/

section
variable {s : State} {k : Fin 4} {l : Fin 16} {n : Nat}

theorem State.segsPerLane_lt (s : State) : s.segsPerLane < 2 ^ 32 := by
  exact lt_of_le_of_lt (Nat.sub_le ..) (by omega)

/-- A segment of a lane that the table does not list was never used. -/
theorem State.seg_of_unlisted (hn : n < 2 ^ 32) (h : n ∉ (s.laneSegs k l).map (·.1)) : s.seg ⟨k, l, n⟩ = Segment.free := by
  by_contra hused
  exact h (List.mem_map.2 ⟨_, State.mem_laneSegs.2 ⟨_, State.mem_segs_of_used hused, segCode_lane hn, rfl⟩, segCode_seg hn⟩)

theorem State.freshSeg_unlisted (h : s.freshSeg k l = some n) : n ∉ (s.laneSegs k l).map (·.1) ∧ n < s.segsPerLane := by
  obtain ⟨hfind, hroom⟩ := Option.filter_eq_some_iff.1 h
  exact ⟨by simpa using List.find?_some hfind, by simpa using hroom⟩

/-- A lane has a segment never used exactly where some number of it is not listed: the numbers listed cannot fill a longer range. -/
theorem State.freshSeg_isSome : (s.freshSeg k l).isSome = true ↔ ∃ n < s.segsPerLane, n ∉ (s.laneSegs k l).map (·.1) := by
  refine ⟨fun h => ?_, fun ⟨n, hroom, hn⟩ => ?_⟩
  · obtain ⟨n, hn⟩ := Option.isSome_iff_exists.1 h
    exact ⟨n, (State.freshSeg_unlisted hn).2, (State.freshSeg_unlisted hn).1⟩
  · unfold State.freshSeg
    extract_lets used
    have hfind : ((List.range (used.length + 1)).find? fun n => !used.contains n).isSome = true := by
      by_contra hnone
      have hall : List.range (used.length + 1) ⊆ used := fun m hm => by
        simpa using List.find?_eq_none.1 (Option.not_isSome_iff_eq_none.1 hnone) m hm
      have hlength := (List.subperm_of_subset List.nodup_range hall).length_le
      rw [List.length_range] at hlength
      omega
    obtain ⟨m, hm⟩ := Option.isSome_iff_exists.1 hfind
    obtain ⟨_, hrange, hleast⟩ := List.find?_range_eq_some.1 hm
    have hle : m ≤ n := by
      by_contra hlt
      have hused : n ∈ used := by simpa using hleast n (by omega)
      exact hn hused
    rw [hm]
    simp only [Option.filter_some, decide_eq_true (lt_of_le_of_lt hle hroom), if_true, Option.isSome_some]

/-- The segments that can be taken: those listed as free, and the one never used. -/
theorem State.takeSeg_mem {hot : Bool} (h : s.takeSeg k l hot = some n) :
    (∃ p ∈ s.laneSegs k l, p.1 = n ∧ (s.seg ⟨k, l, p.1⟩).state = .free) ∨ s.freshSeg k l = some n := by
  unfold State.takeSeg at h
  extract_lets free fresh all at h
  have hall : ∀ p ∈ all, (∃ p' ∈ s.laneSegs k l, p'.1 = p.1 ∧ (s.seg ⟨k, l, p'.1⟩).state = .free) ∨ s.freshSeg k l = some p.1 := by
    intro p hp
    have hmem : p ∈ free ∨ p ∈ fresh := by
      unfold all at hp
      split at hp
      · exact (List.mem_append.1 hp).symm
      · exact List.mem_append.1 hp
    refine hmem.imp (fun hfree => ?_) fun hfresh => ?_
    · exact ⟨p, List.mem_of_mem_filter hfree, rfl, by simpa using List.of_mem_filter hfree⟩
    · obtain ⟨m, hm, rfl⟩ := List.mem_map.1 hfresh
      exact Option.mem_toList.1 hm
  clear_value all
  split at h
  · cases h
  next p ps =>
    cases h
    refine hall _ (foldl_choice_mem (fun b x => ?_) ps p)
    split
    · exact ite_eq_or_eq ..
    · exact ite_eq_or_eq ..

theorem State.takeSeg_free {hot : Bool} (h : s.takeSeg k l hot = some n) : (s.seg ⟨k, l, n⟩).state = .free := by
  rcases State.takeSeg_mem h with ⟨p, _, rfl, hfree⟩ | hfresh
  · exact hfree
  · obtain ⟨hunlisted, hroom⟩ := State.freshSeg_unlisted hfresh
    rw [State.seg_of_unlisted (hroom.trans s.segsPerLane_lt) hunlisted]
    rfl

/-- A segment can be taken exactly where one is listed as free or one was never used. -/
theorem State.takeSeg_isSome {hot : Bool} : (s.takeSeg k l hot).isSome = true ↔
    (∃ p ∈ s.laneSegs k l, (s.seg ⟨k, l, p.1⟩).state = .free) ∨ (s.freshSeg k l).isSome = true := by
  refine ⟨fun h => ?_, fun h => ?_⟩
  · obtain ⟨n, hn⟩ := Option.isSome_iff_exists.1 h
    exact (State.takeSeg_mem hn).imp (fun ⟨p, hp, _, hfree⟩ => ⟨p, hp, hfree⟩) Option.isSome_of_eq_some
  · unfold State.takeSeg
    extract_lets free fresh all
    have hsome : ∃ p, p ∈ free ∨ p ∈ fresh := by
      rcases h with ⟨p, hp, hfree⟩ | hfresh
      · exact ⟨p, .inl (List.mem_filter.2 ⟨hp, by simp [hfree]⟩)⟩
      · obtain ⟨n, hn⟩ := Option.isSome_iff_exists.1 hfresh
        exact ⟨(n, Segment.free), .inr (List.mem_map.2 ⟨n, Option.mem_toList.2 hn, rfl⟩)⟩
    obtain ⟨p, hp⟩ := hsome
    have hmem : p ∈ all := by
      unfold all
      split
      · exact List.mem_append.2 hp.symm
      · exact List.mem_append.2 hp
    clear_value all
    cases all with
    | nil => cases hmem
    | cons => rfl

end

/-! ### What the copy engine keeps -/

/-- The index, the destinations of wear-levelling copies, and the state of every segment that is not free. -/
structure State.CopiesKeep (s t : State) : Prop where
  index : t.wp.index = s.wp.index
  wearTo : t.fo.wearTo = s.fo.wearTo
  state : ∀ q, (s.seg q).state ≠ .free → (t.seg q).state = (s.seg q).state

theorem State.CopiesKeep.of_parts {s t : State} (hindex : t.wp.index = s.wp.index) (hwearTo : t.fo.wearTo = s.fo.wearTo)
    (hsegs : t.fo.segs = s.fo.segs) : s.CopiesKeep t :=
  ⟨hindex, hwearTo, fun q _ => by unfold State.seg; rw [hsegs]⟩

theorem State.CopiesKeep.of_fo {s t : State} (hfo : t.fo = s.fo) (hindex : t.wp.index = s.wp.index) : s.CopiesKeep t :=
  .of_parts hindex (by rw [hfo]) (by rw [hfo])

theorem State.CopiesKeep.refl (s : State) : s.CopiesKeep s := .of_fo rfl rfl

theorem State.CopiesKeep.trans {s t u : State} (h : s.CopiesKeep t) (h' : t.CopiesKeep u) : s.CopiesKeep u :=
  ⟨h'.index.trans h.index, h'.wearTo.trans h.wearTo, fun q hq =>
    (h'.state q fun hfree => hq ((h.state q hq).symm.trans hfree)).trans (h.state q hq)⟩

theorem foldl_copiesKeep {α : Type} {f : State → α → State} (hf : ∀ (s : State) (x : α), s.CopiesKeep (f s x)) (l : List α) (s : State) :
    s.CopiesKeep (l.foldl f s) := by
  induction l generalizing s with
  | nil => exact .refl s
  | cons x l ih => exact (hf s x).trans (ih _)

section
variable (s : State)

theorem State.setSeg_copiesKeep {k : SegKey} {x : Segment} (h : (s.seg k).state = .free ∨ x.state = (s.seg k).state) :
    s.CopiesKeep (s.setSeg k x) := by
  refine ⟨rfl, rfl, fun q hq => ?_⟩
  rw [State.setSeg_seg]
  split
  next hcode =>
    have hsame : s.seg q = s.seg k := by unfold State.seg; rw [hcode]
    rw [hsame] at hq ⊢
    exact h.resolve_left hq
  next => rfl

theorem State.rd_copiesKeep (rd : Rd) : s.CopiesKeep { s with rd := rd } := .of_fo rfl rfl

theorem State.journal_copiesKeep (r : MetaRec) : s.CopiesKeep (s.journal r) := by
  obtain ⟨_, hfo⟩ := s.journal_fo r
  exact .of_parts (s.journal_wp_index r) (by rw [hfo]) (by rw [hfo])

theorem State.queueMove_copiesKeep (k : Fin 4) (l : Fin 16) (n : Nat) : s.CopiesKeep (s.queueMove k l n) := by
  unfold State.queueMove
  extract_lets i old _ moved
  have hmoved : s.CopiesKeep moved := .of_parts rfl rfl rfl
  split
  · exact hmoved.trans (.of_fo (State.event_fo ..) (by rw [State.event_wp]))
  · exact hmoved

theorem State.useSpare_copiesKeep (d : DieKey) : s.CopiesKeep (s.useSpare d) :=
  .of_parts (by rw [State.useSpare_wp]) ((s.useSpare_spares d).part Fo.wearTo) ((s.useSpare_spares d).part Fo.segs)

/-! ### A segment is opened -/

theorem State.dissolve_copiesKeep {t : State} {seg : SegKey} (h : s.dissolve seg = some t) : s.CopiesKeep t := by
  unfold State.dissolve at h
  split at h
  · cases h
  next n hn =>
    have hfree := s.setSeg_copiesKeep (x := { s.seg ⟨seg.set, seg.lane, n⟩ with state := .retired }) (.inl (State.takeSeg_free hn))
    extract_lets key _ moved up at h
    have hmoved : s.CopiesKeep moved := hfree.trans (State.queueMove_copiesKeep ..)
    cases h
    exact hmoved.trans (.of_fo rfl rfl)

theorem State.takeBlock_copiesKeep {t : State} {seg : SegKey} {p : Fin 16} (h : s.takeBlock seg p = some t) : s.CopiesKeep t := by
  unfold State.takeBlock at h
  extract_lets use i at h
  split at h
  · cases h
    exact s.rd_copiesKeep _
  · split at h
    next u hu =>
      cases h
      split at hu
      · exact (s.dissolve_copiesKeep hu).trans (u.rd_copiesKeep _)
      · cases hu
    next =>
      split at h
      · cases h
        exact s.useSpare_copiesKeep _
      · cases h

theorem State.standIn_copiesKeep {t : State} {seg : SegKey} {pos : Fin 16} (h : s.standIn seg pos = some t) : s.CopiesKeep t := by
  unfold State.standIn at h
  split at h
  · cases h
  · split at h
    · cases h
    next u hu =>
      cases h
      exact (s.takeBlock_copiesKeep hu).trans ((u.rd_copiesKeep _).trans (State.journal_copiesKeep ..))

theorem State.standInsFor_copiesKeep (seg : SegKey) : s.CopiesKeep (s.standInsFor seg) := by
  refine foldl_copiesKeep (fun u p => ?_) _ s
  split
  · split
    next t ht => exact u.standIn_copiesKeep ht
    next => exact u.setSeg_copiesKeep (.inr rfl)
  · exact .refl u

theorem State.openSeg_copiesKeep (k : Fin 4) (l : Fin 16) (hot : Bool) : s.CopiesKeep (s.openSeg k l hot).2 := by
  unfold State.openSeg
  split
  · exact .refl s
  next n hn =>
    extract_lets key _ opened moved
    have hopened : s.CopiesKeep opened := by
      unfold opened
      exact s.setSeg_copiesKeep (.inl (State.takeSeg_free hn))
    have hmoved : opened.CopiesKeep moved := by
      unfold moved
      exact (opened.journal_copiesKeep _).trans (State.queueMove_copiesKeep ..)
    dsimp only
    exact (hopened.trans hmoved).trans (moved.standInsFor_copiesKeep key)

theorem State.bandFor_copiesKeep (k : Fin 4) (l : Fin 16) (copy hot : Bool) (want : Option SegKey) :
    s.CopiesKeep (s.bandFor k l copy hot want).2 := by
  unfold State.bandFor
  split
  · exact .refl s
  · split
    · exact .refl s
    · split
      next seg u hu =>
        have hfound : s.CopiesKeep u := by
          split at hu
          · cases hu
            exact .refl s
          · rw [show u = (s.openSeg k l hot).2 from (congrArg Prod.snd hu).symm]
            exact s.openSeg_copiesKeep k l hot
        split
        · exact hfound
        · exact hfound.trans (.of_parts rfl rfl rfl)

/-! ### A victim's frames are copied (R117, R119, R141) -/

theorem State.placeFrame_copiesKeep (key : BandKey) (p : Placed) : s.CopiesKeep (s.placeFrame key p) := by
  unfold State.placeFrame
  obtain ⟨_, _, h⟩ := (s.modBand key fun b => { b with frames := b.frames ++ [p] }).issueWaiting_touches key.seg.set key.seg.lane
  rw [h]
  exact .of_parts rfl rfl rfl

theorem State.pmCount_copiesKeep (ev : Nat) (g : PmTag) : s.CopiesKeep (s.pmCount ev g) := by
  obtain ⟨_, _, h⟩ := s.pmCount_touches ev g
  rw [h]
  exact .of_fo rfl rfl

theorem State.copyFrame_copiesKeep (seg : SegKey) (frame : Nat) (f : Frame) : s.CopiesKeep (s.copyFrame seg frame f) := by
  unfold State.copyFrame
  split
  · exact .refl s
  · have hband := s.bandFor_copiesKeep seg.set seg.lane true false (s.wearDest seg)
    generalize s.bandFor seg.set seg.lane true false (s.wearDest seg) = found at hband ⊢
    obtain ⟨_ | key, u⟩ := found
    · exact hband
    · dsimp -zeta only at hband ⊢
      extract_lets i m mapped _ moved
      have hmoved : u.CopiesKeep moved := .of_parts rfl rfl rfl
      exact hband.trans (hmoved.trans ((State.placeFrame_copiesKeep ..).trans (State.pmCount_copiesKeep ..)))

theorem State.wantPilot_copiesKeep (b : BlockKey) : s.CopiesKeep (s.wantPilot b) :=
  .of_fo (s.wantPilot_fo b) (by rw [State.wantPilot_wp])

theorem State.wantPilots_copiesKeep (bs : List BlockKey) : s.CopiesKeep (s.wantPilots bs) := by
  refine foldl_copiesKeep (fun u b => ?_) bs s
  split
  · exact .refl u
  · exact u.wantPilot_copiesKeep b

theorem State.feedVictim_copiesKeep (k : Fin 4) (seg : SegKey) : s.CopiesKeep (s.feedVictim k seg) := by
  unfold State.feedVictim
  split
  · exact .refl s
  · extract_lets wanted
    have hwanted : s.CopiesKeep wanted := s.wantPilots_copiesKeep _
    split
    · exact hwanted
    · refine hwanted.trans (foldl_copiesKeep (fun u p => ?_) _ wanted)
      split
      · exact .refl u
      · exact u.copyFrame_copiesKeep ..

theorem State.feedCopies_copiesKeep (k : Fin 4) : s.CopiesKeep (s.feedCopies k) := by
  unfold State.feedCopies
  split
  · exact .refl s
  · exact (foldl_copiesKeep (fun u seg => u.feedVictim_copiesKeep k seg) s.fo.copyQ[k] s).trans (.of_parts rfl rfl rfl)

end

end Sys2Proof.Machine
end

section
/-! PROOFS. Statements about wear (05_folding_and_wear.md): a full segment becomes a victim, is reset once nothing in it is live or read, and is
free again; a channel is hot (R117, R119, R121, R124, R127, Table 05-10; 04_read_path.md R80). -/

namespace Sys2Proof.Machine

open Sys2Proof.Laws

/-! ### A full segment becomes a victim (R117) -/

section
variable {s : State} {q : SegKey}

/-- The segment is a victim; the index, the device's geometry and every other segment stand. -/
theorem State.victimize_full (hfull : (s.seg q).state = .full) (hroom : s.fo.copyQ[q.set].length < 256)
    (hset : s.kp.eolSets.contains q.set = false) : (s.victimize q).fo.segs = (s.setSeg q { s.seg q with state := .victim }).fo.segs ∧
      (s.victimize q).wp.index = s.wp.index ∧ (s.victimize q).hw = s.hw := by
  unfold State.victimize
  rw [if_pos ⟨hfull, hroom, hset⟩]
  exact ⟨rfl, rfl, rfl⟩

theorem State.victimize_victim (hfull : (s.seg q).state = .full) (hroom : s.fo.copyQ[q.set].length < 256)
    (hset : s.kp.eolSets.contains q.set = false) : ((s.victimize q).seg q).state = .victim := by
  have hseg : (s.victimize q).seg q = (s.setSeg q { s.seg q with state := .victim }).seg q := by
    unfold State.seg
    rw [(State.victimize_full hfull hroom hset).1]
    rfl
  rw [hseg, State.setSeg_seg_same]

/-- The copy engine leaves a victim a victim. -/
theorem State.feedCopies_victim (h : (s.seg q).state = .victim) (k : Fin 4) : ((s.feedCopies k).seg q).state = .victim :=
  ((s.feedCopies_copiesKeep k).state q fun hfree => nomatch h.symm.trans hfree).trans h

theorem exec_copyOrder_victim (hset : s.kp.eolSets.contains q.set = false) (hroom : s.fo.copyQ[q.set].length < 256)
    (hfull : (s.seg q).state = .full) : ∃ t : State, exec (.copyOrder q) s = .next t ∧ (t.seg q).state = .victim ∧ t.wp.index = s.wp.index := by
  have hexec : exec (.copyOrder q) s = s.done ((s.victimize q).feedCopies q.set) := rfl
  have hvictim := State.victimize_victim hfull hroom hset
  have hindex := (State.victimize_full hfull hroom hset).2.1
  have hstate := State.feedCopies_victim hvictim q.set
  have hkeep := ((s.victimize q).feedCopies_copiesKeep q.set).index
  generalize (s.victimize q).feedCopies q.set = u at hexec hstate hkeep
  obtain ⟨_, _, hdone⟩ := s.done_touches u
  exact ⟨_, hexec.trans hdone, hstate, hkeep.trans hindex⟩

theorem exec_copyOrder_unchanged (hfull : (s.seg q).state ≠ .full) (hqueue : s.fo.copyQ[q.set] = []) : exec (.copyOrder q) s = .next s := by
  have hvictim : s.victimize q = s := if_neg fun h => hfull h.1
  show s.done ((s.victimize q).feedCopies q.set) = _
  rw [hvictim, State.feedCopies_of_empty hqueue]
  exact congrArg Host.Outcome.next s.pmEdges_self

/-! ### Wear levelling (R121) -/

/-- The entry of the table behind a listed segment. -/
theorem State.code_of_mem_laneSegs {k : Fin 4} {l : Fin 16} {x : Nat × Segment} (h : x ∈ s.laneSegs k l) :
    x.1 < 2 ^ 32 ∧ (segCode ⟨k, l, x.1⟩, x.2) ∈ s.fo.segs := by
  obtain ⟨p, hp, hlane, rfl⟩ := State.mem_laneSegs.1 h
  have hseg : p.1 % 2 ^ 32 < 2 ^ 32 := Nat.mod_lt _ (by decide)
  have hcode : segCode ⟨k, l, p.1 % 2 ^ 32⟩ = p.1 := by
    unfold segCode
    unfold laneCode at hlane
    dsimp only
    omega
  exact ⟨hseg, by rw [hcode]; exact hp⟩

theorem State.mem_laneSegs_of_code {k : Fin 4} {l : Fin 16} {x : Nat × Segment} (hn : x.1 < 2 ^ 32)
    (h : (segCode ⟨k, l, x.1⟩, x.2) ∈ s.fo.segs) : x ∈ s.laneSegs k l :=
  State.mem_laneSegs.2 ⟨_, h, segCode_lane hn, Prod.ext (segCode_seg (q := ⟨k, l, x.1⟩) hn) rfl⟩

/-- A full segment of the lane that becomes a victim leaves every segment that can be taken. -/
theorem State.takeSeg_setSeg {k : Fin 4} {l : Fin 16} {hot : Bool} {n : Nat} {x y : Segment} (hx : (n, x) ∈ s.laneSegs k l)
    (hfull : (s.seg ⟨k, l, n⟩).state ≠ .free) (h : (s.takeSeg k l hot).isSome = true) :
    ((s.setSeg ⟨k, l, n⟩ y).takeSeg k l hot).isSome = true := by
  obtain ⟨hn, hentry⟩ := State.code_of_mem_laneSegs hx
  rw [State.takeSeg_isSome] at h ⊢
  refine h.imp ?_ ?_
  · rintro ⟨p, hp, hfree⟩
    obtain ⟨hp', hlisted⟩ := State.code_of_mem_laneSegs hp
    have hcode : segCode ⟨k, l, p.1⟩ ≠ segCode ⟨k, l, n⟩ := by
      intro hsame
      have hseg : s.seg ⟨k, l, p.1⟩ = s.seg ⟨k, l, n⟩ := by unfold State.seg; rw [hsame]
      exact hfull (hseg ▸ hfree)
    refine ⟨p, State.mem_laneSegs_of_code hp' (mem_tput_of_mem hlisted hcode), ?_⟩
    rw [State.setSeg_seg, if_neg hcode]
    exact hfree
  · rw [State.freshSeg_isSome, State.freshSeg_isSome]
    rintro ⟨m, hroom, hm⟩
    refine ⟨m, hroom, fun hlisted => hm ?_⟩
    obtain ⟨p, hp, rfl⟩ := List.mem_map.1 hlisted
    obtain ⟨hp', hcode⟩ := State.code_of_mem_laneSegs hp
    rcases mem_tput hcode with hsame | hold
    · have hnumber : p.1 = n := calc
        p.1 = segCode ⟨k, l, p.1⟩ % 2 ^ 32 := (segCode_seg (q := ⟨k, l, p.1⟩) hp').symm
        _ = segCode ⟨k, l, n⟩ % 2 ^ 32 := by rw [(Prod.mk.inj hsame).1]
        _ = n := segCode_seg (q := ⟨k, l, n⟩) hn
      rw [hnumber]
      exact List.mem_map.2 ⟨_, hx, rfl⟩
    · exact List.mem_map.2 ⟨_, State.mem_laneSegs_of_code hp' hold, rfl⟩

theorem State.takeSeg_congr {t : State} (hsegs : t.fo.segs = s.fo.segs) (hhw : t.hw = s.hw) (k : Fin 4) (l : Fin 16) (hot : Bool) :
    t.takeSeg k l hot = s.takeSeg k l hot := by
  unfold State.takeSeg State.freshSeg State.laneSegs State.segsPerLane State.seg
  rw [hsegs, hhw]

theorem State.openSeg_isSome {k : Fin 4} {l : Fin 16} {hot : Bool} (h : (s.takeSeg k l hot).isSome = true) :
    ∃ d u, s.openSeg k l hot = (some d, u) := by
  obtain ⟨n, hn⟩ := Option.isSome_iff_exists.1 h
  unfold State.openSeg
  rw [hn]
  exact ⟨_, _, rfl⟩

/-- What a wear-levelling copy of a segment leaves. -/
structure State.WearCopied (s : State) (q : SegKey) (t : State) : Prop where
  victim : (t.seg q).state = .victim
  index : t.wp.index = s.wp.index
  dest : ((s.victimize q).takeSeg q.set q.lane false).isSome = true → ∃ d, (q, d) ∈ t.fo.wearTo

theorem State.wearCopy_wearCopied (hfull : (s.seg q).state = .full) (hroom : s.fo.copyQ[q.set].length < 256)
    (hset : s.kp.eolSets.contains q.set = false) : s.WearCopied q (s.wearCopy q) := by
  have hvictim := State.victimize_victim hfull hroom hset
  have hindex := (State.victimize_full hfull hroom hset).2.1
  have hopened := (s.victimize q).openSeg_copiesKeep q.set q.lane false
  have hdest : ((s.victimize q).takeSeg q.set q.lane false).isSome = true →
      ∃ d u, (s.victimize q).openSeg q.set q.lane false = (some d, u) := State.openSeg_isSome
  unfold State.wearCopy
  extract_lets v
  rw [if_pos hvictim]
  have hstill := hopened.state q fun hfree => nomatch hvictim.symm.trans hfree
  generalize v.openSeg q.set q.lane false = found at hopened hdest hstill ⊢
  obtain ⟨_ | d, u⟩ := found
  · refine ⟨State.feedCopies_victim (hstill.trans hvictim) q.set,
      (u.feedCopies_copiesKeep q.set).index.trans (hopened.index.trans hindex), fun hsome => ?_⟩
    obtain ⟨_, _, hnone⟩ := hdest hsome
    cases hnone
  · dsimp -zeta only
    have hkeep := State.feedCopies_copiesKeep { u with fo := { u.fo with wearTo := (q, d) :: u.fo.wearTo } } q.set
    refine ⟨State.feedCopies_victim (s := { u with fo := { u.fo with wearTo := (q, d) :: u.fo.wearTo } }) (hstill.trans hvictim) q.set,
      hkeep.index.trans (hopened.index.trans hindex), fun _ => ⟨d, ?_⟩⟩
    rw [hkeep.wearTo]
    exact List.mem_cons_self

theorem foldl_min_le {α : Type} (f : α → Nat) (l : List α) (m : Nat) : l.foldl (fun m x => min m (f x)) m ≤ m := by
  induction l generalizing m with
  | nil => exact le_rfl
  | cons x l ih => exact (ih _).trans (min_le_left ..)

theorem le_foldl_max {α : Type} (f : α → Nat) {l : List α} {x : α} (m : Nat) (h : f x ≤ m ∨ x ∈ l) :
    f x ≤ l.foldl (fun m x => max m (f x)) m := by
  induction l generalizing m with
  | nil => exact h.resolve_right List.not_mem_nil
  | cons y l ih =>
    refine ih _ ?_
    rcases h with hm | hx
    · exact .inl (hm.trans (le_max_left ..))
    · rcases List.mem_cons.1 hx with rfl | hx
      · exact .inl (le_max_right ..)
      · exact .inr hx

theorem exec_wearLevelCopy_copies {k : Fin 4} {l : Fin 16} {n : Nat} {x : Segment} (hset : s.kp.eolSets.contains k = false)
    (hroom : s.fo.copyQ[k].length < 256) (hfull : (s.laneSegs k l).filter (fun p => p.2.state == .full) = [(n, x)])
    (hseg : s.seg ⟨k, l, n⟩ = x) (hworn : ∃ p ∈ s.laneSegs k l, x.resets + 2000 < p.2.resets) :
    ∃ t : State, exec (.wearLevelCopy k l) s = .next t ∧ (t.seg ⟨k, l, n⟩).state = .victim ∧ t.wp.index = s.wp.index ∧
      ((s.takeSeg k l false).isSome = true → ∃ d, (⟨k, l, n⟩, d) ∈ t.fo.wearTo) := by
  have hmem : (n, x) ∈ (s.laneSegs k l).filter fun p => p.2.state == .full := by rw [hfull]; exact List.mem_cons_self
  have hlisted := List.mem_of_mem_filter hmem
  have hstate : (s.seg ⟨k, l, n⟩).state = .full := by rw [hseg]; simpa using List.of_mem_filter hmem
  have hexec : exec (.wearLevelCopy k l) s = s.done (s.wearCopy ⟨k, l, n⟩) := by
    show execWearLevelCopy k l s = _
    unfold execWearLevelCopy
    extract_lets segs top full
    have hone : full = [(n, x)] := hfull
    rw [hone]
    refine if_pos ?_
    obtain ⟨p, hp, hspan⟩ := hworn
    have hlow := foldl_min_le (fun p : Nat × Segment => p.2.resets) segs (if (s.freshSeg k l).isSome then 0 else x.resets)
    have hfirst : (if (s.freshSeg k l).isSome then 0 else x.resets) ≤ x.resets := by
      split
      · exact Nat.zero_le _
      · exact le_rfl
    have htop : p.2.resets ≤ top := le_foldl_max (fun p : Nat × Segment => p.2.resets) 0 (.inr hp)
    dsimp only
    omega
  have hcopied := State.wearCopy_wearCopied (q := ⟨k, l, n⟩) hstate hroom hset
  have hsome : (s.takeSeg k l false).isSome = true → ((s.victimize ⟨k, l, n⟩).takeSeg k l false).isSome = true := by
    intro h
    obtain ⟨hsegs, _, hhw⟩ := State.victimize_full (q := ⟨k, l, n⟩) hstate hroom hset
    rw [State.takeSeg_congr hsegs hhw]
    exact State.takeSeg_setSeg hlisted (fun hfree => nomatch hstate.symm.trans hfree) h
  generalize s.wearCopy ⟨k, l, n⟩ = u at hexec hcopied
  obtain ⟨_, _, hdone⟩ := s.done_touches u
  exact ⟨_, hexec.trans hdone, hcopied.victim, hcopied.index, fun h => hcopied.dest (hsome h)⟩

/-! ### Reset (R80, R117) -/

/-- What R117 and R80 ask of a segment that is to be reset. -/
def State.MayReset (s : State) (q : SegKey) : Prop := (s.seg q).state = .victim ∧ (s.liveFrames q).isEmpty = true ∧ s.segRead q = false ∧
  s.kp.eolSets.contains q.set = false ∧ s.setFrozen q.set = false

theorem exec_segmentReset_resets (h : s.MayReset q) : ∃ t : State, exec (.segmentReset q) s = .next t ∧ (t.seg q).state = .resetting ∧
    (t.seg q).resets = (s.seg q).resets ∧ t.fo.map = s.fo.map ∧ t.fo.frames = s.fo.frames ∧ t.wp = s.wp := by
  have hexec : exec (.segmentReset q) s = .next ((segBlocks q).foldl (fun s b => s.vyvon (vyPeat b) .reset)
      (s.setSeg q { s.seg q with state := .resetting })) := if_pos h
  have hseg := s.setSeg_seg_same q { s.seg q with state := .resetting }
  have hstate := congrArg Segment.state hseg
  have hresets := congrArg Segment.resets hseg
  have hparts : ((s.setSeg q { s.seg q with state := .resetting }).fo.map, (s.setSeg q { s.seg q with state := .resetting }).fo.frames,
      (s.setSeg q { s.seg q with state := .resetting }).wp) = (s.fo.map, s.fo.frames, s.wp) := rfl
  generalize s.setSeg q { s.seg q with state := .resetting } = v at hexec hstate hresets hparts
  obtain ⟨hmap, hframes, hwp⟩ : v.fo.map = s.fo.map ∧ v.fo.frames = s.fo.frames ∧ v.wp = s.wp := by simpa using hparts
  obtain ⟨out, hsent⟩ := foldl_vyvon_touches vyPeat (fun _ => .reset) (segBlocks q) v
  exact ⟨_, hexec.trans (congrArg Host.Outcome.next hsent), hstate, hresets, hmap, hframes, hwp⟩

theorem exec_segmentReset_unchanged (h : ¬ s.MayReset q) : exec (.segmentReset q) s = .next s := if_neg h

end

end Sys2Proof.Machine
end

section
/-! PROOFS. Statements about wear (05_folding_and_wear.md): the reset of a segment ends, and a channel is hot (R105, R117, R127, Table 05-11). -/

namespace Sys2Proof.Machine

open Sys2Proof.Laws

/-! ### The end of a reset (R117) -/

theorem foldl_retireBlock_retired {cause : Nat} {l : List BlockKey} {s : State} {b : BlockKey} (h : b ∈ l ∨ b ∈ s.fo.retired) :
    b ∈ (l.foldl (fun s b => s.retireBlock b cause) s).fo.retired := by
  induction l generalizing s with
  | nil => exact h.resolve_left List.not_mem_nil
  | cons c l ih =>
    refine ih ?_
    rw [State.retireBlock_retired]
    rcases h with hb | hb
    · rcases List.mem_cons.1 hb with rfl | hb
      · exact .inr List.mem_cons_self
      · exact .inl hb
    · exact .inr (List.mem_cons_of_mem _ hb)

theorem State.resetDrift_touches (s : State) (k : SegKey) : ∃ dr, s.resetDrift k = { s with dr := dr } := by
  have hblocks : ∀ (l : List (Fin 16)) (u : State), ∃ dr, l.foldl (fun (s : State) p => s.modDrBlk ⟨k, p⟩ fun x =>
      { x with mcls := if x.mcls = .refresh ∨ x.mcls = .failing then .good else x.mcls }) u = { u with dr := dr } := by
    intro l
    induction l with
    | nil => exact fun u => ⟨u.dr, rfl⟩
    | cons p l ih => exact fun u => ih (u.modDrBlk ⟨k, p⟩ _)
  unfold State.resetDrift
  extract_lets _ cleared
  exact hblocks (allFin 16) cleared

theorem State.queueMove_fo (s : State) (k : Fin 4) (l : Fin 16) (n : Nat) : ∃ queued, (s.queueMove k l n).fo = { s.fo with queued := queued } := by
  unfold State.queueMove
  extract_lets i old _ moved
  refine ⟨s.fo.queued.set i n, ?_⟩
  split
  · exact State.event_fo ..
  · rfl

/-- The frames of a table of frames outside a segment. -/
def framesBut (q : SegKey) (frames : Tbl Frame) : Tbl Frame :=
  frames.filter fun f => !(f.1 / 2 ^ 32 == laneCode q.set q.lane && f.1 % 2 ^ 32 / 70 == q.seg)

/-- What the end of a segment's reset leaves, with a spare block for each block that failed. -/
structure State.ResetDone (s : State) (q : SegKey) (failed : List Nat) (t : State) : Prop where
  seg : t.seg q = { s.seg q with state := .free, bands := 0, resets := (s.seg q).resets + 1, lost := [] }
  frames : t.fo.frames = framesBut q s.fo.frames
  map : t.fo.map = s.fo.map
  retired : ∀ b ∈ failedBlocks q failed, b ∈ t.fo.retired

section
variable {s : State} {q : SegKey}

theorem State.ResetDone.of_fo {failed : List Nat} {t u : State} (h : s.ResetDone q failed t) (hsegs : u.fo.segs = t.fo.segs)
    (hframes : u.fo.frames = t.fo.frames) (hmap : u.fo.map = t.fo.map) (hretired : u.fo.retired = t.fo.retired) : s.ResetDone q failed u where
  seg := by unfold State.seg; rw [hsegs]; exact h.seg
  frames := hframes.trans h.frames
  map := hmap.trans h.map
  retired b hb := hretired ▸ h.retired b hb

section
variable {failed : List Nat} {t : State} (h : s.ResetDone q failed t)
include h

theorem State.ResetDone.resetDrift (k : SegKey) : s.ResetDone q failed (t.resetDrift k) := by
  obtain ⟨_, hdrift⟩ := t.resetDrift_touches k
  rw [hdrift]
  exact h.of_fo rfl rfl rfl rfl

theorem State.ResetDone.queueMove (k : Fin 4) (l : Fin 16) (n : Nat) : s.ResetDone q failed (t.queueMove k l n) := by
  obtain ⟨_, hmoved⟩ := t.queueMove_fo k l n
  exact h.of_fo (by rw [hmoved]) (by rw [hmoved]) (by rw [hmoved]) (by rw [hmoved])

theorem State.ResetDone.judgeLane (k : Fin 4) (l : Fin 16) : s.ResetDone q failed (t.judgeLane k l) := h.of_fo rfl rfl rfl rfl

end

theorem exec_segmentResetComplete_done {failed : List Nat} (hstate : (s.seg q).state = .resetting)
    (hretiring : s.fo.retiring.any (fun p => p.1.seg == q) = false)
    (hspare : ∀ b ∈ failedBlocks q failed, 0 < s.dieSpare (blockDie b)) :
    ∃ t : State, exec (.segmentResetComplete q failed) s = .next t ∧ s.ResetDone q failed t := by
  show ∃ t : State, execSegmentResetComplete q failed s = .next t ∧ _
  unfold execSegmentResetComplete
  rw [if_pos hstate]
  extract_lets bad later gone t₁ t₂ _ t₃ x t₄ t₅ t₆
  have hbad : bad = failedBlocks q failed := rfl
  have hlater : later = [] := List.filter_eq_nil_iff.2 fun p hp => by
    have := List.any_eq_false.1 hretiring p hp
    simp [this]
  have hgone : gone = false := by
    unfold gone
    rw [hlater, hbad]
    refine List.any_eq_false.2 fun b hb => ?_
    have := hspare b (by simpa using hb)
    simpa using Nat.ne_of_gt this
  have hsame : t₂ = t₁ := by
    unfold t₂
    rw [hlater]
    rfl
  have hspares : s.Spares t₂ := hsame ▸ foldl_spares (fun u b => u.retireBlock_spares b 2) bad s
  have hretired : ∀ b ∈ failedBlocks q failed, b ∈ t₂.fo.retired := fun b hb => hsame ▸ foldl_retireBlock_retired (.inl hb)
  have hseg : x = s.seg q := congrArg (fun segs => tget Segment.free segs (segCode q)) (hspares.part Fo.segs)
  have hset : s.ResetDone q failed t₄ := by
    refine ⟨?_, ?_, hspares.part Fo.map, hretired⟩
    · unfold t₄
      rw [State.setSeg_seg_same, hgone, hseg]
      rfl
    · exact congrArg (framesBut q) (hspares.part Fo.frames)
  have hqueued : s.ResetDone q failed t₆ := by
    unfold t₆
    rw [hgone]
    exact (hset.resetDrift q).queueMove ..
  have hjudged := hqueued.judgeLane q.set q.lane
  generalize t₆.judgeLane q.set q.lane = judged at hjudged ⊢
  have hlife := s.lifeEdge_fo judged
  generalize s.lifeEdge judged = u at hlife ⊢
  obtain ⟨_, _, hdone⟩ := s.done_touches u
  exact ⟨_, hdone, hjudged.of_fo (congrArg Fo.segs hlife) (congrArg Fo.frames hlife) (congrArg Fo.map hlife) (congrArg Fo.retired hlife)⟩

/-- With its frames gone a segment holds no live one. -/
theorem State.liveFrames_of_framesBut {t : State} {frames : Tbl Frame} (hq : q.seg < 393216) (h : t.fo.frames = framesBut q frames) :
    t.liveFrames q = [] := by
  refine List.filterMap_eq_nil_iff.2 fun i hi => ?_
  have hi := List.mem_range.1 hi
  have hnone : tfind t.fo.frames (frameCode q.set q.lane (q.seg * 70 + i)) = none := by
    cases hfind : tfind t.fo.frames (frameCode q.set q.lane (q.seg * 70 + i)) with
    | none => rfl
    | some f =>
      rw [h] at hfind
      have hkept := List.of_mem_filter (mem_of_tfind hfind)
      have hlane : frameCode q.set q.lane (q.seg * 70 + i) / 2 ^ 32 = laneCode q.set q.lane := by unfold frameCode; omega
      have hnumber : frameCode q.set q.lane (q.seg * 70 + i) % 2 ^ 32 = q.seg * 70 + i := by unfold frameCode; omega
      have hframe : frameCode q.set q.lane (q.seg * 70 + i) % 2 ^ 32 / 70 = q.seg := by rw [hnumber]; omega
      rw [hlane, hframe] at hkept
      simp at hkept
  rw [hnone]

end

/-! ### Hot channels (R127) -/

theorem exec_hotspotDetect_hot (s : State) (c : Fin 64) (ticks p r : Nat) : ∃ t : State, exec (.hotspotDetect c ticks p r) s = .next t ∧
    t.wp = { s.wp with hot := s.wp.hot.set c (decide (800000 < 2 * ticks)) } := by
  show ∃ t : State, execHotspotDetect c ticks p r s = .next t ∧ _
  unfold execHotspotDetect
  extract_lets hot was _ judged
  refine ⟨_, rfl, ?_⟩
  split
  · rw [State.event_wp]
    rfl
  · rfl

/-! ### The obligation -/

/-- Settles O42: a victim stays one through the copy engine (`CopiesKeep`), a segment without live frames or reads is reset, and its table entry
and frames are cleared when the reset ends. -/
theorem segmentsAreCopiedAndReset : Obligations.SegmentsAreCopiedAndReset := by
  unfold Obligations.SegmentsAreCopiedAndReset
  intro s q
  refine ⟨fun hset hroom => ⟨exec_copyOrder_victim hset hroom, fun n x => exec_wearLevelCopy_copies hset hroom⟩,
    exec_copyOrder_unchanged, ⟨exec_segmentReset_resets, exec_segmentReset_unchanged⟩, fun hstate hq hretiring => ⟨?_, fun p hspare => ?_⟩,
    fun c ticks p r => ?_⟩
  · obtain ⟨t, hexec, hdone⟩ := exec_segmentResetComplete_done (failed := []) hstate hretiring fun b hb => nomatch hb
    refine ⟨t, hexec, ?_, ?_, ?_, ?_, hdone.map⟩
    · rw [hdone.seg]
    · rw [hdone.seg]
    · rw [hdone.seg]
    · rw [State.liveFrames_of_framesBut hq hdone.frames]
      rfl
  · obtain ⟨t, hexec, hdone⟩ := exec_segmentResetComplete_done (failed := [p.val]) hstate hretiring fun b hb => by
      rw [failedBlocks_single] at hb
      rwa [List.mem_singleton.1 hb]
    refine ⟨t, hexec, ?_, hdone.retired _ ?_⟩
    · rw [hdone.seg]
    · rw [failedBlocks_single]
      exact List.mem_cons_self
  · obtain ⟨t, hexec, hwp⟩ := exec_hotspotDetect_hot s c ticks p r
    refine ⟨t, hexec, ?_, fun d hd => ?_, ?_⟩
    · rw [hwp]
      exact Vector.getElem_set_self ..
    · rw [hwp]
      exact Vector.getElem_set_ne c.isLt d.isLt fun hcd => hd (Fin.ext hcd.symm)
    · rw [hwp]

end Sys2Proof.Machine
end

section
/-! PROOFS. What the operations of the other families leave of the drift tracker (06_drift_and_scrub.md): slots allocated, records journalled, lines
marked poisoned and victims copied change no block's entry that holds an estimate, and not the patrol's progress (R137, R141, R145). -/

namespace Sys2Proof.Machine

open Sys2Proof.Laws

/-! ### The entries of the blocks and the patrol -/

/-- The drift entries of the blocks and the patrol's progress: what a visit judges by and what it writes. -/
def State.judgement (s : State) : Tbl DriftBlk × Vector PatrolSet 4 := (s.dr.blocks, s.dr.patrol)

theorem State.judgement_of_dr {s t : State} (h : t.dr = s.dr) : t.judgement = s.judgement := by
  unfold State.judgement
  rw [h]

theorem State.drBlk_of_judgement {s t : State} (h : t.judgement = s.judgement) (b : BlockKey) : t.drBlk b = s.drBlk b := by
  have hblocks : t.dr.blocks = s.dr.blocks := congrArg Prod.fst h
  unfold State.drBlk
  rw [hblocks]

theorem State.patrol_of_judgement {s t : State} (h : t.judgement = s.judgement) : t.dr.patrol = s.dr.patrol := congrArg Prod.snd h

@[simp] theorem State.modDrBlk_drBlk (s : State) (b : BlockKey) (f : DriftBlk → DriftBlk) : (s.modDrBlk b f).drBlk b = f (s.drBlk b) :=
  tget_tput_same ..

theorem State.modDrBlk_drBlk_other (s : State) {b c : BlockKey} (f : DriftBlk → DriftBlk) (h : blockCode c ≠ blockCode b) :
    (s.modDrBlk b f).drBlk c = s.drBlk c := tget_tput_other _ _ _ _ h

theorem State.drBlk_of_blockCode (s : State) {b c : BlockKey} (h : blockCode c = blockCode b) : s.drBlk c = s.drBlk b := by
  unfold State.drBlk
  rw [h]

/-! ### Operations that leave the tracker -/

@[simp] theorem State.event_dr (s : State) (code sev org p0 p1 p2 p3 : Nat) : (s.event code sev org p0 p1 p2 p3).dr = s.dr := by
  obtain ⟨_, _, _, _, _, _, _, h⟩ := s.event_touches code sev org p0 p1 p2 p3
  rw [h]

@[simp] theorem State.pmCount_dr (s : State) (ev : Nat) (g : PmTag) : (s.pmCount ev g).dr = s.dr := by
  obtain ⟨_, _, h⟩ := s.pmCount_touches ev g
  rw [h]

@[simp] theorem State.judgeMarks_dr (s : State) : s.judgeMarks.dr = s.dr := by
  obtain ⟨_, _, _, _, _, _, _, _, h⟩ := s.judgeMarks_touches
  rw [h]

theorem State.setRfsh_touches (s : State) (g : Nat) : ∃ map, s.setRfsh g = { s with fo := { s.fo with map := map } } := by
  unfold State.setRfsh
  extract_lets m
  split
  · exact ⟨_, rfl⟩
  · exact ⟨s.fo.map, rfl⟩

/-- RFSH of several granules changes the map and nothing else. -/
theorem foldl_setRfsh_touches (l : List Nat) (s : State) : ∃ map, l.foldl State.setRfsh s = { s with fo := { s.fo with map := map } } := by
  induction l generalizing s with
  | nil => exact ⟨s.fo.map, rfl⟩
  | cons g l ih =>
    obtain ⟨_, hg⟩ := s.setRfsh_touches g
    obtain ⟨map, hl⟩ := ih (s.setRfsh g)
    exact ⟨map, by rw [List.foldl_cons, hl, hg]⟩

@[simp] theorem State.setRfsh_dr (s : State) (g : Nat) : (s.setRfsh g).dr = s.dr := by
  obtain ⟨_, h⟩ := s.setRfsh_touches g
  rw [h]

@[simp] theorem foldl_setRfsh_dr (l : List Nat) (s : State) : (l.foldl State.setRfsh s).dr = s.dr := by
  obtain ⟨_, h⟩ := foldl_setRfsh_touches l s
  rw [h]

@[simp] theorem State.nextSeq_dr (s : State) : s.nextSeq.2.dr = s.dr := by
  obtain ⟨_, _, h⟩ := s.nextSeq_touches
  rw [h]

theorem State.pick_dr {α : Type} (s : State) (l : List α) : (s.pick l).2.dr = s.dr := by
  unfold State.pick
  split
  · rfl
  · rfl
  · rfl

theorem State.putMark_dr (s : State) (p : Place) (base : Nat) : (s.putMark p base).dr = s.dr := s.nextSeq_dr

theorem State.Spares.dr {s t : State} (h : s.Spares t) : t.dr = s.dr := by
  obtain ⟨_, _, _, _, _, _, _, _, _, _, _, _, _, rfl⟩ := h
  rfl

theorem State.queueMove_dr (s : State) (k : Fin 4) (l : Fin 16) (n : Nat) : (s.queueMove k l n).dr = s.dr := by
  unfold State.queueMove
  extract_lets i old _ moved
  split
  · exact State.event_dr ..
  · rfl

theorem State.victimize_dr (s : State) (k : SegKey) : (s.victimize k).dr = s.dr := by
  unfold State.victimize
  split
  · rfl
  · rfl

@[simp] theorem State.retireAfterCopy_dr (s : State) (b : BlockKey) (cause : Nat) : (s.retireAfterCopy b cause).dr = s.dr := by
  unfold State.retireAfterCopy
  split
  · rfl
  · exact State.victimize_dr ..

/-! ### The allocation of a slot: it notes when a block of the Shallows was opened, and nothing else (R54, R148) -/

theorem State.openPair_judgement (s : State) (k : Fin 4) (running : Bool) (seq : Nat) : (s.openPair k running seq).judgement = s.judgement := by
  unfold State.openPair
  extract_lets room bare
  have hfirst := s.pick_dr (if bare.isEmpty then room else bare)
  generalize s.pick (if bare.isEmpty then room else bare) = picked at hfirst ⊢
  obtain ⟨_ | a, u⟩ := picked
  · exact State.judgement_of_dr hfirst
  · have hu : u.judgement = s.judgement := State.judgement_of_dr hfirst
    dsimp only
    split
    · rw [State.judgement_of_dr (State.putMark_dr ..), ← hu, ← State.judgement_of_dr (u.pick_dr _)]
      rfl
    · rw [State.judgement_of_dr (u.pick_dr _), hu]

theorem State.openPairsUpTo_judgement (s : State) (k : Fin 4) (seq n : Nat) : (s.openPairsUpTo k seq n).judgement = s.judgement := by
  induction n generalizing s with
  | zero => rfl
  | succ n ih =>
    unfold State.openPairsUpTo
    split
    · rw [ih, State.openPair_judgement]
    · rfl

theorem State.takeSlot_dr (s : State) (p : Pair) (seq : Nat) : (s.takeSlot p seq).2.dr = s.dr := by
  unfold State.takeSlot
  extract_lets slot base p' _ filled
  dsimp only
  split
  · exact State.putMark_dr ..
  · rfl

theorem State.slotOf_dr (s : State) (k : Fin 4) (running : Bool) (seq : Nat) (ok : Pair → Bool) : (s.slotOf k running seq ok).2.dr = s.dr := by
  unfold State.slotOf
  extract_lets can least
  have hpick := s.pick_dr (can.filter fun p => s.pairBusy p = least)
  generalize s.pick (can.filter fun p => s.pairBusy p = least) = found at hpick ⊢
  obtain ⟨_ | p, u⟩ := found
  · exact hpick
  · exact (u.takeSlot_dr p seq).trans hpick

theorem State.allocSlot_judgement (s : State) (k : Fin 4) (seq : Nat) (ok : Pair → Bool) : (s.allocSlot k seq ok).2.judgement = s.judgement := by
  unfold State.allocSlot
  rw [State.judgement_of_dr (State.slotOf_dr ..), State.openPairsUpTo_judgement]
  rfl

theorem State.allocRun_judgement (s : State) (k : Fin 4) (seq : Nat) : (s.allocRun k seq).2.judgement = s.judgement := by
  unfold State.allocRun
  extract_lets closed
  rw [State.judgement_of_dr (State.slotOf_dr ..)]
  split
  · exact State.openPair_judgement ..
  · rfl

theorem State.allocFirst_judgement (s : State) (run : Bool) (seq : Nat) (ks : List (Fin 4)) :
    (s.allocFirst run seq ks).2.judgement = s.judgement := by
  induction ks generalizing s with
  | nil => rfl
  | cons k ks ih =>
    have htry : (if run then s.allocRun k seq else s.allocSlot k seq fun _ => true).2.judgement = s.judgement := by
      split
      · exact State.allocRun_judgement ..
      · exact State.allocSlot_judgement ..
    unfold State.allocFirst
    generalize (if run then s.allocRun k seq else s.allocSlot k seq fun _ => true) = found at htry ⊢
    obtain ⟨_ | p, u⟩ := found
    · exact (ih u).trans htry
    · exact htry

theorem State.allocMeta_judgement (s : State) (seq : Nat) (runOnly : Bool) : (s.allocMeta seq runOnly).2.judgement = s.judgement := by
  unfold State.allocMeta
  split
  · exact State.allocFirst_judgement ..
  · have hhost := s.allocFirst_judgement false seq s.setList
    generalize s.allocFirst false seq s.setList = found at hhost ⊢
    obtain ⟨_ | p, u⟩ := found
    · exact (State.allocFirst_judgement ..).trans hhost
    · exact hhost

theorem State.allocLine_judgement (s : State) (line seq : Nat) : (s.allocLine line seq).2.judgement = s.judgement := by
  unfold State.allocLine
  have hhost := s.allocSlot_judgement (s.setOf (granOf line)) seq fun _ => true
  generalize (s.allocSlot (s.setOf (granOf line)) seq fun _ => true) = found at hhost ⊢
  obtain ⟨_ | p, u⟩ := found
  · exact (State.allocRun_judgement ..).trans hhost
  · exact hhost

theorem State.newMeta_judgement (s : State) (r : MetaRec) (runOnly : Bool) : (s.newMeta r runOnly).2.judgement = s.judgement :=
  (State.allocMeta_judgement ..).trans (State.judgement_of_dr s.nextSeq_dr)

theorem State.journal_judgement (s : State) (r : MetaRec) : (s.journal r).judgement = s.judgement := s.newMeta_judgement r false

/-! ### A line marked poisoned (R35, R85) -/

theorem State.kill_dr (s : State) (p : Place) : (s.kill p).dr = s.dr := by
  unfold State.kill State.modEntry
  split
  · rfl
  · rfl

theorem State.indexLine_dr (s : State) (line : Nat) (p : Place) (seq : Nat) (psn : Bool) : (s.indexLine line p seq psn).dr = s.dr := by
  unfold State.indexLine
  extract_lets r
  split
  · rfl
  · split
    · rfl
    · split
      · exact State.kill_dr ..
      · exact State.kill_dr ..

theorem State.landLine_judgement (s : State) (ld : Fin 16) (line : Nat) (psn : Bool) (ct : Line) (tag : Tag) :
    (s.landLine ld line psn ct tag).judgement = s.judgement := by
  have hplaced : (s.nextSeq.2.allocLine line s.nextSeq.1).2.judgement = s.judgement :=
    (State.allocLine_judgement ..).trans (State.judgement_of_dr s.nextSeq_dr)
  unfold State.landLine
  generalize s.nextSeq = numbered at hplaced ⊢
  obtain ⟨n, u⟩ := numbered
  dsimp only at hplaced ⊢
  generalize u.allocLine line n = placed at hplaced ⊢
  obtain ⟨_ | p, v⟩ := placed
  · exact hplaced
  · exact (State.judgement_of_dr (State.indexLine_dr ..)).trans hplaced

theorem State.stage8_dr (s : State) (line : Nat) (data : Line) (absent : Bool) : (s.stage8 line data absent).dr = s.dr := by
  have hdrop : ∀ u : State, (u.cacheDrop line).dr = u.dr := fun u => by unfold State.cacheDrop; split <;> rfl
  have henter : ∀ u : State, (u.cacheEnter line data true).dr = u.dr := fun u => by
    unfold State.cacheEnter
    split
    · rfl
    · simp only [State.dramPage, apply_ite State.dr, ite_self]
  unfold State.stage8
  extract_lets _ fenced
  split
  · rfl
  · split
    · exact hdrop fenced
    · exact henter fenced

theorem State.dropPrefetch_dr (s : State) (line : Nat) : (s.dropPrefetch line).dr = s.dr := rfl

theorem State.poisonAdd_dr (s : State) (line lines : Nat) (src : PoisonSrc) : (s.poisonAdd line lines src).dr = s.dr := by
  unfold State.poisonAdd
  split
  · rfl
  · split
    · rfl
    · rfl

theorem State.markPoison_judgement (s : State) (ld : Fin 16) (line : Nat) (src : PoisonSrc) :
    (s.markPoison ld line src).judgement = s.judgement := by
  unfold State.markPoison
  rw [State.judgement_of_dr (State.poisonAdd_dr ..), State.judgement_of_dr (State.stage8_dr ..),
    State.judgement_of_dr (State.dropPrefetch_dr ..), State.landLine_judgement]

theorem State.takeLock_dr_of_held {s : State} {w : Write} (h : (s.ilock w.line).isSome = true) : (s.takeLock w).dr = s.dr := by
  obtain ⟨l, hl⟩ := Option.isSome_iff_exists.1 h
  unfold State.takeLock
  rw [hl]

/-- Where the line's interlock entry is held the marking waits in it: no stage of it runs here. -/
theorem State.markVersion_judgement (s : State) (ld : Fin 16) (line ver : Nat) : (s.markVersion ld line ver).judgement = s.judgement := by
  unfold State.markVersion
  split
  · rfl
  split
  · exact State.markPoison_judgement ..
  next hheld =>
    have hheld' : (s.nextSeq.2.ilock line).isSome = true := by
      have hilocks := part_of_traffic Wp.ilocks s.nextSeq_allocs.traffic
      unfold State.ilock at hheld ⊢
      rw [hilocks]
      simpa using hheld
    exact State.judgement_of_dr ((State.takeLock_dr_of_held hheld').trans s.nextSeq_dr)

/-! ### The copy engine keeps every estimate (R117, R141) -/

/-- The entries of the blocks that hold an estimate, and the patrol's progress. -/
structure State.EstimatesKept (s t : State) : Prop where
  patrol : t.dr.patrol = s.dr.patrol
  block : ∀ b, (s.drBlk b).est = true → t.drBlk b = s.drBlk b

theorem State.EstimatesKept.of_judgement {s t : State} (h : t.judgement = s.judgement) : s.EstimatesKept t :=
  ⟨State.patrol_of_judgement h, fun b _ => State.drBlk_of_judgement h b⟩

theorem State.EstimatesKept.refl (s : State) : s.EstimatesKept s := .of_judgement rfl

theorem State.EstimatesKept.trans {s t u : State} (h : s.EstimatesKept t) (h' : t.EstimatesKept u) : s.EstimatesKept u :=
  ⟨h'.patrol.trans h.patrol, fun b hest => (h'.block b (by rw [h.block b hest]; exact hest)).trans (h.block b hest)⟩

theorem foldl_estimatesKept {α : Type} {f : State → α → State} (hf : ∀ (s : State) (x : α), s.EstimatesKept (f s x)) (l : List α) (s : State) :
    s.EstimatesKept (l.foldl f s) := by
  induction l generalizing s with
  | nil => exact .refl s
  | cons x l ih => exact (hf s x).trans (ih _)

section
variable (s : State)

theorem State.dissolve_judgement {t : State} {seg : SegKey} (h : s.dissolve seg = some t) : t.judgement = s.judgement := by
  unfold State.dissolve at h
  split at h
  · cases h
  · extract_lets key _ moved up at h
    have hmoved : moved.judgement = s.judgement := by
      unfold moved
      exact State.judgement_of_dr (State.queueMove_dr ..)
    cases h
    exact hmoved

theorem State.takeBlock_judgement {t : State} {seg : SegKey} {p : Fin 16} (h : s.takeBlock seg p = some t) : t.judgement = s.judgement := by
  unfold State.takeBlock at h
  extract_lets use i at h
  split at h
  · cases h
    rfl
  · split at h
    next u hu =>
      cases h
      show u.judgement = s.judgement
      split at hu
      · exact s.dissolve_judgement hu
      · cases hu
    next =>
      split at h
      · cases h
        exact State.judgement_of_dr (s.useSpare_spares _).dr
      · cases h

theorem State.standIn_judgement {t : State} {seg : SegKey} {pos : Fin 16} (h : s.standIn seg pos = some t) : t.judgement = s.judgement := by
  unfold State.standIn at h
  split at h
  · cases h
  · split at h
    · cases h
    next u hu =>
      cases h
      have hassigned := s.takeBlock_judgement hu
      rw [State.journal_judgement]
      exact hassigned

theorem State.standInsFor_judgement (seg : SegKey) : (s.standInsFor seg).judgement = s.judgement := by
  refine foldl_keeps State.judgement (fun u p => ?_) _ s
  split
  · split
    next t ht => exact u.standIn_judgement ht
    next => rfl
  · rfl

theorem State.openSeg_judgement (k : Fin 4) (l : Fin 16) (hot : Bool) : (s.openSeg k l hot).2.judgement = s.judgement := by
  unfold State.openSeg
  split
  · rfl
  · extract_lets key _ opened moved
    dsimp only
    rw [State.standInsFor_judgement]
    unfold moved
    rw [State.judgement_of_dr (State.queueMove_dr ..), State.journal_judgement]
    rfl

theorem State.bandFor_judgement (k : Fin 4) (l : Fin 16) (copy hot : Bool) (want : Option SegKey) :
    (s.bandFor k l copy hot want).2.judgement = s.judgement := by
  unfold State.bandFor
  split
  · rfl
  · split
    · rfl
    · split
      next seg u hu =>
        have hfound : u.judgement = s.judgement := by
          split at hu
          · cases hu
            rfl
          · rw [show u = (s.openSeg k l hot).2 from (congrArg Prod.snd hu).symm]
            exact s.openSeg_judgement k l hot
        split
        · exact hfound
        · exact hfound

theorem State.placeFrame_dr (key : BandKey) (p : Placed) : (s.placeFrame key p).dr = s.dr := by
  unfold State.placeFrame
  obtain ⟨_, _, h⟩ := (s.modBand key fun b => { b with frames := b.frames ++ [p] }).issueWaiting_touches key.seg.set key.seg.lane
  rw [h]
  rfl

theorem State.copyFrame_judgement (seg : SegKey) (frame : Nat) (f : Frame) : (s.copyFrame seg frame f).judgement = s.judgement := by
  unfold State.copyFrame
  split
  · rfl
  · have hband := s.bandFor_judgement seg.set seg.lane true false (s.wearDest seg)
    generalize s.bandFor seg.set seg.lane true false (s.wearDest seg) = found at hband ⊢
    obtain ⟨_ | key, u⟩ := found
    · exact hband
    · dsimp -zeta only at hband ⊢
      extract_lets i m mapped _ moved
      have hmoved : moved.judgement = u.judgement := rfl
      rw [State.judgement_of_dr (State.pmCount_dr ..), State.judgement_of_dr (State.placeFrame_dr ..), hmoved, hband]

/-- A pilot read is asked for where the block has no estimate: only such an entry gets PEND (R141). -/
theorem State.wantPilot_estimatesKept {b : BlockKey} (hb : (s.drBlk b).est = false) : s.EstimatesKept (s.wantPilot b) := by
  unfold State.wantPilot
  extract_lets x
  split
  · exact .refl s
  · have hmarked : s.EstimatesKept (s.modDrBlk b fun x => { x with pend := true }) := by
      refine ⟨rfl, fun c hc => s.modDrBlk_drBlk_other _ fun hcode => ?_⟩
      rw [s.drBlk_of_blockCode hcode, hb] at hc
      cases hc
    exact hmarked.trans (.of_judgement (State.judgement_of_dr (State.pmCount_dr ..)))

theorem State.wantPilots_estimatesKept (bs : List BlockKey) : s.EstimatesKept (s.wantPilots bs) := by
  refine foldl_estimatesKept (fun u b => ?_) bs s
  split
  · exact .refl u
  next hest => exact u.wantPilot_estimatesKept (Bool.eq_false_iff.2 hest)

theorem State.feedVictim_estimatesKept (k : Fin 4) (seg : SegKey) : s.EstimatesKept (s.feedVictim k seg) := by
  unfold State.feedVictim
  split
  · exact .refl s
  · extract_lets wanted
    have hwanted : s.EstimatesKept wanted := s.wantPilots_estimatesKept _
    split
    · exact hwanted
    · refine hwanted.trans (foldl_estimatesKept (fun u p => ?_) _ wanted)
      split
      · exact .refl u
      · exact .of_judgement (u.copyFrame_judgement ..)

theorem State.feedCopies_estimatesKept (k : Fin 4) : s.EstimatesKept (s.feedCopies k) := by
  unfold State.feedCopies
  split
  · exact .refl s
  · exact (foldl_estimatesKept (fun u seg => u.feedVictim_estimatesKept k seg) s.fo.copyQ[k] s).trans (.of_judgement rfl)

end

end Sys2Proof.Machine
end

section
/-! PROOFS. Statements about drift tracking (06_drift_and_scrub.md): a die's clock takes the weight of its hottest band, a pilot report gives a block
its estimate, the gap of a die advances its clock, and the warm-up sweep ends (R133, R138 to R143, R150). -/

namespace Sys2Proof.Machine

open Sys2Proof.Laws

/-! ### The clocks of the dies (R133) -/

theorem dieCode_injective : Function.Injective dieCode := by
  rintro ⟨⟨c, hc⟩, ⟨d, hd⟩⟩ ⟨⟨c', hc'⟩, ⟨d', hd'⟩⟩ h
  dsimp only [dieCode] at h
  obtain ⟨rfl, rfl⟩ : c = c' ∧ d = d' := by omega
  rfl

/-- A table built over keys of different numbers lists each of them with its own value. -/
theorem tget_map_of_mem {α β : Type} {code : α → Nat} (hcode : Function.Injective code) (d : β) (f : α → β) {l : List α} {x : α} (hx : x ∈ l) :
    tget d (l.map fun y => (code y, f y)) (code x) = f x := by
  induction l with
  | nil => cases hx
  | cons y l ih =>
    rw [List.map_cons, tget]
    split
    next hkey => rw [hcode hkey]
    next hkey => exact ih ((List.mem_cons.1 hx).resolve_left fun h => hkey (by rw [h]))

@[simp] theorem State.modDrDie_drDie (s : State) (d : DieKey) (f : DriftDie → DriftDie) : (s.modDrDie d f).drDie d = f (s.drDie d) :=
  tget_tput_same ..

theorem exec_driftEpochEnd_weighs {s : State} (hup : s.pw.dieUp = true) : ∃ t : State, exec .driftEpochEnd s = .next t ∧
    t.dr.epoch = s.dr.epoch + 1 ∧ ∀ d ∈ s.allDies, t.drDie d = (s.drDie d).epochEnd := by
  show ∃ t : State, execDriftEpochEnd s = .next t ∧ _
  unfold execDriftEpochEnd
  rw [if_pos hup]
  exact ⟨_, rfl, rfl, fun d hd => tget_map_of_mem dieCode_injective DriftDie.init (fun d => (s.drDie d).epochEnd) hd⟩

theorem bandWeight_table : bandWeight 0 = 1 ∧ bandWeight 1 = 2 ∧ bandWeight 2 = 4 ∧ bandWeight 3 = 8 := ⟨rfl, rfl, rfl, rfl⟩

/-! ### A pilot report (R140, R142) -/

section
variable (s : State) (b : BlockKey) (r : PilotReport)

/-- The shift that brings the model's references of the oldest group onto the positions reported. -/
def State.pilotShift : Int :=
  let u := (s.drSeg b.seg).oldest
  fitShift r.oldest (s.model b u (s.unitAge b u (s.drDie (blockDie b)).wclk))

theorem State.pilotGood_drBlk : (s.pilotGood b r).drBlk b =
    { s.drBlk b with
      ofs := ofsSat (s.pilotShift b r), est := true, pend := false
      mcls := if ofsSat (s.pilotShift b r) = s.pilotShift b r then (s.drBlk b).mcls else (s.drBlk b).mcls.atLeast .watch } :=
  tget_tput_same ..

variable {s b r}

theorem State.pilotEnds_of_good (h : r.crcOk = true ∨ r.repeatOk = true) : s.pilotEnds b r = s.pilotGood b r := if_pos h

theorem State.pilotEnds_of_bad (hcrc : r.crcOk = false) (hrepeat : r.repeatOk = false) : s.pilotEnds b r =
    (s.modDrBlk b fun x => { x with ofs := 0, est := true, pend := false, mcls := .watch }).visitNext b.seg s.now true :=
  if_neg (by rw [hcrc, hrepeat]; simp)

theorem State.visitNext_drBlk (k : SegKey) (due : Nat) (front : Bool) (b : BlockKey) : (s.visitNext k due front).drBlk b = s.drBlk b := rfl

/-- A segment put to the front is the next one of its set to be visited. -/
theorem State.visitNext_head (k : SegKey) (due : Nat) : ((s.visitNext k due true).dr.patrol[k.set]).next.head? = some (k, due) := by
  unfold State.visitNext
  dsimp only
  rw [vmod_same]
  rfl

theorem State.pilotEnds_drBlk_of_bad (hcrc : r.crcOk = false) (hrepeat : r.repeatOk = false) : (s.pilotEnds b r).drBlk b =
    { s.drBlk b with ofs := 0, est := true, pend := false, mcls := .watch } := by
  rw [State.pilotEnds_of_bad hcrc hrepeat, State.visitNext_drBlk, State.modDrBlk_drBlk]

variable (s b r)

/-- However a pilot read ends, its block has an estimate and no read in flight. -/
theorem State.pilotEnds_estimates : ((s.pilotEnds b r).drBlk b).est = true ∧ ((s.pilotEnds b r).drBlk b).pend = false := by
  by_cases h : r.crcOk = true ∨ r.repeatOk = true
  · rw [State.pilotEnds_of_good h, State.pilotGood_drBlk]
    exact ⟨rfl, rfl⟩
  · obtain ⟨hcrc, hrepeat⟩ := not_or.1 h
    rw [State.pilotEnds_drBlk_of_bad (Bool.eq_false_iff.2 hcrc) (Bool.eq_false_iff.2 hrepeat)]
    exact ⟨rfl, rfl⟩

/-- The count of a pilot read has no part in how it ends. -/
theorem State.pilotEnds_counted (pm : Pm) (nt : Nt) :
    ({ s with pm := pm, nt := nt } : State).pilotEnds b r = { s.pilotEnds b r with pm := pm, nt := nt } := by
  by_cases h : r.crcOk = true ∨ r.repeatOk = true
  · rw [State.pilotEnds_of_good h, State.pilotEnds_of_good h]
    rfl
  · obtain ⟨hcrc, hrepeat⟩ := not_or.1 h
    rw [State.pilotEnds_of_bad (Bool.eq_false_iff.2 hcrc) (Bool.eq_false_iff.2 hrepeat),
      State.pilotEnds_of_bad (Bool.eq_false_iff.2 hcrc) (Bool.eq_false_iff.2 hrepeat)]
    rfl

/-- After a report has its effect, RFSH and the copy engine keep what it set. -/
theorem exec_pilotReadComplete_ends : ∃ t : State, exec (.pilotReadComplete b r) s = .next t ∧ (s.pilotEnds b r).EstimatesKept t := by
  show ∃ t : State, execPilotReadComplete b r s = .next t ∧ _
  unfold execPilotReadComplete
  extract_lets counted ended marked
  have hended : ended.dr = (s.pilotEnds b r).dr := by
    have hcounted : ∃ pm nt, counted = { s with pm := pm, nt := nt } := by
      unfold counted
      split
      · exact ⟨s.pm, s.nt, rfl⟩
      · exact State.pmCount_touches ..
    obtain ⟨pm, nt, hcounted⟩ := hcounted
    unfold ended
    rw [hcounted, State.pilotEnds_counted]
  have hmarked : marked.dr = ended.dr := by
    unfold marked
    split
    · exact foldl_setRfsh_dr ..
    · rfl
  obtain ⟨pm, nt, hdone⟩ := s.done_touches (marked.feedCopies b.seg.set)
  refine ⟨_, hdone, State.EstimatesKept.trans (.of_judgement (State.judgement_of_dr (hmarked.trans hended))) ?_⟩
  exact (marked.feedCopies_estimatesKept b.seg.set).trans (.of_judgement rfl)

end

/-! ### The gap of a die (R143) -/

theorem State.keepRefs_dies (s : State) (b : BlockKey) (old new : Nat) : (s.keepRefs b old new).dr.dies = s.dr.dies := rfl

theorem State.drDie_of_dies {s t : State} (h : t.dr.dies = s.dr.dies) (d : DieKey) : t.drDie d = s.drDie d := by
  unfold State.drDie
  rw [h]

theorem State.gapDue_of_full {s : State} {d : DieKey} (hdone : (s.drDie d).done = false) (hfull : 64 ≤ (s.drDie d).gaps.length) :
    s.gapDue d = true := by
  have hsome : (s.drDie d).gaps.isEmpty = false := by
    rw [List.isEmpty_eq_false_iff_exists_mem]
    exact List.exists_mem_of_length_pos (by omega)
  unfold State.gapDue
  simp [hdone, hsome, hfull]

theorem State.gapDue_of_done {s : State} {d : DieKey} (hdone : (s.drDie d).done = true) : s.gapDue d = false := by
  unfold State.gapDue
  simp [hdone]

/-- A die's clock after its gap estimate: it never goes back. -/
def DriftDie.gapClock (d : DriftDie) : Nat := if 0 < median d.gaps then sat 0xFFFFFFFF (d.wclk + (median d.gaps).toNat) else d.wclk

theorem exec_gapEstimate_due {s : State} {d : DieKey} (hdue : s.gapDue d = true) : ∃ t : State, exec (.gapEstimate d) s = .next t ∧
    t.drDie d = { s.drDie d with done := true, wclk := (s.drDie d).gapClock } := by
  show ∃ t : State, execGapEstimate d s = .next t ∧ _
  unfold execGapEstimate
  rw [if_pos hdue]
  extract_lets die m new t
  have ht : t.drDie d = { s.drDie d with done := true, wclk := (s.drDie d).gapClock } := s.modDrDie_drDie d _
  refine ⟨_, rfl, ?_⟩
  split
  · refine (State.drDie_of_dies ?_ d).trans ht
    exact foldl_keeps (fun u : State => u.dr.dies) (fun u b => u.keepRefs_dies b die.wclk new) _ t
  · exact ht

theorem exec_gapEstimate_done {s : State} {d : DieKey} (hdone : (s.drDie d).done = true) : exec (.gapEstimate d) s = .next s :=
  if_neg (by rw [State.gapDue_of_done hdone]; exact Bool.false_ne_true)

/-! ### The warm-up sweep ends (R150) -/

theorem exec_warmUpSweepEnd_starts {s : State} (hsweep : s.dr.sweep = true) (hread : s.unswept = false) :
    ∃ t : State, exec .warmUpSweepEnd s = .next t ∧ t.dr.sweep = false ∧ ∀ k : Fin 4,
      (t.dr.patrol[k]).visited = 0 ∧ (t.dr.patrol[k]).total = s.progSegs k := by
  show ∃ t : State, execWarmUpSweepEnd s = .next t ∧ _
  unfold execWarmUpSweepEnd
  rw [if_pos ⟨hsweep, hread⟩]
  exact ⟨_, rfl, rfl, fun k => by simp⟩

theorem exec_warmUpSweepEnd_early {s : State} (hunread : s.unswept = true) : exec .warmUpSweepEnd s = .next s :=
  if_neg (by rw [hunread]; simp)

/-! ### The obligation -/

/-- Settles O43: what a pilot read sets is `pilotEnds`, which the copy engine keeps (`EstimatesKept`); the other three commands change the clocks
and the patrol directly. -/
theorem driftClocksAndPilotsMove : Obligations.DriftClocksAndPilotsMove := by
  unfold Obligations.DriftClocksAndPilotsMove
  refine fun s => ⟨fun hup => ?_, bandWeight_table, fun b r => ?_, fun d hdone hfull => ?_, fun d => exec_gapEstimate_done,
    exec_warmUpSweepEnd_starts, exec_warmUpSweepEnd_early⟩
  · obtain ⟨t, hexec, hepoch, hdies⟩ := exec_driftEpochEnd_weighs hup
    refine ⟨t, hexec, hepoch, fun d hd => ?_⟩
    rw [hdies d hd]
    exact ⟨rfl, rfl⟩
  · obtain ⟨t, hexec, hkept⟩ := exec_pilotReadComplete_ends s b r
    obtain ⟨hest, hpend⟩ := s.pilotEnds_estimates b r
    have hblock : t.drBlk b = (s.pilotEnds b r).drBlk b := hkept.block b hest
    rw [← hblock] at hest hpend
    refine ⟨t, hexec, hest, hpend, fun hgood => ?_, fun hcrc hrepeat => ?_⟩
    · rw [hblock, State.pilotEnds_of_good hgood, State.pilotGood_drBlk]
      exact ⟨rfl, rfl⟩
    · rw [hblock, hkept.patrol, State.pilotEnds_drBlk_of_bad hcrc hrepeat, State.pilotEnds_of_bad hcrc hrepeat]
      exact ⟨rfl, rfl, State.visitNext_head ..⟩
  · obtain ⟨t, hexec, hdie⟩ := exec_gapEstimate_due (State.gapDue_of_full hdone hfull)
    refine ⟨t, hexec, ?_⟩
    rw [hdie]
    exact ⟨rfl, fun hpos => if_pos hpos, fun hnone => if_neg (not_lt.2 hnone)⟩

end Sys2Proof.Machine
end

section
/-! PROOFS. Statements about the patrols (06_drift_and_scrub.md): a visit judges each block by what its slots needed, clears the disturb count and
counts, and the Shallows patrol leaves strong copies as they are (R145 to R150, Table 06-4). -/

namespace Sys2Proof.Machine

open Sys2Proof.Laws

/-! ### What one slot can do to its block's entry (R83 to R85, R144, R146) -/

/-- The estimate of an entry stands, and its class stands or becomes failing. -/
def DriftBlk.Worsens (d e : DriftBlk) : Prop := e.est = d.est ∧ (e.mcls = .failing ∨ e.mcls = d.mcls)

theorem DriftBlk.Worsens.refl (d : DriftBlk) : d.Worsens d := ⟨rfl, .inr rfl⟩

theorem DriftBlk.Worsens.trans {d e f : DriftBlk} (h : d.Worsens e) (h' : e.Worsens f) : d.Worsens f := by
  refine ⟨h'.1.trans h.1, ?_⟩
  rcases h'.2 with hfails | hstands
  · exact .inl hfails
  · rw [hstands]
    exact h.2

theorem DriftBlk.Worsens.failing {d e : DriftBlk} (h : d.Worsens e) (hd : d.mcls = .failing) : e.mcls = .failing :=
  h.2.elim id fun hstands => hstands.trans hd

section
variable (s : State) (b : BlockKey)

theorem State.slotFailed_drBlk (g : Nat) : (s.slotFailed b g).drBlk b = { s.drBlk b with mcls := .failing } := by
  unfold State.slotFailed
  rw [State.drBlk_of_judgement (State.judgement_of_dr (State.setRfsh_dr ..)), State.modDrBlk_drBlk]

theorem State.noteRecon_drBlk (slot : Nat) : (s.noteRecon b slot).drBlk b = s.drBlk b := by
  unfold State.noteRecon
  extract_lets old now _ noted
  split
  · exact State.drBlk_of_judgement (State.judgement_of_dr (State.retireAfterCopy_dr ..)) b
  · rfl

theorem State.peatFound_worsens (line slot : Nat) (x : Sense) : (s.drBlk b).Worsens ((s.peatFound b line slot x).drBlk b) := by
  unfold State.peatFound
  split
  · rw [State.slotFailed_drBlk, State.stepped, State.modDrBlk_drBlk]
    exact ⟨rfl, .inl rfl⟩
  · split
    · rw [State.noteRecon_drBlk, State.slotFailed_drBlk]
      exact ⟨rfl, .inl rfl⟩
    · exact .refl _
  · rw [State.slotFailed_drBlk]
    exact ⟨rfl, .inl rfl⟩
  · exact .refl _

theorem State.visitLine_worsens (x : LineSense) : (s.drBlk b).Worsens ((s.visitLine b x).drBlk b) := by
  unfold State.visitLine
  split
  · exact State.peatFound_worsens ..
  · rw [State.modDrBlk_drBlk]
    exact ⟨rfl, .inl rfl⟩

/-- A slot that needed a stepped retry makes its block failing (Table 06-4). -/
theorem State.visitLine_stepped_fails {x : LineSense} {k : Int} (hx : x.sense = .stepped k) : ((s.visitLine b x).drBlk b).mcls = .failing := by
  unfold State.visitLine
  rw [hx]
  split
  · rw [State.peatFound, State.slotFailed_drBlk]
  · rw [State.modDrBlk_drBlk]

/-- A slot that failed its tag or was lost makes its block failing (Table 06-4). -/
theorem State.visitLoss_drBlk (line : Nat) (tagFail : Bool) : (s.visitLoss b line tagFail).drBlk b = { s.drBlk b with mcls := .failing } := by
  unfold State.visitLoss
  extract_lets failed told
  have hfailed : failed.drBlk b = { s.drBlk b with mcls := .failing } := s.modDrBlk_drBlk b _
  split
  · exact hfailed
  · have htold : told.dr = failed.dr := by
      unfold told
      split
      · exact State.event_dr ..
      · exact State.event_dr ..
    rw [State.drBlk_of_judgement (State.markVersion_judgement ..),
      State.drBlk_of_judgement (State.judgement_of_dr ((State.setRfsh_dr ..).trans htold)), hfailed]

theorem State.visitLoss_worsens (line : Nat) (tagFail : Bool) : (s.drBlk b).Worsens ((s.visitLoss b line tagFail).drBlk b) := by
  rw [State.visitLoss_drBlk]
  exact ⟨rfl, .inl rfl⟩

end

section
variable {α : Type} {f : State → α → State} {b : BlockKey} (hf : ∀ (s : State) (x : α), (s.drBlk b).Worsens ((f s x).drBlk b))
include hf

theorem foldl_worsens (l : List α) (s : State) : (s.drBlk b).Worsens ((l.foldl f s).drBlk b) := by
  induction l generalizing s with
  | nil => exact .refl _
  | cons x l ih => exact (hf s x).trans (ih _)

/-- One slot of several that fails the block is enough: no later one takes it back. -/
theorem foldl_fails {l : List α} {x : α} (hx : x ∈ l) (hfails : ∀ s, ((f s x).drBlk b).mcls = .failing) (s : State) :
    ((l.foldl f s).drBlk b).mcls = .failing := by
  induction l generalizing s with
  | nil => cases hx
  | cons y l ih =>
    rcases List.mem_cons.1 hx with rfl | hl
    · exact (foldl_worsens hf l _).failing (hfails s)
    · exact ih hl _

end

/-! ### A block of the segment (R145, R146) -/

/-- A block after its pilot read and its slots, before its ratio is judged. -/
def State.visitSlots (s : State) (b : BlockKey) (v : VisitResult) : State :=
  v.lost.foldl (fun s l => s.visitLoss b l false) (v.tagFail.foldl (fun s l => s.visitLoss b l true)
    (v.recovered.foldl (fun s x => s.visitLine b x) (s.pilotEnds b v.pilot)))

section
variable (s : State) (b : BlockKey) {v : VisitResult}

theorem State.visitSlots_of_clean (hrecovered : v.recovered = []) (htag : v.tagFail = []) (hlost : v.lost = []) :
    s.visitSlots b v = s.pilotEnds b v.pilot := by
  unfold State.visitSlots
  rw [hrecovered, htag, hlost]
  rfl

theorem State.visitSlots_est : ((s.visitSlots b v).drBlk b).est = true := by
  have hlost := foldl_worsens (fun u l => State.visitLoss_worsens u b l false) v.lost
  have htag := foldl_worsens (fun u l => State.visitLoss_worsens u b l true) v.tagFail
  have hline := foldl_worsens (fun u x => State.visitLine_worsens u b x) v.recovered
  exact ((hline _).trans ((htag _).trans (hlost _))).1.trans (s.pilotEnds_estimates b v.pilot).1

theorem State.visitSlots_fails (h : v.tagFail ≠ [] ∨ v.lost ≠ [] ∨ ∃ x ∈ v.recovered, ∃ k, x.sense = .stepped k) :
    ((s.visitSlots b v).drBlk b).mcls = .failing := by
  have hlost := fun u : State => foldl_worsens (fun u l => State.visitLoss_worsens u b l false) v.lost u
  have htag := fun u : State => foldl_worsens (fun u l => State.visitLoss_worsens u b l true) v.tagFail u
  have hloss : ∀ (u : State) (l : Nat) (tagFail : Bool), ((u.visitLoss b l tagFail).drBlk b).mcls = .failing := fun u l tagFail => by
    rw [State.visitLoss_drBlk]
  rcases h with htagged | hlosses | ⟨x, hx, k, hk⟩
  · obtain ⟨l, hl⟩ := List.exists_mem_of_ne_nil _ htagged
    exact (hlost _).failing (foldl_fails (fun u l => State.visitLoss_worsens u b l true) hl (fun u => hloss u l true) _)
  · obtain ⟨l, hl⟩ := List.exists_mem_of_ne_nil _ hlosses
    exact foldl_fails (fun u l => State.visitLoss_worsens u b l false) hl (fun u => hloss u l false) _
  · have hstepped := foldl_fails (fun u x => State.visitLine_worsens u b x) hx (fun u => u.visitLine_stepped_fails b hk) (s.pilotEnds b v.pilot)
    exact (hlost _).failing ((htag _).failing hstepped)

/-- The class that a visit leaves is the one of Table 06-4 for the block as its slots left it; RFSH, a retirement and the next visit of the segment
leave the block's entry. -/
theorem State.visitBlock_drBlk (seg : SegKey) (first : Bool) : let u := s.visitSlots ⟨seg, v.pos⟩ v
    (s.visitBlock seg first v).drBlk ⟨seg, v.pos⟩ = { u.drBlk ⟨seg, v.pos⟩ with
      mcls := marginAfter (u.drBlk ⟨seg, v.pos⟩).mcls (u.visitRatio ⟨seg, v.pos⟩ v.bits) u.dr.params.threshold } := by
  intro u
  unfold State.visitBlock
  extract_lets b' ended lined tagged lost t p old hot judged refreshed
  have hjudged : judged.drBlk b' = { u.drBlk b' with mcls := marginAfter (u.drBlk b').mcls (u.visitRatio b' v.bits) u.dr.params.threshold } :=
    u.modDrBlk_drBlk b' _
  have hrefreshed : refreshed.drBlk b' = judged.drBlk b' := by
    unfold refreshed
    split
    · exact State.drBlk_of_judgement (State.judgement_of_dr (foldl_setRfsh_dr ..)) b'
    · rfl
  split
  · exact hjudged
  · rw [← hjudged, ← hrefreshed]
    split
    · exact State.drBlk_of_judgement (State.judgement_of_dr (State.retireAfterCopy_dr ..)) b'
    · split
      · exact State.visitNext_drBlk ..
      · rfl

end

theorem marginAfter_eq (m : Margin) (ratio t : Nat) : marginAfter m ratio t =
    if m = .failing ∨ m = .refresh then m else if t ≤ ratio then .refresh else if t ≤ 2 * ratio then .watch else .good := by
  cases m with
  | good => simp [marginAfter]
  | watch => simp [marginAfter]
  | refresh => simp [marginAfter]
  | failing => simp [marginAfter]

theorem marginAfter_failing (ratio t : Nat) : marginAfter .failing ratio t = .failing := rfl

/-! ### A visit of a segment (R145, R149) -/

/-- The segment leaves the list of those that are due. -/
def State.offList (s : State) (q : SegKey) : State :=
  { s with dr := { s.dr with patrol := vmod s.dr.patrol q.set fun p => { p with next := p.next.filter fun x => x.1 ≠ q } } }

/-- The end of a visit: the disturb count is cleared, the lines queued from the segment are done with, and the pass goes on. -/
def State.afterVisit (s : State) (q : SegKey) : State :=
  let t := s.modDrSeg q fun x => { x with rdc := 0, visited := true }
  let t : State := { t with rp := { t.rp with patrolQ := t.rp.patrolQ.filter fun p => !(t.homeBlock p.1).any fun b => b.seg == q } }
  t.passOn q.set

/-- The patrol's progress is counted, and at the end of a pass HEAT is halved. -/
theorem State.passOn_touches (s : State) (k : Fin 4) : ∃ visited total map, s.passOn k =
    { s with dr := { s.dr with patrol := vmod s.dr.patrol k fun p => { p with visited := visited, total := total } },
             fo := { s.fo with map := map } } := by
  unfold State.passOn
  extract_lets p
  split
  · exact ⟨_, _, _, rfl⟩
  · exact ⟨_, p.total, s.fo.map, rfl⟩

theorem State.afterVisit_drBlk (s : State) (q : SegKey) (b : BlockKey) : (s.afterVisit q).drBlk b = s.drBlk b := by
  unfold State.afterVisit
  extract_lets cleared _ served
  obtain ⟨_, _, _, h⟩ := served.passOn_touches q.set
  rw [h]
  rfl

theorem State.afterVisit_drSeg (s : State) (q : SegKey) : (s.afterVisit q).drSeg q = { s.drSeg q with rdc := 0, visited := true } := by
  unfold State.afterVisit
  extract_lets cleared _ served
  obtain ⟨_, _, _, h⟩ := served.passOn_touches q.set
  rw [h]
  exact tget_tput_same ..

theorem State.afterVisit_wp (s : State) (q : SegKey) : (s.afterVisit q).wp = s.wp := by
  unfold State.afterVisit
  extract_lets cleared _ served
  obtain ⟨_, _, _, h⟩ := served.passOn_touches q.set
  rw [h]
  rfl

theorem State.afterVisit_copyQ (s : State) (q : SegKey) : (s.afterVisit q).fo.copyQ = s.fo.copyQ := by
  unfold State.afterVisit
  extract_lets cleared _ served
  obtain ⟨_, _, _, h⟩ := served.passOn_touches q.set
  rw [h]
  rfl

theorem State.afterVisit_next (s : State) (q : SegKey) : ((s.afterVisit q).dr.patrol[q.set]).next = (s.dr.patrol[q.set]).next := by
  unfold State.afterVisit
  extract_lets cleared _ served
  obtain ⟨_, _, _, h⟩ := served.passOn_touches q.set
  rw [h]
  dsimp only
  rw [vmod_same]
  rfl

theorem State.offList_next (s : State) (q : SegKey) : ∀ x ∈ ((s.offList q).dr.patrol[q.set]).next, x.1 ≠ q := by
  unfold State.offList
  dsimp only
  rw [vmod_same]
  exact fun x hx => by simpa using List.of_mem_filter hx

/-- The list of segments that are due has no part in what a pilot read finds. -/
theorem State.pilotEnds_offList (s : State) (q : SegKey) (b : BlockKey) (r : PilotReport) : ∃ patrol, (s.offList q).pilotEnds b r =
    { s.pilotEnds b r with dr := { (s.pilotEnds b r).dr with patrol := patrol } } := by
  by_cases h : r.crcOk = true ∨ r.repeatOk = true
  · rw [State.pilotEnds_of_good h, State.pilotEnds_of_good h]
    exact ⟨_, rfl⟩
  · obtain ⟨hcrc, hrepeat⟩ := not_or.1 h
    rw [State.pilotEnds_of_bad (Bool.eq_false_iff.2 hcrc) (Bool.eq_false_iff.2 hrepeat),
      State.pilotEnds_of_bad (Bool.eq_false_iff.2 hcrc) (Bool.eq_false_iff.2 hrepeat)]
    exact ⟨_, rfl⟩

theorem State.pilotEnds_params (s : State) (b : BlockKey) (r : PilotReport) : (s.pilotEnds b r).dr.params = s.dr.params := by
  unfold State.pilotEnds
  split
  · rfl
  · rfl

theorem exec_patrolVisit_early {s : State} (q : SegKey) (h : s.dr.sweep = true) (v : List VisitResult) : exec (.patrolVisit q v) s = .next s :=
  if_pos (.inr (.inr (.inl h)))

section
variable {s : State} {q : SegKey} (hset : s.setFrozen q.set = false) (hbands : (s.seg q).bands ≠ 0) (hsweep : s.dr.sweep = false)
  (hdue : (s.dueSegs q.set).isEmpty = true ∨ (s.dueSegs q.set).contains q = true)
include hset hbands hsweep hdue

theorem exec_patrolVisit_visits (v : List VisitResult) : exec (.patrolVisit q v) s =
    s.done (((v.foldl (fun u v => u.visitBlock q (!(s.drSeg q).visited) v) (s.offList q)).afterVisit q).feedCopies q.set) := by
  refine if_neg ?_
  rintro (hfrozen | hnone | hsweeping | ⟨hother, hnot⟩)
  · exact absurd (hset.symm.trans hfrozen) Bool.false_ne_true
  · exact hbands hnone
  · exact absurd (hsweep.symm.trans hsweeping) Bool.false_ne_true
  · rcases hdue with hempty | hlisted
    · exact absurd (hother.symm.trans hempty) Bool.false_ne_true
    · exact absurd (hnot.symm.trans hlisted) Bool.false_ne_true

/-- With no copy queued nothing but the visit itself happens. -/
theorem exec_patrolVisit_clears (hcopies : s.fo.copyQ[q.set] = []) : ∃ t : State, exec (.patrolVisit q []) s = .next t ∧
    (t.drSeg q).rdc = 0 ∧ (t.drSeg q).visited = true ∧ t.wp.index = s.wp.index ∧ ∀ x ∈ (t.dr.patrol[q.set]).next, x.1 ≠ q := by
  have hidle : ((s.offList q).afterVisit q).feedCopies q.set = (s.offList q).afterVisit q :=
    State.feedCopies_of_empty (by rw [State.afterVisit_copyQ]; exact hcopies)
  obtain ⟨pm, nt, hdone⟩ := s.done_touches ((s.offList q).afterVisit q)
  refine ⟨{ (s.offList q).afterVisit q with pm := pm, nt := nt }, ?_, ?_, ?_, ?_, ?_⟩
  · rw [exec_patrolVisit_visits hset hbands hsweep hdue, List.foldl_nil, hidle, hdone]
  · show (((s.offList q).afterVisit q).drSeg q).rdc = 0
    rw [State.afterVisit_drSeg]
  · show (((s.offList q).afterVisit q).drSeg q).visited = true
    rw [State.afterVisit_drSeg]
  · show ((s.offList q).afterVisit q).wp.index = s.wp.index
    rw [State.afterVisit_wp]
    rfl
  · show ∀ x ∈ (((s.offList q).afterVisit q).dr.patrol[q.set]).next, x.1 ≠ q
    rw [State.afterVisit_next]
    exact s.offList_next q

/-- The entry that the visit of one block leaves is the one that stands: it holds an estimate, which the copy engine keeps. -/
theorem exec_patrolVisit_judges (v : VisitResult) : ∃ t : State, exec (.patrolVisit q [v]) s = .next t ∧
    (let u := (s.offList q).visitSlots ⟨q, v.pos⟩ v
     (t.drBlk ⟨q, v.pos⟩).mcls = marginAfter (u.drBlk ⟨q, v.pos⟩).mcls (u.visitRatio ⟨q, v.pos⟩ v.bits) u.dr.params.threshold) := by
  have hexec := exec_patrolVisit_visits hset hbands hsweep hdue [v]
  have hvisited := (s.offList q).visitBlock_drBlk (v := v) q (!(s.drSeg q).visited)
  have hest := (s.offList q).visitSlots_est ⟨q, v.pos⟩ (v := v)
  rw [List.foldl_cons, List.foldl_nil] at hexec
  generalize (s.offList q).visitBlock q (!(s.drSeg q).visited) v = visited at hexec hvisited
  dsimp only at hvisited
  rw [← State.afterVisit_drBlk visited q] at hvisited
  generalize visited.afterVisit q = passed at hexec hvisited
  have hkept : (passed.feedCopies q.set).drBlk ⟨q, v.pos⟩ = passed.drBlk ⟨q, v.pos⟩ :=
    (passed.feedCopies_estimatesKept q.set).block _ (by rw [hvisited]; exact hest)
  generalize passed.feedCopies q.set = fed at hexec hkept
  obtain ⟨pm, nt, hdone⟩ := s.done_touches fed
  refine ⟨_, hexec.trans hdone, ?_⟩
  show (fed.drBlk ⟨q, v.pos⟩).mcls = _
  rw [hkept, hvisited]

end

/-! ### The Shallows patrol (R148) -/

/-- Of an entry whose two copies are strong, and of which the patrol has nothing queued, only the patrol's own queue is looked through. -/
theorem State.patrolCopy_of_strong {s : State} {r : CopyRead} {x y : Nat} (hqueue : s.rp.patrolQ = []) (hx : r.bits0 = some x)
    (hy : r.bits1 = some y) (hx8 : x ≤ 8) (hy8 : y ≤ 8) (k : Fin 4) : ∃ rp, s.patrolCopy k r = { s with rp := rp } := by
  unfold State.patrolCopy
  extract_lets p
  split
  · exact ⟨s.rp, rfl⟩
  · split
    · exact ⟨s.rp, rfl⟩
    · rw [if_neg (by simp [hx]), if_neg (by simp [hx, hy, hx8, hy8, weakCopy, hqueue])]
      exact ⟨_, rfl⟩

theorem exec_shallowsPatrol_of_strong {s : State} {k : Fin 4} {r : CopyRead} {x y : Nat} (hset : s.setFrozen k = false)
    (hqueue : s.rp.patrolQ = []) (hx : r.bits0 = some x) (hy : r.bits1 = some y) (hx8 : x ≤ 8) (hy8 : y ≤ 8) :
    ∃ t : State, exec (.shallowsPatrol k [r]) s = .next t ∧ t.wp.index = s.wp.index ∧ t.wp.entries = s.wp.entries ∧ t.dr.shAt[k] = t.now := by
  show ∃ t : State, execShallowsPatrol k [r] s = .next t ∧ _
  unfold execShallowsPatrol
  rw [if_neg (by simp [hset])]
  extract_lets passed _ begun read
  have hread : ∃ rp, read = { begun with rp := rp } := by
    obtain ⟨paused, hrp⟩ := s.since_rp s.dr.shAt[k] (secTicks 600)
    exact State.patrolCopy_of_strong (s := begun) ((congrArg Rp.patrolQ hrp).trans hqueue) hx hy hx8 hy8 k
  obtain ⟨rp, hread⟩ := hread
  obtain ⟨map, hmarked⟩ := foldl_setRfsh_touches (read.agedLive k) read
  generalize (read.agedLive k).foldl State.setRfsh read = marked at hmarked ⊢
  have hwp : marked.wp = s.wp := by
    rw [hmarked, hread]
    rfl
  have hround : marked.dr.shAt[k] = marked.now := by
    rw [hmarked, hread]
    exact Vector.getElem_set_self ..
  obtain ⟨pm, nt, hdone⟩ := s.done_touches marked.judgeMarks
  refine ⟨_, hdone, ?_, ?_, ?_⟩
  · show marked.judgeMarks.wp.index = _
    rw [State.judgeMarks_wp, hwp]
  · show marked.judgeMarks.wp.entries = _
    rw [State.judgeMarks_wp, hwp]
  · show marked.judgeMarks.dr.shAt[k] = marked.judgeMarks.now
    obtain ⟨_, _, _, _, _, _, _, _, h⟩ := marked.judgeMarks_touches
    rw [h]
    exact hround

/-! ### Read disturb (R149) -/

theorem exec_readDisturbVisit_at_limit {s : State} {q : SegKey} (h : 2 ^ s.dr.params.disturbLog ≤ (s.drSeg q).rdc) :
    ∃ t : State, exec (.readDisturbVisit q) s = .next t ∧ (t.dr.patrol[q.set]).next.head? = some (q, s.now) ∧ t.wp = s.wp :=
  ⟨_, if_pos h, State.visitNext_head .., rfl⟩

theorem exec_readDisturbVisit_below_limit {s : State} {q : SegKey} (h : (s.drSeg q).rdc < 2 ^ s.dr.params.disturbLog) :
    exec (.readDisturbVisit q) s = .next s := if_neg (not_le.2 h)

/-! ### The obligation -/

/-- Settles O44: a visit leaves the class that Table 06-4 gives the block after its slots (`visitSlots`), where one failed slot is enough
(`Worsens`); the Shallows patrol looks only through its own queue. -/
theorem patrolsJudgeBlocksAndEntries : Obligations.PatrolsJudgeBlocksAndEntries := by
  unfold Obligations.PatrolsJudgeBlocksAndEntries
  refine fun s => ⟨exec_patrolVisit_early, fun q hset hbands hsweep hdue => ⟨exec_patrolVisit_clears hset hbands hsweep hdue, fun v => ?_⟩,
    marginAfter_eq, fun k r x y => exec_shallowsPatrol_of_strong, fun q => exec_readDisturbVisit_at_limit,
    fun q => exec_readDisturbVisit_below_limit⟩
  obtain ⟨t, hexec, hclass⟩ := exec_patrolVisit_judges hset hbands hsweep hdue v
  refine ⟨t, hexec, fun hrecovered htag hlost => ?_, fun hfails => ?_⟩
  · obtain ⟨patrol, hpilot⟩ := s.pilotEnds_offList q ⟨q, v.pos⟩ v.pilot
    rw [hclass, State.visitSlots_of_clean _ _ hrecovered htag hlost, hpilot, ← s.pilotEnds_params ⟨q, v.pos⟩ v.pilot]
    rfl
  · rw [hclass, State.visitSlots_fails _ _ hfails, marginAfter_failing]

end Sys2Proof.Machine
end

section
/-! PROOFS. Statements about the host-triggered scrub (06_drift_and_scrub.md): it starts, is refused or aborted at its registers, and its records and
its summary hold what its lines came to (R153 to R156, Tables 06-7 to 06-11). -/

namespace Sys2Proof.Machine

open Sys2Proof.Laws

/-! ### Operations that leave the scrub blocks -/

theorem State.Notifies.scrub {s t : State} (h : s.Notifies t) (m : Fin 16) : (t.ld m).scrub = (s.ld m).scrub := by
  obtain ⟨_, _, hm⟩ := h m
  rw [hm]

theorem State.judgeMarks_notifies (s : State) : s.Notifies s.judgeMarks := by
  unfold State.judgeMarks
  extract_lets m old pct _ marked warned stopped
  have hwarned : s.Notifies warned := by
    unfold warned
    split
    · exact State.Notifies.trans (.of_lds rfl) (marked.event_notifies _ _ _ _ _ _ _)
    · exact .of_lds rfl
  have hstopped : s.Notifies stopped := by
    unfold stopped
    split
    · exact hwarned.trans (warned.event_notifies _ _ _ _ _ _ _)
    · exact hwarned
  split
  · exact .of_lds rfl
  · split
    · exact hstopped
    · exact hstopped.trans (.of_lds (State.raise_lds ..))

/-- The time a row speaks of passes: of the LDs, only the pauses of their groups' timers can grow. -/
theorem State.since_scrub (s : State) (t0 d : Nat) (m : Fin 16) : ((s.since t0 d).ld m).scrub = (s.ld m).scrub := by
  show ((s.ticked (d - (s.now - t0))).ld m).scrub = _
  generalize d - (s.now - t0) = d
  unfold State.ticked
  split
  · rfl
  · extract_lets counted timed _ paused
    have hcounted : counted.lds = s.lds := by
      obtain ⟨_, _, h⟩ := State.pmTicks_touches s.swapBanks d
      rw [show counted = s.swapBanks.pmTicks d from rfl, h]
      unfold State.swapBanks
      split
      · rfl
      · rfl
    have htimed : (timed.ld m).scrub = (counted.ld m).scrub := by
      unfold timed
      split
      · rw [mapLds_ld]
      · rfl
    have hpaused : paused.lds = timed.lds := by
      unfold paused
      split
      · rfl
      · rfl
    show (paused.lds[m]).scrub = (s.lds[m]).scrub
    rw [hpaused, ← hcounted]
    exact htimed

theorem State.metaRec_touches (s : State) (r : MetaRec) : ∃ u reserve, s.Allocs u ∧
    s.metaRec r = { u with wp := { u.wp with reserve := reserve } } := ⟨_, _, s.newMeta_allocs r _, rfl⟩

theorem State.metaRec_lds_now (s : State) (r : MetaRec) : (s.metaRec r).lds = s.lds ∧ (s.metaRec r).now = s.now := by
  obtain ⟨u, _, ⟨_, _, _, _, _, _, _, rfl⟩, h⟩ := s.metaRec_touches r
  rw [h]
  exact ⟨rfl, rfl⟩

theorem State.metaRec_index (s : State) (r : MetaRec) : (s.metaRec r).wp.index = s.wp.index := part_of_traffic Wp.index (s.metaRec_traffic r)

/-- The record is among those of the reserve. -/
theorem State.metaRec_mem (s : State) (r : MetaRec) : ∃ e ∈ (s.metaRec r).wp.reserve, e.item = r := ⟨_, List.mem_cons_self, rfl⟩

/-! ### The registers (R153 to R155) -/

theorem State.io_of_reaches {s : State} {who : Fin 17} (h : s.Reaches who) (c : Instr) (f : State → State) : s.io who c f = f s :=
  if_neg (by rw [h]; exact Bool.false_ne_true)

/-- The range of a scrub is not empty and lies within the LD's committed decoders. -/
def LD.ScrubInRange (l : LD) : Prop := l.scrub.len ≠ 0 ∧ covered l.decoded l.scrub.base (l.scrub.base + l.scrub.len) 5 = true

section
variable {s : State} {n : Fin 16} (hreach : s.Reaches (whoOf n))

theorem LD.ScrubInRange.iff_not {l : LD} :
    l.ScrubInRange ↔ ¬ (l.scrub.len = 0 ∨ covered l.decoded l.scrub.base (l.scrub.base + l.scrub.len) 5 = false) := by
  rw [not_or, Bool.not_eq_false]
  rfl

theorem State.scrubStart_out_of_range (hrange : ¬ (s.ld n).ScrubInRange) : s.scrubStart n = s.scrubReject n 1 :=
  if_pos (not_not.1 (mt LD.ScrubInRange.iff_not.2 hrange))

theorem State.scrubStart_running (hrange : (s.ld n).ScrubInRange) (hbusy : (s.ld n).scrub.busy = true) : s.scrubStart n = s.scrubReject n 2 :=
  (if_neg (LD.ScrubInRange.iff_not.1 hrange)).trans (if_pos hbusy)

theorem State.scrubStart_not_ready (hrange : (s.ld n).ScrubInRange) (hidle : (s.ld n).scrub.busy = false) (hready : s.lk.mediaReady = false) :
    s.scrubStart n = s.scrubReject n 3 :=
  (if_neg (LD.ScrubInRange.iff_not.1 hrange)).trans ((if_neg (by rw [hidle]; exact Bool.false_ne_true)).trans (if_pos hready))

/-- The scrub block as a START that is taken leaves it, before its first record. -/
def Scrub.started (x : Scrub) (now : Nat) : Scrub :=
  { x with busy := true, aborting := false, snum := (x.snum + 1) % 2 ^ 32, counts := scrubZero, startTick := now, scan := false
           incomplete := false, sumBase := x.base, sumLen := x.len }

theorem State.scrubStart_taken (hrange : (s.ld n).ScrubInRange) (hidle : (s.ld n).scrub.busy = false) (hready : s.lk.mediaReady = true) :
    s.scrubStart n = (s.modScrub n fun x => x.started s.now).scrubRecord n 0 :=
  (if_neg (LD.ScrubInRange.iff_not.1 hrange)).trans ((if_neg (by rw [hidle]; exact Bool.false_ne_true)).trans
    (if_neg (by simp [hready])))

/-- A scrub block once a record of it is durable. -/
def Scrub.recorded (x : Scrub) (now : Nat) : Scrub := { x with durable := x.counts, recTick := now, progress := x.counts.checked }

theorem State.scrubRecord_scrub (s : State) (n : Fin 16) (flags : Nat) :
    ((s.scrubRecord n flags).ld n).scrub = (s.ld n).scrub.recorded s.now := by
  unfold State.scrubRecord
  extract_lets x
  show ((State.metaRec _ _).lds[n]).scrub = _
  rw [(State.metaRec_lds_now _ _).1]
  exact modScrub_scrub s n _

include hreach

theorem exec_scrubStart_refused {cause : Nat} (h : s.scrubStart n = s.scrubReject n cause) : ∃ t : State, exec (.scrubStart n) s = .next t ∧
    t.lds[n].scrub = { s.lds[n].scrub with rej := true, cause := cause } ∧ t.wp = s.wp := by
  refine ⟨_, congrArg Host.Outcome.next ((State.io_of_reaches hreach _ _).trans h), ?_, rfl⟩
  exact modScrub_scrub s n _

theorem exec_scrubStart_taken (hrange : (s.ld n).ScrubInRange) (hidle : (s.ld n).scrub.busy = false) (hready : s.lk.mediaReady = true) :
    ∃ t : State, exec (.scrubStart n) s = .next t ∧ t.lds[n].scrub = (s.lds[n].scrub.started s.now).recorded s.now := by
  refine ⟨_, congrArg Host.Outcome.next ((State.io_of_reaches hreach _ _).trans (State.scrubStart_taken hrange hidle hready)), ?_⟩
  refine (State.scrubRecord_scrub _ n 0).trans ?_
  rw [modScrub_scrub]
  rfl

theorem exec_scrubAbort_marks (hbusy : (s.ld n).scrub.busy = true) (hscan : (s.ld n).scrub.scan = false) :
    ∃ t : State, exec (.scrubAbort n) s = .next t ∧ t.lds[n].scrub = { s.lds[n].scrub with aborting := true } :=
  ⟨_, congrArg Host.Outcome.next ((State.io_of_reaches hreach _ _).trans (if_pos ⟨hbusy, hscan⟩)), modScrub_scrub s n _⟩

end

/-! ### The lines found (R141, R153) -/

section
variable {s : State} {n : Fin 16}

theorem State.wantPilots_nil (s : State) : s.wantPilots [] = s := rfl

theorem State.anyPend_nil (s : State) : s.anyPend [] = false := rfl

/-- Without a read of the Peat no pilot read is due, and the lines found are checked. -/
theorem State.scrubLines_of_no_blocks {repair : Bool} {found : List LineFound}
    (h : s.scrubBlocks (inScrub (s.ld n).scrub.sumBase (s.ld n).scrub.sumLen found) = []) : s.scrubLines n repair found =
      (some ((inScrub (s.ld n).scrub.sumBase (s.ld n).scrub.sumLen found).foldl (fun s x => s.checkLine n repair x) s), s) := by
  unfold State.scrubLines
  simp only [h, State.wantPilots_nil, State.anyPend_nil, Bool.false_eq_true, if_false]

theorem State.scrubLines_none {repair : Bool} : s.scrubLines n repair [] = (some s, s) := State.scrubLines_of_no_blocks rfl

theorem State.scrubLines_shallows {repair : Bool} {f : LineFound} (hhome : s.homeBlock f.line = none) (hlow : (s.ld n).scrub.sumBase ≤ f.line * 64)
    (hhigh : f.line * 64 < (s.ld n).scrub.sumBase + (s.ld n).scrub.sumLen) : s.scrubLines n repair [f] = (some (s.checkLine n repair f), s) := by
  have hrange : inScrub (s.ld n).scrub.sumBase (s.ld n).scrub.sumLen [f] = [f] := by simp [inScrub, hlow, hhigh]
  have hblocks : s.scrubBlocks [f] = [] := by simp [State.scrubBlocks, hhome]
  rw [State.scrubLines_of_no_blocks (by rw [hrange, hblocks]), hrange, List.foldl_cons, List.foldl_nil]

/-- What a scrub's lines can come to, as far as its summary goes: its counts, at the same tick. -/
structure State.Counted (s : State) (n : Fin 16) (t : State) (c : ScrubCounts) : Prop where
  scrub : (t.ld n).scrub = { (s.ld n).scrub with counts := c }
  now : t.now = s.now

theorem State.scrubCount_counted (s : State) (n : Fin 16) (f : ScrubCounts → ScrubCounts) :
    s.Counted n (s.scrubCount n f) (f (s.ld n).scrub.counts) := ⟨modScrub_scrub s n _, rfl⟩

variable {f : LineFound} {repair : Bool}

theorem State.lineRes_skipped (h : s.allocated n f.line = false) : s.lineRes n f = .skipped := if_pos h

theorem State.lineRes_empty (h : s.allocated n f.line = true) (hzero : s.version f.line = .zero) : s.lineRes n f = .empty := by
  unfold State.lineRes
  rw [if_neg (by simp [h]), hzero]

theorem State.lineRes_prior (h : s.allocated n f.line = true) (hpoison : s.version f.line = .poison) : s.lineRes n f = .prior := by
  unfold State.lineRes
  rw [if_neg (by simp [h]), hpoison]

theorem State.checkLine_skipped (h : s.allocated n f.line = false) :
    s.Counted n (s.checkLine n repair f) { (s.ld n).scrub.counts with skipped := true } := by
  unfold State.checkLine
  rw [State.lineRes_skipped h]
  extract_lets r
  rw [if_pos rfl]
  exact s.scrubCount_counted n _

theorem State.checkLine_empty (h : s.allocated n f.line = true) (hzero : s.version f.line = .zero) (hhome : s.homeBlock f.line = none) :
    s.Counted n (s.checkLine n repair f) { (s.ld n).scrub.counts with checked := (s.ld n).scrub.counts.checked + 1 } := by
  unfold State.checkLine
  rw [State.lineRes_empty h hzero]
  extract_lets r counted sensed
  have hsensed : sensed = counted := by
    unfold sensed
    rw [show counted.homeBlock f.line = none from hhome]
  rw [if_neg (by simp [r]), hsensed]
  exact s.scrubCount_counted n _

theorem State.checkLine_prior (h : s.allocated n f.line = true) (hpoison : s.version f.line = .poison) (hhome : s.homeBlock f.line = none) :
    s.Counted n (s.checkLine n repair f)
      { (s.ld n).scrub.counts with checked := (s.ld n).scrub.counts.checked + 1, prior := (s.ld n).scrub.counts.prior + 1 } := by
  unfold State.checkLine
  rw [State.lineRes_prior h hpoison]
  extract_lets r counted sensed
  have hsensed : sensed = counted := by
    unfold sensed
    rw [show counted.homeBlock f.line = none from hhome]
  have hcounted := s.scrubCount_counted n fun c => { c with checked := c.checked + 1 }
  have hprior := counted.scrubCount_counted n fun c => { c with prior := c.prior + 1 }
  rw [if_neg (by simp [r]), hsensed]
  refine ⟨hprior.scrub.trans ?_, rfl⟩
  rw [show (counted.ld n).scrub = _ from hcounted.scrub]

end

/-! ### The records (R155, R156) -/

theorem scrubFlags_running (skipped : Bool) : scrubFlags false false false skipped = if skipped = true then 8 else 0 := by
  cases skipped <;> rfl

theorem scrubFlags_ended (aborting skipped : Bool) :
    scrubFlags (!aborting) aborting false skipped = (if aborting = true then 2 else 1) + (if skipped = true then 8 else 0) := by
  cases aborting <;> cases skipped <;> rfl

/-- A scrub block once its scrub has ended with a summary. -/
def Scrub.finished (x : Scrub) (flags now : Nat) : Scrub :=
  { x with busy := false, done := true, aborting := false, incomplete := false, progress := x.counts.checked
           last := some ⟨flags, x.snum, x.counts, now - x.startTick⟩ }

theorem State.scrubFinish_scrub (s : State) (n : Fin 16) (flags : Nat) :
    ((s.scrubFinish n flags).ld n).scrub = (s.ld n).scrub.finished flags s.now := by
  have hfinished := modScrub_scrub s n fun x => x.finished flags s.now
  unfold State.scrubFinish
  extract_lets ended
  split
  · show ((State.raise _ _ _ _).lds[n]).scrub = _
    rw [State.raise_lds]
    exact hfinished
  · exact hfinished

section
variable {s : State} {n : Fin 16} (hbusy : (s.ld n).scrub.busy = true) (hscan : (s.ld n).scrub.scan = false)
include hbusy hscan

theorem exec_scrubProgressRecord_records : ∃ (t : State) (e : MetaEnt), exec (.scrubProgressRecord n [] []) s = .next t ∧
    (∃ now, (t.ld n).scrub = (s.ld n).scrub.recorded now) ∧ e ∈ t.wp.reserve ∧
    e.item = .scrub n (s.ld n).scrub.snum (if (s.ld n).scrub.counts.skipped = true then 8 else 0) (s.ld n).scrub.sumBase (s.ld n).scrub.sumLen
      (s.ld n).scrub.counts ∧ t.wp.index = s.wp.index := by
  have hpassed := s.since_scrub (s.ld n).scrub.recTick (2 ^ 30) n
  have hwp : (s.since (s.ld n).scrub.recTick (2 ^ 30)).wp = s.wp := rfl
  have hexec : exec (.scrubProgressRecord n [] []) s = s.done ((s.since (s.ld n).scrub.recTick (2 ^ 30)).scrubRecord n
      (scrubFlags false false false ((s.since (s.ld n).scrub.recTick (2 ^ 30)).ld n).scrub.counts.skipped)).judgeMarks := by
    show execScrubProgressRecord n [] [] s = _
    unfold execScrubProgressRecord
    extract_lets x
    rw [if_pos ⟨hbusy, hscan⟩, List.append_nil, State.scrubLines_none]
  generalize s.since (s.ld n).scrub.recTick (2 ^ 30) = u at hpassed hwp hexec
  rw [hpassed, scrubFlags_running] at hexec
  obtain ⟨e, hmem, hitem⟩ := State.metaRec_mem (u.modScrub n fun x => x.recorded u.now) (.scrub n (u.ld n).scrub.snum
    (if (s.ld n).scrub.counts.skipped = true then 8 else 0) (u.ld n).scrub.sumBase (u.ld n).scrub.sumLen (u.ld n).scrub.counts)
  have hscrub := u.scrubRecord_scrub n (if (s.ld n).scrub.counts.skipped = true then 8 else 0)
  have hindex : (u.scrubRecord n (if (s.ld n).scrub.counts.skipped = true then 8 else 0)).wp.index = u.wp.index := State.metaRec_index ..
  rw [hpassed] at hitem hscrub
  change e ∈ (u.scrubRecord n _).wp.reserve at hmem
  generalize u.scrubRecord n _ = v at hexec hmem hscrub hindex
  obtain ⟨pm, nt, hdone⟩ := s.done_touches v.judgeMarks
  refine ⟨_, e, hexec.trans hdone, ⟨u.now, ?_⟩, ?_, hitem, ?_⟩
  · exact (v.judgeMarks_notifies.scrub n).trans hscrub
  · show e ∈ v.judgeMarks.wp.reserve
    rw [State.judgeMarks_wp]
    exact hmem
  · show v.judgeMarks.wp.index = _
    rw [State.judgeMarks_wp, ← hwp]
    exact hindex

/-- A scrub whose last lines come to some counts ends with these in its block and in its summary. -/
theorem exec_scrubEnd_ends {found lost : List LineFound} {t u : State} {c : ScrubCounts}
    (hlines : s.scrubLines n (s.ld n).scrub.repair (found ++ lost) = (some t, u)) (hcounted : s.Counted n t c) :
    ∃ t' : State, exec (.scrubEnd n found lost) s = .next t' ∧ ∃ now, (t'.ld n).scrub =
      Scrub.finished (Scrub.recorded { (s.ld n).scrub with counts := c } now)
        ((if (s.ld n).scrub.aborting = true then 2 else 1) + (if c.skipped = true then 8 else 0)) s.now := by
  have hexec : exec (.scrubEnd n found lost) s = s.done ((t.scrubRecord n (scrubFlags (!(s.ld n).scrub.aborting) (s.ld n).scrub.aborting false
      (t.ld n).scrub.counts.skipped)).scrubFinish n (scrubFlags (!(s.ld n).scrub.aborting) (s.ld n).scrub.aborting false
      (t.ld n).scrub.counts.skipped)).judgeMarks := by
    show execScrubEnd n found lost s = _
    unfold execScrubEnd
    extract_lets x
    rw [if_pos ⟨hbusy, hscan⟩, hlines]
  rw [hcounted.scrub, scrubFlags_ended] at hexec
  dsimp only at hexec
  generalize (if (s.ld n).scrub.aborting = true then 2 else 1) + (if c.skipped = true then 8 else 0) = flags at hexec ⊢
  have hrecorded := t.scrubRecord_scrub n flags
  have hnow : (t.scrubRecord n flags).now = s.now := (State.metaRec_lds_now _ _).2.trans hcounted.now
  have hfinished := (t.scrubRecord n flags).scrubFinish_scrub n flags
  rw [hnow, hrecorded, hcounted.scrub] at hfinished
  generalize (t.scrubRecord n flags).scrubFinish n flags = v at hexec hfinished
  obtain ⟨pm, nt, hdone⟩ := s.done_touches v.judgeMarks
  exact ⟨_, hexec.trans hdone, t.now, (v.judgeMarks_notifies.scrub n).trans hfinished⟩

end

/-! ### The obligation -/

/-- Settles O45: a START is judged in the order of Table 06-9, and the summary holds the counts that the last lines came to (`Counted`). -/
theorem scrubsStartStopAndReport : Obligations.ScrubsStartStopAndReport := by
  unfold Obligations.ScrubsStartStopAndReport
  intro s n x inRange refused
  refine ⟨fun hreach => ⟨fun hrange hidle hready => ?_, fun hrange => ?_, fun hrange hbusy => ?_, fun hrange hidle hready => ?_,
    exec_scrubAbort_marks hreach⟩, fun hbusy hscan => ⟨?_, ?_⟩⟩
  · obtain ⟨t, hexec, hscrub⟩ := exec_scrubStart_taken hreach hrange hidle hready
    refine ⟨t, hexec, ?_⟩
    rw [hscrub]
    exact ⟨rfl, rfl, rfl, rfl, rfl, rfl, rfl, rfl⟩
  · exact exec_scrubStart_refused hreach (State.scrubStart_out_of_range hrange)
  · exact exec_scrubStart_refused hreach (State.scrubStart_running hrange hbusy)
  · exact exec_scrubStart_refused hreach (State.scrubStart_not_ready hrange hidle hready)
  · obtain ⟨t, e, hexec, ⟨now, hscrub⟩, hmem, hitem, hindex⟩ := exec_scrubProgressRecord_records hbusy hscan
    have hscrub : t.lds[n].scrub = x.recorded now := hscrub
    refine ⟨t, e, hexec, ?_⟩
    rw [hscrub]
    exact ⟨rfl, rfl, hbusy, hmem, hitem, hindex⟩
  · intro ends
    have hends : ∀ {all : List LineFound} {t u : State} {c : ScrubCounts}, s.scrubLines n x.repair all = (some t, u) → s.Counted n t c →
        ends all c := by
      rintro _ t u c hlines hcounted found lost rfl
      obtain ⟨t', hexec, now, hscrub⟩ := exec_scrubEnd_ends hbusy hscan hlines hcounted
      have hscrub : t'.lds[n].scrub = _ := hscrub
      refine ⟨t', hexec, ?_⟩
      rw [hscrub]
      exact ⟨rfl, rfl, rfl, rfl, rfl⟩
    refine ⟨hends State.scrubLines_none ⟨rfl, rfl⟩, fun f hhome hlow hhigh => ?_⟩
    have hline := State.scrubLines_shallows (repair := x.repair) hhome hlow hhigh
    exact ⟨fun hfree => hends hline (State.checkLine_skipped hfree), fun hheld hzero => hends hline (State.checkLine_empty hheld hzero hhome),
      fun hheld hpoison => hends hline (State.checkLine_prior hheld hpoison hhome)⟩

end Sys2Proof.Machine
end

section
/-! PROOFS. What the operations of commit groups leave (07_commit_groups.md): the drop of tentative lines, the close of a group and its commit change
one window, the Shallows and the outbound links, and nothing else that the host sees. -/

namespace Sys2Proof.Machine

open Sys2Proof.Laws

/-! ### One window of one LD -/

theorem State.modWin_win_other (s : State) (n : Fin 16) {w m : Fin 64} (f : Win → Win) (h : w ≠ m) :
    (s.modWin n w f).win n m = s.win n m := by
  show ((s.modLd n fun l => { l with wins := vmod l.wins w f }).ld n).wins[m] = _
  rw [modLd_ld, vmod_get, if_neg h]
  rfl

theorem State.modWin_ld_other (s : State) {n k : Fin 16} (w : Fin 64) (f : Win → Win) (h : n ≠ k) : (s.modWin n w f).ld k = s.ld k :=
  modLd_ld_other s n k _ h

theorem State.modWin_cw (s : State) (n : Fin 16) (w : Fin 64) (f : Win → Win) : ((s.modWin n w f).ld n).cw = (s.ld n).cw := by
  unfold State.modWin
  rw [modLd_ld]

theorem State.modCw_win (s : State) (n : Fin 16) (f : Cw → Cw) (w : Fin 64) : (s.modCw n f).win n w = s.win n w := by
  unfold State.modCw State.win
  rw [modLd_ld]

/-! ### What the host sees of its groups -/

/-- What the host sees of its groups: the LDs with their windows, the scratchpads with the outcome rings, and the timebase. -/
def State.hostSide (s : State) : Vector LD 16 × Sp × Nat := (s.lds, s.sp, s.now)

section
variable {s t : State} (h : t.hostSide = s.hostSide)
include h

theorem State.lds_of_hostSide : t.lds = s.lds := congrArg Prod.fst h

theorem State.sp_of_hostSide : t.sp = s.sp := congrArg (fun v => v.2.1) h

theorem State.now_of_hostSide : t.now = s.now := congrArg (fun v => v.2.2) h

theorem State.ld_of_hostSide (n : Fin 16) : t.ld n = s.ld n := congrArg (·[n]) (State.lds_of_hostSide h)

theorem State.win_of_hostSide (n : Fin 16) (w : Fin 64) : t.win n w = s.win n w := congrArg (fun l : LD => l.wins[w]) (State.ld_of_hostSide h n)

end

theorem State.Allocs.hostSide {s t : State} (h : s.Allocs t) : t.hostSide = s.hostSide := by
  obtain ⟨_, _, _, _, _, _, _, rfl⟩ := h
  rfl

section
variable (s : State)

@[simp] theorem State.modEntry_hostSide (p : Place) (f : Entry → Entry) : (s.modEntry p f).hostSide = s.hostSide := by
  unfold State.modEntry
  split
  · rfl
  · rfl

@[simp] theorem State.kill_hostSide (p : Place) : (s.kill p).hostSide = s.hostSide := s.modEntry_hostSide p _

@[simp] theorem State.cacheDrop_hostSide (line : Nat) : (s.cacheDrop line).hostSide = s.hostSide := by
  unfold State.cacheDrop
  split
  · rfl
  · rfl

@[simp] theorem State.poisonAdd_hostSide (line lines : Nat) (src : PoisonSrc) : (s.poisonAdd line lines src).hostSide = s.hostSide := by
  unfold State.poisonAdd
  split
  · rfl
  · split
    · rfl
    · rfl

@[simp] theorem State.poisonDrop_hostSide (line lines : Nat) : (s.poisonDrop line lines).hostSide = s.hostSide := rfl

@[simp] theorem State.setIndex_hostSide (line : Nat) (r : IndexRec) : (s.setIndex line r).hostSide = s.hostSide := rfl

@[simp] theorem State.putEntry_hostSide (p : Place) (e : Entry) : (s.putEntry p e).hostSide = s.hostSide := rfl

@[simp] theorem State.indexLine_hostSide (line : Nat) (p : Place) (seq : Nat) (psn : Bool) :
    (s.indexLine line p seq psn).hostSide = s.hostSide := by
  unfold State.indexLine
  extract_lets r
  split
  · rfl
  · split
    · rfl
    · split
      · exact State.kill_hostSide ..
      · exact (State.setIndex_hostSide ..).trans (State.kill_hostSide ..)

@[simp] theorem State.metaRec_hostSide (r : MetaRec) : (s.metaRec r).hostSide = s.hostSide := (s.newMeta_allocs r _).hostSide

@[simp] theorem State.setDirtyBit_hostSide (t : Fin 8) (g : Nat) : (s.setDirtyBit t g).hostSide = s.hostSide := by
  unfold State.setDirtyBit
  split
  · rfl
  · exact State.metaRec_hostSide ..

@[simp] theorem State.tetherSend_hostSide (t : Fin 8) (m : LodeMsg) : (s.tetherSend t m).hostSide = s.hostSide := by
  unfold State.tetherSend
  split
  · rfl
  · rfl

end

/-! ### A group closes without a commit (R168, R172) -/

/-- A window once its group has closed with an outcome other than 0x01. -/
def Win.closed (v : Win) (code q : Nat) (p : Option Place) : Win :=
  { v with state := if code = 3 then .timedOut else .aborted, outcome := code, closing := some code, recSeq := q, recPlace := p, recIssued := false }

/-- The tentative lines of a window are gone, and neither the host nor the index has noticed. -/
structure State.Dropped (s : State) (n : Fin 16) (w : Fin 64) (t : State) : Prop where
  host : t.hostSide = s.hostSide
  index : t.wp.index = s.wp.index
  tents : ∀ x ∈ t.wp.tents, ¬(x.ld = n ∧ x.win = w)

/-- What is left after a window's tentative records are taken out. -/
theorem not_mem_tents_filter {n : Fin 16} {w : Fin 64} {l : List TentRec} {x : TentRec} (h : x ∈ l.filter fun t => !(t.ld == n && t.win == w)) :
    ¬(x.ld = n ∧ x.win = w) := by
  rintro ⟨rfl, rfl⟩
  simp at h

section
variable {s t u : State} {n : Fin 16} {w : Fin 64}

theorem State.dropTents_dropped (s : State) (n : Fin 16) (w : Fin 64) : s.Dropped n w (s.dropTents n w) := by
  unfold State.dropTents
  extract_lets mine killed
  have hhost : killed.hostSide = s.hostSide := foldl_keeps State.hostSide (fun u (t : TentRec) => u.kill_hostSide t.place) mine s
  have hindex : killed.wp.index = s.wp.index :=
    foldl_keeps (fun u : State => u.wp.index) (fun u (t : TentRec) => part_of_traffic Wp.index (u.kill_traffic t.place)) mine s
  exact ⟨hhost, hindex, fun x hx => not_mem_tents_filter hx⟩

theorem State.Dropped.allocs (h : s.Dropped n w t) (hallocs : t.Allocs u) : s.Dropped n w u where
  host := hallocs.hostSide.trans h.host
  index := (part_of_traffic Wp.index hallocs.traffic).trans h.index
  tents := by rw [part_of_traffic Wp.tents hallocs.traffic]; exact h.tents

theorem State.Dropped.of_wp (h : s.Dropped n w t) (hhost : u.hostSide = t.hostSide) (hwp : u.wp = t.wp) : s.Dropped n w u where
  host := hhost.trans h.host
  index := by rw [hwp]; exact h.index
  tents := by rw [hwp]; exact h.tents

/-- A close: the tentative lines are dropped, and then the window's group is closed. -/
theorem State.closeGroup_closes (s : State) (n : Fin 16) (w : Fin 64) (code : Nat) :
    ∃ u q p, s.Dropped n w u ∧ s.closeGroup n w code = u.modWin n w fun v => v.closed code q p := by
  have hnumbered : s.Dropped n w (s.dropTents n w).nextSeq.2 := (s.dropTents_dropped n w).allocs (State.nextSeq_allocs _)
  unfold State.closeGroup
  extract_lets dropped
  generalize dropped.nextSeq = numbered at hnumbered ⊢
  obtain ⟨q, t⟩ := numbered
  have hplaced := hnumbered.allocs (t.allocMeta_allocs q false)
  dsimp only at hplaced ⊢
  generalize t.allocMeta q false = placed at hplaced ⊢
  obtain ⟨p, u⟩ := placed
  refine ⟨_, q, p, ?_, rfl⟩
  split
  · exact hplaced.of_wp (State.tetherSend_hostSide ..) (State.tetherSend_wp ..)
  · exact hplaced

/-- What the host and the index see of a close. -/
structure State.Closes (s : State) (n : Fin 16) (w : Fin 64) (code : Nat) (t : State) : Prop where
  win : ∃ q p, t.win n w = (s.win n w).closed code q p
  others : ∀ m, w ≠ m → t.win n m = s.win n m
  cw : (t.ld n).cw = (s.ld n).cw
  now : t.now = s.now
  index : t.wp.index = s.wp.index
  tents : ∀ x ∈ t.wp.tents, ¬(x.ld = n ∧ x.win = w)

theorem State.closeGroup_of_any (s : State) (n : Fin 16) (w : Fin 64) (code : Nat) : s.Closes n w code (s.closeGroup n w code) := by
  obtain ⟨u, q, p, hdropped, hclosed⟩ := s.closeGroup_closes n w code
  have hwin := State.win_of_hostSide hdropped.host n
  rw [hclosed]
  refine ⟨⟨q, p, ?_⟩, fun m hm => ?_, ?_, (modWin_now ..).trans (State.now_of_hostSide hdropped.host), hdropped.index, hdropped.tents⟩
  · rw [modWin_win, hwin]
  · rw [State.modWin_win_other _ _ _ hm, hwin]
  · rw [State.modWin_cw, State.ld_of_hostSide hdropped.host]

end

/-! ### Every group of an LD without a commit record closes (R169) -/

/-- Whether a window holds a group that a disable closes: open or committing, without a commit record issued. -/
def Win.unrecorded (v : Win) : Bool := v.active && !v.recIssued

theorem Win.closed_active (v : Win) (code q : Nat) (p : Option Place) : (v.closed code q p).active = false := by
  unfold Win.active Win.closed
  split
  · rfl
  · rfl

theorem Win.unrecorded_of_closed (v : Win) (code q : Nat) (p : Option Place) : (v.closed code q p).unrecorded = false := by
  unfold Win.unrecorded
  rw [Win.closed_active, Bool.false_and]

/-- The step of `closeAll` for one window. -/
def State.closeUnrecorded (n : Fin 16) (code : Nat) (s : State) (w : Fin 64) : State :=
  if (s.win n w).unrecorded then s.closeGroup n w code else s

theorem State.closeAll_eq (s : State) (n : Fin 16) (code : Nat) : s.closeAll n code = (allFin 64).foldl (State.closeUnrecorded n code) s := rfl

section
variable {s : State} {n : Fin 16} {code : Nat} {w : Fin 64}

theorem State.closeUnrecorded_closes (h : (s.win n w).unrecorded = true) : s.Closes n w code (State.closeUnrecorded n code s w) := by
  unfold State.closeUnrecorded
  rw [if_pos h]
  exact s.closeGroup_of_any n w code

theorem State.closeUnrecorded_idle (h : (s.win n w).unrecorded = false) : State.closeUnrecorded n code s w = s :=
  if_neg (by rw [h]; exact Bool.false_ne_true)

theorem State.closeUnrecorded_other {m : Fin 64} (h : m ≠ w) : (State.closeUnrecorded n code s m).win n w = s.win n w := by
  cases hm : (s.win n m).unrecorded with
  | true => exact (State.closeUnrecorded_closes hm).others w h
  | false => rw [State.closeUnrecorded_idle hm]

/-- A window without a group to close stands through the closes of any windows. -/
theorem foldl_closeUnrecorded_win_of_idle (l : List (Fin 64)) (h : (s.win n w).unrecorded = false) :
    (l.foldl (State.closeUnrecorded n code) s).win n w = s.win n w := by
  induction l generalizing s with
  | nil => rfl
  | cons m l ih =>
    have hstands : (State.closeUnrecorded n code s m).win n w = s.win n w := by
      by_cases hm : m = w
      · rw [hm, State.closeUnrecorded_idle h]
      · exact State.closeUnrecorded_other hm
    rw [List.foldl_cons, ih (by rw [hstands]; exact h), hstands]

/-- A window with a group to close has it closed once its turn has come, and then stands. -/
theorem foldl_closeUnrecorded_win (l : List (Fin 64)) (hw : w ∈ l) (h : (s.win n w).unrecorded = true) :
    ∃ q p, (l.foldl (State.closeUnrecorded n code) s).win n w = (s.win n w).closed code q p := by
  induction l generalizing s with
  | nil => cases hw
  | cons m l ih =>
    rw [List.foldl_cons]
    by_cases hm : m = w
    · subst hm
      obtain ⟨q, p, hclosed⟩ := (State.closeUnrecorded_closes (code := code) h).win
      refine ⟨q, p, (foldl_closeUnrecorded_win_of_idle l ?_).trans hclosed⟩
      rw [hclosed, Win.unrecorded_of_closed]
    · have hstands : (State.closeUnrecorded n code s m).win n w = s.win n w := State.closeUnrecorded_other hm
      rw [← hstands] at h ⊢
      exact ih ((List.mem_cons.1 hw).resolve_left (Ne.symm hm)) h

theorem State.closeAll_keeps (s : State) (n : Fin 16) (code : Nat) :
    ((s.closeAll n code).ld n).cw = (s.ld n).cw ∧ (s.closeAll n code).wp.index = s.wp.index := by
  have hstep : ∀ (s : State) (w : Fin 64), ((State.closeUnrecorded n code s w).ld n).cw = (s.ld n).cw ∧
      (State.closeUnrecorded n code s w).wp.index = s.wp.index := by
    intro s w
    cases hw : (s.win n w).unrecorded with
    | true => exact ⟨(State.closeUnrecorded_closes hw).cw, (State.closeUnrecorded_closes hw).index⟩
    | false => rw [State.closeUnrecorded_idle hw]; exact ⟨rfl, rfl⟩
  rw [State.closeAll_eq]
  exact ⟨foldl_keeps (fun t : State => (t.ld n).cw) (fun s w => (hstep s w).1) _ s,
    foldl_keeps (fun t : State => t.wp.index) (fun s w => (hstep s w).2) _ s⟩

end

end Sys2Proof.Machine
end

section
/-! PROOFS. Statements about transactional regions (07_commit_groups.md): a region opens with its ring and leases at zero, and its disable closes the
groups without a commit record (R158, R169, R177, R178). -/

namespace Sys2Proof.Machine

open Sys2Proof.Laws

/-! ### The region is enabled (R158, R177, R178) -/

/-- A table from which keys were taken reads its default at those, and as before at the others. -/
theorem tget_filter_key {β : Type} (d : β) (keep : Nat → Bool) (m : Tbl β) (k : Nat) :
    tget d (m.filter fun c => keep c.1) k = if keep k = true then tget d m k else d := by
  induction m with
  | nil => simp [tget]
  | cons c m ih =>
    cases hc : keep c.1 with
    | true =>
      rw [List.filter_cons, if_pos hc]
      simp only [tget]
      split
      · rename_i heq
        rw [← heq, if_pos hc]
      · exact ih
    | false =>
      rw [List.filter_cons, if_neg (by rw [hc]; exact Bool.false_ne_true), ih]
      split
      · rename_i hk
        have hne : c.1 ≠ k := fun heq => Bool.false_ne_true (hc.symm.trans (heq ▸ hk))
        simp only [tget, if_neg hne]
      · rfl

/-- The region as an enable that is taken leaves it. -/
def State.openRegion (s : State) (n : Fin 16) : State := ((s.modCw n fun c => { c with en := true }).clearLeases n).clearRing n

theorem State.openRegion_cw (s : State) (n : Fin 16) : ((s.openRegion n).ld n).cw = { (s.ld n).cw with en := true } :=
  modCw_cw s n fun c => { c with en := true }

theorem State.openRegion_bank (s : State) (n : Fin 16) : (s.openRegion n).sp.banks[whoOf n] =
    ((s.sp.banks[whoOf n]).filter fun c => !(0x3BD00 ≤ c.1 && c.1 < 0x3BF08)).filter
      fun c => !((0x3BF08 ≤ c.1 && c.1 < 0x3BF0C) || (0x3C000 ≤ c.1 && c.1 < 0x40000)) := by
  unfold State.openRegion State.clearRing State.clearLeases
  rw [modBank_bank, modBank_bank]
  rfl

theorem State.openRegion_read (s : State) (n : Fin 16) (a : Nat) : ((s.openRegion n).sp.banks[whoOf n]).read a =
    if (0x3BD00 ≤ a ∧ a < 0x3BF0C) ∨ (0x3C000 ≤ a ∧ a < 0x40000) then 0 else (s.sp.banks[whoOf n]).read a := by
  have hkept : ((!((0x3BF08 ≤ a && a < 0x3BF0C) || (0x3C000 ≤ a && a < 0x40000)) : Bool) = true ∧ (!(0x3BD00 ≤ a && a < 0x3BF08) : Bool) = true) ↔
      ¬((0x3BD00 ≤ a ∧ a < 0x3BF0C) ∨ (0x3C000 ≤ a ∧ a < 0x40000)) := by
    simp only [Bool.not_eq_true', Bool.or_eq_false_iff, Bool.and_eq_false_iff, decide_eq_false_iff_not]
    omega
  rw [State.openRegion_bank]
  unfold Mem.read
  rw [tget_filter_key 0 (fun a => !((0x3BF08 ≤ a && a < 0x3BF0C) || (0x3C000 ≤ a && a < 0x40000))),
    tget_filter_key 0 fun a => !(0x3BD00 ≤ a && a < 0x3BF08), ← ite_and, if_congr hkept rfl rfl, ite_not]

/-- Whether an LD's region may be enabled: over capacity that the LD holds, unlocked and free of a tether's bar (R158). -/
def State.MayOpen (s : State) (n : Fin 16) : Prop :=
  s.rangeHeld n (s.ld n).cw.base (s.ld n).cw.bytes = true ∧ (s.ld n).pass.locked = false ∧ s.tetherBarsIn (s.ld n).cw.base (s.ld n).cw.bytes = false

section
variable {s : State} {n : Fin 16} (hreach : s.Reaches (whoOf n))
include hreach

theorem exec_regionEnable_of_enabled (hen : (s.ld n).cw.en = true) : exec (.regionEnable n) s = .next s :=
  congrArg Host.Outcome.next ((State.io_of_reaches hreach _ _).trans (if_pos hen))

theorem exec_regionEnable_opens (hen : (s.ld n).cw.en = false) (hmay : s.MayOpen n) : exec (.regionEnable n) s = .next (s.openRegion n) :=
  congrArg Host.Outcome.next ((State.io_of_reaches hreach _ _).trans
    ((if_neg (by rw [hen]; exact Bool.false_ne_true)).trans (if_pos hmay)))

theorem exec_regionEnable_refused (hen : (s.ld n).cw.en = false) (hnot : ¬ s.MayOpen n) :
    exec (.regionEnable n) s = .next (s.modCw n fun c => { c with cfgerr := true }) :=
  congrArg Host.Outcome.next ((State.io_of_reaches hreach _ _).trans
    ((if_neg (by rw [hen]; exact Bool.false_ne_true)).trans (if_neg hnot)))

end

/-! ### The region is disabled (R169) -/

theorem exec_regionDisable {s : State} {n : Fin 16} (hreach : s.Reaches (whoOf n)) : exec (.regionDisable n) s = .next (s.regionDisable n) :=
  congrArg Host.Outcome.next (State.io_of_reaches hreach _ _)

theorem Win.unrecorded_iff {v : Win} : v.unrecorded = true ↔ v.active = true ∧ v.recIssued = false := by
  simp [Win.unrecorded]

/-- The LD's region no longer enabled, and its groups not yet closed. -/
def State.regionOff (s : State) (n : Fin 16) : State := s.modCw n fun c => { c with en := false }

section
variable (s : State) (n : Fin 16)

theorem State.regionDisable_eq : s.regionDisable n = (allFin 64).foldl (State.closeUnrecorded n 8) (s.regionOff n) := rfl

theorem State.regionOff_win (w : Fin 64) : (s.regionOff n).win n w = s.win n w := s.modCw_win n _ w

theorem State.regionDisable_keeps :
    ((s.regionDisable n).ld n).cw = { (s.ld n).cw with en := false } ∧ (s.regionDisable n).wp.index = s.wp.index := by
  obtain ⟨hcw, hindex⟩ := (s.regionOff n).closeAll_keeps n 8
  rw [State.regionDisable_eq, ← State.closeAll_eq]
  exact ⟨hcw.trans (modCw_cw s n _), hindex⟩

variable {s n} {w : Fin 64}

theorem State.regionDisable_closed (h : (s.win n w).unrecorded = true) :
    ∃ q p, (s.regionDisable n).win n w = (s.win n w).closed 8 q p := by
  rw [State.regionDisable_eq]
  rw [← s.regionOff_win] at h ⊢
  exact foldl_closeUnrecorded_win (allFin 64) (List.mem_finRange w) h

theorem State.regionDisable_stands (h : (s.win n w).unrecorded = false) : (s.regionDisable n).win n w = s.win n w := by
  rw [State.regionDisable_eq]
  rw [← s.regionOff_win] at h ⊢
  exact foldl_closeUnrecorded_win_of_idle (allFin 64) h

end

/-- Settles O49: an enable takes the leases and the ring out of the bank (`openRegion_read`); a disable closes the windows one after the other,
each by itself (`regionDisable_closed`, `regionDisable_stands`). -/
theorem transactionalRegionsOpenAndShut : Obligations.TransactionalRegionsOpenAndShut := by
  unfold Obligations.TransactionalRegionsOpenAndShut
  intro s n hreach c may
  refine ⟨fun hen hmay => ?_, exec_regionEnable_refused hreach, exec_regionEnable_of_enabled hreach, ?_⟩
  · refine ⟨_, exec_regionEnable_opens hreach hen hmay, s.openRegion_cw n, rfl, fun a ha => ?_, fun a ha => ?_⟩
    · rw [s.openRegion_read, if_pos ha]
    · rw [s.openRegion_read, if_neg (by omega)]
  · obtain ⟨hcw, hindex⟩ := s.regionDisable_keeps n
    have hcloses := fun w => State.regionDisable_closed (s := s) (n := n) (w := w)
    have hstands := fun w => State.regionDisable_stands (s := s) (n := n) (w := w)
    refine ⟨s.regionDisable n, exec_regionDisable hreach, ?_⟩
    generalize s.regionDisable n = t at hcw hindex hcloses hstands
    refine ⟨congrArg Cw.en hcw, hindex, fun w => ⟨fun hactive hrec => ?_, fun hidle => hstands w ?_⟩⟩
    · obtain ⟨q, p, hclosed⟩ := hcloses w (Win.unrecorded_iff.2 ⟨hactive, hrec⟩)
      show (t.win n w).state = _ ∧ (t.win n w).outcome = _ ∧ (t.win n w).closing = _
      rw [hclosed]
      exact ⟨rfl, rfl, rfl⟩
    · refine Bool.eq_false_iff.2 fun h => ?_
      obtain ⟨hactive, hrec⟩ := Win.unrecorded_iff.1 h
      exact hidle.elim (fun hnot => Bool.false_ne_true (hnot.symm.trans hactive)) fun hissued => Bool.false_ne_true (hrec.symm.trans hissued)

end Sys2Proof.Machine
end

section
/-! PROOFS. Statements about doorbells (07_commit_groups.md): a doorbell is judged in the order of R167, and a rejection marks its window alone. -/

namespace Sys2Proof.Machine

open Sys2Proof.Laws

/-! ### The checks in their order (R167) -/

/-- COUNT of a doorbell. -/
theorem field_count (v : Nat) : field v 16 0 = v % 2 ^ 17 := by simp [field]

/-- A doorbell whose OP, and for a commit its COUNT, R167 admits. -/
abbrev ValidDoorbell (v : Nat) : Prop := field v 18 17 = 2 ∨ (field v 18 17 = 1 ∧ 1 ≤ field v 16 0 ∧ field v 16 0 ≤ 65536)

theorem field_op_lt (v : Nat) : field v 18 17 < 4 := Nat.mod_lt _ (by decide)

theorem not_validDoorbell_iff {v : Nat} : ¬ ValidDoorbell v ↔
    field v 18 17 = 0 ∨ field v 18 17 = 3 ∨ (field v 18 17 = 1 ∧ (field v 16 0 = 0 ∨ 65536 < field v 16 0)) := by
  have := field_op_lt v
  unfold ValidDoorbell
  omega

/-- The group that GSEQ of a doorbell must name: the open or committing one, or the one that it would open. -/
def Win.nextGseq (v : Win) : Nat := if v.active then v.gseq else (v.gseq + 1) % 2 ^ 48

section
variable {s : State} {n : Fin 16} {w : Fin 64} {value : Nat}

theorem State.dbCause_partial : s.dbCause n w false value = 6 := rfl

theorem State.dbCause_of_disabled (hen : (s.ld n).cw.en = false) : s.dbCause n w true value = 5 := by
  unfold State.dbCause
  extract_lets v count op next
  rw [if_neg (by decide), if_pos (by rw [hen]; rfl)]

variable (hen : (s.ld n).cw.en = true)
include hen

theorem State.dbCause_of_enabled : s.dbCause n w true value =
    if ¬ ValidDoorbell value then 1
    else if field value 18 17 = 2 ∧ (s.win n w).active = false then 4
    else if (field value 18 17 = 2 ∧ (s.win n w).recIssued = true) ∨
      (field value 18 17 = 1 ∧ ((s.win n w).state = .committing ∨ (s.win n w).dbWait.isSome = true)) then 3
    else if bit value 19 = true ∧ field value 47 32 ≠ (s.win n w).nextGseq % 65536 then 2
    else 0 := by
  unfold State.dbCause
  extract_lets v count op next
  rw [if_neg (by decide), if_neg (by rw [hen]; decide), if_congr not_validDoorbell_iff rfl rfl]
  rfl

theorem State.dbCause_of_invalid (h : ¬ ValidDoorbell value) : s.dbCause n w true value = 1 := by
  rw [State.dbCause_of_enabled hen, if_pos h]

variable (hvalid : ValidDoorbell value)
include hvalid

theorem State.dbCause_of_abort_without_group (hop : field value 18 17 = 2) (hidle : (s.win n w).active = false) :
    s.dbCause n w true value = 4 := by
  rw [State.dbCause_of_enabled hen, if_neg (not_not.2 hvalid), if_pos ⟨hop, hidle⟩]

theorem State.dbCause_of_abort_recorded (hop : field value 18 17 = 2) (hactive : (s.win n w).active = true) (hrec : (s.win n w).recIssued = true) :
    s.dbCause n w true value = 3 := by
  rw [State.dbCause_of_enabled hen, if_neg (not_not.2 hvalid), if_neg (by simp [hactive]), if_pos (.inl ⟨hop, hrec⟩)]

theorem State.dbCause_of_commit_committing (hop : field value 18 17 = 1) (hstate : (s.win n w).state = .committing) :
    s.dbCause n w true value = 3 := by
  rw [State.dbCause_of_enabled hen, if_neg (not_not.2 hvalid), if_neg (by simp [hop]), if_pos (.inr ⟨hop, .inl hstate⟩)]

theorem State.dbCause_of_other_group (hgroup : ¬(field value 18 17 = 2 ∧ (s.win n w).active = false))
    (hfree : ¬((field value 18 17 = 2 ∧ (s.win n w).recIssued = true) ∨
      (field value 18 17 = 1 ∧ ((s.win n w).state = .committing ∨ (s.win n w).dbWait.isSome = true))))
    (hcheck : bit value 19 = true) (hother : field value 47 32 ≠ (s.win n w).nextGseq % 65536) : s.dbCause n w true value = 2 := by
  rw [State.dbCause_of_enabled hen, if_neg (not_not.2 hvalid), if_neg hgroup, if_neg hfree, if_pos ⟨hcheck, hother⟩]

end

/-! ### Both doorbells are one write of the register -/

section
variable {s : State} {n : Fin 16} {w : Fin 64} (hreach : s.Reaches (whoOf n))
include hreach

theorem exec_commitDoorbell (width : Nat) (value : BitVec 64) :
    exec (.commitDoorbell n w width value) s = .next (s.doorbell n w (width == 8) value.toNat) :=
  congrArg Host.Outcome.next (State.io_of_reaches hreach _ _)

theorem exec_abortDoorbell (width : Nat) (value : BitVec 64) :
    exec (.abortDoorbell n w width value) s = .next (s.doorbell n w (width == 8) value.toNat) :=
  congrArg Host.Outcome.next (State.io_of_reaches hreach _ _)

theorem exec_doorbells_reject {width c : Nat} {value : BitVec 64} (h : s.dbCause n w (width == 8) value.toNat = c) (hc : c ≠ 0) :
    exec (.commitDoorbell n w width value) s = .next (s.dbReject n w c) ∧ exec (.abortDoorbell n w width value) s = .next (s.dbReject n w c) := by
  have hrejected : s.doorbell n w (width == 8) value.toNat = s.dbReject n w c := by
    unfold State.doorbell
    extract_lets cause
    rw [show cause = c from h, if_neg hc]
  rw [exec_commitDoorbell hreach, exec_abortDoorbell hreach, hrejected]
  exact ⟨rfl, rfl⟩

end

/-! ### A rejection -/

section
variable (s : State) (n : Fin 16) (w : Fin 64) (c : Nat)

theorem State.dbReject_win : (s.dbReject n w c).win n w = { s.win n w with dbrej := true, dbcause := c } := modWin_win s n w _

theorem State.dbReject_win_other {m : Fin 64} (h : m ≠ w) : (s.dbReject n w c).win n m = s.win n m :=
  s.modWin_win_other n _ (Ne.symm h)

theorem State.dbReject_ld_other {k : Fin 16} (h : k ≠ n) : (s.dbReject n w c).ld k = s.ld k := s.modWin_ld_other w _ (Ne.symm h)

theorem State.dbReject_cw : ((s.dbReject n w c).ld n).cw = (s.ld n).cw := s.modWin_cw n w _

end

/-- Settles O46: each cause is the first check of R167 that fails, and a rejection marks its window alone. -/
theorem doorbellsAreRejectedInOrder : Obligations.DoorbellsAreRejectedInOrder := by
  unfold Obligations.DoorbellsAreRejectedInOrder
  intro s n w width value hreach v count op gchk gseq next rejects enabled valid placed
  have hreject : ∀ {c : Nat}, s.dbCause n w (width == 8) value.toNat = c → c ≠ 0 → rejects c := exec_doorbells_reject hreach
  have hvalid : valid ↔ enabled ∧ ValidDoorbell value.toNat := by
    unfold ValidDoorbell
    rw [field_count]
    exact Iff.rfl
  refine ⟨fun hwidth => ?_, fun hwidth hen => ?_, fun henabled hinvalid => ?_, fun h hop hidle => ?_, fun h hop hactive hrec => ?_,
    fun h hop hstate => ?_, fun hplaced hcheck hother => ?_, fun c => ?_⟩
  · refine hreject ?_ (by decide)
    rw [beq_false_of_ne hwidth]
    exact State.dbCause_partial
  · subst hwidth
    exact hreject (State.dbCause_of_disabled hen) (by decide)
  · obtain ⟨rfl, hen⟩ := henabled
    exact hreject (State.dbCause_of_invalid hen fun h => hinvalid (hvalid.2 ⟨⟨rfl, hen⟩, h⟩).2) (by decide)
  · obtain ⟨⟨hwidth, hen⟩, hdb⟩ := hvalid.1 h
    subst hwidth
    exact hreject (State.dbCause_of_abort_without_group hen hdb hop hidle) (by decide)
  · obtain ⟨⟨hwidth, hen⟩, hdb⟩ := hvalid.1 h
    subst hwidth
    exact hreject (State.dbCause_of_abort_recorded hen hdb hop hactive hrec) (by decide)
  · obtain ⟨⟨hwidth, hen⟩, hdb⟩ := hvalid.1 h
    subst hwidth
    exact hreject (State.dbCause_of_commit_committing hen hdb hop hstate) (by decide)
  · obtain ⟨h, hgroup, hrec, hcommitting⟩ := hplaced
    obtain ⟨⟨hwidth, hen⟩, hdb⟩ := hvalid.1 h
    subst hwidth
    exact hreject (State.dbCause_of_other_group hen hdb hgroup (not_or.2 ⟨hrec, hcommitting⟩) (beq_iff_eq.2 hcheck) hother) (by decide)
  · exact ⟨s.dbReject_win n w c, fun m => s.dbReject_win_other n w c, fun k => s.dbReject_ld_other n w c, rfl, rfl, s.dbReject_cw n w c⟩

end Sys2Proof.Machine
end

section
/-! PROOFS. Statements about commit groups (07_commit_groups.md): the commit point commits a group's lines and its window, and a durable outcome is
posted once, in the window and in the ring (R163, R164, R174, R177, Table 07-15). -/

namespace Sys2Proof.Machine

open Sys2Proof.Laws

/-! ### Numbers in a byte memory -/

/-- The low bytes of a number written are read back. -/
theorem readLE_writeLE_same (m : Mem) (a n v : Nat) {k : Nat} (hk : k ≤ n) : (m.writeLE a n v).readLE a k = v % 256 ^ k := by
  induction n generalizing m a v k with
  | zero =>
    obtain rfl : k = 0 := Nat.le_zero.1 hk
    exact (Nat.mod_one v).symm
  | succ n ih =>
    cases k with
    | zero => exact (Nat.mod_one v).symm
    | succ k =>
      show (((m.write a (BitVec.ofNat 8 v)).writeLE (a + 1) n (v / 256)).read a).toNat +
        256 * ((m.write a (BitVec.ofNat 8 v)).writeLE (a + 1) n (v / 256)).readLE (a + 1) k = _
      rw [ih _ _ _ (Nat.le_of_succ_le_succ hk), read_writeLE_other _ _ _ _ _ (.inl (Nat.lt_succ_self a)), read_write_same, Nat.pow_succ', Nat.mod_mul,
        BitVec.toNat_ofNat]

theorem readLE_congr {m m' : Mem} {a n : Nat} (h : ∀ b, a ≤ b → b < a + n → m.read b = m'.read b) : m.readLE a n = m'.readLE a n := by
  induction n generalizing a with
  | zero => rfl
  | succ n ih =>
    unfold Mem.readLE
    rw [h a (Nat.le_refl a) (by omega), ih fun b hlow hhigh => h b (by omega) (by omega)]

/-- A number that lies apart from one written is read as before. -/
theorem readLE_writeLE_other (m : Mem) {a n b k : Nat} (v : Nat) (h : b + k ≤ a ∨ a + n ≤ b) : (m.writeLE a n v).readLE b k = m.readLE b k :=
  readLE_congr fun c hlow hhigh => read_writeLE_other m a n v c (by omega)

/-! ### The outcome is posted (R174, R177, Table 07-15) -/

/-- The low 48 bits of a ring entry are its group's number. -/
theorem outcomeEntry_gseq (gseq w prod outcome count : Nat) (teth : Bool) :
    outcomeEntry gseq w prod outcome count teth % 256 ^ 6 = gseq % 2 ^ 48 := by
  unfold outcomeEntry
  omega

section
variable (s : State) (n : Fin 16) (w : Fin 64)

/-- PROD of an LD's outcome ring. -/
def State.ringProd : Nat := (s.sp.banks[whoOf n]).readLE 0x3BF08 4

theorem State.postOutcome_prod : (s.postOutcome n w).ringProd n = (s.ringProd n + 1) % 2 ^ 32 := by
  unfold State.postOutcome
  extract_lets v bank prod e
  unfold State.ringProd
  rw [modBank_bank, readLE_writeLE_same _ _ _ _ (Nat.le_refl 4)]
  exact Nat.mod_mod _ _

theorem State.postOutcome_entry :
    ((s.postOutcome n w).sp.banks[whoOf n]).readLE (0x3C000 + 16 * (s.ringProd n % 1024)) 6 = (s.win n w).gseq % 2 ^ 48 := by
  unfold State.postOutcome
  extract_lets v bank prod e
  rw [modBank_bank, readLE_writeLE_other _ _ (.inr (by omega))]
  exact (readLE_writeLE_same _ _ _ _ (by decide)).trans (outcomeEntry_gseq ..)

end

/-- A window once the outcome of its last group has been posted. -/
def Win.postedAs (v : Win) (code : Nat) : Win := { v with closing := none, durGseq := v.gseq, durOutcome := code, durCount := v.arrived }

/-- What a durable outcome record leaves: the window's outcome posted, its entry in the ring, and the lines as they were. -/
structure State.Posts (s : State) (n : Fin 16) (w : Fin 64) (code : Nat) (t : State) : Prop where
  win : t.win n w = (s.win n w).postedAs code
  prod : t.ringProd n = (s.ringProd n + 1) % 2 ^ 32
  entry : (t.sp.banks[whoOf n]).readLE (0x3C000 + 16 * (s.ringProd n % 1024)) 6 = (s.win n w).gseq % 2 ^ 48
  index : t.wp.index = s.wp.index
  entries : t.wp.entries = s.wp.entries
  tents : t.wp.tents = s.wp.tents

/-- Where no doorbell waits for it, a durable outcome record is posted, and at most notified. -/
theorem State.outcomeDurable_posts {s : State} {n : Fin 16} {w : Fin 64} {code : Nat} (flush : Bool) (hcode : (s.win n w).closing = some code)
    (hwait : (s.win n w).dbWait = none) : s.Posts n w code (s.outcomeDurable n w flush) := by
  unfold State.outcomeDurable
  extract_lets v code' before recorded posted kept notified
  have hkept : s.Posts n w code kept := by
    refine ⟨?_, recorded.postOutcome_prod n w, recorded.postOutcome_entry n w, rfl, rfl, rfl⟩
    rw [modWin_win]
    show (s.win n w).postedAs ((s.win n w).closing.getD 0) = _
    rw [hcode]
    rfl
  have hnotified : ∃ nt, notified = { kept with nt := nt } := by
    unfold notified
    split
    · exact State.raise_touches ..
    · exact ⟨kept.nt, rfl⟩
  obtain ⟨nt, hnotified⟩ := hnotified
  have hposts : s.Posts n w code notified := by
    rw [hnotified]
    exact ⟨hkept.win, hkept.prod, hkept.entry, hkept.index, hkept.entries, hkept.tents⟩
  have hnone : (notified.win n w).dbWait = none := by
    rw [hposts.win]
    exact hwait
  rw [hnone]
  exact hposts

/-! ### The commit point (R163, R164) -/

@[simp] theorem State.commitLost_hostSide (s : State) (q : Nat) (t : TentRec) : (s.commitLost q t).hostSide = s.hostSide := by
  have hnumbered := (s.kill t.place).nextSeq_allocs.hostSide
  unfold State.commitLost
  extract_lets killed
  generalize killed.nextSeq = numbered at hnumbered ⊢
  obtain ⟨n, u⟩ := numbered
  have hplaced := (u.allocLine_allocs t.line n).hostSide
  dsimp only at hnumbered ⊢
  generalize u.allocLine t.line n = placed at hplaced ⊢
  rw [State.kill_hostSide] at hnumbered
  obtain ⟨_ | p, v⟩ := placed
  · exact hplaced.trans hnumbered
  · dsimp only at hplaced ⊢
    rw [State.poisonAdd_hostSide, State.indexLine_hostSide, State.putEntry_hostSide, hplaced, hnumbered]

theorem State.commitLine_hostSide (s : State) (q : Nat) (t : TentRec) : (s.commitLine q t).hostSide = s.hostSide := by
  unfold State.commitLine
  split
  · extract_lets dropped left placed shown
    have hleft : left.hostSide = dropped.hostSide := by
      unfold left
      split
      · exact State.kill_hostSide ..
      · rfl
    have hshown : shown.hostSide = s.hostSide := by
      unfold shown placed
      split
      · rw [State.commitLost_hostSide, State.cacheDrop_hostSide]
      · split
        · rw [State.poisonAdd_hostSide, State.setIndex_hostSide, State.modEntry_hostSide, hleft, State.cacheDrop_hostSide]
        · rw [State.poisonDrop_hostSide, State.setIndex_hostSide, State.modEntry_hostSide, hleft, State.cacheDrop_hostSide]
    split
    · split
      · rw [State.setDirtyBit_hostSide, hshown]
      · exact hshown
    · exact hshown
  · exact State.kill_hostSide ..

/-- A window at its group's commit point, before its outcome is posted. -/
def Win.atCommit (v : Win) : Win := { v with state := .committed, outcome := 1, closing := some 1 }

/-- The lines of a window's group become the committed ones, one after the other. -/
def State.commitLines (s : State) (n : Fin 16) (w : Fin 64) : State :=
  (s.wp.tents.filter fun t => t.ld = n && t.win = w && t.gseq = (s.win n w).gseq).foldl (fun u t => u.commitLine (s.win n w).recSeq t) s

theorem State.commitLines_hostSide (s : State) (n : Fin 16) (w : Fin 64) : (s.commitLines n w).hostSide = s.hostSide :=
  foldl_keeps State.hostSide (fun u t => u.commitLine_hostSide (s.win n w).recSeq t) _ s

/-- A group's lines are committed and its window says so. -/
structure State.Commits (s : State) (n : Fin 16) (w : Fin 64) (t : State) : Prop where
  win : t.win n w = (s.win n w).atCommit
  sp : t.sp = s.sp
  index : t.wp.index = (s.commitLines n w).wp.index
  entries : t.wp.entries = (s.commitLines n w).wp.entries
  tents : ∀ x ∈ t.wp.tents, ¬(x.ld = n ∧ x.win = w)

theorem State.commitApply_commits (s : State) (n : Fin 16) (w : Fin 64) : s.Commits n w (s.commitApply n w) := by
  have hhost := s.commitLines_hostSide n w
  have happly : s.commitApply n w = ({ s.commitLines n w with wp := { (s.commitLines n w).wp with
      tents := (s.commitLines n w).wp.tents.filter fun t => !(t.ld == n && t.win == w) } } : State).modWin n w Win.atCommit := rfl
  rw [happly]
  refine ⟨?_, (modWin_sp ..).trans (State.sp_of_hostSide hhost), rfl, rfl, fun x hx => not_mem_tents_filter hx⟩
  rw [modWin_win]
  exact congrArg Win.atCommit (State.win_of_hostSide hhost n w)

/-- The partner is told, and the outcome posted. -/
theorem State.commitNow_commits (s : State) (n : Fin 16) (w : Fin 64) (flush : Bool) :
    ∃ u, s.Commits n w u ∧ s.commitNow n w flush = u.outcomeDurable n w flush := by
  have happly := s.commitApply_commits n w
  unfold State.commitNow
  extract_lets applied told
  have htold : told.hostSide = applied.hostSide ∧ told.wp = applied.wp := by
    unfold told
    split
    · exact ⟨State.tetherSend_hostSide .., State.tetherSend_wp ..⟩
    · exact ⟨rfl, rfl⟩
  obtain ⟨hhost, hwp⟩ := htold
  refine ⟨told, ⟨?_, ?_, ?_, ?_, ?_⟩, rfl⟩
  · exact (State.win_of_hostSide hhost n w).trans happly.win
  · exact (State.sp_of_hostSide hhost).trans happly.sp
  · rw [hwp]; exact happly.index
  · rw [hwp]; exact happly.entries
  · rw [hwp]; exact happly.tents

/-- The device once both local copies of a window's commit record have verified. -/
def State.recVerified (s : State) (n : Fin 16) (w : Fin 64) : State := s.modWin n w fun v => { v with recLocal := true }

/-- What COMMIT_POINT needs to commit an untethered group for whose outcome no doorbell waits (R163, R181). -/
structure State.CommitDue (s : State) (n : Fin 16) (w : Fin 64) : Prop where
  recIssued : (s.win n w).recIssued = true
  state : (s.win n w).state = .committing
  recPartner : (s.win n w).recPartner = true
  dbWait : (s.win n w).dbWait = none
  partnerRec : s.partnerRec n w = none
  replicaGroup : s.replicaGroup n w = false

section
variable {s : State} {n : Fin 16} {w : Fin 64}

/-- A commit point: the group's lines are committed, and its outcome 0x01 is posted. -/
theorem exec_commitPoint_commits (h : s.CommitDue n w) :
    ∃ u t, (s.recVerified n w).Commits n w u ∧ u.Posts n w 1 t ∧ exec (.commitPoint n w) s = .next t := by
  have hwin : (s.recVerified n w).win n w = { s.win n w with recLocal := true } := modWin_win s n w _
  obtain ⟨u, hcommits, hnow⟩ := (s.recVerified n w).commitNow_commits n w false
  have hposts : u.Posts n w 1 (u.outcomeDurable n w false) := by
    refine State.outcomeDurable_posts false ?_ ?_
    · rw [hcommits.win]; rfl
    · rw [hcommits.win, hwin]; exact h.dbWait
  refine ⟨u, _, hcommits, hposts, ?_⟩
  show execCommitPoint n w s = _
  unfold execCommitPoint
  rw [if_pos h.recIssued, h.partnerRec, ← hnow]
  refine congrArg Host.Outcome.next (if_pos ?_)
  rw [show (s.modWin n w fun v => { v with recLocal := true }).win n w = _ from hwin]
  exact ⟨h.state, h.recIssued, rfl, h.recPartner, h.replicaGroup⟩

theorem exec_outcomeRecordDurable_posts {code : Nat} (hcode : (s.win n w).closing = some code) (hwait : (s.win n w).dbWait = none) :
    ∃ t, exec (.outcomeRecordDurable n w) s = .next t ∧ s.Posts n w code t :=
  ⟨_, if_pos (by rw [hcode]; rfl), State.outcomeDurable_posts false hcode hwait⟩

end

end Sys2Proof.Machine
end

section
/-! PROOFS. Statements about commit groups (07_commit_groups.md): accepted doorbells and the commit timer move a window's group as Table 07-1 states
(R161, R162, R168, R172). -/

namespace Sys2Proof.Machine

open Sys2Proof.Laws

/-! ### An accepted doorbell (R161, R168, Table 07-1) -/

theorem Win.not_opened_of_idle {v : Win} (h : v.active = false) : v.state ≠ .opened := by
  intro hopened
  simp [Win.active, hopened] at h

/-- A group with a write missing, or one not acknowledged, has no commit record issued yet. -/
theorem State.issueCommit_waits {s : State} {n : Fin 16} {w : Fin 64}
    (h : ¬((s.win n w).arrived = (s.win n w).count ∧ (s.win n w).acked = (s.win n w).arrived)) : s.issueCommit n w = s :=
  if_neg fun hall => h hall.2.2

section
variable {s : State} {n : Fin 16} {w : Fin 64} {value : Nat}

theorem State.dbAccept_abort (hop : field value 18 17 = 2) : s.dbAccept n w value = s.closeGroup n w 2 := if_pos hop

variable (hop : field value 18 17 = 1)
include hop

theorem State.dbAccept_commit_of_opened (hopened : (s.win n w).state = .opened) (henough : (s.win n w).arrived ≤ field value 16 0)
    (hwaits : (s.win n w).arrived < field value 16 0 ∨ (s.win n w).acked < (s.win n w).arrived) :
    s.dbAccept n w value = s.modWin n w fun v => { v with state := .committing, count := field value 16 0 } := by
  unfold State.dbAccept
  extract_lets v count
  rw [if_neg (by omega), if_pos hopened, if_neg (Nat.not_lt.2 henough)]
  refine State.issueCommit_waits ?_
  rw [modWin_win]
  show ¬((s.win n w).arrived = field value 16 0 ∧ (s.win n w).acked = (s.win n w).arrived)
  omega

theorem State.dbAccept_commit_below (hopened : (s.win n w).state = .opened) (hbelow : field value 16 0 < (s.win n w).arrived) :
    s.dbAccept n w value = s.closeGroup n w 5 := by
  unfold State.dbAccept
  extract_lets v count
  rw [if_neg (by omega), if_pos hopened, if_pos hbelow]

theorem State.dbAccept_commit_opens (hidle : (s.win n w).active = false) (hposted : (s.win n w).closing = none) :
    s.dbAccept n w value = (s.openGroup n w).modWin n w fun v => { v with state := .committing, count := field value 16 0 } := by
  unfold State.dbAccept
  extract_lets v count
  rw [if_neg (by omega), if_neg (Win.not_opened_of_idle hidle), if_neg (by rw [show v.closing = none from hposted]; exact Bool.false_ne_true)]

theorem State.dbAccept_commit_waits (hidle : (s.win n w).active = false) (hclosing : (s.win n w).closing.isSome = true) :
    s.dbAccept n w value = s.modWin n w fun v => { v with dbWait := some value } := by
  unfold State.dbAccept
  extract_lets v count
  rw [if_neg (by omega), if_neg (Win.not_opened_of_idle hidle), if_pos hclosing]

end

section
variable {s : State} {n : Fin 16} {w : Fin 64} {value : BitVec 64} (hreach : s.Reaches (whoOf n)) (hcause : s.dbCause n w true value.toNat = 0)
include hreach hcause

theorem exec_commitDoorbell_accepts : exec (.commitDoorbell n w 8 value) s = .next (s.dbAccept n w value.toNat) :=
  (exec_commitDoorbell hreach 8 value).trans (congrArg Host.Outcome.next (if_pos hcause))

theorem exec_abortDoorbell_accepts : exec (.abortDoorbell n w 8 value) s = .next (s.dbAccept n w value.toNat) :=
  (exec_abortDoorbell hreach 8 value).trans (congrArg Host.Outcome.next (if_pos hcause))

end

/-! ### The timer (R162) -/

theorem State.swapBanks_pmTicks_touches (s : State) (d : Nat) : ∃ pm nt, s.swapBanks.pmTicks d = { s with pm := pm, nt := nt } := by
  obtain ⟨pm, nt, h⟩ := State.pmTicks_touches s.swapBanks d
  refine ⟨pm, nt, h.trans ?_⟩
  unfold State.swapBanks
  split
  · rfl
  · rfl

/-- In ticks that pass the timebase moves on by them, and of a window only the pause of its timer can grow. -/
theorem State.ticked_win_now (s : State) (d : Nat) (n : Fin 16) (w : Fin 64) :
    (∃ p, (s.ticked d).win n w = { s.win n w with paused := p }) ∧ (s.ticked d).now = s.now + d := by
  unfold State.ticked
  split
  · rename_i h
    exact ⟨⟨_, rfl⟩, by rw [h, Nat.add_zero]⟩
  · obtain ⟨pm, nt, hcounted⟩ := s.swapBanks_pmTicks_touches d
    rw [hcounted]
    extract_lets counted timed _ paused
    have htimed : (∃ p, timed.win n w = { s.win n w with paused := p }) ∧ timed.now = s.now := by
      unfold timed
      split
      · refine ⟨?_, rfl⟩
        show ∃ p, ((counted.mapLds _).ld n).wins[w] = _
        rw [mapLds_ld]
        simp only [Fin.getElem_fin, Vector.getElem_map]
        split
        · exact ⟨_, rfl⟩
        · exact ⟨_, rfl⟩
      · exact ⟨⟨_, rfl⟩, rfl⟩
    have hpaused : paused.lds = timed.lds ∧ paused.now = timed.now := by
      unfold paused
      split
      · exact ⟨rfl, rfl⟩
      · exact ⟨rfl, rfl⟩
    obtain ⟨⟨p, hwin⟩, hnow⟩ := htimed
    obtain ⟨hlds, hthen⟩ := hpaused
    exact ⟨⟨p, (congrArg (fun l : Vector LD 16 => l[n].wins[w]) hlds).trans hwin⟩, congrArg (· + d) (hthen.trans hnow)⟩

theorem State.le_advance_now (s : State) (t : Nat) : t ≤ (s.advance t).now := by
  show t ≤ (s.ticked (t - s.now)).now
  rw [(s.ticked_win_now _ 0 0).2]
  omega

theorem exec_commitTimerExpiry_closes {s : State} {n : Fin 16} {w : Fin 64} (hactive : (s.win n w).active = true)
    (hrec : (s.win n w).recIssued = false) (htimer : s.timerPaused = false) :
    exec (.commitTimerExpiry n w) s = .next ((s.advance (s.deadline n w)).closeGroup n w 3) := if_pos ⟨hactive, hrec, htimer⟩

/-! ### The obligation -/

/-- A window's group has ended with an outcome other than 0x01, whose record is not yet durable. -/
structure State.Ended (s : State) (n : Fin 16) (w : Fin 64) (code : Nat) (st : WinState) (t : State) : Prop where
  state : (t.win n w).state = st
  outcome : (t.win n w).outcome = code
  closing : (t.win n w).closing = some code
  gseq : (t.win n w).gseq = (s.win n w).gseq
  index : t.wp.index = s.wp.index
  tents : ∀ x ∈ t.wp.tents, ¬(x.ld = n ∧ x.win = w)

theorem State.closeGroup_ends (s : State) (n : Fin 16) (w : Fin 64) (code : Nat) :
    s.Ended n w code (if code = 3 then .timedOut else .aborted) (s.closeGroup n w code) := by
  have hcloses := s.closeGroup_of_any n w code
  obtain ⟨q, p, hwin⟩ := hcloses.win
  refine ⟨?_, ?_, ?_, ?_, hcloses.index, hcloses.tents⟩
  · rw [hwin]; rfl
  · rw [hwin]; rfl
  · rw [hwin]; rfl
  · rw [hwin]; rfl

theorem State.closeGroup_timer_ends (s : State) (n : Fin 16) (w : Fin 64) (t : Nat) :
    s.Ended n w 3 .timedOut ((s.advance t).closeGroup n w 3) := by
  obtain ⟨p, hwin⟩ : ∃ p, (s.advance t).win n w = { s.win n w with paused := p } := (s.ticked_win_now (t - s.now) n w).1
  have hgseq : ((s.advance t).win n w).gseq = (s.win n w).gseq := by rw [hwin]
  have hends := (s.advance t).closeGroup_ends n w 3
  exact ⟨hends.state, hends.outcome, hends.closing, hends.gseq.trans hgseq, hends.index, hends.tents⟩

/-- Settles O47: each doorbell that is accepted has one effect (`dbAccept_…`), each close drops the tentative lines (`closeGroup_ends`), and an
outcome is posted once it is durable (`Posts`). -/
theorem groupsOpenCloseAndCommit : Obligations.GroupsOpenCloseAndCommit := by
  unfold Obligations.GroupsOpenCloseAndCommit
  intro s n w value v count ok ends prod posted
  have hends : ∀ {t : State} {code : Nat} {st : WinState}, s.Ended n w code st t → ends t code st :=
    fun h => ⟨h.state, h.outcome, h.closing, h.gseq, h.index, h.tents⟩
  have hposted : ∀ {u t : State} {code : Nat}, u.Posts n w code t → (u.win n w).gseq = v.gseq → (u.win n w).arrived = v.arrived → u.sp = s.sp →
      posted t code := by
    intro u t code h hgseq harrived hsp
    have hprod : u.ringProd n = prod := by unfold State.ringProd; rw [hsp]
    have hwin : t.lds[n].wins[w] = (u.win n w).postedAs code := h.win
    show (t.lds[n].wins[w]).closing = none ∧ (t.lds[n].wins[w]).durGseq = v.gseq ∧ (t.lds[n].wins[w]).durOutcome = code ∧
      (t.lds[n].wins[w]).durCount = v.arrived ∧ t.ringProd n = _ ∧ _
    rw [hwin, h.prod, hprod, ← hgseq, ← harrived, ← h.entry, hprod]
    exact ⟨rfl, rfl, rfl, rfl, rfl, rfl⟩
  refine ⟨?_, ?_, ?_, ?_, ?_, ?_, ?_, ?_⟩
  · rintro ⟨hreach, hcause, hop⟩ hopened henough hwaits
    have hwin := modWin_win s n w fun v => { v with state := .committing, count := count }
    refine ⟨_, (exec_commitDoorbell_accepts hreach hcause).trans
      (congrArg Host.Outcome.next (State.dbAccept_commit_of_opened hop hopened henough hwaits)), ?_⟩
    show (State.win _ n w).state = _ ∧ (State.win _ n w).count = _ ∧ (State.win _ n w).gseq = _
    rw [hwin]
    exact ⟨rfl, rfl, rfl⟩
  · rintro ⟨hreach, hcause, hop⟩ hopened hbelow
    exact ⟨_, (exec_commitDoorbell_accepts hreach hcause).trans
      (congrArg Host.Outcome.next (State.dbAccept_commit_below hop hopened hbelow)), hends (s.closeGroup_ends n w 5)⟩
  · rintro ⟨hreach, hcause, hop⟩ hidle hnone
    have hwin := modWin_win (s.openGroup n w) n w fun v => { v with state := .committing, count := count }
    have hopen : (s.openGroup n w).win n w = _ := modWin_win s n w _
    refine ⟨_, (exec_commitDoorbell_accepts hreach hcause).trans
      (congrArg Host.Outcome.next (State.dbAccept_commit_opens hop hidle hnone)), ?_⟩
    show (State.win _ n w).state = _ ∧ (State.win _ n w).count = _ ∧ (State.win _ n w).arrived = _ ∧ (State.win _ n w).gseq = _
    rw [hwin, hopen]
    exact ⟨rfl, rfl, rfl, rfl⟩
  · rintro ⟨hreach, hcause, hop⟩ hidle hclosing
    exact ⟨_, (exec_commitDoorbell_accepts hreach hcause).trans
      (congrArg Host.Outcome.next (State.dbAccept_commit_waits hop hidle hclosing)), modWin_win s n w _⟩
  · rintro ⟨hreach, hcause, hop⟩
    exact ⟨_, (exec_abortDoorbell_accepts hreach hcause).trans
      (congrArg Host.Outcome.next (State.dbAccept_abort hop)), hends (s.closeGroup_ends n w 2)⟩
  · intro hactive hrec htimer
    refine ⟨_, exec_commitTimerExpiry_closes hactive hrec htimer, hends (s.closeGroup_timer_ends n w _), ?_⟩
    rw [((s.advance (s.deadline n w)).closeGroup_of_any n w 3).now]
    exact s.le_advance_now _
  · intro hrec hstate hpartner hwait hnone hreplica
    obtain ⟨u, t, hcommits, hposts, hexec⟩ := exec_commitPoint_commits ⟨hrec, hstate, hpartner, hwait, hnone, hreplica⟩
    have hwin : u.win n w = Win.atCommit { v with recLocal := true } := hcommits.win.trans (congrArg Win.atCommit (modWin_win s n w _))
    have hend : t.lds[n].wins[w] = (u.win n w).postedAs 1 := hposts.win
    refine ⟨t, hexec, ?_, ?_, hposted hposts ?_ ?_ hcommits.sp, ?_⟩
    · rw [hend, hwin]; rfl
    · rw [hend, hwin]; rfl
    · rw [hwin]; rfl
    · rw [hwin]; rfl
    · rw [hposts.tents]; exact hcommits.tents
  · intro code hcode hwait
    obtain ⟨t, hexec, hposts⟩ := exec_outcomeRecordDurable_posts hcode hwait
    exact ⟨t, hexec, hposted hposts rfl rfl rfl⟩

end Sys2Proof.Machine
end

section
/-! PROOFS. Statements about commit groups (07_commit_groups.md): at the commit point a group's line becomes the newest committed version, unless a
newer one stands or its granule is poisoned (R163, R164; 03_write_path.md R58; 05_folding_and_wear.md R107). -/

namespace Sys2Proof.Machine

open Sys2Proof.Laws

/-! ### The entries of the Shallows -/

theorem State.entryAt_congr {s t : State} (h : t.wp.entries = s.wp.entries) (p : Place) : t.entryAt p = s.entryAt p :=
  congrArg (fun m => tfind m p.code) h

section
variable {s : State} {p q : Place} {e : Entry}

theorem State.modEntry_entryAt (f : Entry → Entry) (h : s.entryAt p = some e) : (s.modEntry p f).entryAt p = some (f e) := by
  unfold State.modEntry
  rw [h]
  exact tfind_tins_same ..

theorem State.modEntry_entryAt_other (f : Entry → Entry) (h : q.code ≠ p.code) : (s.modEntry p f).entryAt q = s.entryAt q := by
  unfold State.modEntry
  split
  · exact tfind_tins_other _ _ _ _ h
  · rfl

theorem State.kill_entryAt (h : s.entryAt p = some e) : ∃ d, (s.kill p).entryAt p = some d ∧ d.dead = true :=
  ⟨_, State.modEntry_entryAt _ h, rfl⟩

end

theorem State.metaRec_entries (s : State) (r : MetaRec) : (s.metaRec r).wp.entries = s.wp.entries := by
  obtain ⟨u, _, ⟨_, _, _, _, _, _, _, rfl⟩, h⟩ := s.metaRec_touches r
  rw [h]

theorem State.setDirtyBit_index_entries (s : State) (t : Fin 8) (g : Nat) :
    (s.setDirtyBit t g).wp.index = s.wp.index ∧ (s.setDirtyBit t g).wp.entries = s.wp.entries := by
  refine ⟨part_of_traffic Wp.index (s.setDirtyBit_traffic t g), ?_⟩
  unfold State.setDirtyBit
  split
  · rfl
  · exact State.metaRec_entries ..

theorem State.cacheDrop_touches (s : State) (line : Nat) : ∃ ca, s.cacheDrop line = { s with ca := ca } := by
  unfold State.cacheDrop
  split
  · exact ⟨_, rfl⟩
  · exact ⟨s.ca, rfl⟩

/-! ### One line at the commit point (R58, R107, R164) -/

/-- Where a tentative line's index record points once it is committed. -/
def TentRec.record (t : TentRec) : IndexRec := ⟨t.place.pair, t.place.slot, t.seq % 64, t.psn⟩

/-- A line's version is not taken: its granule is poisoned, or its index record names an entry with a newer number. -/
theorem State.not_takes {s : State} {line seq : Nat} {r : IndexRec} {o : Entry} (hrec : tfind s.wp.index line = some r)
    (hentry : s.entryAt (s.recPlace line r) = some o) (h : (s.mapEnt (granOf line)).state = .poisoned ∨ newer o.ord seq = true) :
    s.takes line seq = false := by
  unfold State.takes
  rcases h with h | h
  · simp [h]
  · simp [hrec, hentry, h]

section
variable {s : State} {q : Nat} {t : TentRec}

theorem State.commitLine_of_not_takes (h : s.takes t.line q = false) : s.commitLine q t = s.kill t.place :=
  if_neg (by rw [h]; exact Bool.false_ne_true)

/-- A line whose version is taken: the index names its entry, and the entry left behind is dead. -/
structure State.Shows (s : State) (t : TentRec) (u : State) : Prop where
  index : u.wp.index = tins t.line t.record s.wp.index
  left : ∀ r o, tfind s.wp.index t.line = some r → s.entryAt (s.recPlace t.line r) = some o → (s.recPlace t.line r).code ≠ t.place.code →
    ∃ d, u.entryAt (s.recPlace t.line r) = some d ∧ d.dead = true

theorem State.Shows.of_index_entries {u v : State} (h : s.Shows t u) (hkept : v.wp.index = u.wp.index ∧ v.wp.entries = u.wp.entries) :
    s.Shows t v where
  index := hkept.1.trans h.index
  left r o hrec hentry hcode := by
    rw [State.entryAt_congr hkept.2]
    exact h.left r o hrec hentry hcode

theorem State.commitLine_shows (htakes : s.takes t.line q = true) (hlost : t.lost = false) : s.Shows t (s.commitLine q t) := by
  unfold State.commitLine
  rw [if_pos htakes]
  extract_lets dropped left placed shown
  have hleft : left.wp.index = s.wp.index ∧ ∀ r o, tfind s.wp.index t.line = some r → s.entryAt (s.recPlace t.line r) = some o →
      ∃ d, left.entryAt (s.recPlace t.line r) = some d ∧ d.dead = true := by
    obtain ⟨ca, hdropped⟩ := s.cacheDrop_touches t.line
    unfold left
    rw [show dropped = _ from hdropped]
    cases hold : tfind s.wp.index t.line with
    | none => exact ⟨rfl, fun r o hrec => by cases hrec⟩
    | some old =>
      refine ⟨part_of_traffic Wp.index (State.kill_traffic ..), fun r o hrec hentry => ?_⟩
      obtain rfl := Option.some.inj hrec
      exact State.kill_entryAt hentry
  obtain ⟨hindex, hdead⟩ := hleft
  have hplaced : s.Shows t placed := by
    constructor
    · exact congrArg (tins t.line t.record) ((part_of_traffic Wp.index (State.modEntry_traffic ..)).trans hindex)
    · intro r o hrec hentry hcode
      obtain ⟨d, hd, hgone⟩ := hdead r o hrec hentry
      exact ⟨d, (State.modEntry_entryAt_other _ hcode).trans hd, hgone⟩
  have hshown : s.Shows t shown := by
    have hwp : shown.wp = placed.wp := by
      unfold shown
      rw [if_neg (by rw [hlost]; exact Bool.false_ne_true)]
      split
      · exact State.poisonAdd_wp ..
      · rfl
    exact hplaced.of_index_entries (by rw [hwp]; exact ⟨rfl, rfl⟩)
  split
  · split
    · exact hshown.of_index_entries (State.setDirtyBit_index_entries ..)
    · exact hshown
  · exact hshown

end

/-! ### A group of one line -/

theorem State.commitLines_of_one {s : State} {n : Fin 16} {w : Fin 64} {x : TentRec}
    (h : s.wp.tents.filter (fun y => y.ld = n && y.win = w && y.gseq = (s.win n w).gseq) = [x]) :
    s.commitLines n w = s.commitLine (s.win n w).recSeq x := by
  unfold State.commitLines
  rw [h]
  rfl

theorem exec_commitPoint_one {s : State} {n : Fin 16} {w : Fin 64} {x : TentRec} (hdue : s.CommitDue n w)
    (h : s.wp.tents.filter (fun y => y.ld = n && y.win = w && y.gseq = (s.win n w).gseq) = [x]) :
    ∃ u : State, exec (.commitPoint n w) s = .next u ∧ u.wp.index = ((s.recVerified n w).commitLine (s.win n w).recSeq x).wp.index ∧
      u.wp.entries = ((s.recVerified n w).commitLine (s.win n w).recSeq x).wp.entries := by
  have hwin : (s.recVerified n w).win n w = { s.win n w with recLocal := true } := modWin_win s n w _
  have hlines : (s.recVerified n w).commitLines n w = (s.recVerified n w).commitLine (s.win n w).recSeq x := by
    rw [State.commitLines_of_one (x := x) (by rw [hwin]; exact h), hwin]
  obtain ⟨u, t, hcommits, hposts, hexec⟩ := exec_commitPoint_commits hdue
  rw [← hlines]
  exact ⟨t, hexec, hposts.index.trans hcommits.index, hposts.entries.trans hcommits.entries⟩

/-- Settles O48: a line whose version is taken is named by the index (`commitLine_shows`); of one that is not, only the group's own entry dies. -/
theorem committedLinesAreShown : Obligations.CommittedLinesAreShown := by
  unfold Obligations.CommittedLinesAreShown
  intro s n w x e v hrec hstate hpartner hwait hnone hreplica hlines hlost hplace
  obtain ⟨u, hexec, hindex, hentries⟩ := exec_commitPoint_one ⟨hrec, hstate, hpartner, hwait, hnone, hreplica⟩ hlines
  have hshows : (s.recVerified n w).takes x.line v.recSeq = true → s.Shows x u := fun htakes => by
    have h := (State.commitLine_shows htakes hlost).of_index_entries ⟨hindex, hentries⟩
    exact ⟨h.index, h.left⟩
  have hkills : (s.recVerified n w).takes x.line v.recSeq = false → u.wp.index = s.wp.index ∧ ∃ d, u.entryAt x.place = some d ∧ d.dead = true :=
    fun hnot => by
      have hkill := State.commitLine_of_not_takes hnot
      obtain ⟨d, hd, hdead⟩ := State.kill_entryAt (s := s.recVerified n w) hplace
      rw [show (s.recVerified n w).commitLine (s.win n w).recSeq x = _ from hkill] at hindex hentries
      exact ⟨hindex.trans (part_of_traffic Wp.index (State.kill_traffic ..)), d, (State.entryAt_congr hentries _).trans hd, hdead⟩
  refine ⟨u, hexec, fun hfree hnever => ?_, fun r o hold hentry hcode => ⟨fun hfree holder => ?_, fun hnewer => ?_⟩, fun line hline => ?_⟩
  · rw [(hshows (State.takes_of_notNewer hfree (.inl hnever))).index]
    exact tfind_tins_same ..
  · have h := hshows (State.takes_of_notNewer hfree (.inr ⟨r, o, hold, hentry, holder⟩))
    rw [h.index]
    exact ⟨tfind_tins_same .., h.left r o hold hentry hcode⟩
  · obtain ⟨hsame, hdead⟩ := hkills (State.not_takes hold hentry (hnewer.imp_left not_not.1))
    rw [hsame]
    exact ⟨hold, hdead⟩
  · cases htakes : (s.recVerified n w).takes x.line v.recSeq with
    | true =>
      rw [(hshows htakes).index]
      exact tfind_tins_other _ _ _ _ hline
    | false => rw [(hkills htakes).1]

end Sys2Proof.Machine
end

section
/-! PROOFS. What the operations of the write path leave of the regions (08_inline_encryption.md R186, R204): a record, an event, a drawn key, a
page re-encrypted, and the writes that take stage 4 again. -/

namespace Sys2Proof.Machine

open Sys2Proof.Laws

/-! ### Operations that leave regions and counter blocks -/

section
variable (s : State)

theorem State.event_cr (code sev org p0 p1 p2 p3 : Nat) : (s.event code sev org p0 p1 p2 p3).cr = s.cr := by
  obtain ⟨_, _, _, _, _, _, _, h⟩ := s.event_touches code sev org p0 p1 p2 p3
  rw [h]

theorem State.raise_cr (n : Fin 256) (e d : Nat) : (s.raise n e d).cr = s.cr := by
  obtain ⟨_, h⟩ := s.raise_touches n e d
  rw [h]

theorem State.judgeMarks_cr : s.judgeMarks.cr = s.cr := by
  obtain ⟨_, _, _, _, _, _, _, _, h⟩ := s.judgeMarks_touches
  rw [h]

theorem State.Allocs.cr {s t : State} (h : s.Allocs t) : t.cr = s.cr := by
  obtain ⟨_, _, _, _, _, _, _, rfl⟩ := h
  rfl

theorem State.metaRec_cr (r : MetaRec) : (s.metaRec r).cr = s.cr := (s.newMeta_allocs r _).cr

theorem State.kill_cr (p : Place) : (s.kill p).cr = s.cr := by
  unfold State.kill State.modEntry
  split
  · rfl
  · rfl

theorem State.indexLine_cr (line : Nat) (p : Place) (seq : Nat) (psn : Bool) : (s.indexLine line p seq psn).cr = s.cr := by
  unfold State.indexLine
  extract_lets r
  split
  · rfl
  · split
    · rfl
    · split
      · exact State.kill_cr ..
      · exact State.kill_cr ..

theorem State.landLine_cr (ld : Fin 16) (line : Nat) (psn : Bool) (ct : Line) (tag : Tag) : (s.landLine ld line psn ct tag).cr = s.cr := by
  have hplaced := (s.nextSeq_allocs.trans (State.allocLine_allocs s.nextSeq.2 line s.nextSeq.1)).cr
  unfold State.landLine
  generalize s.nextSeq = numbered at hplaced ⊢
  obtain ⟨n, u⟩ := numbered
  dsimp only at hplaced ⊢
  generalize u.allocLine line n = placed at hplaced ⊢
  obtain ⟨_ | p, v⟩ := placed
  · exact hplaced
  · exact (State.indexLine_cr ..).trans hplaced

theorem State.cacheDirty_cr (line : Nat) (d : Bool) : (s.cacheDirty line d).cr = s.cr := rfl

theorem State.tetherSend_cr (t : Fin 8) (m : LodeMsg) : (s.tetherSend t m).cr = s.cr := by
  unfold State.tetherSend
  split
  · rfl
  · rfl

theorem State.setDirtyBit_cr (t : Fin 8) (g : Nat) : (s.setDirtyBit t g).cr = s.cr := by
  unfold State.setDirtyBit
  split
  · rfl
  · exact State.metaRec_cr ..

theorem State.alone_cr (t : Fin 8) (w : Write) : (s.alone t w).cr = s.cr := by
  unfold State.alone
  extract_lets x
  split
  · exact State.setDirtyBit_cr ..
  · rfl

theorem State.encryptPsn_cr (w : Write) : (s.encryptPsn w).cr = s.cr := by
  unfold State.encryptPsn
  extract_lets clear
  split
  · split
    · exact State.tetherSend_cr ..
    · exact State.alone_cr ..
  · rfl

/-! ### A drawn key (R187, R342, R344) -/

theorem State.macCount_touches (slot : Fin 16) : ∃ kp sec, s.macCount slot = { s with kp := kp, sec := sec } := by
  unfold State.macCount
  dsimp only
  split
  · exact ⟨s.kp, _, rfl⟩
  · exact ⟨_, _, rfl⟩

theorem State.reseal_touches : ∃ kp sec, s.reseal = { s with kp := kp, sec := sec } := ⟨_, _, rfl⟩

theorem State.sealUse_touches : ∃ kp sec, s.sealUse = { s with kp := kp, sec := sec } := by
  obtain ⟨kp, sec, hcount⟩ := s.macCount_touches 7
  unfold State.sealUse
  extract_lets counted
  split
  · obtain ⟨kp, sec, hreseal⟩ := counted.reseal_touches
    exact ⟨kp, sec, by rw [hreseal, show counted = _ from hcount]⟩
  · exact ⟨kp, sec, hcount⟩

theorem State.drawKey_touches (item : Nat) :
    ∃ kp sec, s.drawKey item = (⟨some (Config.freeKey s.freeIx), true⟩, { s with freeIx := s.freeIx + 1, kp := kp, sec := sec }) := by
  obtain ⟨_, sec, hseal⟩ := s.draw.2.sealUse_touches
  obtain ⟨kp, hstore⟩ := s.draw.2.sealUse.store_touches 1 item 48
  refine ⟨kp, sec, Prod.ext rfl ?_⟩
  show s.draw.2.sealUse.store 1 item 48 = _
  rw [hstore, hseal]
  rfl

end

/-! ### A rekey starts (R187, R204, R207) -/

/-- The region of a number. -/
def State.region (s : State) (k : Fin 256) : Region := s.cr.regions[k]

section
variable (s : State)

theorem State.region_congr {s t : State} (h : t.cr.regions = s.cr.regions) (k : Fin 256) : t.region k = s.region k :=
  congrArg (fun v : Vector Region 256 => v[k]) h

theorem State.region_of_cr {s t : State} (h : t.cr = s.cr) (k : Fin 256) : t.region k = s.region k := State.region_congr (congrArg Cr.regions h) k

theorem State.modRegion_region (k : Fin 256) (f : Region → Region) : (s.modRegion k f).region k = f (s.region k) :=
  Laws.modRegion_region ..

/-- A region as its rekey starts: Rekeying, with W at its first page and that record durable. -/
def Region.restarted (x : Region) (exhausted : Bool) : Region :=
  { x with state := .rekeying, w := x.base / 4096, byExhaust := exhausted, durW := some (x.base / 4096), early := 0 }

theorem State.startRekey_cr (k : Fin 256) (exhausted : Bool) :
    (s.startRekey k exhausted).cr = (s.modRegion k fun x => x.restarted exhausted).cr := by
  unfold State.startRekey
  rw [State.raise_cr, State.event_cr, State.metaRec_cr]
  rfl

theorem State.startRekey_region (k : Fin 256) (exhausted : Bool) :
    (s.startRekey k exhausted).region k = (s.region k).restarted exhausted :=
  (State.region_of_cr (s.startRekey_cr k exhausted) k).trans (s.modRegion_region ..)

/-! ### Operations that leave the regions, and may change counter blocks -/

theorem State.setBlock_region (page : Nat) (b : CBlock) (k : Fin 256) : (s.setBlock page b).region k = s.region k := rfl

theorem State.relock_region (line : Nat) (k : Fin 256) : (s.relock line).region k = s.region k := rfl

theorem State.landDirty_region (ld : Fin 16) (line : Nat) (psn : Bool) (ct : Line) (tag : Tag) (d : Bool) (k : Fin 256) :
    ((s.landLine ld line psn ct tag).cacheDirty line d).region k = s.region k :=
  State.region_of_cr ((State.cacheDirty_cr ..).trans (s.landLine_cr ..)) k

theorem State.countChild_region (level unit : Nat) (k : Fin 256) : (s.countChild level unit).region k = s.region k := rfl

theorem State.durPage_region (page : Nat) (k : Fin 256) : (s.durPage page).region k = s.region k := by
  unfold State.durPage
  extract_lets numbered
  rw [State.countChild_region]
  exact State.region_of_cr s.nextSeq_allocs.cr k

theorem State.reencPage_region (page major : Nat) (posB early : Bool) (k : Fin 256) :
    (s.reencPage page major posB early).region k = s.region k := by
  unfold State.reencPage
  extract_lets old plains blank landed
  rw [State.durPage_region]
  refine foldl_keeps (fun u : State => u.region k) (fun u x => ?_) plains blank
  dsimp only
  rw [State.landDirty_region]

theorem State.encrypt_region (w : Write) (k : Fin 256) : (s.encrypt w).region k = s.region k := by
  unfold State.encrypt
  extract_lets posB bumped
  have hissued : (if w.win.isSome = true then (s.seqNonce w.line w.seq posB, s) else (bumped.blockNonce w.line, bumped)).2.region k =
      s.region k := by
    split
    · rfl
    · rfl
  generalize (if w.win.isSome = true then (s.seqNonce w.line w.seq posB, s) else (bumped.blockNonce w.line, bumped)) = issued at hissued ⊢
  obtain ⟨n, u⟩ := issued
  dsimp only at hissued ⊢
  rw [← hissued]
  split
  · split
    · exact State.region_of_cr (State.tetherSend_cr ..) k
    · exact State.region_of_cr (State.alone_cr ..) k
  · rfl

theorem State.encryptAny_region (w : Write) (k : Fin 256) : (s.encryptAny w).region k = s.region k := by
  unfold State.encryptAny
  split
  · exact State.region_of_cr (s.encryptPsn_cr w) k
  · exact s.encrypt_region w k

end

/-! ### The keys of a region through stage 4 (R204) -/

/-- CUR and both keys of a region: what the start of a rekey leaves. -/
def Region.keys (x : Region) : Bool × SealedKey × SealedKey := (x.cur, x.keyA, x.keyB)

section
variable (s : State)

theorem State.modRegion_keys (r k : Fin 256) {f : Region → Region} (hf : ∀ x, (f x).keys = x.keys) :
    ((s.modRegion r f).region k).keys = (s.region k).keys := by
  rw [show (s.modRegion r f).region k = if r = k then f (s.region k) else s.region k from vmod_get ..]
  split
  · exact hf _
  · rfl

theorem State.startRekey_keys (r k : Fin 256) (exhausted : Bool) : ((s.startRekey r exhausted).region k).keys = (s.region k).keys := by
  rw [State.region_of_cr (s.startRekey_cr r exhausted)]
  exact s.modRegion_keys r k fun _ => rfl

theorem State.earlyPage_keys (line : Nat) (k : Fin 256) : ((s.earlyPage line).region k).keys = (s.region k).keys := by
  unfold State.earlyPage
  rw [State.relock_region, State.modRegion_keys _ _ k (f := fun x => { x with early := x.early + 1 }) fun _ => rfl, State.reencPage_region]

/-- Stage 4 may start a rekey and re-encrypt pages early; it changes no key. -/
theorem State.stage4_keys (w : Write) (k : Fin 256) : ((s.stage4 w).region k).keys = (s.region k).keys := by
  unfold State.stage4
  extract_lets stay page b r
  have hstay : ∀ u : State, (stay u).region k = u.region k := fun _ => rfl
  split
  · rw [State.encryptAny_region]
  split
  · rw [hstay]
  split
  · rw [State.encrypt_region]
  split
  · rw [hstay]
  split
  · rw [State.encrypt_region, State.relock_region, State.reencPage_region]
  split
  · rw [State.encrypt_region, State.earlyPage_keys, State.startRekey_keys]
  split
  · rw [hstay, State.region_of_cr (State.event_cr ..)]
    rfl
  · rw [State.encrypt_region, State.earlyPage_keys]

theorem State.runEnc_keys (k : Fin 256) : (s.runEnc.region k).keys = (s.region k).keys :=
  foldl_keeps (fun t : State => (t.region k).keys) (fun t w => t.stage4_keys w k) s.wp.encQ { s with wp := { s.wp with encQ := [] } }

theorem State.runEnc_cr_of_none {s : State} (h : s.wp.encQ = []) : s.runEnc.cr = s.cr := by
  unfold State.runEnc
  rw [h]
  rfl

end

end Sys2Proof.Machine
end

section
/-! PROOFS. Statements about regions (08_inline_encryption.md): a region is configured, removed, given a next key and rekeyed, or the command is
refused (R186 to R188, R207, Table 08-2). -/

namespace Sys2Proof.Machine

/-- The next key of a region is drawn again (R188). -/
def State.redrawNext (s : State) (k : Fin 256) : State := (s.drawKey (s.nextKeyItem k)).2.putNextKey k (s.drawKey (s.nextKeyItem k)).1

/-! ### What each command answers of a region other than region 0 -/

section
variable {s t : State} {r : Req} {k : Fin 256} {a : Ans}

/-- CONFIGURE_REGION of an aligned range (R186). -/
theorem exec_configureRegion_answers {base size : Nat} (h : s.Taken r 0xC300 (some 24)) (hk : k ≠ 0) (hbase : base % 2 ^ 28 = 0)
    (hsize : size % 2 ^ 28 = 0) (hpos : 0 < size)
    (ha : (if (s.region k).state = .rekeying then (busyAns 0x000A, s)
      else if (s.region k).state = .active ∨ s.ownRange base size = false ∨ s.regionMeets base size = true ∨ s.hasData base size = true then
        (badAns 0x000A, s)
      else (okAns, s.makeRegion k base size)) = (a, t)) :
    exec (.configureRegion r k.val base size) s = .next (t.answer r 0xC300 a) := by
  refine congrArg Host.Outcome.next (State.mbx_answers rfl h (Eq.trans ?_ ha))
  have hregion : k.val ≠ 0 := fun h0 => hk (Fin.ext h0)
  rw [dif_pos k.isLt]
  dsimp only
  rw [if_neg hregion, if_neg (not_not.2 hbase), if_neg (not_or.2 ⟨not_not.2 hsize, hpos.ne'⟩)]
  rfl

/-- REMOVE_REGION (R187). -/
theorem exec_removeRegion_answers (h : s.Taken r 0xC301 (some 1)) (hk : k ≠ 0)
    (ha : (if (s.region k).state = .rekeying then (busyAns 0x000A, s)
      else if (s.region k).state = .free ∨ s.hasData (s.region k).base (s.region k).size = true then (badAns 0x000A, s)
      else (okAns, s.freeRegion k)) = (a, t)) :
    exec (.removeRegion r k.val) s = .next (t.answer r 0xC301 a) := by
  refine congrArg Host.Outcome.next (State.mbx_answers rfl h (Eq.trans ?_ ha))
  have hregion : k.val ≠ 0 := fun h0 => hk (Fin.ext h0)
  rw [dif_pos k.isLt]
  dsimp only
  rw [if_neg hregion]
  rfl

/-- SET_NEXT_KEY with MODE 0: the key is drawn (R188). -/
theorem exec_setNextKey_answers (h : s.Taken r 0xC302 (some 48))
    (ha : (if (s.region k).state = .rekeying then (busyAns 0x000A, s)
      else if (s.region k).state = .free then (badAns 0x000A, s)
      else (okAns, s.redrawNext k)) = (a, t)) :
    exec (.setNextKey r k.val 0 0) s = .next (t.answer r 0xC302 a) := by
  refine congrArg Host.Outcome.next (State.mbx_answers rfl h (Eq.trans ?_ ha))
  rw [dif_pos k.isLt]
  dsimp only
  rw [if_neg (Nat.not_lt_zero 1), if_neg fun h => h.2 rfl, if_pos rfl]
  rfl

/-- START_REKEY (R187, R207). -/
theorem exec_startRekey_of_rekeying (h : s.Taken r 0xC303 (some 1)) (hstate : (s.region k).state = .rekeying) :
    exec (.startRekey r k.val) s = .next (s.answer r 0xC303 (busyAns 0x000A)) := by
  refine congrArg Host.Outcome.next (State.mbx_answers rfl h ?_)
  rw [dif_pos k.isLt]
  dsimp only
  rw [show s.cr.regions[(⟨k.val, k.isLt⟩ : Fin 256)].state = .rekeying from hstate]

theorem exec_startRekey_of_active (h : s.Taken r 0xC303 (some 1)) (hstate : (s.region k).state = .active) :
    exec (.startRekey r k.val) s = .next ((s.startRekey k false).answer r 0xC303 okAns) := by
  refine congrArg Host.Outcome.next (State.mbx_answers rfl h ?_)
  rw [dif_pos k.isLt]
  dsimp only
  rw [show s.cr.regions[(⟨k.val, k.isLt⟩ : Fin 256)].state = .active from hstate]

end

/-! ### The region afterwards (Table 08-2) -/

theorem State.makeRegion_region (s : State) (k : Fin 256) (base size : Nat) : ∃ a b : Key, (s.makeRegion k base size).region k =
    { Region.init with state := .active, base := base, size := size, keyA := ⟨some a, true⟩, keyB := ⟨some b, true⟩ } :=
  ⟨_, _, State.modRegion_region ..⟩

theorem State.freeRegion_region (s : State) (k : Fin 256) : (s.freeRegion k).region k = Region.init := s.modRegion_region k _

/-- A region with its next key replaced. -/
def Region.withNext (x : Region) (key : SealedKey) : Region := if x.cur = true then { x with keyA := key } else { x with keyB := key }

theorem Region.withNext_keys {x y : Region} {key : SealedKey} (h : y = x.withNext key) :
    y.cur = x.cur ∧ (if x.cur = true then y.keyB = x.keyB ∧ y.keyA = key else y.keyA = x.keyA ∧ y.keyB = key) := by
  rw [h]
  unfold Region.withNext
  split
  · exact ⟨rfl, rfl, rfl⟩
  · exact ⟨rfl, rfl, rfl⟩

theorem State.redrawNext_region (s : State) (k : Fin 256) :
    (s.redrawNext k).region k = (s.region k).withNext ⟨some (Config.freeKey s.freeIx), true⟩ := by
  obtain ⟨_, _, h⟩ := s.drawKey_touches (s.nextKeyItem k)
  unfold State.redrawNext
  rw [h]
  exact State.modRegion_region ..

/-- Settles O31: each command's answer is that of its row in the region's state, and its next state has the region as the row says. -/
theorem regionsChangeAsTabled : Obligations.RegionsChangeAsTabled := by
  unfold Obligations.RegionsChangeAsTabled
  intro s r k hk x
  have notRekeying {st : RegState} (h : x.state = st) (hst : st ≠ .rekeying) : ¬(s.region k).state = .rekeying := fun hx => hst (h.symm.trans hx)
  refine ⟨fun base size htaken hbase hsize hpos => ?_, fun htaken => ?_, fun htaken => ?_, fun htaken => ?_⟩
  · have hanswers {a t} := exec_configureRegion_answers (a := a) (t := t) htaken hk hbase hsize hpos
    refine ⟨fun hfree hown hmeets hdata => ?_, fun hfree hdata => ?_, fun hrekeying => hanswers (if_pos hrekeying)⟩
    · obtain ⟨a, b, hregion⟩ := s.makeRegion_region k base size
      have hfits : ¬((s.region k).state = .active ∨ s.ownRange base size = false ∨ s.regionMeets base size = true ∨
          s.hasData base size = true) := by
        rw [show (s.region k).state = .free from hfree, hown, hmeets, hdata]
        simp
      refine ⟨s.makeRegion k base size, hanswers ((if_neg (notRekeying hfree (by simp))).trans (if_neg hfits)), ?_⟩
      rw [show (s.makeRegion k base size).cr.regions[k] = _ from hregion]
      exact ⟨rfl, rfl, rfl, rfl, rfl⟩
    · exact hanswers ((if_neg (notRekeying hfree (by simp))).trans (if_pos (.inr (.inr (.inr hdata)))))
  · have hanswers {a t} := exec_removeRegion_answers (a := a) (t := t) htaken hk
    refine ⟨fun hactive hdata => ⟨s.freeRegion k, hanswers ((if_neg (notRekeying hactive (by simp))).trans (if_neg ?_)), s.freeRegion_region k⟩,
      fun hactive hdata => hanswers ((if_neg (notRekeying hactive (by simp))).trans (if_pos (.inr hdata))),
      fun hrekeying => hanswers (if_pos hrekeying)⟩
    rw [show (s.region k).state = .active from hactive, show s.hasData (s.region k).base (s.region k).size = false from hdata]
    simp
  · have hanswers {a t} := exec_setNextKey_answers (a := a) (t := t) (k := k) htaken
    refine ⟨fun hactive => ⟨s.redrawNext k, hanswers ((if_neg (notRekeying hactive (by simp))).trans (if_neg ?_)), ?_⟩,
      fun hrekeying => hanswers (if_pos hrekeying)⟩
    · rw [show (s.region k).state = .active from hactive]
      simp
    · exact Region.withNext_keys (s.redrawNext_region k)
  · refine ⟨fun hactive => ⟨_, exec_startRekey_of_active htaken hactive, ?_⟩, exec_startRekey_of_rekeying htaken⟩
    rw [show (s.startRekey k false).cr.regions[k] = x.restarted false from s.startRekey_region k false]
    exact ⟨rfl, rfl, rfl, rfl⟩

end Sys2Proof.Machine
end

section
/-! PROOFS. Statements about rekeys (08_inline_encryption.md): the engine takes the page at the watermark (R205, R206), and the rekey completes once
nothing lives under the old key (R210). -/

namespace Sys2Proof.Machine

open Sys2Proof.Laws

/-! ### The page at the watermark (R206, R207) -/

section
variable (s : State) (k : Fin 256)

theorem State.advanceW_w : ((s.advanceW k).region k).w = (s.region k).w + 1 := by
  unfold State.advanceW
  extract_lets w moved
  have hmoved : moved.region k = { s.region k with w := w } := s.modRegion_region k _
  split
  · rw [State.region_of_cr (State.metaRec_cr ..), State.modRegion_region, hmoved]
    rfl
  · rw [hmoved]
    rfl

theorem State.block_of_cr {s t : State} (h : t.cr = s.cr) (page : Nat) : t.block page = s.block page :=
  congrArg (fun c : Cr => tget CBlock.zero c.blocks page) h

theorem State.advanceW_block (page : Nat) : (s.advanceW k).block page = s.block page := by
  unfold State.advanceW
  extract_lets w moved
  split
  · rw [State.block_of_cr (State.metaRec_cr ..)]
    rfl
  · rfl

theorem State.setBlock_block (page : Nat) (b : CBlock) : (s.setBlock page b).block page = b := tget_tput_same ..

/-- Whatever becomes of the page, W advances by one. -/
theorem State.rekeyPage_w : ((s.rekeyPage k).region k).w = (s.region k).w + 1 := by
  unfold State.rekeyPage
  extract_lets x page b cleared
  have hcleared : (cleared.region k).w = (s.region k).w := by
    unfold cleared
    split
    · rw [State.modRegion_region, State.setBlock_region]
    · split
      · rw [State.reencPage_region]
      · rw [State.setBlock_region]
  split
  · rw [State.modRegion_region]
  · rw [State.advanceW_w, hcleared]

variable {s k}

/-- A page of the region that holds no written line and is not EARLY becomes the zero block. -/
theorem State.rekeyPage_block_of_unwritten (hregion : s.regionOf ((s.region k).w * 64) = k)
    (hearly : (s.block (s.region k).w).early = false) (hunwritten : s.pageWritten (s.region k).w = false) :
    (s.rekeyPage k).block (s.region k).w = CBlock.zero := by
  unfold State.rekeyPage
  extract_lets x page b cleared
  have hcleared : cleared = s.setBlock page CBlock.zero := by
    unfold cleared
    exact (if_neg (Bool.eq_false_iff.1 hearly)).trans (if_neg (Bool.eq_false_iff.1 hunwritten))
  rw [if_neg (show ¬s.regionOf (page * 64) ≠ k from not_not.2 hregion), State.advanceW_block, hcleared]
  exact s.setBlock_block page CBlock.zero

/-- REKEY_PAGE_STEP where admission lets the engine's writes go and the page is free (R206, R208). -/
theorem exec_rekeyPageStep (hstate : (s.region k).state = .rekeying) (hpage : (s.region k).w < s.regionEnd k)
    (hadmits : s.rollMs.admits = true) (hlocks : s.rollMs.wp.ilocks.all (fun l => decide (pageOf l.line ≠ (s.region k).w)) = true)
    (hset : s.rollMs.setFrozen (s.rollMs.setOf ((s.region k).w / 4)) = false) :
    ∃ t, exec (.rekeyPageStep k) s = .next t ∧ t.cr = (s.rollMs.rekeyPage k).cr := by
  have hend : s.rollMs.regionEnd k = s.regionEnd k := by
    obtain ⟨_, _, _, _, h⟩ := s.rollMs_touches
    rw [h]
    rfl
  obtain ⟨_, _, hdone⟩ := s.rollMs.done_touches (s.rollMs.rekeyPage k).judgeMarks
  refine ⟨_, Eq.trans (if_pos ⟨hstate, ?_, hadmits, hlocks, hset⟩) hdone, State.judgeMarks_cr _⟩
  rw [hend]
  exact hpage

end

/-! ### The rekey completes (R187, R210) -/

/-- A region whose rekey has completed: CUR inverted, the old key replaced by a new next key. -/
def Region.rekeyed (x : Region) (key : SealedKey) : Region :=
  { x with state := .active, cur := !x.cur, keyA := if x.cur = true then x.keyA else key, keyB := if x.cur = true then key else x.keyB,
           early := 0, byExhaust := false, durW := none, owed := false }

theorem Region.keys_of_rekeyed {x y : Region} {key : SealedKey} (h : y.keys = (x.rekeyed key).keys) :
    y.cur = !x.cur ∧ (if x.cur = true then y.keyA = x.keyA else y.keyB = x.keyB) ∧ (if x.cur = true then y.keyB else y.keyA) = key := by
  obtain ⟨hcur, hkeys⟩ := Prod.ext_iff.1 h
  obtain ⟨hkeyA, hkeyB⟩ := Prod.ext_iff.1 hkeys
  refine ⟨hcur, ?_⟩
  rw [show y.keyA = if x.cur = true then x.keyA else key from hkeyA, show y.keyB = if x.cur = true then key else x.keyB from hkeyB]
  cases x.cur with
  | true => exact ⟨rfl, rfl⟩
  | false => exact ⟨rfl, rfl⟩

section
variable {s : State} {k : Fin 256}

/-- With no rekey owed, only the writes that waited before stage 4 act after the completion. -/
theorem State.rekeyDone_of_not_owed (howed : (s.region k).owed = false) : ∃ u : State, s.rekeyDone k = u.runEnc ∧
    u.region k = (s.region k).rekeyed ⟨some (Config.freeKey s.freeIx), true⟩ ∧ u.wp.encQ = s.wp.encQ := by
  obtain ⟨_, _, hdraw⟩ := s.drawKey_touches (1024 + 2 * k.val + b2n s.cr.regions[k].cur)
  unfold State.rekeyDone
  rw [hdraw]
  refine ⟨_, congrArg State.runEnc (if_neg (Bool.eq_false_iff.1 howed)), ?_, ?_⟩
  · rw [State.region_of_cr ((State.raise_cr ..).trans (State.event_cr ..))]
    exact State.modRegion_region ..
  · rw [State.raise_wp, State.event_wp]
    rfl

/-- REKEY_COMPLETE past the last page, with nothing live under the old key (R210). -/
theorem exec_rekeyComplete (hstate : (s.region k).state = .rekeying) (hend : s.regionEnd k ≤ (s.region k).w) (hold : s.oldKeyLive k = false) :
    ∃ t, exec (.rekeyComplete k) s = .next t ∧ t.cr = (s.rekeyDone k).cr := by
  obtain ⟨_, _, hdone⟩ := s.done_touches (s.rekeyDone k)
  exact ⟨_, Eq.trans (if_pos ⟨hstate, hend, hold⟩) hdone, rfl⟩

end

/-- Settles O32: the page step by `rekeyPage_w` and `rekeyPage_block_of_unwritten`; the completion by `rekeyDone_of_not_owed`, and because the writes
that go on afterwards change no key (`runEnc_keys`). -/
theorem rekeysRunPageByPage : Obligations.RekeysRunPageByPage := by
  unfold Obligations.RekeysRunPageByPage
  intro s k x
  refine ⟨fun hstate hpage hadmits hlocks hset => ?_, fun line hline => ?_, fun hstate hend hold howed => ?_⟩
  · obtain ⟨t, hexec, hcr⟩ := exec_rekeyPageStep hstate hpage hadmits hlocks hset
    obtain ⟨_, _, _, _, hroll⟩ := s.rollMs_touches
    have hregion : s.rollMs.region k = s.region k := by
      rw [hroll]
      rfl
    refine ⟨t, hexec, ?_, fun hmine hearly hunwritten => ?_⟩
    · show (t.region k).w = (s.region k).w + 1
      rw [State.region_of_cr hcr, State.rekeyPage_w, hregion]
    · show t.block (s.region k).w = CBlock.zero
      rw [State.block_of_cr hcr, ← hregion]
      refine State.rekeyPage_block_of_unwritten ?_ ?_ ?_ <;> rw [hregion, hroll]
      · exact hmine
      · exact hearly
      · exact hunwritten
  · subst hline
    exact ⟨fun h => if_pos h, fun h => if_neg h⟩
  · obtain ⟨t, hexec, hcr⟩ := exec_rekeyComplete hstate hend hold
    obtain ⟨u, hdone, hregion, hqueue⟩ := State.rekeyDone_of_not_owed howed
    have hkeys : (t.region k).keys = ((s.region k).rekeyed ⟨some (Config.freeKey s.freeIx), true⟩).keys := by
      rw [State.region_of_cr hcr, hdone, State.runEnc_keys, hregion]
    refine ⟨t, hexec, fun hnone => ?_, ?_⟩
    · have hquiet : t.cr = u.cr := by rw [hcr, hdone, State.runEnc_cr_of_none (hqueue.trans hnone)]
      rw [show t.cr.regions[k] = _ from (State.region_of_cr hquiet k).trans hregion]
      rfl
    · exact Region.keys_of_rekeyed hkeys

end Sys2Proof.Machine
end

section
/-! PROOFS. What the shared operations leave of the units and of the keeper's list of lost stacks (09_redundancy_and_degraded.md R219, R234): an event,
a notification, a fill mark and a scrub that stops change neither, nor a line of the write path's index. -/

namespace Sys2Proof.Machine

open Sys2Proof.Laws

/-! ### Views of the state that an operation does not reach -/

theorem State.event_keeps {α : Type} (view : State → α) (s : State) (code sev org p0 p1 p2 p3 : Nat)
    (hview : ∀ (t : State) ev kp sec nt pm lds out,
      view { t with ev := ev, kp := kp, sec := sec, nt := nt, pm := pm, lds := lds, out := out } = view t := by intros; rfl) :
    view (s.event code sev org p0 p1 p2 p3) = view s := by
  obtain ⟨_, _, _, _, _, _, _, h⟩ := s.event_touches code sev org p0 p1 p2 p3
  rw [h]
  exact hview ..

theorem State.raise_keeps {α : Type} (view : State → α) (s : State) (n : Fin 256) (e d : Nat)
    (hview : ∀ (t : State) nt, view { t with nt := nt } = view t := by intros; rfl) : view (s.raise n e d) = view s := by
  obtain ⟨_, h⟩ := s.raise_touches n e d
  rw [h]
  exact hview ..

theorem State.mbxSignal_keeps {α : Type} (view : State → α) (s : State) (i : Inst) (b : Nat)
    (hview : ∀ (t : State) lds out, view { t with lds := lds, out := out } = view t := by intros; rfl) : view (s.mbxSignal i b) = view s := by
  obtain ⟨_, _, h⟩ := s.mbxSignal_touches i b
  rw [h]
  exact hview ..

/-- A command of the data path answers the next state with the monitor's edges counted, which a view may leave out. -/
theorem State.done_answers {α : Type} (view : State → α) (s t : State)
    (hview : ∀ (u : State) pm nt, view { u with pm := pm, nt := nt } = view u := by intros; rfl) :
    ∃ u, s.done t = .next u ∧ view u = view t := by
  obtain ⟨_, _, h⟩ := s.done_touches t
  exact ⟨_, h, hview ..⟩

/-! ### The index, the counters, the fold engine and the units -/

/-- What no fault of a core reaches: the index, the encryption counters, the fold engine and the units. -/
def State.linesAndUnits (s : State) : Tbl IndexRec × Cr × Fo × Rd := (s.wp.index, s.cr, s.fo, s.rd)

section
variable {s t : State} (h : t.linesAndUnits = s.linesAndUnits)
include h

theorem State.index_of_linesAndUnits : t.wp.index = s.wp.index := congrArg Prod.fst h

theorem State.cr_of_linesAndUnits : t.cr = s.cr := congrArg (fun v => v.2.1) h

theorem State.fo_of_linesAndUnits : t.fo = s.fo := congrArg (fun v => v.2.2.1) h

theorem State.rd_of_linesAndUnits : t.rd = s.rd := congrArg (fun v => v.2.2.2) h

end

section
variable (s : State)

@[simp] theorem State.event_linesAndUnits (code sev org p0 p1 p2 p3 : Nat) :
    (s.event code sev org p0 p1 p2 p3).linesAndUnits = s.linesAndUnits := State.event_keeps State.linesAndUnits ..

@[simp] theorem State.judgeMarks_linesAndUnits : s.judgeMarks.linesAndUnits = s.linesAndUnits := by
  obtain ⟨_, _, _, _, _, _, _, _, h⟩ := s.judgeMarks_touches
  have hrest : (s.judgeMarks.cr, s.judgeMarks.fo, s.judgeMarks.rd) = (s.cr, s.fo, s.rd) := by rw [h]
  have hindex : s.judgeMarks.wp.index = s.wp.index := by rw [s.judgeMarks_wp]
  exact Prod.ext hindex hrest

/-! ### Scrubs that stop (R155, R156) -/

@[simp] theorem State.scrubFinish_linesAndUnits (n : Fin 16) (flags : Nat) : (s.scrubFinish n flags).linesAndUnits = s.linesAndUnits := by
  unfold State.scrubFinish
  extract_lets ended
  split
  · exact State.raise_keeps State.linesAndUnits ..
  · rfl

@[simp] theorem State.scrubsStop_linesAndUnits : s.scrubsStop.linesAndUnits = s.linesAndUnits := rfl

@[simp] theorem State.scrubsSettle_linesAndUnits : s.scrubsSettle.linesAndUnits = s.linesAndUnits := by
  refine foldl_keeps State.linesAndUnits (fun u n => ?_) _ s
  split
  · exact State.scrubFinish_linesAndUnits ..
  · rfl

end

/-! ### The monitor's switch and the lost stacks under an event (R303, R308) -/

/-- Whether the performance monitor counts, and the stacks the keeper holds lost: what an event leaves of the parts it writes. -/
def State.monitorAndStacks (s : State) : Bool × List (Fin 5) := (s.pm.en, s.kp.lostStacks)

section
variable (s : State)

theorem State.pmAdd_en (n : Fin 64) (d : Nat) : (s.pmAdd n d).pm.en = s.pm.en := by
  unfold State.pmAdd
  extract_lets v counted wrapped
  split
  · rfl
  · split
    · exact State.raise_keeps (fun t => t.pm.en) ..
    · rfl

theorem State.pmCount_monitorAndStacks (ev : Nat) (g : PmTag) : (s.pmCount ev g).monitorAndStacks = s.monitorAndStacks := by
  have hstacks : (s.pmCount ev g).kp = s.kp := by
    obtain ⟨_, _, h⟩ := s.pmCount_touches ev g
    rw [h]
  refine Prod.ext ?_ (congrArg Kp.lostStacks hstacks)
  unfold State.pmCount
  split
  · refine foldl_keeps (fun t => t.pm.en) (fun u n => ?_) _ s
    split
    · exact u.pmAdd_en n 1
    · rfl
  · rfl

theorem State.evBlock_monitorAndStacks : s.evBlock.monitorAndStacks = s.monitorAndStacks := by
  unfold State.evBlock
  split
  · rfl
  · rfl

theorem State.logRepeat_monitorAndStacks : s.logRepeat.monitorAndStacks = s.monitorAndStacks := by
  unfold State.logRepeat
  split
  · split
    · rfl
    · rfl
  · rfl

theorem State.logAppend_monitorAndStacks (r : EventRec) : (s.logAppend r).monitorAndStacks = s.monitorAndStacks := by
  unfold State.logAppend
  extract_lets filled _ first _ marked _ spent
  have hfirst : first.monitorAndStacks = s.monitorAndStacks := by
    unfold first
    split
    · rfl
    · rfl
  have hspent : spent.monitorAndStacks = first.monitorAndStacks := by
    unfold spent
    split
    · rfl
    · rfl
  split
  · exact hfirst
  · exact hspent.trans hfirst

theorem State.forward_monitorAndStacks (e : EventRec) : (s.forward e).monitorAndStacks = s.monitorAndStacks := by
  obtain ⟨_, _, h⟩ := s.forward_touches e
  rw [h]
  rfl

theorem State.keeperEvent_monitorAndStacks (code sev org p0 p1 p2 p3 : Nat) :
    (s.keeperEvent code sev org p0 p1 p2 p3).monitorAndStacks = s.monitorAndStacks := by
  unfold State.keeperEvent
  split
  · rfl
  · extract_lets opened r counted
    have hcounted : counted.monitorAndStacks = s.monitorAndStacks := s.evBlock_monitorAndStacks
    split
    · exact (counted.logAppend_monitorAndStacks r).trans hcounted
    · exact hcounted

theorem State.eventStore_monitorAndStacks (code sev org p0 p1 p2 p3 : Nat) :
    (s.eventStore code sev org p0 p1 p2 p3).monitorAndStacks = s.monitorAndStacks := by
  unfold State.eventStore
  split
  · rfl
  · extract_lets opened supp r counted inserted ringed kept noted fatal
    have hcounted : counted.monitorAndStacks = s.monitorAndStacks :=
      (State.evBlock_monitorAndStacks _).trans s.logRepeat_monitorAndStacks
    have hringed : ringed.monitorAndStacks = counted.monitorAndStacks := by
      unfold ringed
      split
      · rfl
      · exact State.pmCount_monitorAndStacks ..
    have hkept : kept.monitorAndStacks = ringed.monitorAndStacks := by
      unfold kept
      split
      · exact State.logAppend_monitorAndStacks ..
      · rfl
    have hnoted : noted.monitorAndStacks = kept.monitorAndStacks := by
      unfold noted
      split
      · exact State.raise_keeps State.monitorAndStacks ..
      · rfl
    have hfatal : fatal.monitorAndStacks = noted.monitorAndStacks := by
      unfold fatal
      split
      · exact State.raise_keeps State.monitorAndStacks ..
      · rfl
    rw [State.forward_monitorAndStacks, hfatal, hnoted, hkept, hringed, hcounted]

theorem State.event_monitorAndStacks (code sev org p0 p1 p2 p3 : Nat) :
    (s.event code sev org p0 p1 p2 p3).monitorAndStacks = s.monitorAndStacks := by
  unfold State.event
  split
  · exact State.keeperEvent_monitorAndStacks ..
  · split
    · split
      · rfl
      · exact State.eventStore_monitorAndStacks ..
    · exact State.eventStore_monitorAndStacks ..

theorem State.event_en (code sev org p0 p1 p2 p3 : Nat) : (s.event code sev org p0 p1 p2 p3).pm.en = s.pm.en :=
  congrArg Prod.fst (State.event_monitorAndStacks ..)

theorem State.event_lostStacks (code sev org p0 p1 p2 p3 : Nat) : (s.event code sev org p0 p1 p2 p3).kp.lostStacks = s.kp.lostStacks :=
  congrArg Prod.snd (State.event_monitorAndStacks ..)

end

/-! ### Power removed for a fault of the data path (R235, Table 13-9) -/

/-- What the keeper goes by when it removes power: its power state, the stacks it holds lost, and the timebase. -/
def State.keeperSide (s : State) : Pw × List (Fin 5) × Nat := (s.pw, s.kp.lostStacks, s.now)

section
variable (s : State)

theorem State.dropCounters_keeperSide : s.dropCounters.keeperSide = s.keeperSide := by
  refine foldl_keeps State.keeperSide (fun u l => ?_) _ s
  extract_lets b
  split
  · rfl
  · rfl

theorem State.rewindW_keeperSide : s.rewindW.keeperSide = s.keeperSide := by
  refine foldl_keeps State.keeperSide (fun u r => ?_) _ s
  extract_lets x d pages early
  split
  · have hearly : early.keeperSide = u.keeperSide := by
      refine foldl_keeps State.keeperSide (fun v p => ?_) pages u
      rfl
    exact hearly
  · rfl

theorem State.releaseFolded_keeperSide : s.releaseFolded.keeperSide = s.keeperSide := by
  refine foldl_keeps State.keeperSide (fun u c => ?_) _ s
  unfold State.modEntry
  split
  · rfl
  · rfl

/-- Before the die goes down, counters, watermarks and folded entries are settled; the keeper sees none of it. -/
theorem State.settled_keeperSide : s.dropCounters.rewindW.releaseFolded.keeperSide = s.keeperSide := by
  rw [State.releaseFolded_keeperSide, State.rewindW_keeperSide, State.dropCounters_keeperSide]

theorem State.shutdownRec_keeperSide (code : Nat) : (s.shutdownRec code).keeperSide = s.keeperSide := by
  unfold State.shutdownRec
  split
  · rfl
  · rfl

/-- The keeper's side once power was removed, before the shutdown record. -/
theorem State.powerOff_keeperSide (st : PowerState) : (s.powerOff st).pw.st = st ∧ (s.powerOff st).pw.dieUp = false ∧
    (s.powerOff st).pw.dataPath = false ∧ (s.powerOff st).kp.lostStacks = s.kp.lostStacks ∧ (s.powerOff st).now = s.now := by
  have hsettled := s.settled_keeperSide
  unfold State.powerOff State.dieDown
  generalize s.dropCounters.rewindW.releaseFolded = u at hsettled ⊢
  exact ⟨rfl, rfl, rfl, congrArg (fun v => v.2.1) hsettled, congrArg (fun v => v.2.2) hsettled⟩

/-- A fault of the data path sends the keeper to lockout where it is a second one within 10 min or no retry is left (R385). -/
def State.FaultLocks (s : State) : Prop :=
  s.pw.retriesLeft = 0 ∨ ∃ a, s.pw.lastFaultAt = some a ∧ s.now - a ≤ secTicks 600

theorem State.faultLocks_iff : ((match s.pw.lastFaultAt with
    | some t => decide (s.now - t ≤ secTicks 600)
    | none => false) = true ∨ s.pw.retriesLeft = 0) ↔ s.FaultLocks := by
  unfold State.FaultLocks
  cases s.pw.lastFaultAt with
  | none => simp
  | some a => simp [or_comm]

/-- The power state after a fault of the data path: the die is off, in lockout or until the restart. -/
structure Pw.FaultedOff (x : Pw) (locks : Prop) (restart : Nat) : Prop where
  dieUp : x.dieUp = false
  dataPath : x.dataPath = false
  locked : locks → x.st = .lockout
  waits : ¬locks → x.st = .off ∧ x.faultRestartAt = some restart

/-- A fault of the data path: the power state it leaves, and the list of lost stacks as it was. -/
theorem State.pathFault_faultedOff : s.pathFault.pw.FaultedOff s.FaultLocks (s.now + secTicks 1) ∧ s.pathFault.kp.lostStacks = s.kp.lostStacks := by
  unfold State.pathFault State.faultOff
  extract_lets again off noted
  have hoff := s.powerOff_keeperSide (if again = true ∨ s.pw.retriesLeft = 0 then .lockout else .off)
  rw [show s.powerOff (if again = true ∨ s.pw.retriesLeft = 0 then .lockout else .off) = off from rfl] at hoff
  clear_value off
  obtain ⟨hst, hdie, hpath, hstacks, hnow⟩ := hoff
  have hnoted : noted.keeperSide = off.keeperSide := off.shutdownRec_keeperSide 3
  have hpw : noted.pw = off.pw := congrArg Prod.fst hnoted
  have hlost : noted.kp.lostStacks = s.kp.lostStacks := (congrArg (fun v => v.2.1) hnoted).trans hstacks
  have hclock : noted.now = s.now := (congrArg (fun v => v.2.2) hnoted).trans hnow
  have hlocks : (again = true ∨ s.pw.retriesLeft = 0) ↔ s.FaultLocks := s.faultLocks_iff
  clear_value noted
  rw [← hpw] at hst hdie hpath
  by_cases hfault : s.FaultLocks
  · rw [if_pos (hlocks.2 hfault)] at hst
    rw [if_pos hst]
    exact ⟨⟨hdie, hpath, fun _ => hst, fun h => absurd hfault h⟩, hlost⟩
  · rw [if_neg fun h => hfault (hlocks.1 h)] at hst
    rw [if_neg (by rw [hst]; decide)]
    exact ⟨⟨hdie, hpath, fun h => absurd h hfault, fun _ => ⟨hst, by rw [hclock]⟩⟩, hlost⟩

end

theorem State.not_faultLocks {s : State} (hfirst : s.pw.lastFaultAt = none) (hretries : s.pw.retriesLeft ≠ 0) : ¬ s.FaultLocks := by
  rintro (hnone | ⟨a, hlast, _⟩)
  · exact hretries hnone
  · rw [hfirst] at hlast
    cases hlast

end Sys2Proof.Machine
end

section
/-! PROOFS. Statements about links, cores and on-chip memory (09_redundancy_and_degraded.md R236 to R238; 10_cxl_interface.md R239 to R241;
13_cache_and_on_chip_memory.md R332): a lane, a core or a memory byte that fails costs no line of the index. -/

namespace Sys2Proof.Machine

open Sys2Proof.Laws

/-! ### Lanes (R237, R238, Table 15-2) -/

theorem getLsbD_or_twoPow {n : Nat} (v : BitVec n) (i : Fin n) : (v ||| BitVec.ofNat n (2 ^ i.val)).getLsbD i.val = true := by
  rw [BitVec.getLsbD_or, BitVec.getLsbD_ofNat, Nat.testBit_two_pow_self, decide_eq_true i.isLt]
  exact Bool.or_true _

/-- A CXL port that has lost one more lane: the next width below, and down with its last. -/
def Port.lessLane (x : Port) (l : Fin 16) : Port :=
  { x with lost := x.lost ||| BitVec.ofNat 16 (2 ^ l.val), width := x.width / 2, mode := if x.width / 2 = 0 then .down else x.mode }

theorem exec_cxlLaneFailure_narrows {s : State} {p : Fin 2} {l : Fin 16} (hup : (s.lk.ports[p]).mode ≠ .down)
    (htrained : (s.lk.ports[p]).mode ≠ .training) (hlane : l.val < (s.lk.ports[p]).width) (hlost : (s.lk.ports[p]).lost.getLsbD l.val = false) :
    ∃ t : State, exec (.cxlLaneFailure p l) s = .next t ∧ t.lk.ports[p] = (s.lk.ports[p]).lessLane l ∧ t.lk.aerCorr = true ∧ t.wp = s.wp ∧
      t.rp = s.rp := by
  have hfails : ¬((s.lk.ports[p]).mode = .down ∨ (s.lk.ports[p]).mode = .training ∨ (s.lk.ports[p]).width ≤ l.val ∨
      (s.lk.ports[p]).lost.getLsbD l.val = true) := by
    rintro (h | h | h | h)
    · exact hup h
    · exact htrained h
    · exact Nat.not_le.2 hlane h
    · rw [hlost] at h
      cases h
  refine ⟨_, if_neg hfails, ?_, ?_, ?_, ?_⟩
  · exact (State.event_keeps (fun t => t.lk.ports[p]) ..).trans (modPort_port ..)
  · exact State.event_keeps (fun t => t.lk.aerCorr) ..
  · exact State.event_keeps State.wp ..
  · exact State.event_keeps State.rp ..

/-- A lode port that has lost one more lane. -/
def LodePort.lessLane (x : LodePort) (l : Fin 2) : LodePort := { x with lost := x.lost ||| BitVec.ofNat 2 (2 ^ l.val), lanes := x.lanes - 1 }

/-- A lode port that has lost one more lane goes on while a lane is left and not both are lost, else it is down (Table 15-2). -/
theorem exec_lodeLaneFailure {s : State} {p : Fin 4} {l : Fin 2} (hup : (s.lo.ports[p]).state ≠ .down)
    (hlost : (s.lo.ports[p]).lost.getLsbD l.val = false) :
    ∃ u : State, u.lo.ports[p] = (s.lo.ports[p]).lessLane l ∧ u.wp = s.wp ∧
      exec (.lodeLaneFailure p l) s = .next (if (u.lo.ports[p]).lost = 3 ∨ (u.lo.ports[p]).lanes = 0 then u.lodeDown p else u) := by
  have hfails : ¬((s.lo.ports[p]).state = .down ∨ (s.lo.ports[p]).lost.getLsbD l.val = true) := by
    rintro (h | h)
    · exact hup h
    · rw [hlost] at h
      cases h
  refine ⟨_, ?_, ?_, if_neg hfails⟩
  · exact (State.event_keeps (fun t => t.lo.ports[p]) ..).trans (modLode_port ..)
  · exact State.event_keeps State.wp ..

theorem lost_one_lane (l : Fin 2) : (0 : BitVec 2) ||| BitVec.ofNat 2 (2 ^ l.val) ≠ 3 := by
  revert l
  decide

theorem exec_lodeLaneFailure_goes_on {s : State} {p : Fin 4} {l : Fin 2} (hup : (s.lo.ports[p]).state ≠ .down)
    (hlanes : (s.lo.ports[p]).lanes = 2) (hlost : (s.lo.ports[p]).lost = 0) :
    ∃ t : State, exec (.lodeLaneFailure p l) s = .next t ∧ t.lo.ports[p] = (s.lo.ports[p]).lessLane l ∧ t.wp = s.wp := by
  obtain ⟨u, hport, hwp, hexec⟩ := exec_lodeLaneFailure (l := l) hup (by rw [hlost]; exact BitVec.getLsbD_zero)
  refine ⟨u, hexec.trans (congrArg _ (if_neg ?_)), hport, hwp⟩
  rw [hport]
  unfold LodePort.lessLane
  dsimp only
  rw [hlost, hlanes]
  rintro (h | h)
  · exact lost_one_lane l h
  · cases h

theorem exec_lodeLaneFailure_downs {s : State} {p : Fin 4} {l : Fin 2} (hup : (s.lo.ports[p]).state ≠ .down)
    (hlanes : (s.lo.ports[p]).lanes = 1) (hlost : (s.lo.ports[p]).lost.getLsbD l.val = false) :
    ∃ t : State, exec (.lodeLaneFailure p l) s = .next t ∧ (t.lo.ports[p]).lanes = 0 ∧ (t.lo.ports[p]).state = .down ∧
      (t.lo.ports[p]).keyed = false ∧ t.wp = s.wp := by
  obtain ⟨u, hport, hwp, hexec⟩ := exec_lodeLaneFailure hup hlost
  have hnone : (u.lo.ports[p]).lanes = 0 := by
    rw [hport]
    exact congrArg (· - 1) hlanes
  have hdown := modLode_port u p fun x => { x with state := .down, keyed := false, txKey := 0, rxKey := 0 }
  refine ⟨u.lodeDown p, hexec.trans (congrArg _ (if_pos (.inr hnone))), ?_⟩
  unfold State.lodeDown
  rw [hdown]
  exact ⟨hnone, rfl, rfl, hwp⟩

/-! ### Training (R239 to R241) -/

section
variable {s : State} {p : Fin 2} (hup : s.pw.dieUp = true) (hthere : s.portThere p = true) (hdown : (s.lk.ports[p]).mode = .down)
include hup hthere hdown

theorem port_may_train : ¬(s.pw.dieUp = false ∨ s.portThere p = false ∨ ((s.lk.ports[p]).mode ≠ .down ∧ (s.lk.ports[p]).mode ≠ .training)) := by
  rw [hup, hthere, hdown]
  simp

theorem exec_linkTrainingResult_cxl (sw : Bool) (w : Nat) : ∃ t : State, exec (.linkTrainingResult p (.cxl sw w)) s = .next t ∧
    (t.lk.ports[p]).width = w ∧ t.wp = s.wp ∧ (t.lk.ports[p]).mode = if sw = true then .mld else .sld := by
  have htrained := modPort_port s p fun x => { x with mode := if sw then .mld else .sld, width := w, perst := false }
  exact ⟨_, if_neg (port_may_train hup hthere hdown), congrArg Port.width htrained, rfl, congrArg Port.mode htrained⟩

theorem exec_linkTrainingResult_pcieOnly (r : Nat) : ∃ t : State, exec (.linkTrainingResult p (.pcieOnly r)) s = .next t ∧
    (t.lk.ports[p]).mode = .pcieOnly := by
  have htrained := modPort_port s p fun x => { x with mode := .pcieOnly, perst := false }
  refine ⟨_, if_neg (port_may_train hup hthere hdown), ?_⟩
  exact (State.event_keeps (fun t => (t.lk.ports[p]).mode) ..).trans (congrArg Port.mode htrained)

theorem exec_linkTrainingResult_failed : ∃ t : State, exec (.linkTrainingResult p .failed) s = .next t ∧ (t.lk.ports[p]).mode = .down := by
  have hfailed := modPort_port s p fun x => { x with mode := .down, perst := false }
  exact ⟨_, if_neg (port_may_train hup hthere hdown), congrArg Port.mode hfailed⟩

end

/-! ### A core's commands end with it (R236) -/

section
variable (s : State)

@[simp] theorem State.bgEnd_linesAndUnits (i : Inst) (code : Nat) : (s.bgEnd i code).linesAndUnits = s.linesAndUnits := by
  unfold State.bgEnd
  split
  · split
    · rfl
    · exact State.mbxSignal_keeps State.linesAndUnits ..
  · rfl

theorem State.lateError_linesAndUnits (i : Inst) (op : Nat) : (s.lateError i op).linesAndUnits = s.linesAndUnits :=
  State.mbxSignal_keeps State.linesAndUnits ..

theorem State.bgLost_linesAndUnits (i : Inst) : (s.bgLost i).linesAndUnits = s.linesAndUnits := State.bgEnd_linesAndUnits ..

theorem State.scanStop_linesAndUnits (n : Fin 16) (flags code : Nat) : (s.scanStop n flags code).linesAndUnits = s.linesAndUnits :=
  (State.bgEnd_linesAndUnits ..).trans (s.scrubFinish_linesAndUnits n flags)

theorem State.mailboxLost_linesAndUnits (role : Nat) : (s.mailboxLost role).linesAndUnits = s.linesAndUnits := by
  unfold State.mailboxLost
  extract_lets mine late answered _ passed cut
  have hanswered : answered.linesAndUnits = s.linesAndUnits :=
    foldl_keeps State.linesAndUnits (fun u (x : Inst × Nat) => u.lateError_linesAndUnits x.1 x.2) _ s
  have hcut : cut.linesAndUnits = s.linesAndUnits := hanswered
  refine (foldl_keeps State.linesAndUnits (fun u i => ?_) _ cut).trans hcut
  split
  · split
    · rfl
    · split
      · split
        · exact State.scanStop_linesAndUnits ..
        · exact State.bgLost_linesAndUnits ..
      · exact State.bgLost_linesAndUnits ..
  · rfl

end

/-! ### The roles of the cores (R236, Table 01-6) -/

/-- The restarts of a core within the last hour. -/
def State.restartsOf (s : State) (c : Fin 12) : List Nat := (s.rd.cores[c]).restarts.filter fun t => decide (s.now - t < secTicks 3600)

theorem State.standby_ne {s : State} {c j : Fin 12} (h : s.standby c = some j) : j ≠ c := by
  have hj := List.find?_some h
  simp only [Bool.and_eq_true, decide_eq_true_eq] at hj
  exact hj.1.1

section
variable (s : State) (c : Fin 12) (out : Bool) (log : List Nat)

theorem State.moveRole_inService : ((s.moveRole c out log).rd.cores[c]).inService = !out := by
  unfold State.moveRole
  extract_lets x mine cores moved
  have hcores : (cores[c]).inService = !out := by simp [cores]
  show (moved[c]).inService = !out
  unfold moved
  split
  next j hj => rw [vmod_get, if_neg (State.standby_ne hj)]; exact hcores
  next => exact hcores

theorem State.moveRole_role {j : Fin 12} (h : s.standby c = some j) : ((s.moveRole c out log).rd.cores[j]).role = (s.rd.cores[c]).role ∧
    ((s.moveRole c out log).rd.cores[c]).role = none := by
  unfold State.moveRole
  rw [h]
  dsimp only
  rw [vmod_same, vmod_get, if_neg (State.standby_ne h)]
  simp

end

/-- A core's restart leaves the roles as they move after its events; its commands, sessions and the scrubs end without a change of the lines. -/
theorem State.coreRestart_moves {s : State} {c : Fin 12} (hfw : s.fwUp = true) (hservice : (s.rd.cores[c]).inService = true) :
    ∃ u : State, u.linesAndUnits = s.linesAndUnits ∧
      (s.coreRestart c).linesAndUnits = (u.moveRole c (decide (3 ≤ (s.now :: s.restartsOf c).length)) (s.now :: s.restartsOf c)).linesAndUnits := by
  unfold State.coreRestart
  extract_lets x role log out warned noted moved lost ended
  have hruns : ¬(s.fwUp = false ∨ x.inService = false) := by
    rw [hfw, show x.inService = true from hservice]
    simp
  have hwarned : warned.linesAndUnits = s.linesAndUnits := State.event_linesAndUnits ..
  have hnoted : noted.linesAndUnits = s.linesAndUnits := by
    unfold noted
    split
    · exact (State.event_linesAndUnits ..).trans hwarned
    · exact hwarned
  have hlost : lost.linesAndUnits = moved.linesAndUnits := by
    unfold lost
    split
    · exact moved.mailboxLost_linesAndUnits role
    · rfl
  have hended : ended.linesAndUnits = moved.linesAndUnits := by
    unfold ended
    split
    · exact hlost
    · exact hlost
  refine ⟨noted, hnoted, ?_⟩
  rw [if_neg hruns, State.scrubsSettle_linesAndUnits, State.scrubsStop_linesAndUnits, hended]
  rfl

theorem exec_watchdogExpiry {s : State} {c : Fin 12} (hfw : s.fwUp = true) (hservice : (s.rd.cores[c]).inService = true) :
    ∃ t : State, exec (.watchdogExpiry c) s = .next t ∧ t.wp.index = s.wp.index ∧ t.cr = s.cr ∧
      (∀ j, s.standby c = some j → (t.rd.cores[j]).role = (s.rd.cores[c]).role ∧ (t.rd.cores[c]).role = none) ∧
      (t.rd.cores[c]).inService = decide ((s.restartsOf c).length < 2) := by
  obtain ⟨u, hu, hmoved⟩ := State.coreRestart_moves hfw hservice
  have hindex : (s.coreRestart c).wp.index = u.wp.index := (State.index_of_linesAndUnits hmoved :)
  have hcr : (s.coreRestart c).cr = u.cr := (State.cr_of_linesAndUnits hmoved :)
  have hrd := State.rd_of_linesAndUnits hu
  refine ⟨s.coreRestart c, rfl, hindex.trans (State.index_of_linesAndUnits hu), hcr.trans (State.cr_of_linesAndUnits hu), fun j hj => ?_, ?_⟩
  · have hstandby : u.standby c = some j := by
      unfold State.standby
      rw [hrd]
      exact hj
    rw [State.rd_of_linesAndUnits hmoved, ← hrd]
    exact u.moveRole_role c _ _ hstandby
  · rw [State.rd_of_linesAndUnits hmoved, State.moveRole_inService, List.length_cons, ← decide_not]
    exact decide_eq_decide.2 (by omega)

/-! ### Parity errors (R332, Tables 13-8 and 13-9) -/

/-- The event of a parity error, before its memory's action. -/
def State.parityEvent (s : State) (m : Parity) (a : Nat) : State := s.event 0x2007 2 oDev (Parity.code m) (lo32 a) 0 0

theorem exec_sramParityError {s : State} {m : Parity} (hup : s.pw.dieUp = true) (hring : m ≠ .hwRing) (a : Nat) :
    exec (.sramParityError m a) s = s.done ((s.parityEvent m a).parityAct m a) := by
  have hdrop : s.ringDrop m a = s := if_neg fun h => hring h.1
  refine (if_pos hup).trans ?_
  rw [hdrop, State.parityEvent]

/-! #### Write data (R52, R332) -/

/-- A write whose data has bad parity goes on as poison of the device's own. -/
def Write.spoiled (q : Nat) (w : Write) : Write := if w.seq = q then { w with psn := true, data := 0, ct := 0, tag := 0, intern := true } else w

theorem Write.spoiled_psn {q : Nat} {w : Write} (h : w.seq = q) : (w.spoiled q).psn = true := by
  unfold Write.spoiled
  rw [if_pos h]

theorem Write.spoiled_poison {q : Nat} {w : Write} (h : (w.spoiled q).seq = q) : (w.spoiled q).psn = true ∧ (w.spoiled q).data = 0 := by
  unfold Write.spoiled at h ⊢
  split
  · exact ⟨rfl, rfl⟩
  next hother => exact absurd (by rwa [if_neg hother] at h) hother

/-- What a poisoned write leaves at stage 4: the index and the LDs. -/
def State.indexAndLds (s : State) : Tbl IndexRec × Vector LD 16 := (s.wp.index, s.lds)

section
variable (s : State)

theorem State.tetherSend_indexAndLds (t : Fin 8) (m : LodeMsg) : (s.tetherSend t m).indexAndLds = s.indexAndLds :=
  Prod.ext (congrArg Wp.index (s.tetherSend_wp t m)) (State.lds_of_hostSide (s.tetherSend_hostSide t m))

theorem State.alone_indexAndLds (t : Fin 8) (w : Write) : (s.alone t w).indexAndLds = s.indexAndLds := by
  unfold State.alone
  extract_lets x
  split
  · exact Prod.ext (State.setDirtyBit_index_entries ..).1 (State.lds_of_hostSide (s.setDirtyBit_hostSide t _))
  · rfl

/-- A poisoned write takes no counter of its line, so no page is encrypted again for it (R190). -/
theorem State.encryptPsn_indexAndLds (w : Write) : (s.encryptPsn w).indexAndLds = s.indexAndLds := by
  unfold State.encryptPsn
  extract_lets clear
  split
  · split
    · exact State.tetherSend_indexAndLds ..
    · exact State.alone_indexAndLds ..
  · rfl

theorem State.encrypt_indexAndLds (w : Write) : (s.encrypt w).indexAndLds = s.indexAndLds := by
  unfold State.encrypt
  extract_lets posB bumped
  have hissued : (if w.win.isSome = true then (s.seqNonce w.line w.seq posB, s) else (bumped.blockNonce w.line, bumped)).2.indexAndLds =
      s.indexAndLds := by
    split
    · rfl
    · rfl
  generalize (if w.win.isSome = true then (s.seqNonce w.line w.seq posB, s) else (bumped.blockNonce w.line, bumped)) = issued at hissued ⊢
  obtain ⟨n, u⟩ := issued
  dsimp only at hissued ⊢
  rw [← hissued]
  split
  · split
    · exact State.tetherSend_indexAndLds ..
    · exact State.alone_indexAndLds ..
  · rfl

theorem State.stage4_indexAndLds_of_psn {w : Write} (h : w.psn = true) : (s.stage4 w).indexAndLds = s.indexAndLds := by
  unfold State.stage4
  extract_lets stay page b
  rw [if_pos (Or.inr h)]
  unfold State.encryptAny
  split
  · exact State.encryptPsn_indexAndLds ..
  · exact State.encrypt_indexAndLds ..

theorem State.writeBad_indexAndLds (q : Nat) : (s.writeBad q).indexAndLds =
    (s.wp.index, (s.mapLds fun l => { l with adm := l.adm.map (Write.spoiled q) }).lds) := by
  unfold State.writeBad
  extract_lets bad marked merging _ queued
  rw [show merging = marked.wp.mergeQ.filter fun w => w.seq = q from rfl, List.foldl_filter]
  refine foldl_keeps State.indexAndLds (fun u w => ?_) _ queued
  split
  next hw => exact u.stage4_indexAndLds_of_psn (Write.spoiled_psn (of_decide_eq_true hw))
  next => rfl

theorem State.writeBad_adm (q : Nat) (n : Fin 16) : ((s.writeBad q).ld n).adm = (s.ld n).adm.map (Write.spoiled q) := by
  unfold State.ld
  rw [show (s.writeBad q).lds = _ from congrArg Prod.snd (s.writeBad_indexAndLds q)]
  exact congrArg LD.adm (mapLds_ld s n fun l => { l with adm := l.adm.map (Write.spoiled q) })

end

section
variable {s : State} (hup : s.pw.dieUp = true) (a : Nat)
include hup

theorem exec_sramParityError_writeData (q : Nat) : ∃ t : State, exec (.sramParityError (.writeData q) a) s = .next t ∧ t.wp.index = s.wp.index ∧
    ∀ (n : Fin 16) (w : Write), w ∈ (t.lds[n]).adm → w.seq = q → w.psn = true ∧ w.data = 0 := by
  obtain ⟨t, ht, hkept⟩ := s.done_answers State.indexAndLds ((s.parityEvent (.writeData q) a).writeBad q)
  have hindex : t.wp.index = (s.parityEvent (.writeData q) a).wp.index :=
    congrArg Prod.fst (hkept.trans (State.writeBad_indexAndLds ..))
  refine ⟨t, (exec_sramParityError hup (by simp) a).trans ht, hindex.trans (State.event_keeps (fun t => t.wp.index) ..), fun n w hw hseq => ?_⟩
  have hlds : t.lds = ((s.parityEvent (.writeData q) a).writeBad q).lds := congrArg Prod.snd hkept
  rw [hlds, show (((s.parityEvent (.writeData q) a).writeBad q).lds[n]).adm = _ from State.writeBad_adm ..] at hw
  obtain ⟨v, _, rfl⟩ := List.mem_map.1 hw
  exact Write.spoiled_poison hseq

theorem exec_sramParityError_readData (i : Nat) : ∃ t : State, exec (.sramParityError (.readData i) a) s = .next t ∧ t.wp.index = s.wp.index ∧
    ∀ r ∈ t.rp.tracker, r.id = i → r.poison = true ∧ r.fillOk = false := by
  obtain ⟨t, ht, hkept⟩ := s.done_answers (fun t => (t.wp, t.rp)) ((s.parityEvent (.readData i) a).readBad i)
  obtain ⟨hwp, hrp⟩ := Prod.ext_iff.1 hkept
  refine ⟨t, (exec_sramParityError hup (by simp) a).trans ht, ?_, fun r hr hid => ?_⟩
  · rw [show t.wp = _ from hwp]
    exact State.event_keeps (fun t => t.wp.index) ..
  · rw [show t.rp = _ from hrp] at hr
    obtain ⟨x, _, rfl⟩ := List.mem_map.1 hr
    dsimp only at hid ⊢
    by_cases hx : x.id = i
    · rw [if_pos hx]
      exact ⟨rfl, rfl⟩
    · rw [if_neg hx] at hid
      exact absurd hid hx

theorem exec_sramParityError_predictor : ∃ t : State, exec (.sramParityError .predictor a) s = .next t ∧
    t.rp.predictor = tdel a s.rp.predictor ∧ t.wp = s.wp := by
  obtain ⟨t, ht, hkept⟩ := s.done_answers (fun t => (t.wp, t.rp)) ((s.parityEvent .predictor a).parityAct .predictor a)
  obtain ⟨hwp, hrp⟩ := Prod.ext_iff.1 hkept
  refine ⟨t, (exec_sramParityError hup (by simp) a).trans ht, ?_, hwp.trans (State.event_keeps State.wp ..)⟩
  rw [show t.rp = _ from hrp]
  exact congrArg (tdel a) (State.event_keeps (fun t => t.rp.predictor) ..)

theorem exec_sramParityError_scratchpad (b : Fin 17) : ∃ t : State, exec (.sramParityError (.scratchpad b) a) s = .next t ∧
    (b.val, a) ∈ t.sp.bad ∧ t.sp.banks = s.sp.banks ∧ t.wp = s.wp := by
  obtain ⟨t, ht, hkept⟩ := s.done_answers (fun t => (t.wp, t.sp)) ((s.parityEvent (.scratchpad b) a).parityAct (.scratchpad b) a)
  obtain ⟨hwp, hsp⟩ := Prod.ext_iff.1 hkept
  refine ⟨t, (exec_sramParityError hup (by simp) a).trans ht, ?_, ?_, hwp.trans (State.event_keeps State.wp ..)⟩
  · rw [show t.sp = _ from hsp]
    unfold State.parityAct
    dsimp only
    split
    next hlisted => exact List.contains_iff_mem.1 hlisted
    next => exact List.mem_cons_self
  · rw [show t.sp = _ from hsp]
    exact State.event_keeps (fun t => t.sp.banks) ..

/-! #### PMON counters (R308) -/

end

/-- A counter's overflow bit, once set, stays while others count. -/
theorem State.pmAdd_ovf {s : State} {b : Nat} (h : s.pm.ovf.getLsbD b = true) (n : Fin 64) (d : Nat) : (s.pmAdd n d).pm.ovf.getLsbD b = true := by
  unfold State.pmAdd
  extract_lets v _ counted _ wrapped
  have hwrapped : wrapped.pm.ovf.getLsbD b = true := by
    refine (BitVec.getLsbD_or ..).trans ?_
    rw [show counted.pm.ovf = s.pm.ovf from rfl, h]
    rfl
  split
  · exact h
  · split
    · rw [State.raise_keeps (fun t => t.pm) wrapped]
      exact hwrapped
    · exact hwrapped

theorem State.pmEdges_ovf (s : State) {t : State} {b : Nat} (h : t.pm.ovf.getLsbD b = true) : (s.pmEdges t).pm.ovf.getLsbD b = true := by
  unfold State.pmEdges
  split
  · refine List.foldlRecOn (motive := fun u : State => u.pm.ovf.getLsbD b = true) _ _ h fun u hu n _ => ?_
    extract_lets c isF
    split
    · exact State.pmAdd_ovf hu n 1
    · exact hu
  · exact h

theorem State.pmEdges_of_off (s : State) {t : State} (h : t.pm.en = false) : s.pmEdges t = t := if_neg (Bool.eq_false_iff.1 h)

/-- A PMON counter whose parity is bad is zero, and says that it overflowed. -/
theorem State.parityAct_pmonCounter (s : State) (n : Fin 64) (a : Nat) : ∃ nt, s.parityAct (.pmonCounter n) a =
    { s with nt := nt, pm := { s.pm with cnt := s.pm.cnt.set n 0, ovf := s.pm.ovf ||| BitVec.ofNat 64 (2 ^ n.val) } } := by
  unfold State.parityAct
  dsimp -zeta only
  extract_lets _ zeroed
  split
  · obtain ⟨nt, h⟩ := zeroed.raise_touches 0x40 0 0
    exact ⟨nt, h⟩
  · exact ⟨s.nt, rfl⟩

section
variable {s : State} (hup : s.pw.dieUp = true) (a : Nat)
include hup

theorem exec_sramParityError_pmonCounter (n : Fin 64) : ∃ t : State, exec (.sramParityError (.pmonCounter n) a) s = .next t ∧ t.wp = s.wp ∧
    t.pm.ovf.getLsbD n.val = true ∧ (s.pm.en = false → t.pm.cnt[n] = 0) := by
  obtain ⟨nt, hzeroed⟩ := (s.parityEvent (.pmonCounter n) a).parityAct_pmonCounter n a
  have hexec := exec_sramParityError hup (m := .pmonCounter n) (by simp) a
  rw [hzeroed] at hexec
  refine ⟨_, hexec, ?_, s.pmEdges_ovf (getLsbD_or_twoPow _ n), fun hoff => ?_⟩
  · obtain ⟨_, _, h⟩ := s.pmEdges_touches { s.parityEvent (.pmonCounter n) a with nt := nt, pm := { (s.parityEvent (.pmonCounter n) a).pm with
        cnt := (s.parityEvent (.pmonCounter n) a).pm.cnt.set n 0,
        ovf := (s.parityEvent (.pmonCounter n) a).pm.ovf ||| BitVec.ofNat 64 (2 ^ n.val) } }
    rw [h]
    exact State.event_keeps State.wp ..
  · rw [State.pmEdges_of_off]
    · simp
    · exact (s.event_en ..).trans hoff

/-! #### Any other state of the data path (R332, Table 13-9) -/

theorem exec_sramParityError_other : ∃ t : State, exec (.sramParityError .other a) s = .next t ∧
    t.pw.FaultedOff s.FaultLocks (s.now + secTicks 1) := by
  obtain ⟨t, ht, hpw⟩ := s.done_answers (fun t => t.pw) (s.parityEvent .other a).pathFault
  have hoff := (s.parityEvent .other a).pathFault_faultedOff.1
  rw [← hpw, show (s.parityEvent .other a).FaultLocks = s.FaultLocks from State.event_keeps State.FaultLocks ..,
    show (s.parityEvent .other a).now = s.now from State.event_keeps State.now ..] at hoff
  exact ⟨t, (exec_sramParityError hup (by simp) a).trans ht, hoff⟩

end

/-! ### The obligation -/

/-- Settles O51: each failure has its effect on the port, the roles or the memory, and no lock, counter or index record is named by it; a poisoned write
reaches no page re-encryption (`encryptPsn_indexAndLds`), and any other bad state is a fault of the data path (`pathFault_faultedOff`). -/
theorem linksCoresAndSramFail : Obligations.LinksCoresAndSramFail := by
  unfold Obligations.LinksCoresAndSramFail
  intro s
  refine ⟨fun p l hup htrained hlane hlost => ?_, fun p l hup hlanes hlost => ?_, fun p l hup hlanes hlost => ?_,
    fun p hup hthere hdown => ⟨exec_linkTrainingResult_cxl hup hthere hdown, exec_linkTrainingResult_pcieOnly hup hthere hdown,
      exec_linkTrainingResult_failed hup hthere hdown⟩,
    fun c hfw hservice => exec_watchdogExpiry hfw hservice, fun hup a => ⟨exec_sramParityError_writeData hup a,
      exec_sramParityError_readData hup a, exec_sramParityError_predictor hup a, exec_sramParityError_pmonCounter hup a, ?_,
      exec_sramParityError_scratchpad hup a⟩⟩
  · obtain ⟨t, hexec, hport, haer, hwp, hrp⟩ := exec_cxlLaneFailure_narrows hup htrained hlane hlost
    refine ⟨t, hexec, ?_⟩
    rw [hport]
    exact ⟨rfl, getLsbD_or_twoPow _ l, rfl, haer, hwp, hrp⟩
  · obtain ⟨t, hexec, hport, hwp⟩ := exec_lodeLaneFailure_goes_on (l := l) hup hlanes hlost
    refine ⟨t, hexec, ?_⟩
    rw [hport]
    exact ⟨congrArg (· - 1) hlanes, rfl, getLsbD_or_twoPow _ l, hwp⟩
  · exact exec_lodeLaneFailure_downs hup hlanes hlost
  · obtain ⟨t, hexec, hoff⟩ := exec_sramParityError_other hup a
    exact ⟨t, hexec, hoff.dieUp, fun hfirst hretries => hoff.waits (State.not_faultLocks hfirst hretries), hoff.locked⟩

end Sys2Proof.Machine
end

section
/-! PROOFS. What the operations that follow a unit's loss leave of the channels, the sets and the fault windows (09_redundancy_and_degraded.md R220,
R221, R230): reads and writes withdrawn, lines and groups lost, bands abandoned and stand-ins assigned change none of them. -/

namespace Sys2Proof.Machine

open Sys2Proof.Laws

/-! ### Lines and groups that are lost (R35, R85, R168) -/

theorem State.Allocs.rd {s t : State} (h : s.Allocs t) : t.rd = s.rd := by
  obtain ⟨_, _, _, _, _, _, _, rfl⟩ := h
  rfl

theorem State.Spares.rd {s t : State} (h : s.Spares t) : t.rd = s.rd := by
  obtain ⟨_, _, _, _, _, _, _, _, _, _, _, _, _, rfl⟩ := h
  rfl

section
variable (s : State)

theorem State.event_rd (code sev org p0 p1 p2 p3 : Nat) : (s.event code sev org p0 p1 p2 p3).rd = s.rd := State.event_keeps State.rd ..

theorem State.modEntry_rd (p : Place) (f : Entry → Entry) : (s.modEntry p f).rd = s.rd := by
  unfold State.modEntry
  split
  · rfl
  · rfl

theorem State.kill_rd (p : Place) : (s.kill p).rd = s.rd := s.modEntry_rd p _

theorem State.indexLine_rd (line : Nat) (p : Place) (seq : Nat) (psn : Bool) : (s.indexLine line p seq psn).rd = s.rd := by
  unfold State.indexLine
  extract_lets r
  split
  · rfl
  · split
    · rfl
    · split
      · exact State.kill_rd ..
      · exact State.kill_rd ..

theorem State.landLine_rd (ld : Fin 16) (line : Nat) (psn : Bool) (ct : Line) (tag : Tag) : (s.landLine ld line psn ct tag).rd = s.rd := by
  have hplaced : s.Allocs (s.nextSeq.2.allocLine line s.nextSeq.1).2 := s.nextSeq_allocs.trans (State.allocLine_allocs ..)
  have hrd := hplaced.rd
  unfold State.landLine
  generalize s.nextSeq = numbered at hrd ⊢
  obtain ⟨n, u⟩ := numbered
  dsimp only at hrd ⊢
  generalize u.allocLine line n = placed at hrd ⊢
  obtain ⟨_ | p, v⟩ := placed
  · exact hrd
  · exact (State.indexLine_rd ..).trans hrd

theorem State.cacheEnter_rd (line : Nat) (data : Line) (dirty : Bool) : (s.cacheEnter line data dirty).rd = s.rd := by
  unfold State.cacheEnter
  split
  · rfl
  · simp only [State.dramPage, apply_ite State.rd, ite_self]

theorem State.cacheDrop_rd (line : Nat) : (s.cacheDrop line).rd = s.rd := by
  obtain ⟨_, h⟩ := s.cacheDrop_touches line
  rw [h]

theorem State.stage8_rd (line : Nat) (data : Line) (absent : Bool) : (s.stage8 line data absent).rd = s.rd := by
  unfold State.stage8
  extract_lets _ fenced
  split
  · rfl
  · split
    · exact fenced.cacheDrop_rd line
    · exact fenced.cacheEnter_rd line data true

theorem State.poisonAdd_rd (line lines : Nat) (src : PoisonSrc) : (s.poisonAdd line lines src).rd = s.rd := by
  unfold State.poisonAdd
  split
  · rfl
  · split
    · rfl
    · rfl

theorem State.dropPrefetch_rd (line : Nat) : (s.dropPrefetch line).rd = s.rd := rfl

theorem State.markPoison_rd (ld : Fin 16) (line : Nat) (src : PoisonSrc) : (s.markPoison ld line src).rd = s.rd := by
  unfold State.markPoison
  rw [State.poisonAdd_rd, State.stage8_rd, State.dropPrefetch_rd, State.landLine_rd]

theorem State.takeLock_rd_of_held {s : State} {w : Write} (h : (s.ilock w.line).isSome = true) : (s.takeLock w).rd = s.rd := by
  obtain ⟨l, hl⟩ := Option.isSome_iff_exists.1 h
  unfold State.takeLock
  rw [hl]

theorem State.markVersion_rd (ld : Fin 16) (line ver : Nat) : (s.markVersion ld line ver).rd = s.rd := by
  unfold State.markVersion
  split
  · rfl
  split
  · exact State.markPoison_rd ..
  next hheld =>
    have hwaits : (s.nextSeq.2.ilock line).isSome = true := by
      have hilocks := part_of_traffic Wp.ilocks s.nextSeq_allocs.traffic
      unfold State.ilock at hheld ⊢
      rw [hilocks]
      simpa using hheld
    exact (State.takeLock_rd_of_held hwaits).trans s.nextSeq_allocs.rd

theorem State.tetherSend_rd (t : Fin 8) (m : LodeMsg) : (s.tetherSend t m).rd = s.rd := by
  unfold State.tetherSend
  split
  · rfl
  · rfl

theorem State.closeGroup_rd (n : Fin 16) (w : Fin 64) (code : Nat) : (s.closeGroup n w code).rd = s.rd := by
  have hdropped : (s.dropTents n w).rd = s.rd := foldl_keeps State.rd (fun u (t : TentRec) => u.kill_rd t.place) _ s
  have hrd := ((s.dropTents n w).nextSeq_allocs.trans (State.allocMeta_allocs _ (s.dropTents n w).nextSeq.1 false)).rd.trans hdropped
  unfold State.closeGroup
  extract_lets dropped
  generalize dropped.nextSeq = numbered at hrd ⊢
  obtain ⟨q, t⟩ := numbered
  dsimp only at hrd ⊢
  generalize t.allocMeta q false = placed at hrd ⊢
  obtain ⟨p, u⟩ := placed
  rw [modWin_rd]
  split
  · exact (State.tetherSend_rd ..).trans hrd
  · exact hrd

theorem State.tentGone_rd (t : TentRec) : (s.tentGone t).rd = s.rd := by
  unfold State.tentGone
  split
  · split
    · exact State.closeGroup_rd ..
    · rfl
  · rfl

theorem State.entryLost_rd (p : Place) (e : Entry) : (s.entryLost p e).rd = s.rd := by
  unfold State.entryLost State.entryGone
  extract_lets named due told
  have htold : told.rd = s.rd := by
    unfold told
    split
    · exact State.event_rd ..
    · rfl
  split
  · exact (State.tentGone_rd ..).trans htold
  · exact (State.markVersion_rd ..).trans htold

theorem State.entriesLost_rd (k : Fin 4) : (s.entriesLost k).rd = s.rd :=
  foldl_keeps State.rd (fun u (e : Nat × Entry) => u.entryLost_rd (placeOf e.1) e.2) _ s

/-! ### Reads and writes withdrawn from a unit (R220 step 7, R221) -/

theorem State.wantPilot_rd (b : BlockKey) : (s.wantPilot b).rd = s.rd := by
  unfold State.wantPilot
  extract_lets x
  split
  · rfl
  · obtain ⟨_, _, h⟩ := (s.modDrBlk b fun x => { x with pend := true }).pmCount_touches 0x00A
      ⟨none, some (chanOf b.seg.set b.pos).val, some b.seg.set.val⟩
    rw [h]
    rfl

theorem State.wantPilots_rd (bs : List BlockKey) : (s.wantPilots bs).rd = s.rd := by
  refine foldl_keeps State.rd (fun u b => ?_) bs s
  split
  · rfl
  · exact u.wantPilot_rd b

theorem State.startRebuild_rd (r : Read) : (s.startRebuild r).rd = s.rd := by
  unfold State.startRebuild
  split
  · rfl
  · extract_lets wanted marked
    show wanted.rd = s.rd
    unfold wanted
    split
    · exact s.wantPilots_rd _
    · rfl

theorem State.suspend_rd (t : Tile) (a : VyBlock) : (s.suspend t a).rd = s.rd := by
  unfold State.suspend
  split
  · rfl
  · rfl

theorem State.enqueue_rd (r : Read) (c : Fin 64) : (s.enqueue r c).rd = s.rd := by
  unfold State.enqueue State.sense
  split
  · rfl
  · split
    · rfl
    · rfl

theorem State.reachTile_rd (r : Read) (c : Fin 64) : (s.reachTile r c).rd = s.rd := by
  unfold State.reachTile
  split
  · exact s.enqueue_rd r c
  · split
    · split
      · extract_lets d u
        split
        · exact s.enqueue_rd r c
        · exact (State.enqueue_rd ..).trans (s.suspend_rd _ _)
      · split
        · exact s.enqueue_rd r c
        · exact (State.startRebuild_rd ..).trans (s.enqueue_rd r c)
    · exact (State.enqueue_rd ..).trans (s.suspend_rd _ _)

theorem State.leaveQueue_rd (r : Read) : (s.leaveQueue r).rd = s.rd := by
  unfold State.leaveQueue
  extract_lets left _ freed
  have hleft : left.rd = s.rd := by
    unfold left
    split
    · rfl
    · rfl
  show freed.rd = s.rd
  unfold freed
  split
  · exact hleft
  · exact hleft

theorem State.fillQueues_rd : s.fillQueues.rd = s.rd := by
  refine foldl_keeps State.rd (fun u r => ?_) _ s
  unfold State.tryQueue
  split
  · exact u.reachTile_rd r _
  · rfl

theorem State.withdrawReads_rd (u : FUnit) : (s.withdrawReads u).rd = s.rd := by
  refine (State.fillQueues_rd _).trans (foldl_keeps State.rd (fun v r => ?_) _ s)
  split
  · split
    · exact v.startRebuild_rd r
    · rfl
  · split
    · split
      · split
        · exact v.leaveQueue_rd r
        · rfl
      · rfl
    · rfl

theorem State.progAdd_rd (p : Place) (up : Bool) : (s.progAdd p up).rd = s.rd := by
  unfold State.progAdd
  split
  · rfl
  · rfl

theorem State.withdrawWrites_rd (u : FUnit) : (s.withdrawWrites u).rd = s.rd := by
  unfold State.withdrawWrites
  extract_lets hit back killed
  exact foldl_keeps State.rd (fun v (w : Write) => (State.kill_rd ..).trans (v.progAdd_rd w.place false)) back s

/-! ### Commit records issued (R161) -/

theorem State.issueCommit_rd (n : Fin 16) (w : Fin 64) : (s.issueCommit n w).rd = s.rd := by
  unfold State.issueCommit
  extract_lets v
  split
  · have hrd := (s.nextSeq_allocs.trans (State.allocMeta_allocs _ s.nextSeq.1 false)).rd
    generalize s.nextSeq = numbered at hrd ⊢
    obtain ⟨q, t⟩ := numbered
    dsimp only at hrd ⊢
    generalize t.allocMeta q false = placed at hrd ⊢
    obtain ⟨p, u⟩ := placed
    dsimp only at hrd ⊢
    split
    · exact (State.tetherSend_rd ..).trans hrd
    · exact hrd
  · rfl

theorem State.issueAll_rd : s.issueAll.rd = s.rd := by
  refine foldl_keeps State.rd (fun u n => foldl_keeps State.rd (fun v w => ?_) _ u) _ s
  split
  · exact v.issueCommit_rd n w
  · rfl

end

/-! ### Stand-ins and the copy engine (R117, R225, R226) -/

/-- The states of the channels and of the sets, and the open windows: the units without their stand-ins. -/
def State.duty (s : State) : Vector ChanState 64 × Vector StripeSet 4 × Vector (Option FaultWin) 5 := (s.rd.chans, s.rd.sets, s.rd.windows)

theorem State.duty_of_rd {s t : State} (h : t.rd = s.rd) : t.duty = s.duty := by
  unfold State.duty
  rw [h]

section
variable (s : State)

theorem State.queueMove_rd (k : Fin 4) (l : Fin 16) (n : Nat) : (s.queueMove k l n).rd = s.rd := by
  unfold State.queueMove
  extract_lets i old _ moved
  split
  · exact moved.event_rd ..
  · rfl

theorem State.journal_rd (r : MetaRec) : (s.journal r).rd = s.rd := (s.newMeta_allocs r false).rd

theorem State.dissolve_duty {t : State} {seg : SegKey} (h : s.dissolve seg = some t) : t.duty = s.duty := by
  unfold State.dissolve at h
  split at h
  · cases h
  · extract_lets key _ moved up at h
    have hmoved : moved.duty = s.duty := State.duty_of_rd (State.queueMove_rd ..)
    cases h
    exact hmoved

theorem State.takeBlock_duty {t : State} {seg : SegKey} {p : Fin 16} (h : s.takeBlock seg p = some t) : t.duty = s.duty := by
  unfold State.takeBlock at h
  extract_lets use i at h
  split at h
  · cases h
    rfl
  · split at h
    next u hu =>
      cases h
      show u.duty = s.duty
      split at hu
      · exact s.dissolve_duty hu
      · cases hu
    next =>
      split at h
      · cases h
        exact State.duty_of_rd (s.useSpare_spares _).rd
      · cases h

theorem State.standIn_duty {t : State} {seg : SegKey} {pos : Fin 16} (h : s.standIn seg pos = some t) : t.duty = s.duty := by
  unfold State.standIn at h
  split at h
  · cases h
  · split at h
    · cases h
    next u hu =>
      cases h
      have htaken : u.duty = s.duty := s.takeBlock_duty hu
      exact (State.duty_of_rd (State.journal_rd ..)).trans htaken

theorem State.standInsFor_duty (seg : SegKey) : (s.standInsFor seg).duty = s.duty := by
  refine foldl_keeps State.duty (fun u p => ?_) _ s
  split
  · split
    next t ht => exact u.standIn_duty ht
    next => rfl
  · rfl

theorem State.openSeg_duty (k : Fin 4) (l : Fin 16) (hot : Bool) : (s.openSeg k l hot).2.duty = s.duty := by
  unfold State.openSeg
  split
  · rfl
  · extract_lets key _ opened moved
    have hmoved : moved.rd = s.rd := by
      unfold moved
      rw [State.queueMove_rd, State.journal_rd]
      rfl
    dsimp only
    rw [State.standInsFor_duty]
    exact State.duty_of_rd hmoved

theorem State.bandFor_duty (k : Fin 4) (l : Fin 16) (copy hot : Bool) (want : Option SegKey) : (s.bandFor k l copy hot want).2.duty = s.duty := by
  unfold State.bandFor
  split
  · rfl
  · split
    · rfl
    · split
      next seg u hu =>
        have hfound : u.duty = s.duty := by
          split at hu
          · cases hu
            rfl
          · rw [show u = (s.openSeg k l hot).2 from (congrArg Prod.snd hu).symm]
            exact s.openSeg_duty k l hot
        split
        · exact hfound
        · exact hfound

theorem State.issueWaiting_rd (k : Fin 4) (l : Fin 16) : (s.issueWaiting k l).rd = s.rd := by
  obtain ⟨_, _, h⟩ := s.issueWaiting_touches k l
  rw [h]

theorem State.pmCount_rd (ev : Nat) (g : PmTag) : (s.pmCount ev g).rd = s.rd := by
  obtain ⟨_, _, h⟩ := s.pmCount_touches ev g
  rw [h]

theorem State.placeFrame_rd (key : BandKey) (p : Placed) : (s.placeFrame key p).rd = s.rd := State.issueWaiting_rd ..

theorem State.copyFrame_duty (seg : SegKey) (frame : Nat) (f : Frame) : (s.copyFrame seg frame f).duty = s.duty := by
  unfold State.copyFrame
  split
  · rfl
  · have hband := s.bandFor_duty seg.set seg.lane true false (s.wearDest seg)
    generalize s.bandFor seg.set seg.lane true false (s.wearDest seg) = found at hband ⊢
    obtain ⟨_ | key, u⟩ := found
    · exact hband
    · exact (State.duty_of_rd ((State.pmCount_rd ..).trans (State.placeFrame_rd ..))).trans hband

theorem State.feedVictim_duty (k : Fin 4) (seg : SegKey) : (s.feedVictim k seg).duty = s.duty := by
  unfold State.feedVictim
  split
  · rfl
  · extract_lets wanted
    have hwanted : wanted.duty = s.duty := State.duty_of_rd (s.wantPilots_rd _)
    split
    · exact hwanted
    · refine (foldl_keeps State.duty (fun u p => ?_) _ wanted).trans hwanted
      split
      · rfl
      · exact u.copyFrame_duty ..

theorem State.feedCopies_duty (k : Fin 4) : (s.feedCopies k).duty = s.duty := by
  unfold State.feedCopies
  split
  · rfl
  · exact foldl_keeps State.duty (fun u seg => u.feedVictim_duty k seg) s.fo.copyQ[k] s

/-! ### Blocks of a unit are lost (R220, R221) -/

theorem State.abandonBand_duty (b : Band) : (s.abandonBand b).duty = s.duty := by
  unfold State.abandonBand
  extract_lets _ dropped redone x counted closed back queued
  have hredone : redone.rd = s.rd := by
    refine foldl_keeps State.rd (fun u p => ?_) b.frames dropped
    split
    · split
      · rfl
      · rfl
    · split
      · rfl
      · rfl
  have hclosed : closed.rd = redone.rd := by
    unfold closed
    split
    · rfl
    · rfl
  have hqueued : queued.rd = closed.rd := by
    refine foldl_keeps State.rd (fun u k => ?_) back closed
    split
    · rfl
    · rfl
  rw [State.feedCopies_duty]
  exact State.duty_of_rd ((State.issueWaiting_rd ..).trans (hqueued.trans (hclosed.trans hredone)))

theorem State.loseBlocks_duty (u : FUnit) : (s.loseBlocks u).duty = s.duty := by
  unfold State.loseBlocks
  extract_lets bands hit lost kept
  have hlost : lost.duty = s.duty := by
    refine foldl_keeps State.duty (fun v e => ?_) _ s
    extract_lets k gone
    split
    · rfl
    · split
      · rfl
      · rfl
  exact (foldl_keeps State.duty (fun v b => v.abandonBand_duty b) bands _).trans hlost

end

end Sys2Proof.Machine
end

section
/-! PROOFS. What the close of a fault window leaves of the line cache and of the stacks the keeper holds lost (09_redundancy_and_degraded.md R220, R234):
sequence numbers, slots allocated, records issued and fill marks change neither. -/

namespace Sys2Proof.Machine

open Sys2Proof.Laws

/-! ### Views that the allocation of a slot does not reach (R54, R56) -/

/-- A view of the state that neither a draw, a sequence number, a pair nor a mark reaches. -/
structure AllocBlind {α : Type} (view : State → α) : Prop where
  draw : ∀ s : State, view s.draw.2 = view s
  nextSeq : ∀ s : State, view s.nextSeq.2 = view s
  filled : ∀ (s : State) dr pairs marksAt, view { s with dr := dr, wp := { s.wp with pairs := pairs, marksAt := marksAt } } = view s

section
variable {α : Type} {view : State → α} (h : AllocBlind view) (s : State)
include h

theorem AllocBlind.pick {β : Type} (l : List β) : view (s.pick l).2 = view s := by
  unfold State.pick
  split
  · rfl
  · rfl
  · exact h.draw s

theorem AllocBlind.putMark (p : Place) (base : Nat) : view (s.putMark p base) = view s :=
  (h.filled s.nextSeq.2 _ _ _).trans (h.nextSeq s)

theorem AllocBlind.openPair (k : Fin 4) (running : Bool) (seq : Nat) : view (s.openPair k running seq) = view s := by
  unfold State.openPair
  extract_lets room bare
  have hfirst := h.pick s (if bare.isEmpty then room else bare)
  generalize s.pick (if bare.isEmpty then room else bare) = picked at hfirst ⊢
  obtain ⟨_ | a, u⟩ := picked
  · exact hfirst
  · dsimp only at hfirst ⊢
    split
    · exact (h.putMark _ _ _).trans ((h.filled _ _ _ _).trans ((h.pick u _).trans hfirst))
    · exact (h.pick u _).trans hfirst

theorem AllocBlind.openPairsUpTo (k : Fin 4) (seq n : Nat) : view (s.openPairsUpTo k seq n) = view s := by
  induction n generalizing s with
  | zero => rfl
  | succ n ih =>
    unfold State.openPairsUpTo
    split
    · exact (ih _).trans (h.openPair s k false seq)
    · rfl

theorem AllocBlind.closeShort (k : Fin 4) (seq : Nat) : view (s.closeShort k seq) = view s := h.filled s _ _ _

theorem AllocBlind.takeSlot (p : Pair) (seq : Nat) : view (s.takeSlot p seq).2 = view s := by
  unfold State.takeSlot
  extract_lets slot base p' _ filled
  have hfilled : view filled = view s := h.filled s _ _ _
  dsimp only
  split
  · exact (h.putMark filled _ _).trans hfilled
  · exact hfilled

theorem AllocBlind.slotOf (k : Fin 4) (running : Bool) (seq : Nat) (ok : Pair → Bool) : view (s.slotOf k running seq ok).2 = view s := by
  unfold State.slotOf
  extract_lets can least
  have hpick := h.pick s (can.filter fun p => s.pairBusy p = least)
  generalize s.pick (can.filter fun p => s.pairBusy p = least) = found at hpick ⊢
  obtain ⟨_ | p, u⟩ := found
  · exact hpick
  · exact (h.takeSlot u p seq).trans hpick

theorem AllocBlind.allocSlot (k : Fin 4) (seq : Nat) (ok : Pair → Bool) : view (s.allocSlot k seq ok).2 = view s :=
  (h.slotOf _ _ _ _ _).trans ((h.openPairsUpTo _ _ _ _).trans (h.closeShort s k seq))

theorem AllocBlind.allocRun (k : Fin 4) (seq : Nat) : view (s.allocRun k seq).2 = view s := by
  unfold State.allocRun
  extract_lets closed
  have hclosed : view closed = view s := h.closeShort s k seq
  split
  · exact (h.slotOf _ _ _ _ _).trans ((h.openPair closed k true seq).trans hclosed)
  · exact (h.slotOf _ _ _ _ _).trans hclosed

theorem AllocBlind.allocFirst (run : Bool) (seq : Nat) (ks : List (Fin 4)) : view (s.allocFirst run seq ks).2 = view s := by
  induction ks generalizing s with
  | nil => rfl
  | cons k ks ih =>
    have htry : view (if run then s.allocRun k seq else s.allocSlot k seq fun _ => true).2 = view s := by
      split
      · exact h.allocRun s k seq
      · exact h.allocSlot s k seq _
    unfold State.allocFirst
    generalize (if run then s.allocRun k seq else s.allocSlot k seq fun _ => true) = found at htry ⊢
    obtain ⟨_ | p, u⟩ := found
    · exact (ih u).trans htry
    · exact htry

theorem AllocBlind.allocMeta (seq : Nat) (runOnly : Bool) : view (s.allocMeta seq runOnly).2 = view s := by
  unfold State.allocMeta
  split
  · exact h.allocFirst s _ _ _
  · have hhost := h.allocFirst s false seq s.setList
    generalize s.allocFirst false seq s.setList = found at hhost ⊢
    obtain ⟨_ | p, u⟩ := found
    · exact (h.allocFirst u _ _ _).trans hhost
    · exact hhost

end

/-! ### The line cache and the lost stacks (R234) -/

/-- What the loss of a stack writes: the line cache and the keeper's list of lost stacks. -/
def State.cacheAndStacks (s : State) : Ca × List (Fin 5) := (s.ca, s.kp.lostStacks)

theorem allocBlind_cacheAndStacks : AllocBlind State.cacheAndStacks where
  draw _ := rfl
  nextSeq s := by
    unfold State.nextSeq
    dsimp only
    split
    · rfl
    · rfl
  filled _ _ _ _ := rfl

section
variable (s : State)

theorem State.event_cacheAndStacks (code sev org p0 p1 p2 p3 : Nat) : (s.event code sev org p0 p1 p2 p3).cacheAndStacks = s.cacheAndStacks :=
  Prod.ext (State.event_keeps State.ca ..) (s.event_lostStacks ..)

theorem State.raise_cacheAndStacks (n : Fin 256) (e d : Nat) : (s.raise n e d).cacheAndStacks = s.cacheAndStacks :=
  State.raise_keeps State.cacheAndStacks ..

theorem State.judgeMarks_cacheAndStacks : s.judgeMarks.cacheAndStacks = s.cacheAndStacks := by
  unfold State.judgeMarks
  extract_lets m old pct _ marked warned held
  have hwarned : warned.cacheAndStacks = s.cacheAndStacks := by
    unfold warned
    split
    · exact marked.event_cacheAndStacks ..
    · rfl
  have hheld : held.cacheAndStacks = s.cacheAndStacks := by
    unfold held
    split
    · exact (warned.event_cacheAndStacks ..).trans hwarned
    · exact hwarned
  split
  · rfl
  · split
    · exact hheld
    · exact (held.raise_cacheAndStacks ..).trans hheld

theorem State.tetherSend_cacheAndStacks (t : Fin 8) (m : LodeMsg) : (s.tetherSend t m).cacheAndStacks = s.cacheAndStacks := by
  unfold State.tetherSend
  split
  · rfl
  · rfl

theorem State.issueCommit_cacheAndStacks (n : Fin 16) (w : Fin 64) : (s.issueCommit n w).cacheAndStacks = s.cacheAndStacks := by
  unfold State.issueCommit
  extract_lets v
  split
  · have hplaced := (allocBlind_cacheAndStacks.allocMeta s.nextSeq.2 s.nextSeq.1 false).trans (allocBlind_cacheAndStacks.nextSeq s)
    generalize s.nextSeq = numbered at hplaced ⊢
    obtain ⟨q, t⟩ := numbered
    dsimp only at hplaced ⊢
    generalize t.allocMeta q false = placed at hplaced ⊢
    obtain ⟨p, u⟩ := placed
    dsimp only at hplaced ⊢
    split
    · exact (State.tetherSend_cacheAndStacks ..).trans hplaced
    · exact hplaced
  · rfl

theorem State.issueAll_cacheAndStacks : s.issueAll.cacheAndStacks = s.cacheAndStacks := by
  refine foldl_keeps State.cacheAndStacks (fun u n => foldl_keeps State.cacheAndStacks (fun v w => ?_) _ u) _ s
  split
  · exact v.issueCommit_cacheAndStacks n w
  · rfl

theorem State.scrubsSettle_cacheAndStacks : s.scrubsSettle.cacheAndStacks = s.cacheAndStacks := by
  refine foldl_keeps State.cacheAndStacks (fun u n => ?_) _ s
  split
  · unfold State.scrubFinish
    extract_lets ended
    split
    · exact ended.raise_cacheAndStacks ..
    · rfl
  · rfl

theorem State.windowGone_cacheAndStacks (k : Fin 5) : (s.windowGone k).cacheAndStacks = s.cacheAndStacks := by
  unfold State.windowGone
  extract_lets _ gone
  split
  · rfl
  · exact gone.scrubsSettle_cacheAndStacks

end

end Sys2Proof.Machine
end

section
/-! PROOFS. Statements about units that fail (09_redundancy_and_degraded.md): a fault opens a window, its close takes the unit out, and the set is restored,
rebuilt or exposed (R219 to R235). -/

namespace Sys2Proof.Machine

open Sys2Proof.Laws

/-! ### Fault windows open and close (R219, R220, R222) -/

theorem State.judgeMarks_rd (s : State) : s.judgeMarks.rd = s.rd := State.rd_of_linesAndUnits s.judgeMarks_linesAndUnits

theorem State.rangeStop_linesAndUnits (s : State) : s.rangeStop.linesAndUnits = s.linesAndUnits := by
  unfold State.rangeStop
  split
  · rfl
  · rfl

/-- What a fault changes of a unit itself: a channel is failing (Table 09-5). -/
def State.failing (s : State) (u : FUnit) : State := match u with
  | .channel c => if s.rd.chans[c] = ChanState.failing then s else s.setChan c ChanState.failing
  | _ => s

theorem State.failing_keeps (s : State) (u : FUnit) : (s.failing u).rd.windows = s.rd.windows ∧ (s.failing u).now = s.now ∧
    (s.failing u).wp = s.wp ∧ (s.failing u).cr = s.cr ∧ (s.failing u).fo = s.fo := by
  unfold State.failing
  split
  · split
    · exact ⟨rfl, rfl, rfl, rfl, rfl⟩
    · exact ⟨rfl, rfl, rfl, rfl, rfl⟩
  · exact ⟨rfl, rfl, rfl, rfl, rfl⟩

/-- A fault where no window is open opens one with its unit alone; no line, counter or fold changes. -/
theorem State.faultJoin_opens {s : State} {u : FUnit} (hnone : s.rd.windows[winOf u] = none) (hard : Bool) : ∃ p : ChanState,
    (s.faultJoin u hard).rd.windows[winOf u] = some ⟨[⟨u, hard, false, p⟩], s.now⟩ ∧ (∀ k, u = .stack k → p = .inService) ∧
    (s.faultJoin u hard).wp.index = s.wp.index ∧ (s.faultJoin u hard).cr = s.cr ∧ (s.faultJoin u hard).fo = s.fo := by
  obtain ⟨hwindows, hnow, hwp, hcr, hfo⟩ := s.failing_keeps u
  unfold State.faultJoin
  extract_lets k prior failed
  have hopens : failed.rd.windows[k] = none := (congrArg (·[k]) hwindows).trans hnone
  rw [hopens]
  dsimp only
  generalize hopened : ({ failed with rd := { failed.rd with windows := failed.rd.windows.set k (some ⟨[⟨u, hard, false, prior⟩], failed.now⟩) } } : State) =
    opened
  have hkept : opened.scrubsStop.rangeStop.judgeMarks.linesAndUnits = opened.linesAndUnits := by
    rw [State.judgeMarks_linesAndUnits, State.rangeStop_linesAndUnits, State.scrubsStop_linesAndUnits]
  rw [State.rd_of_linesAndUnits hkept, State.index_of_linesAndUnits hkept, State.cr_of_linesAndUnits hkept, State.fo_of_linesAndUnits hkept, ← hopened]
  refine ⟨prior, ?_, fun j hj => ?_, congrArg Wp.index hwp, hcr, hfo⟩
  · dsimp only
    rw [show failed.now = s.now from hnow]
    exact Vector.getElem_set_self ..
  · unfold prior
    rw [hj]

theorem exec_faultIndication_opens {s : State} {row : FaultRow} {u : FUnit} (hup : s.pw.dieUp = true) (hfits : rowFits row u = true)
    (hin : s.unitOut u = false) (hmedia : ∀ k, u ≠ .stack k) : exec (.faultIndication row u) s = .next (s.faultJoin u (row ≠ .timeout)) := by
  have htaken : ¬(s.pw.dieUp = false ∨ rowFits row u = false ∨ s.unitOut u = true) := by
    rw [hup, hfits, hin]
    simp
  refine (if_neg htaken).trans ?_
  cases u with
  | stack k => exact absurd rfl (hmedia k)
  | channel c => rfl
  | die d => rfl
  | tile d t => rfl

/-- The first stack of the package DRAM to fail is located, and its window opens. -/
theorem exec_faultIndication_stack {s : State} {k : Fin 5} (hup : s.pw.dieUp = true) (hfirst : s.kp.lostStacks = []) (hnone : s.rd.windows[4] = none) :
    exec (.faultIndication .dram (.stack k)) s =
      .next (State.faultJoin { s with rd := { s.rd with located := s.rd.located.set k 0 } } (.stack k) true) := by
  have hin : s.unitOut (.stack k) = false := by
    unfold State.unitOut
    dsimp only [chanOfUnit]
    rw [hfirst]
    rfl
  have hother : s.otherStack k = false := by
    unfold State.otherStack
    rw [hnone]
  refine (if_neg ?_).trans (if_neg ?_)
  · rw [hup, hin]
    simp [rowFits]
  · rw [hfirst, hother]
    simp

/-- The state of a unit that answered its probe: a channel is again what it was before the fault. -/
def State.answered (s : State) (u : FUnit) (p : ChanState) : State := match u with
  | .channel c => s.setChan c p
  | _ => s

theorem State.answered_keeps (s : State) (u : FUnit) (p : ChanState) : (s.answered u p).wp = s.wp ∧ (s.answered u p).cr = s.cr ∧
    ∀ c, u = .channel c → (s.answered u p).rd.chans[c] = p := by
  unfold State.answered
  split
  · refine ⟨rfl, rfl, fun c hc => ?_⟩
    cases hc
    exact Vector.getElem_set_self ..
  next hother => exact ⟨rfl, rfl, fun c hc => absurd hc (hother c)⟩

theorem State.windowGone_linesAndUnits (s : State) (k : Fin 5) :
    (s.windowGone k).linesAndUnits = (s.wp.index, s.cr, s.fo, { s.rd with windows := s.rd.windows.set k none }) := by
  unfold State.windowGone
  extract_lets _ gone
  split
  · rfl
  · exact gone.scrubsSettle_linesAndUnits

theorem exec_statusProbeAnswer_closes {s : State} {u : FUnit} {p : ChanState} {n0 : Nat} (ticks : Nat)
    (hwin : s.rd.windows[winOf u] = some ⟨[⟨u, false, false, p⟩], n0⟩) : exec (.statusProbeAnswer u ticks) s =
      .next (((s.answered u p).event 0x1004 2 (oOf u) ticks 0 0 0).windowGone (winOf u)).judgeMarks := by
  show execStatusProbeAnswer u ticks s = _
  have hfound : [(⟨u, false, false, p⟩ : FaultItem)].find? (fun x => x.unit == u && !x.hard && !x.confirmed) = some ⟨u, false, false, p⟩ := by
    simp
  have hrest : [(⟨u, false, false, p⟩ : FaultItem)].filter (fun y => y.unit ≠ u) = [] := by simp
  unfold execStatusProbeAnswer
  extract_lets k
  rw [show s.rd.windows[k] = _ from hwin]
  dsimp only
  rw [hfound]
  dsimp only
  rw [hrest]
  rfl

theorem exec_probeSilenceConfirmed_confirms {s : State} {u : FUnit} {p : ChanState} {n0 : Nat}
    (hwin : s.rd.windows[winOf u] = some ⟨[⟨u, false, false, p⟩], n0⟩) : exec (.probeSilenceConfirmed u) s =
      .next { s with rd := { s.rd with windows := s.rd.windows.set (winOf u) (some ⟨[⟨u, false, true, p⟩], n0⟩) } } := by
  show execProbeSilenceConfirmed u s = _
  unfold execProbeSilenceConfirmed
  extract_lets k
  rw [show s.rd.windows[k] = _ from hwin]
  dsimp only
  rw [List.map_singleton, if_pos rfl]

theorem State.windowGone_rd (s : State) (k : Fin 5) : (s.windowGone k).rd = { s.rd with windows := s.rd.windows.set k none } :=
  congrArg (fun v => v.2.2.2) (s.windowGone_linesAndUnits k)

/-- What the close of a window does once its units are out: the window is gone, the fill level is judged, and commit records that waited are issued. -/
def State.windowClosed (s : State) (k : Fin 5) : State := (s.windowGone k).judgeMarks.issueAll

theorem State.windowClosed_rd (s : State) (k : Fin 5) : (s.windowClosed k).rd = { s.rd with windows := s.rd.windows.set k none } := by
  unfold State.windowClosed
  rw [State.issueAll_rd, State.judgeMarks_rd, State.windowGone_rd]

theorem State.windowClosed_cacheAndStacks (s : State) (k : Fin 5) : (s.windowClosed k).cacheAndStacks = s.cacheAndStacks := by
  unfold State.windowClosed
  rw [State.issueAll_cacheAndStacks, State.judgeMarks_cacheAndStacks, State.windowGone_cacheAndStacks]

theorem State.lifeEdge_keeps {α : Type} (view : State → α) (s t : State)
    (hview : ∀ (u : State) nt, view { u with nt := nt } = view u := by intros; rfl) : view (s.lifeEdge t) = view t := by
  obtain ⟨_, h⟩ := s.lifeEdge_touches t
  rw [h]
  exact hview ..

theorem State.done_lifeEdge (s t : State) : ∃ u, s.done (s.lifeEdge t) = .next u ∧ u.rd = t.rd ∧ u.cacheAndStacks = t.cacheAndStacks := by
  obtain ⟨u, hu, hkept⟩ := s.done_answers (fun t => (t.rd, t.cacheAndStacks)) (s.lifeEdge t)
  exact ⟨u, hu, Prod.ext_iff.1 (hkept.trans (State.lifeEdge_keeps (fun t => (t.rd, t.cacheAndStacks)) s t))⟩

theorem exec_faultWindowClose_eq {s : State} {k : Fin 5} {x : FaultItem} {n0 : Nat} (hwin : s.rd.windows[k] = some ⟨[x], n0⟩)
    (hsure : (x.hard || x.confirmed) = true) : exec (.faultWindowClose k) s = s.done (s.lifeEdge ((s.takeOut x).windowClosed k)) := by
  show execFaultWindowClose k s = _
  unfold execFaultWindowClose
  rw [hwin]
  exact if_pos (by rw [List.all_cons, hsure]; rfl)

/-- A window of one unit that is hard or confirmed takes it out; afterwards its window is gone, and the unit, the cache and the lost stacks are as it
was taken out. -/
theorem exec_faultWindowClose_one {s : State} {k : Fin 5} {x : FaultItem} {n0 : Nat} (hwin : s.rd.windows[k] = some ⟨[x], n0⟩)
    (hsure : (x.hard || x.confirmed) = true) : ∃ t : State, exec (.faultWindowClose k) s = .next t ∧
      t.rd = { (s.takeOut x).rd with windows := (s.takeOut x).rd.windows.set k none } ∧ t.cacheAndStacks = (s.takeOut x).cacheAndStacks := by
  obtain ⟨t, ht, hrd, hstacks⟩ := s.done_lifeEdge ((s.takeOut x).windowClosed k)
  exact ⟨t, (exec_faultWindowClose_eq hwin hsure).trans ht, hrd.trans (State.windowClosed_rd ..), hstacks.trans (State.windowClosed_cacheAndStacks ..)⟩

theorem exec_faultWindowClose_waits {s : State} {k : Fin 5} {w : FaultWin} (hwin : s.rd.windows[k] = some w)
    (hopen : w.items.all (fun x => x.hard || x.confirmed) = false) : exec (.faultWindowClose k) s = .next s := by
  show execFaultWindowClose k s = _
  unfold execFaultWindowClose
  rw [hwin]
  exact if_neg (Bool.eq_false_iff.1 hopen)

end Sys2Proof.Machine
end

section
/-! PROOFS. Statements about units that fail (09_redundancy_and_degraded.md): a unit is taken out, and its set is restored, rebuilt or exposed (R220,
R224 to R235). -/

namespace Sys2Proof.Machine

open Sys2Proof.Laws

/-! ### The state of a set (R231, Table 09-6) -/

/-- A stripe set. -/
def State.stripe (s : State) (k : Fin 4) : StripeSet := s.rd.sets[k]

theorem State.stripe_of_sets {s t : State} (h : t.rd.sets = s.rd.sets) (k : Fin 4) : t.stripe k = s.stripe k := by
  unfold State.stripe
  rw [h]

theorem State.stripe_of_rd {s t : State} (h : t.rd = s.rd) (k : Fin 4) : t.stripe k = s.stripe k := State.stripe_of_sets (congrArg Rd.sets h) k

theorem State.modSet_stripe (s : State) (k : Fin 4) (f : StripeSet → StripeSet) : (s.modSet k f).stripe k = f (s.stripe k) := modSet_set ..

section
variable (s : State) (k : Fin 4)

theorem State.event_stripe (code sev org p0 p1 p2 p3 : Nat) : (s.event code sev org p0 p1 p2 p3).stripe k = s.stripe k :=
  State.stripe_of_rd (s.event_rd ..) k

theorem State.setTo_stripe (x : SetState) : (s.setTo k x).stripe k = { s.stripe k with state := x } := by
  unfold State.setTo
  split
  next hsame =>
    subst hsame
    rfl
  next => exact (State.raise_keeps (fun t => t.stripe k) ..).trans (s.modSet_stripe k _)

theorem State.setTo_keeps (x : SetState) : ((s.setTo k x).rd.chans, (s.setTo k x).fo) = (s.rd.chans, s.fo) := by
  unfold State.setTo
  split
  · rfl
  · exact State.raise_keeps (fun t => (t.rd.chans, t.fo)) ..

theorem State.setTo_chans (x : SetState) : (s.setTo k x).rd.chans = s.rd.chans := congrArg Prod.fst (s.setTo_keeps k x)

theorem State.setTo_fo (x : SetState) : (s.setTo k x).fo = s.fo := congrArg Prod.snd (s.setTo_keeps k x)

theorem State.setLoses_chans : (s.setLoses k).rd.chans = s.rd.chans := by
  unfold State.setLoses
  split
  · rfl
  · split
    · rw [State.event_rd, State.setTo_chans]
      exact (congrArg Rd.chans (s.enterEol_spares k).rd :)
    · exact s.setTo_chans k .restoring

/-- The third channel out exposes a set; otherwise its restoration starts (Table 09-6). -/
theorem State.setLoses_state : ((s.setLoses k).stripe k).state =
    if (s.stripe k).state = .exposed then .exposed else if 3 ≤ s.goneChans k then .exposed else .restoring := by
  unfold State.setLoses
  by_cases hexposed : (s.stripe k).state = .exposed
  · rw [if_pos hexposed]
    exact (congrArg (fun t : State => (t.stripe k).state) (if_pos hexposed)).trans hexposed
  · rw [if_neg hexposed, show ∀ a b : State, (if (s.rd.sets[k]).state = .exposed then a else b) = b from fun _ _ => if_neg hexposed]
    split
    · rw [State.event_stripe, State.setTo_stripe]
    · rw [State.setTo_stripe]

end

/-! ### A unit is taken out (R220, R230, R234) -/

theorem State.spareOut_rd (s : State) (c : Fin 64) : (s.spareOut c).rd = s.rd := by
  unfold State.spareOut
  extract_lets k dies n _ consumed
  split
  · exact (consumed.enterEol_spares k).rd
  · rfl

theorem State.goneChans_of_out {s t : State} {c : Fin 64} {k : Fin 4} (h : t.rd.chans = s.rd.chans.set c .out) :
    t.goneChans k = ((allFin 16).filter fun q => chanOf k q = c ∨ s.rd.chans[chanOf k q].gone = true).length := by
  unfold State.goneChans
  refine congrArg List.length (List.filter_congr fun q _ => ?_)
  rw [h, Fin.getElem_fin, Vector.getElem_set]
  by_cases hq : chanOf k q = c
  · simp [hq, ChanState.gone]
  · rw [if_neg fun hval => hq (Fin.ext hval.symm)]
    simp [hq]

/-- The state of a set after one of its channels is out: the third exposes it (Table 09-6). -/
def State.stateWithout (s : State) (c : Fin 64) : SetState :=
  if (s.stripe (setOfChan c)).state = .exposed then .exposed
  else if 3 ≤ ((allFin 16).filter fun q => chanOf (setOfChan c) q = c ∨ s.rd.chans[chanOf (setOfChan c) q].gone = true).length then .exposed
  else .restoring

theorem State.loseCopies_rd (s : State) (u : FUnit) : (s.loseCopies u).rd = s.rd := rfl

/-- The reads, writes, copies and blocks of a unit that goes out leave the channels, the sets and the windows. -/
theorem State.unitGone_duty (s : State) (u : FUnit) : ((((s.withdrawReads u).withdrawWrites u).loseCopies u).loseBlocks u).duty = s.duty := by
  rw [State.loseBlocks_duty, State.duty_of_rd (State.loseCopies_rd ..), State.duty_of_rd (State.withdrawWrites_rd ..),
    State.duty_of_rd (State.withdrawReads_rd ..)]

/-- Once a channel is marked out, the loss to its set leaves it out and gives the set its state. -/
theorem State.setLoses_stateWithout {s t : State} {c : Fin 64} (h : t.duty = (s.setChan c .out).duty) :
    ((t.setLoses (setOfChan c)).entriesLost (setOfChan c)).rd.chans[c] = .out ∧
    (((t.setLoses (setOfChan c)).entriesLost (setOfChan c)).stripe (setOfChan c)).state = s.stateWithout c := by
  have hchans : t.rd.chans = s.rd.chans.set c .out := congrArg Prod.fst h
  have hsets : t.rd.sets = s.rd.sets := congrArg (fun v => v.2.1) h
  rw [State.stripe_of_rd (State.entriesLost_rd ..), State.entriesLost_rd, State.setLoses_chans, State.setLoses_state, State.goneChans_of_out hchans,
    State.stripe_of_sets hsets, hchans]
  exact ⟨Vector.getElem_set_self .., rfl⟩

/-- A channel is out, and its set restores or is exposed. -/
theorem State.mediaOut_channel (s : State) (c : Fin 64) (row : Nat) :
    (s.mediaOut (.channel c) (setOfChan c) (some row)).rd.chans[c] = .out ∧
    ((s.mediaOut (.channel c) (setOfChan c) (some row)).stripe (setOfChan c)).state = s.stateWithout c := by
  unfold State.mediaOut
  dsimp -zeta only
  extract_lets out lost told
  have hout : out.duty = (s.setChan c .out).duty := State.duty_of_rd (State.spareOut_rd ..)
  clear_value out
  have hlost : lost.duty = out.duty := out.unitGone_duty _
  clear_value lost
  have htold : told.duty = lost.duty := State.duty_of_rd (lost.event_rd ..)
  clear_value told
  exact State.setLoses_stateWithout (htold.trans (hlost.trans hout))

/-- FAULT_WINDOW_CLOSE on one channel (R220, R231). -/
theorem exec_faultWindowClose_channel {s : State} {c : Fin 64} {hard conf : Bool} {p : ChanState} {n0 : Nat} (hsure : (hard || conf) = true)
    (hwin : s.rd.windows[winOf (.channel c)] = some ⟨[⟨.channel c, hard, conf, p⟩], n0⟩) : ∃ t : State,
      exec (.faultWindowClose (winOf (.channel c))) s = .next t ∧ t.rd.windows[winOf (.channel c)] = none ∧ t.rd.chans[c] = .out ∧
      (t.stripe (setOfChan c)).state = s.stateWithout c := by
  obtain ⟨t, hexec, hrd, _⟩ := exec_faultWindowClose_one hwin hsure
  have hout : s.takeOut ⟨.channel c, hard, conf, p⟩ = s.mediaOut (.channel c) (setOfChan c) (some (if hard = false then 3 else 1)) := rfl
  obtain ⟨hchan, hset⟩ := s.mediaOut_channel c (if hard = false then 3 else 1)
  rw [← hout] at hchan hset
  generalize s.takeOut ⟨.channel c, hard, conf, p⟩ = taken at hrd hchan hset
  refine ⟨t, hexec, ?_, ?_, (congrArg StripeSet.state (State.stripe_of_sets (congrArg Rd.sets hrd :) _)).trans hset⟩
  · rw [hrd]
    exact Vector.getElem_set_self ..
  · rw [hrd]
    exact hchan

/-- FAULT_WINDOW_CLOSE on a stack of the package DRAM (R234). -/
theorem exec_faultWindowClose_stack {s : State} {k : Fin 5} {conf : Bool} {p : ChanState} {n0 : Nat}
    (hwin : s.rd.windows[4] = some ⟨[⟨.stack k, true, conf, p⟩], n0⟩) : ∃ t : State, exec (.faultWindowClose 4) s = .next t ∧
      t.rd.windows[4] = none ∧ t.ca = { s.ca with en := false, stale := true, lock := true } ∧ t.kp.lostStacks = k :: s.kp.lostStacks := by
  obtain ⟨t, hexec, hrd, hkept⟩ := exec_faultWindowClose_one (k := 4) hwin rfl
  have hout : (s.takeOut ⟨.stack k, true, conf, p⟩).cacheAndStacks = ({ s.ca with en := false, stale := true, lock := true }, k :: s.kp.lostStacks) :=
    State.event_cacheAndStacks ..
  generalize s.takeOut ⟨.stack k, true, conf, p⟩ = taken at hrd hkept hout
  obtain ⟨hca, hstacks⟩ := Prod.ext_iff.1 (hkept.trans hout)
  refine ⟨t, hexec, ?_, hca, hstacks⟩
  rw [hrd]
  exact Vector.getElem_set_self ..

/-- A second stack lost, before power is removed (R235, R259): admission stops. -/
def State.secondLost (s : State) (k : Fin 5) : State :=
  { s with kp := { s.kp with lostStacks := k :: s.kp.lostStacks }, lk := { s.lk with fatal := true, mediaStatus := .error },
           pw := { s.pw with dataPath := false } }

/-- A second stack lost (R235): admission stops, and the die goes down as for a fault of the data path. -/
theorem State.secondStack_faultedOff (s : State) (k : Fin 5) : (s.secondStack k).pw.FaultedOff s.FaultLocks (s.now + secTicks 1) ∧
    (s.secondStack k).kp.lostStacks = k :: s.kp.lostStacks := by
  generalize htold : (((s.secondLost k).save (8 + k.val)).emit (.err none 2)).event 0x2005 3 (oUnit 0 k.val) k.val 0 0 0 = told
  have hsecond : s.secondStack k = told.pathFault := congrArg State.pathFault htold
  obtain ⟨hoff, hstacks⟩ := told.pathFault_faultedOff
  have hlocks : told.FaultLocks = s.FaultLocks := htold ▸ State.event_keeps State.FaultLocks ..
  have hnow : told.now = s.now := htold ▸ State.event_keeps State.now ..
  have hlost : told.kp.lostStacks = k :: s.kp.lostStacks := htold ▸ State.event_lostStacks ..
  rw [hlocks, hnow] at hoff
  rw [hsecond]
  exact ⟨hoff, hstacks.trans hlost⟩

theorem exec_secondStackLoss {s : State} {k : Fin 5} (hup : s.pw.dieUp = true) (hsecond : s.kp.lostStacks ≠ []) (hnew : k ∉ s.kp.lostStacks) :
    exec (.secondStackLoss k) s = .next (s.secondStack k) :=
  if_pos ⟨hup, hsecond, by simpa using hnew⟩

/-! ### Restoration ends (R224, R227) -/

section
variable (s : State) (k : Fin 4)

theorem State.lostBlocks_of_fo {s t : State} (h : t.fo = s.fo) (k : Fin 4) : t.lostBlocks k = s.lostBlocks k := by
  unfold State.lostBlocks State.usedSegs State.seg
  rw [h]

theorem State.restoreBlock_rd_fo (p : Pair) (second : Bool) : ((s.restoreBlock p second).rd, (s.restoreBlock p second).fo) = (s.rd, s.fo) := by
  unfold State.restoreBlock
  extract_lets stays leaves
  generalize (s.servingPos p.set).filter _ = free
  have hpick := s.pick_allocs free
  generalize s.pick free = picked at hpick ⊢
  have hkept : (picked.2.rd, picked.2.fo) = (s.rd, s.fo) := by rw [hpick.rd, hpick.fo]
  obtain ⟨_ | c, u⟩ := picked
  · exact hkept
  · exact hkept

theorem State.restorePairs_rd_fo : ((s.restorePairs k).rd, (s.restorePairs k).fo) = (s.rd, s.fo) := by
  refine foldl_keeps (fun t => (t.rd, t.fo)) (fun u p => ?_) _ s
  split
  · split
    · exact u.restoreBlock_rd_fo p false
    · split
      · exact u.restoreBlock_rd_fo p true
      · rfl
  · rfl

/-- Channels whose last stand-in has verified are replaced: no set and no segment changes. -/
theorem State.rebuildCheck_replaces : ∃ u : State, u.stripe k = s.stripe k ∧ u.fo = s.fo ∧ s.rebuildCheck k =
    if u.lostBlocks k = 0 ∧ (u.stripe k).state = .degraded then
      (u.modSet k fun x => { x with rebuilding := false, paused := false }).setTo k .rebuilt
    else u := by
  unfold State.rebuildCheck
  extract_lets n replaced
  have hreplaced : (replaced.stripe k, replaced.fo) = (s.stripe k, s.fo) := by
    refine foldl_keeps (fun t => (t.stripe k, t.fo)) (fun u p => ?_) _ s
    extract_lets c
    split
    · exact State.event_keeps (fun t => (t.stripe k, t.fo)) ..
    · rfl
  obtain ⟨hset, hfo⟩ := Prod.mk.inj hreplaced
  exact ⟨replaced, hset, hfo, rfl⟩

theorem State.rebuildCheck_fo : (s.rebuildCheck k).fo = s.fo := by
  obtain ⟨u, _, hfo, h⟩ := s.rebuildCheck_replaces k
  rw [h]
  split
  · exact (State.setTo_fo ..).trans hfo
  · exact hfo

theorem State.rebuildCheck_rebuilt : ((s.rebuildCheck k).stripe k).rebuilt = (s.stripe k).rebuilt := by
  obtain ⟨u, hset, _, h⟩ := s.rebuildCheck_replaces k
  rw [h]
  split
  · rw [State.setTo_stripe, State.modSet_stripe, hset]
  · rw [hset]

theorem State.rebuildCheck_state (hdegraded : (s.stripe k).state = .degraded) :
    ((s.rebuildCheck k).stripe k).state = if s.lostBlocks k = 0 then .rebuilt else .degraded := by
  obtain ⟨u, hset, hfo, h⟩ := s.rebuildCheck_replaces k
  rw [h, State.lostBlocks_of_fo hfo, hset, hdegraded]
  by_cases hnone : s.lostBlocks k = 0
  · rw [if_pos ⟨hnone, rfl⟩, if_pos hnone, State.setTo_stripe]
  · rw [if_neg fun hboth => hnone hboth.1, if_neg hnone, hset, hdegraded]

/-- The check of draining channels leaves a set's state, but for an optimal one. -/
theorem State.drainCheck_state {x : SetState} (hx : x ≠ .optimal) (hstate : (s.stripe k).state = x) : ((s.drainCheck k).stripe k).state = x := by
  unfold State.drainCheck
  refine List.foldlRecOn (motive := fun u : State => (u.stripe k).state = x) _ _ hstate fun u hu p _ => ?_
  extract_lets c
  split
  · rw [State.event_stripe, State.setTo_stripe]
    exact (if_neg fun hoptimal => hx (hu.symm.trans hoptimal)).trans hu
  · exact hu

/-- A set whose restoration has ended (Table 09-6): degraded, and rebuilt at once where rebuild may start and nothing is lost. -/
def State.restoredSet (s : State) (k : Fin 4) : State :=
  if ((s.setTo k .degraded).stripe k).mayRebuild then (s.setTo k .degraded).rebuildStart k else s.setTo k .degraded

theorem State.restoredSet_state : ((s.restoredSet k).stripe k).state =
    if (s.stripe k).mayRebuild = true ∧ s.lostBlocks k = 0 then .rebuilt else .degraded := by
  have hset := s.setTo_stripe k .degraded
  have hlost : (s.setTo k .degraded).lostBlocks k = s.lostBlocks k := State.lostBlocks_of_fo (s.setTo_fo k .degraded) k
  have hmay : ((s.setTo k .degraded).stripe k).mayRebuild = (s.stripe k).mayRebuild := by
    rw [hset]
    rfl
  unfold State.restoredSet
  rw [hmay]
  by_cases hstarts : (s.stripe k).mayRebuild = true
  · rw [if_pos hstarts]
    unfold State.rebuildStart
    extract_lets started
    have hstarted : (started.stripe k).state = .degraded := by
      unfold started
      rw [State.modSet_stripe, hset]
    rw [State.rebuildCheck_state _ k hstarted, show started.lostBlocks k = s.lostBlocks k from hlost, hstarts]
    simp
  · rw [if_neg hstarts, hset, if_neg fun hboth => hstarts hboth.1]

end

theorem exec_shallowsRestorationComplete_ends {s : State} {k : Fin 4} (hopen : s.setFrozen k = false) (hstate : (s.stripe k).state = .restoring) :
    exec (.shallowsRestorationComplete k) s = .next (((s.restorePairs k).restoredSet k).drainCheck k).judgeMarks := by
  show execShallowsRestorationComplete k s = _
  unfold execShallowsRestorationComplete
  extract_lets draining restored degraded ended
  have hended : ended = restored.restoredSet k := if_pos hstate
  have htaken : ¬(s.setFrozen k = true ∨ ((s.stripe k).state ≠ .restoring ∧ draining = false)) := by
    rw [hopen, hstate]
    simp
  rw [← hended]
  exact if_neg htaken

/-- The set's state once its restoration has ended. -/
theorem exec_shallowsRestorationComplete_state {s : State} {k : Fin 4} (hopen : s.setFrozen k = false) (hstate : (s.stripe k).state = .restoring) :
    ∃ t : State, exec (.shallowsRestorationComplete k) s = .next t ∧
      (t.stripe k).state = if (s.stripe k).mayRebuild = true ∧ s.lostBlocks k = 0 then .rebuilt else .degraded := by
  refine ⟨_, exec_shallowsRestorationComplete_ends hopen hstate, ?_⟩
  have hkept := s.restorePairs_rd_fo k
  rw [State.stripe_of_rd (State.judgeMarks_rd _)]
  refine State.drainCheck_state _ k ?_ ?_
  · split
    · decide
    · decide
  · rw [State.restoredSet_state, State.stripe_of_rd (congrArg Prod.fst hkept :), State.lostBlocks_of_fo (congrArg Prod.snd hkept :)]

/-! ### Rebuild (R226, Table 09-6) -/

section
variable {s : State} {q : SegKey} {p : Fin 16}

theorem State.dieRebuilt_keeps (s : State) (q : SegKey) (p : Fin 16) : ((s.dieRebuilt q p).rd, (s.dieRebuilt q p).fo) = (s.rd, s.fo) := by
  unfold State.dieRebuilt
  extract_lets d
  split
  · rfl
  · exact State.event_keeps (fun t => (t.rd, t.fo)) ..

/-- A lost block with a stand-in leaves the lost ones, and counts as rebuilt. -/
theorem State.rebuildBlock_of_standIn {j : Fin 16} (hin : s.standInOf q p = some j) : p ∉ ((s.rebuildBlock q p).seg q).lost ∧
    ((s.rebuildBlock q p).stripe q.set).rebuilt = (s.stripe q.set).rebuilt + 1 := by
  unfold State.rebuildBlock
  rw [hin, if_pos Option.isSome_some]
  dsimp -zeta only
  extract_lets _ filled counted
  obtain ⟨hrd, hfo⟩ := Prod.ext_iff.1 (counted.dieRebuilt_keeps q p)
  constructor
  · have hseg : ((counted.dieRebuilt q p).rebuildCheck q.set).seg q = filled.seg q :=
      congrArg (fun f : Fo => tget Segment.free f.segs (segCode q)) ((State.rebuildCheck_fo ..).trans hfo)
    rw [hseg]
    unfold filled
    rw [State.setSeg_seg_same]
    simp
  · rw [State.rebuildCheck_rebuilt, State.stripe_of_rd hrd]
    exact congrArg StripeSet.rebuilt (filled.modSet_stripe q.set _)

/-- A lost block for which no stand-in is to be had pauses the set's rebuild. -/
theorem State.rebuildBlock_pauses (hnone : s.standInOf q p = none) (hfails : s.standIn q p = none) :
    ((s.rebuildBlock q p).stripe q.set).paused = true ∧ (s.rebuildBlock q p).seg q = s.seg q := by
  unfold State.rebuildBlock
  rw [hnone, if_neg (by simp), hfails]
  dsimp only
  constructor
  · rw [State.event_stripe, State.modSet_stripe]
  · exact State.event_keeps (fun t => t.seg q) ..

theorem exec_rebuildSegmentComplete_rebuilds (hopen : s.setFrozen q.set = false) (hused : (s.seg q).state ≠ .free)
    (hserves : (s.seg q).state ≠ .retired) (hrebuilding : (s.rd.sets[q.set]).rebuilding = true) (hlost : p ∈ (s.seg q).lost)
    (hstays : ¬(s.rd.chans[chanOf q.set p] = .draining ∧ (s.standInOf q p).isNone = true)) :
    exec (.rebuildSegmentComplete q p) s = .next (s.lifeEdge (s.rebuildBlock q p)) := by
  show execRebuildSegmentComplete q p s = _
  unfold execRebuildSegmentComplete
  extract_lets x
  have htaken : ¬(s.setFrozen q.set = true ∨ x.state = .free ∨ x.state = .retired) := by
    rintro (h | h | h)
    · rw [hopen] at h
      cases h
    · exact hused h
    · exact hserves h
  rw [if_neg htaken, if_neg hstays]
  exact if_pos ⟨hrebuilding, List.contains_iff_mem.2 hlost⟩

end

/-! ### Suspect channels (R230, Table 09-5) -/

/-- The parts that a suspect channel's patrol visits leave: the units, the write path, the fold engine and the counters. -/
def State.unvisited (s : State) : Rd × Wp × Fo × Cr := (s.rd, s.wp, s.fo, s.cr)

theorem State.unvisited_eq {t : State} {rd : Rd} {wp : Wp} {fo : Fo} {cr : Cr} (h : t.unvisited = (rd, wp, fo, cr)) :
    t.rd = rd ∧ t.wp = wp ∧ t.fo = fo ∧ t.cr = cr := by
  unfold State.unvisited at h
  simpa only [Prod.mk.injEq] using h

theorem foldl_visitNext_unvisited (l : List SegKey) (due : Nat) (s : State) : (l.foldl (fun t x => t.visitNext x due true) s).unvisited = s.unvisited := by
  refine foldl_keeps State.unvisited (fun u x => ?_) l s
  rfl

section
variable {s : State} {c : Fin 64}

theorem exec_channelSuspect_suspects (r a : Nat) (hserves : s.rd.chans[c] = .inService) : ∃ t : State,
    exec (.channelSuspect c r a) s = .next t ∧ t.unvisited =
      ({ s.rd with chans := s.rd.chans.set c .suspect, suspectSince := s.rd.suspectSince.set c (some s.now) }, s.wp, s.fo, s.cr) := by
  refine ⟨_, if_pos hserves, (foldl_visitNext_unvisited ..).trans ?_⟩
  exact State.event_keeps (fun t => (({ t.rd with suspectSince := t.rd.suspectSince.set c (some s.now) } : Rd), t.wp, t.fo, t.cr)) ..

theorem exec_channelSuspectClear_clears (hsuspect : s.rd.chans[c] = .suspect) : ∃ t : State, exec (.channelSuspectClear c) s = .next t ∧
    t.unvisited = ({ s.rd with chans := s.rd.chans.set c .inService, suspectSince := s.rd.suspectSince.set c none }, s.wp, s.fo, s.cr) := by
  refine ⟨_, if_pos hsuspect, ?_⟩
  split
  next since _ =>
    obtain ⟨_, _, _, _, _, h⟩ := s.pass_touches (secTicks 3600 - (s.now - since))
    unfold State.since
    rw [h]
    rfl
  next => rfl

end

/-! ### A unit answers its probe (R220 step 2) -/

/-- A soft fault alone ends with the unit's answer: its window is gone, and a channel is what it was before. -/
theorem exec_statusProbeAnswer_answers {s : State} {u : FUnit} {p : ChanState} {n0 : Nat} (ticks : Nat)
    (hwin : s.rd.windows[winOf u] = some ⟨[⟨u, false, false, p⟩], n0⟩) : ∃ t : State, exec (.statusProbeAnswer u ticks) s = .next t ∧
      t.rd.windows[winOf u] = none ∧ t.wp.index = s.wp.index ∧ t.cr = s.cr ∧ ∀ c, u = .channel c → t.rd.chans[c] = p := by
  refine ⟨_, exec_statusProbeAnswer_closes ticks hwin, ?_⟩
  obtain ⟨hwp, hcr, hchan⟩ := s.answered_keeps u p
  have htold := (s.answered u p).event_linesAndUnits 0x1004 2 (oOf u) ticks 0 0 0
  generalize s.answered u p = answered at hwp hcr hchan htold ⊢
  generalize answered.event 0x1004 2 (oOf u) ticks 0 0 0 = told at htold ⊢
  have hkept := (State.judgeMarks_linesAndUnits _).trans (told.windowGone_linesAndUnits (winOf u))
  generalize (told.windowGone (winOf u)).judgeMarks = closed at hkept ⊢
  have hindex : closed.wp.index = told.wp.index := congrArg Prod.fst hkept
  have hcrs : closed.cr = told.cr := congrArg (fun v => v.2.1) hkept
  have hrd : closed.rd = { told.rd with windows := told.rd.windows.set (winOf u) none } := congrArg (fun v => v.2.2.2) hkept
  refine ⟨?_, ?_, ?_, fun c hc => ?_⟩
  · rw [hrd]
    exact Vector.getElem_set_self ..
  · rw [hindex, State.index_of_linesAndUnits htold, hwp]
  · rw [hcrs, State.cr_of_linesAndUnits htold, hcr]
  · rw [hrd, State.rd_of_linesAndUnits htold]
    exact hchan c hc

/-! ### The obligation -/

/-- Settles O50: a window opens with its unit alone (`faultJoin_opens`) and closes without a change of the others (`exec_faultWindowClose_one`); what
follows a unit's loss leaves the channels and the sets (`State.duty`), so the set's state is the one `setLoses` gave it; and a second stack lost is a fault
of the data path (`secondStack_faultedOff`). -/
theorem unitsAreTakenOutAndRebuilt : Obligations.UnitsAreTakenOutAndRebuilt := by
  unfold Obligations.UnitsAreTakenOutAndRebuilt
  intro s
  refine ⟨fun row u hup hfits hin hmedia hnone => ?_, fun k hup hfirst hnone => ?_, fun row u hout => if_pos (.inr (.inr hout)),
    fun u p n0 ticks hwin => ?_, fun u p n0 hwin => exec_probeSilenceConfirmed_confirms hwin,
    fun c hard conf p n0 hsure hwin => exec_faultWindowClose_channel hsure hwin, fun k conf p n0 hwin => ?_,
    fun k w hwin hopen => exec_faultWindowClose_waits hwin hopen, fun k hopen hstate => exec_shallowsRestorationComplete_state hopen hstate,
    fun q p hopen hused hserves hrebuilding hlost => ⟨fun j hj => ?_, fun hnone hstays hfails => ?_⟩,
    fun c r a hserves => ?_, fun c hsuspect => ?_, fun k hup hsecond hnew => ?_⟩
  · obtain ⟨p, hwindow, _, hindex, hcr, hfo⟩ := State.faultJoin_opens hnone (row ≠ .timeout)
    exact ⟨_, p, exec_faultIndication_opens hup hfits hin hmedia, hwindow, hindex, hcr, hfo⟩
  · have hclosed : ({ s with rd := { s.rd with located := s.rd.located.set k 0 } } : State).rd.windows[winOf (.stack k)] = none := hnone
    obtain ⟨p, hwindow, hprior, hindex, hcr, _⟩ := State.faultJoin_opens hclosed true
    rw [hprior k rfl] at hwindow
    exact ⟨_, exec_faultIndication_stack hup hfirst hnone, hwindow, hindex, hcr⟩
  · exact exec_statusProbeAnswer_answers ticks hwin
  · obtain ⟨t, hexec, hwindow, hca, hstacks⟩ := exec_faultWindowClose_stack hwin
    refine ⟨t, hexec, hwindow, ?_, ?_, ?_, hstacks⟩
    · rw [hca]
    · rw [hca]
    · rw [hca]
  · have hstays : ¬(s.rd.chans[chanOf q.set p] = .draining ∧ (s.standInOf q p).isNone = true) := by
      rw [hj]
      simp
    obtain ⟨hfilled, hcounted⟩ := State.rebuildBlock_of_standIn hj
    refine ⟨_, exec_rebuildSegmentComplete_rebuilds hopen hused hserves hrebuilding hlost hstays, ?_, ?_⟩
    · rw [State.lifeEdge_keeps (fun t => t.seg q)]
      exact hfilled
    · exact (State.lifeEdge_keeps (fun t => (t.stripe q.set).rebuilt) ..).trans hcounted
  · obtain ⟨hpaused, hkept⟩ := State.rebuildBlock_pauses hnone hfails
    exact ⟨_, exec_rebuildSegmentComplete_rebuilds hopen hused hserves hrebuilding hlost fun h => hstays h.1,
      (State.lifeEdge_keeps (fun t => (t.stripe q.set).paused) ..).trans hpaused, (State.lifeEdge_keeps (fun t => t.seg q) ..).trans hkept⟩
  · obtain ⟨t, hexec, hkept⟩ := exec_channelSuspect_suspects r a hserves
    obtain ⟨hrd, hwp, hfo, hcr⟩ := State.unvisited_eq hkept
    refine ⟨t, hexec, ?_, ?_, hwp, hfo, hcr⟩
    · rw [hrd]
      exact Vector.getElem_set_self ..
    · rw [hrd]
      exact Vector.getElem_set_self ..
  · obtain ⟨t, hexec, hkept⟩ := exec_channelSuspectClear_clears hsuspect
    obtain ⟨hrd, hwp, hfo, hcr⟩ := State.unvisited_eq hkept
    refine ⟨t, hexec, ?_, ?_, hwp, hfo, hcr⟩
    · rw [hrd]
      exact Vector.getElem_set_self ..
    · rw [hrd]
      exact Vector.getElem_set_self ..
  · obtain ⟨hoff, hstacks⟩ := s.secondStack_faultedOff k
    exact ⟨_, exec_secondStackLoss hup hsecond hnew, hoff.dataPath, hoff.dieUp, hstacks,
      fun hfirst hretries => hoff.waits (State.not_faultLocks hfirst hretries), hoff.locked⟩

end Sys2Proof.Machine
end

section
/-! PROOFS. QoS of the logical devices at the fabric manager's mailbox (10_cxl_interface.md R255, R256; 11_mailbox_and_sessions.md R273). -/

namespace Sys2Proof.Machine

/-- The greatest of several values is the start or one of them. -/
theorem foldl_max_mem {α : Type} (f : α → Nat) (l : List α) (m : Nat) :
    l.foldl (fun m x => max m (f x)) m = m ∨ ∃ x ∈ l, l.foldl (fun m x => max m (f x)) m = f x := by
  induction l generalizing m with
  | nil => exact .inl rfl
  | cons x l ih =>
    rw [List.foldl_cons]
    rcases ih (max m (f x)) with h | ⟨y, hy, h⟩
    · rcases Nat.le_total (f x) m with hle | hle
      · exact .inl (h.trans (Nat.max_eq_left hle))
      · exact .inr ⟨x, List.mem_cons_self, h.trans (Nat.max_eq_right hle)⟩
    · exact .inr ⟨y, List.mem_cons_of_mem _ hy, h⟩

/-- The highest DevLoad of any LD. -/
def State.topLoad (s : State) : Nat := (allFin 16).foldl (fun m n => max m (s.devLoad n)) 0

theorem State.devLoad_le_topLoad (s : State) (n : Fin 16) : s.devLoad n ≤ s.topLoad :=
  le_foldl_max s.devLoad 0 (.inr (List.mem_finRange n))

theorem State.topLoad_eq_devLoad (s : State) : ∃ n : Fin 16, s.topLoad = s.devLoad n := by
  rcases foldl_max_mem s.devLoad (allFin 16) 0 with h | ⟨n, _, h⟩
  · exact ⟨0, Nat.le_antisymm (h.trans_le (Nat.zero_le _)) (s.devLoad_le_topLoad 0)⟩
  · exact ⟨n, h⟩

section
variable {s : State} {r : Req}

theorem exec_getQosStatus (h : s.Taken r 0x5405 (some 0)) :
    exec (.getQosStatus r) s = .next (s.answer r 0x5405 (okOut (.fields [("devLoad", s.topLoad)]))) :=
  congrArg Host.Outcome.next (State.mbx_answers rfl h rfl)

/-- Egress Port Congestion and Temporary Throughput Reduction must be 0. -/
theorem exec_setQosControl_refused {epc ttr : Bool} (value : Nat) (h : s.Taken r 0x5404 (some 7)) (hon : (epc || ttr) = true) :
    exec (.setQosControl r epc ttr value) s = .next (s.answer r 0x5404 (badAns 0x000A)) :=
  congrArg Host.Outcome.next (State.mbx_answers rfl h (if_pos (Bool.or_eq_true_iff.1 hon)))

variable {start : Nat} {fractions : List Byte} (hfits : start + fractions.length ≤ 16)
include hfits

theorem exec_setQosAllocatedBw (h : s.Taken r 0x5407 (some (2 + fractions.length))) : exec (.setQosAllocatedBw r start fractions) s =
    .next ((s.setFractions start fractions fun l x => { l with weightF := x }).answer r 0x5407 okAns) :=
  congrArg Host.Outcome.next (State.mbx_answers rfl h (if_neg (Nat.not_lt.2 hfits)))

theorem exec_setQosBwLimit (h : s.Taken r 0x5409 (some (2 + fractions.length))) : exec (.setQosBwLimit r start fractions) s =
    .next ((s.setFractions start fractions fun l x => { l with limitN := x }).answer r 0x5409 okAns) :=
  congrArg Host.Outcome.next (State.mbx_answers rfl h (if_neg (Nat.not_lt.2 hfits)))

end

/-- Settles O20: each read answers what is stored, each write stores what it carries (`State.setFractions`), and the status is the highest DevLoad, which
one of the LDs has. -/
theorem qosCommandsAnswer : Obligations.QosCommandsAnswer := by
  unfold Obligations.QosCommandsAnswer
  intro s r
  exact ⟨fun h => congrArg Host.Outcome.next (State.mbx_answers rfl h rfl), fun epc ttr value h hon => exec_setQosControl_refused value h hon,
    fun value h => congrArg Host.Outcome.next (State.mbx_answers rfl h rfl),
    fun h => ⟨s.topLoad, exec_getQosStatus h, s.devLoad_le_topLoad, s.topLoad_eq_devLoad⟩,
    fun h => congrArg Host.Outcome.next (State.mbx_answers rfl h rfl), fun h => congrArg Host.Outcome.next (State.mbx_answers rfl h rfl),
    fun start fractions hfits h => exec_setQosAllocatedBw hfits h, fun start fractions hfits h => exec_setQosBwLimit hfits h⟩

end Sys2Proof.Machine
end

section
/-! PROOFS. Inject and Clear Poison at an LD's mailbox (10_cxl_interface.md R253, 03_write_path.md R47). -/

namespace Sys2Proof.Machine

/-! ### What refuses them -/

section
variable {s : State} {n : Fin 16} {dpa : Nat}

theorem State.userLine_of_allocated {line : Nat} (h : s.allocated n line = true) : s.userLine line = true := by
  unfold State.allocated at h
  simp only [Bool.and_eq_true] at h
  exact h.1.1.1

theorem State.poisonRefusal_of_not_allocated (inject : Bool) (h : s.allocated n (dpa / 64) = false) :
    s.poisonRefusal n dpa inject = some (codeAns 0x000F 0) := if_pos (.inr h)

variable (hallocated : s.allocated n (dpa / 64) = true)
include hallocated

/-- Allocated capacity passes the first check. -/
theorem State.not_poisonOutside : ¬(s.userLine (dpa / 64) = false ∨ s.allocated n (dpa / 64) = false) := by
  simp [State.userLine_of_allocated hallocated, hallocated]

theorem State.poisonRefusal_of_stopped (inject : Bool) (h : s.pw.holdupReady = false ∨ s.wp.marks[5] = true) :
    s.poisonRefusal n dpa inject = some (busyAns 0x000A) :=
  (if_neg (State.not_poisonOutside hallocated)).trans (if_pos h)

variable (hready : s.pw.holdupReady = true) (hstop : s.wp.marks[5] = false)
include hready hstop

theorem State.poisonRefusal_inject (h : ((s.poisonOf n).filter fun p => p.src = .injected).length < 256) : s.poisonRefusal n dpa true = none := by
  simp [State.poisonRefusal, State.not_poisonOutside hallocated, hready, hstop, Nat.not_le.2 h]

theorem State.poisonRefusal_clear (h : (s.mapEnt (granOf (dpa / 64))).state ≠ .poisoned) : s.poisonRefusal n dpa false = none := by
  simp [State.poisonRefusal, State.not_poisonOutside hallocated, hready, hstop, h]

theorem State.poisonRefusal_clear_poisoned (h : (s.mapEnt (granOf (dpa / 64))).state = .poisoned) :
    s.poisonRefusal n dpa false = some (badAns 0x000A) := by
  simp [State.poisonRefusal, State.not_poisonOutside hallocated, hready, hstop, h]

end

/-! ### The commands -/

section
variable {s : State} {n : Fin 16} {len dpa : Nat} {a : Ans}

theorem exec_injectPoison_refused (h : s.Taken ⟨.ld n, len⟩ 0x4301 (some 8)) (ha : s.poisonRefusal n dpa true = some a) :
    exec (.injectPoison ⟨.ld n, len⟩ dpa) s = .next (s.answer ⟨.ld n, len⟩ 0x4301 a) :=
  congrArg Host.Outcome.next (State.mbxLater_answers rfl h (congrArg (s.poisonWrite n (dpa / 64) 0 true (.inject (.ld n))) ha))

theorem exec_injectPoison_writes (h : s.Taken ⟨.ld n, len⟩ 0x4301 (some 8)) (ha : s.poisonRefusal n dpa true = none) :
    exec (.injectPoison ⟨.ld n, len⟩ dpa) s = .next (s.mbxWrite n (dpa / 64) 0 true (.inject (.ld n))) :=
  congrArg Host.Outcome.next (State.mbxLater_later rfl h (congrArg (s.poisonWrite n (dpa / 64) 0 true (.inject (.ld n))) ha))

variable {data : Line}

theorem exec_clearPoison_refused (h : s.Taken ⟨.ld n, len⟩ 0x4302 (some 72)) (ha : s.poisonRefusal n dpa false = some a) :
    exec (.clearPoison ⟨.ld n, len⟩ dpa data) s = .next (s.answer ⟨.ld n, len⟩ 0x4302 a) :=
  congrArg Host.Outcome.next (State.mbxLater_answers rfl h (congrArg (s.poisonWrite n (dpa / 64) data false (.clear (.ld n))) ha))

theorem exec_clearPoison_writes (h : s.Taken ⟨.ld n, len⟩ 0x4302 (some 72)) (ha : s.poisonRefusal n dpa false = none) :
    exec (.clearPoison ⟨.ld n, len⟩ dpa data) s = .next (s.mbxWrite n (dpa / 64) data false (.clear (.ld n))) :=
  congrArg Host.Outcome.next (State.mbxLater_later rfl h (congrArg (s.poisonWrite n (dpa / 64) data false (.clear (.ld n))) ha))

end

/-- Settles O16: the checks of R253 refuse the command (`State.poisonRefusal_…`) or let it make its internal write (`State.mbxWrite`). -/
theorem poisonCommandsEnterTheWritePath : Obligations.PoisonCommandsEnterTheWritePath := by
  unfold Obligations.PoisonCommandsEnterTheWritePath
  rintro s n len dpa _ data rfl
  refine ⟨fun h ⟨hallocated, hready, hstop⟩ hfew => ?_, fun h ⟨hallocated, hready, hstop⟩ hsound => ?_, fun houtside => ⟨fun h => ?_, fun h => ?_⟩,
    fun hallocated hstopped => ⟨fun h => ?_, fun h => ?_⟩, fun h ⟨hallocated, hready, hstop⟩ hpoisoned => ?_⟩
  · exact exec_injectPoison_writes h (State.poisonRefusal_inject hallocated hready hstop hfew)
  · exact exec_clearPoison_writes h (State.poisonRefusal_clear hallocated hready hstop hsound)
  · exact exec_injectPoison_refused h (State.poisonRefusal_of_not_allocated true houtside)
  · exact exec_clearPoison_refused h (State.poisonRefusal_of_not_allocated false houtside)
  · exact exec_injectPoison_refused h (State.poisonRefusal_of_stopped hallocated true hstopped)
  · exact exec_clearPoison_refused h (State.poisonRefusal_of_stopped hallocated false hstopped)
  · exact exec_clearPoison_refused h (State.poisonRefusal_clear_poisoned hallocated hready hstop hpoisoned)

end Sys2Proof.Machine
end

section
/-! PROOFS. The division of the capacity (10_cxl_interface.md R244, R246, R248). -/

namespace Sys2Proof.Machine

/-! ### Bases of consecutive pieces -/

theorem getElem?_basesFrom (l : List Nat) (at0 k : Nat) (h : k < l.length) : (basesFrom at0 l)[k]? = some (at0 + (l.take k).sum) := by
  induction l generalizing at0 k with
  | nil => cases h
  | cons x l ih =>
    cases k with
    | zero => rfl
    | succ k =>
      have hrest : (basesFrom (at0 + x) l)[k]? = some (at0 + x + (l.take k).sum) := ih (at0 + x) k (Nat.lt_of_succ_lt_succ h)
      rw [basesFrom, List.getElem?_cons_succ, hrest, List.take_succ_cons, List.sum_cons, Nat.add_assoc]

theorem getD_basesFrom (l : List Nat) (at0 k : Nat) (h : k < l.length) : (basesFrom at0 l).getD k 0 = at0 + (l.take k).sum := by
  rw [List.getD_eq_getElem?_getD, getElem?_basesFrom l at0 k h]
  rfl

/-! ### The new division -/

/-- The LDs and the DC regions at the places that a division gives them. -/
def State.placed (s : State) (parts dcs : List Nat) : State :=
  { s with
    lds := .ofFn fun n => { s.lds[n] with partBase := (basesFrom 0 parts).getD n.val 0, partSize := parts.getD n.val 0 }
    lk := { s.lk with dcRegions := .ofFn fun k =>
      { s.lk.dcRegions[k] with base := (basesFrom parts.sum dcs).getD k.val 0, len := dcs.getD k.val 0 } } }

/-- An LD whose transactional region the division took away loses that region (R169). -/
def State.unplaceRegion (old : Vector LD 16) (s : State) (n : Fin 16) : State :=
  let c := (s.ld n).cw
  if c.en ∧ (old[n].partBase ≠ (s.ld n).partBase ∨ old[n].partSize ≠ (s.ld n).partSize) ∧ s.rangeHeld n c.base c.bytes = false then
    (s.regionDisable n).modCw n fun c => { c with cfgerr := true }
  else s

theorem State.divide_eq (s : State) (parts dcs : List Nat) :
    s.divide parts dcs = (((allFin 16).foldl (State.unplaceRegion s.lds) (s.placed parts dcs)).save 44).save 45 := rfl

/-- With no transactional region enabled, none is lost. -/
theorem foldl_unplaceRegion_of_disabled (old : Vector LD 16) (l : List (Fin 16)) {s : State} (h : ∀ n, (s.ld n).cw.en = false) :
    l.foldl (State.unplaceRegion old) s = s := by
  induction l with
  | nil => rfl
  | cons n l ih =>
    have hstays : State.unplaceRegion old s n = s := by
      unfold State.unplaceRegion
      extract_lets c
      refine if_neg fun ⟨hen, _⟩ => ?_
      rw [h n] at hen
      cases hen
    rw [List.foldl_cons, hstays, ih]

theorem State.divide_of_disabled {s : State} (parts dcs : List Nat) (h : ∀ n : Fin 16, s.lds[n].cw.en = false) :
    ∃ kp, s.divide parts dcs = { s.placed parts dcs with kp := kp } := by
  have hplaced : ∀ n, ((s.placed parts dcs).ld n).cw.en = false := fun n => by
    simpa [State.ld, State.placed] using h n
  rw [State.divide_eq, foldl_unplaceRegion_of_disabled _ _ hplaced]
  exact ⟨_, rfl⟩

section
variable {s : State} (parts dcs : List Nat)

theorem State.placed_ld (n : Fin 16) (h : parts.length = 16) : (s.placed parts dcs).lds[n].partSize = parts.getD n.val 0 ∧
    (s.placed parts dcs).lds[n].partBase = (parts.take n.val).sum := by
  have hbase := getD_basesFrom parts 0 n.val (n.isLt.trans_eq h.symm)
  rw [Nat.zero_add] at hbase
  simp [State.placed, ← hbase]

theorem State.placed_dc (k : Fin 8) (h : dcs.length = 8) : (s.placed parts dcs).lk.dcRegions[k].len = dcs.getD k.val 0 ∧
    (s.placed parts dcs).lk.dcRegions[k].base = parts.sum + (dcs.take k.val).sum := by
  have hbase := getD_basesFrom dcs parts.sum k.val (k.isLt.trans_eq h.symm)
  simp [State.placed, ← hbase]

end

/-! ### The commands -/

@[simp] theorem State.answer_lk (s : State) (r : Req) (op : Nat) (a : Ans) : (s.answer r op a).lk = s.lk := by
  obtain ⟨mb, lds, out, h⟩ := State.answer_touches s r op a
  rw [h]

/-- A DC region made sharable or not (R246). -/
def State.setSharable (s : State) (k : Fin 8) (share : Bool) : State :=
  { s with lk := { s.lk with dcRegions := vmod s.lk.dcRegions k fun d => { d with sharable := share } } }

theorem State.setSharable_sharable (s : State) (k : Fin 8) (share : Bool) : ((s.setSharable k share).lk.dcRegions[k]).sharable = share :=
  congrArg DcRegion.sharable (Vector.getElem_set_self ..)

section
variable {s : State} {r : Req}

section
variable {start : Nat} {units : List Nat} {parts : List Nat} (h : s.Taken r 0x5402 (some (4 + 16 * units.length))) (hfits : start + units.length ≤ 16)
  (hparts : parts = s.partSizes.take start ++ units.map (· * 2 ^ 28) ++ s.partSizes.drop (start + units.length))
include h hfits hparts

theorem exec_setLdAllocations_divides (hgood : s.divisionBad parts s.dcLens = false) :
    exec (.setLdAllocations r start units) s = .next ((s.divide parts s.dcLens).answer r 0x5402 okAns) := by
  subst hparts
  refine congrArg Host.Outcome.next (State.mbx_answers rfl h ?_)
  exact (if_neg (Nat.not_lt.2 hfits)).trans (if_neg (Bool.eq_false_iff.1 hgood))

theorem exec_setLdAllocations_refused (hbad : s.divisionBad parts s.dcLens = true) :
    exec (.setLdAllocations r start units) s = .next (s.answer r 0x5402 (badAns 0x000A)) := by
  subst hparts
  refine congrArg Host.Outcome.next (State.mbx_answers rfl h ?_)
  exact (if_neg (Nat.not_lt.2 hfits)).trans (if_pos hbad)

end

section
variable {k : Fin 8} {units : Nat} {share : Bool} (h : s.Taken r 0x5602 none)
include h

theorem exec_setDcRegionConfig_divides (hgood : s.divisionBad s.partSizes (s.dcLens.set k.val (units * 2 ^ 28)) = false) :
    exec (.setDcRegionConfig r k.val units share) s =
      .next (((s.divide s.partSizes (s.dcLens.set k.val (units * 2 ^ 28))).setSharable k share).answer r 0x5602 okAns) := by
  refine congrArg Host.Outcome.next (State.mbx_answers rfl h ?_)
  rw [dif_pos k.isLt]
  simp only [blk256, hgood, Bool.false_eq_true, if_false]
  rfl

theorem exec_setDcRegionConfig_refused (hbad : s.divisionBad s.partSizes (s.dcLens.set k.val (units * 2 ^ 28)) = true) :
    exec (.setDcRegionConfig r k.val units share) s = .next (s.answer r 0x5602 (badAns 0x000A)) := by
  refine congrArg Host.Outcome.next (State.mbx_answers rfl h ?_)
  exact (dif_pos k.isLt).trans (if_pos hbad)

end

end

/-- Settles O18: the division is refused or takes effect as a whole (`State.divisionBad`), and a piece's base is the sum of those before it
(`getD_basesFrom`). -/
theorem capacityIsDividedAsAsked : Obligations.CapacityIsDividedAsAsked := by
  unfold Obligations.CapacityIsDividedAsAsked
  refine ⟨fun s r start units h hfits => ⟨fun hgood => exec_setLdAllocations_divides h hfits rfl hgood,
      fun hbad => exec_setLdAllocations_refused h hfits rfl hbad⟩,
    fun s r k units share h => ⟨fun hgood => ⟨_, exec_setDcRegionConfig_divides h hgood, ?_, State.answer_emits ..⟩,
      fun hbad => exec_setDcRegionConfig_refused h hbad⟩,
    fun s parts dcs hparts hdcs hdisabled => ?_⟩
  · rw [State.answer_lk]
    exact State.setSharable_sharable ..
  · obtain ⟨kp, hdivide⟩ := State.divide_of_disabled parts dcs hdisabled
    rw [hdivide]
    exact ⟨fun n => State.placed_ld parts dcs n hparts, fun k => State.placed_dc parts dcs k hdcs⟩

end Sys2Proof.Machine
end

section
/-! PROOFS. Extents of dynamic capacity (10_cxl_interface.md R246, R247, R248). -/

namespace Sys2Proof.Machine

/-! ### An offer (R247) -/

/-- An extent offered to an LD that holds nothing of it yet. -/
def newOffer (n : Fin 16) (q : Range) (k : Fin 8) : Extent := ⟨q.base, q.len, k.val, [], [n], []⟩

/-- The state with other extents. -/
def State.withExtents (s : State) (l : List Extent) : State := { s with lk := { s.lk with extents := l } }

section
variable {s : State} {r : Req} {n : Fin 16}

/-- A range that meets no extent is offered as a new one. -/
theorem State.offer_apart {q : Range} (k : Fin 8) (hapart : ∀ e ∈ s.lk.extents, e.base + e.len ≤ q.base ∨ q.base + q.len ≤ e.base)
    (hroom : s.lk.extents.length < 4096) : s.offer n q k = some (s.withExtents (s.lk.extents ++ [newOffer n q k])) := by
  have hnear : (s.lk.extents.filter fun e => decide (e.base < q.base + q.len) && decide (q.base < e.base + e.len)) = [] := by
    refine List.filter_eq_nil_iff.2 fun e he => ?_
    have := hapart e he
    simp only [Bool.and_eq_true, decide_eq_true_eq]
    omega
  unfold State.offer
  extract_lets near
  rw [show near = [] from hnear]
  exact if_pos hroom

theorem exec_initiateDcAdd_offers {q : Range} {k : Fin 8} {t : State} (h : s.Taken r 0x5604 none) (hk : s.dcOf q = some k)
    (ht : s.offer n q k = some t) : exec (.initiateDcAdd r n.val q) s = .next (t.answer r 0x5604 okAns) := by
  refine congrArg Host.Outcome.next (State.mbx_answers rfl h ?_)
  rw [dif_pos n.isLt, hk]
  dsimp only
  rw [ht]

/-! ### The response (R247) -/

theorem exec_addDcResponse_accepts {len : Nat} {accept : List Range} (h : s.Taken ⟨.ld n, len⟩ 0x4802 (some (8 + 32 * accept.length)))
    (hoffered : accept.all (s.offered n) = true)
    (hfew : ((acceptExtents n accept s.lk.extents).filter fun e => e.holders.contains n).length ≤ 512) :
    exec (.addDcResponse ⟨.ld n, len⟩ accept) s =
      .next ((s.withExtents (acceptExtents n accept s.lk.extents)).answer ⟨.ld n, len⟩ 0x4802 okAns) := by
  refine congrArg Host.Outcome.next (State.mbx_answers rfl h ?_)
  exact (if_neg ((Bool.not_eq_false _).mpr hoffered)).trans (if_neg (Nat.not_lt.2 hfew))

/-! ### A release (R248) -/

/-- A release begins at once, and ends at once unless requests of the LD are still under way in the range: then the command waits. -/
theorem State.dcRelease_begins {q : Range} (c : Instr) (hnew : s.releasing n q = false) (hmay : s.mayRelease n q = true) :
    s.dcRelease c n [q] = if (s.releaseBegin n q).rangeBusy n q = true
      then (none, { s.releaseBegin n q with held := (s.releaseBegin n q).held ++ [c] })
      else (some okAns, (s.releaseBegin n q).releaseDone n q) := by
  simp [State.dcRelease, hnew, hmay]

/-- A command whose body is the release of a range: its answer follows the release, or waits with it. -/
theorem State.mbxLater_dcRelease {q : Range} {c : Instr} {op : Nat} {len : Option Nat} {body : State → Option Ans × State}
    (hc : request c = some (r, op)) (h : s.Taken r op len) (hbody : body s = s.dcRelease c n [q]) (hnew : s.releasing n q = false)
    (hmay : s.mayRelease n q = true) :
    s.mbxLater c len body = if (s.releaseBegin n q).rangeBusy n q = true
      then { s.releaseBegin n q with held := (s.releaseBegin n q).held ++ [c] }
      else ((s.releaseBegin n q).releaseDone n q).answer r op okAns := by
  have hbegun := hbody.trans (State.dcRelease_begins c hnew hmay)
  by_cases hbusy : (s.releaseBegin n q).rangeBusy n q = true
  · rw [if_pos hbusy]
    exact State.mbxLater_later hc h (hbegun.trans (if_pos hbusy))
  · rw [if_neg hbusy]
    exact State.mbxLater_answers hc h (hbegun.trans (if_neg hbusy))

/-- A release that is not forced only asks the host. -/
theorem exec_initiateDcRelease_asks {q : Range} (h : s.Taken r 0x5605 none) (hmay : s.mayRelease n q = true) :
    exec (.initiateDcRelease r n.val q false) s = .next (s.answer r 0x5605 okAns) := by
  refine congrArg Host.Outcome.next (State.mbxLater_answers rfl h ?_)
  rw [dif_pos n.isLt]
  exact if_pos hmay

theorem exec_initiateDcRelease_forces {q : Range} (h : s.Taken r 0x5605 none) (hnew : s.releasing n q = false) (hmay : s.mayRelease n q = true) :
    exec (.initiateDcRelease r n.val q true) s = .next (if (s.releaseBegin n q).rangeBusy n q = true
      then { s.releaseBegin n q with held := (s.releaseBegin n q).held ++ [.initiateDcRelease r n.val q true] }
      else ((s.releaseBegin n q).releaseDone n q).answer r 0x5605 okAns) := by
  refine congrArg Host.Outcome.next (State.mbxLater_dcRelease rfl h ?_ hnew hmay)
  exact dif_pos n.isLt

theorem exec_releaseDc_releases {len : Nat} {q : Range} (h : s.Taken ⟨.ld n, len⟩ 0x4803 (some 40)) (hnew : s.releasing n q = false)
    (hmay : s.mayRelease n q = true) :
    exec (.releaseDc ⟨.ld n, len⟩ [q]) s = .next (if (s.releaseBegin n q).rangeBusy n q = true
      then { s.releaseBegin n q with held := (s.releaseBegin n q).held ++ [.releaseDc ⟨.ld n, len⟩ [q]] }
      else ((s.releaseBegin n q).releaseDone n q).answer ⟨.ld n, len⟩ 0x4803 okAns) :=
  congrArg Host.Outcome.next (State.mbxLater_dcRelease rfl h rfl hnew hmay)

end

/-- Settles O19: an offer is a new extent that nobody holds (`State.offer_apart`), a response takes what it accepts, and a release has begun when its
command answers or waits (`State.dcRelease_begins`). -/
theorem extentsAreOfferedAcceptedAndReleased : Obligations.ExtentsAreOfferedAcceptedAndReleased := by
  unfold Obligations.ExtentsAreOfferedAcceptedAndReleased
  intro s r n
  refine ⟨fun q k h hk hapart hroom => exec_initiateDcAdd_offers h hk (State.offer_apart k hapart hroom), ?response, ?release,
    fun q h hmay => ⟨exec_initiateDcRelease_asks h hmay, fun hnew => exec_initiateDcRelease_forces h hnew hmay⟩⟩
  case response =>
    rintro len accept rfl h hoffered hfew
    exact exec_addDcResponse_accepts h hoffered hfew
  case release =>
    rintro len q rfl h hnew hmay
    exact exec_releaseDc_releases h hnew hmay

end Sys2Proof.Machine
end

section
/-! PROOFS. What a reset of a port, of a function or of an LD's CXL.mem clears (10_cxl_interface.md R258, Table 10-6): each step of a reset sets its own
part of the LD's scope, and leaves that of every other LD. -/

namespace Sys2Proof.Machine

open Sys2Proof.Laws

/-! ### The scope of a reset (Table 10-6) -/

/-- The registers of an LD that a reset can clear. -/
structure HostRegs where
  decoders : Vector Decoder 4
  cw : Cw
  bar0 : Tbl Nat
  resetting : Option Bool

/-- What a reset can clear of an LD: registers, the session on its mailbox, the stack of the sources it claimed. -/
structure ResetScope where
  regs : HostRegs
  session : Option Session
  stack : List (Nat × Nat)

def LD.hostRegs (l : LD) : HostRegs := ⟨l.decoders, l.cw, l.bar0, l.resetting⟩

def State.resetScope (s : State) (n : Fin 16) : ResetScope :=
  ⟨(s.ld n).hostRegs, (s.mb.inst[Inst.ix (.ld n)]).session, (s.nt.cl[whoOf n]).stack⟩

/-- The scope of an LD after a conventional or Hot Reset of its port. -/
def ResetScope.cleared : ResetScope := ⟨⟨.replicate 4 .init, .init, [], none⟩, none, []⟩

theorem LD.Notified.hostRegs {l m : LD} (h : l.Notified m) : m.hostRegs = l.hostRegs := by
  obtain ⟨_, _, rfl⟩ := h
  rfl

theorem whoOf_inj {n m : Fin 16} (h : whoOf n = whoOf m) : n = m := Fin.ext (congrArg (fun c : Fin 17 => c.val) h)

theorem Inst.ix_ld_inj {n m : Fin 16} (h : Inst.ix (.ld n) = Inst.ix (.ld m)) : n = m := Fin.ext (congrArg (fun c : Fin 18 => c.val) h)

/-! ### One update -/

section
variable {s t : State} {n m : Fin 16}

theorem State.resetScope_of_notifies (h : s.Notifies t) (hmb : t.mb = s.mb) (hcl : t.nt.cl = s.nt.cl) : t.resetScope m = s.resetScope m := by
  unfold State.resetScope
  rw [(h m).hostRegs, hmb, hcl]

/-- An update of an LD's registers. -/
theorem State.modLd_resetScope (f : LD → LD) : (s.modLd n f).resetScope n = { s.resetScope n with regs := (f (s.ld n)).hostRegs } := by
  unfold State.resetScope
  rw [modLd_ld]
  rfl

theorem State.modLd_resetScope_other (f : LD → LD) (h : n ≠ m) : (s.modLd n f).resetScope m = s.resetScope m := by
  unfold State.resetScope
  rw [modLd_ld_other _ _ _ _ h]
  rfl

theorem State.modLd_resetScope_of_keeps {f : LD → LD} (hf : ∀ l, (f l).hostRegs = l.hostRegs := by intros; rfl) :
    (s.modLd n f).resetScope m = s.resetScope m := by
  by_cases h : n = m
  · subst h
    rw [State.modLd_resetScope, hf]
    rfl
  · exact State.modLd_resetScope_other f h

theorem State.modScrub_resetScope (f : Scrub → Scrub) : (s.modScrub n f).resetScope m = s.resetScope m := State.modLd_resetScope_of_keeps

theorem State.modWin_resetScope (w : Fin 64) (f : Win → Win) : (s.modWin n w f).resetScope m = s.resetScope m := State.modLd_resetScope_of_keeps

theorem State.modMb_resetScope {i : Inst} {f : Mailbox → Mailbox} (hf : ∀ x, (f x).session = x.session := by intros; rfl) :
    (s.modMb i f).resetScope m = s.resetScope m := by
  have hsession : ((s.modMb i f).mb.inst[Inst.ix (.ld m)]).session = (s.mb.inst[Inst.ix (.ld m)]).session := by
    show ((vmod s.mb.inst (Inst.ix i) f)[Inst.ix (.ld m)]).session = _
    rw [vmod_get]
    split
    · exact hf _
    · rfl
  unfold State.resetScope
  rw [hsession]
  rfl

theorem State.endSession_resetScope (s : State) (n : Fin 16) : (s.endSession n).resetScope n = { s.resetScope n with session := none } := by
  unfold State.endSession State.resetScope
  rw [modMb_inst]
  rfl

theorem State.endSession_resetScope_other (h : n ≠ m) : (s.endSession n).resetScope m = s.resetScope m := by
  have hinst : (s.endSession n).mb.inst[Inst.ix (.ld m)] = s.mb.inst[Inst.ix (.ld m)] := by
    show (vmod s.mb.inst (Inst.ix (.ld n)) _)[Inst.ix (.ld m)] = _
    rw [vmod_get, if_neg fun heq => h (Inst.ix_ld_inj heq)]
  unfold State.resetScope
  rw [hinst]
  rfl

theorem State.modCl_resetScope (s : State) (n : Fin 16) (f : Claimant → Claimant) :
    (s.modCl (whoOf n) f).resetScope n = { s.resetScope n with stack := (f s.nt.cl[whoOf n]).stack } := by
  unfold State.resetScope
  rw [modCl_cl]
  rfl

theorem State.modCl_resetScope_other (f : Claimant → Claimant) (h : n ≠ m) : (s.modCl (whoOf n) f).resetScope m = s.resetScope m := by
  have hcl : (s.modCl (whoOf n) f).nt.cl[whoOf m] = s.nt.cl[whoOf m] := by
    show (vmod s.nt.cl (whoOf n) f)[whoOf m] = _
    rw [vmod_get, if_neg fun heq => h (whoOf_inj heq)]
  unfold State.resetScope
  rw [hcl]
  rfl

/-! ### Sources -/

theorem State.queueRec_cl (s : State) (k : Fin 256) (re : Bool) (e d : Nat) : (s.queueRec k re e d).nt.cl = s.nt.cl := by
  unfold State.queueRec
  extract_lets r
  split
  · rfl
  · rfl

theorem State.raise_cl (s : State) (k : Fin 256) (e d : Nat) : (s.raise k e d).nt.cl = s.nt.cl := by
  unfold State.raise
  extract_lets x
  split
  · rfl
  · split
    · rfl
    · exact State.queueRec_cl ..

theorem State.raise_resetScope (k : Fin 256) (e d : Nat) : (s.raise k e d).resetScope m = s.resetScope m := by
  have hmb : (s.raise k e d).mb = s.mb := State.raise_keeps State.mb ..
  exact State.resetScope_of_notifies (.of_lds (State.raise_lds ..)) hmb (State.raise_cl ..)

theorem State.release_resetScope (s : State) (k : Fin 256) (m : Fin 16) : (s.release k).resetScope m = s.resetScope m := by
  unfold State.release
  extract_lets x freed
  split
  · obtain ⟨_, hqueued⟩ := freed.queueRec_touches k true x.evseq x.detail
    have hlds : (freed.queueRec k true x.evseq x.detail).lds = s.lds := by rw [hqueued]; rfl
    have hmb : (freed.queueRec k true x.evseq x.detail).mb = s.mb := by rw [hqueued]; rfl
    exact State.resetScope_of_notifies (.of_lds hlds) hmb (freed.queueRec_cl ..)
  · rfl

theorem State.unwind_resetScope (s : State) (n : Fin 16) : (s.unwind (whoOf n)).resetScope n = { s.resetScope n with stack := [] } :=
  (foldl_keeps (fun t : State => t.resetScope n) (fun t k => t.release_resetScope k n) _ _).trans (s.modCl_resetScope n _)

theorem State.unwind_resetScope_other (h : n ≠ m) : (s.unwind (whoOf n)).resetScope m = s.resetScope m :=
  (foldl_keeps (fun t : State => t.resetScope m) (fun t k => t.release_resetScope k m) _ _).trans (State.modCl_resetScope_other _ h)

/-! ### Groups -/

theorem State.Allocs.mbNt (h : s.Allocs t) : (t.mb, t.nt) = (s.mb, s.nt) := by
  obtain ⟨_, _, _, _, _, _, _, rfl⟩ := h
  rfl

theorem State.kill_mbNt (s : State) (p : Place) : ((s.kill p).mb, (s.kill p).nt) = (s.mb, s.nt) := by
  unfold State.kill State.modEntry
  split
  · rfl
  · rfl

theorem State.tetherSend_mbNt (s : State) (k : Fin 8) (x : LodeMsg) : ((s.tetherSend k x).mb, (s.tetherSend k x).nt) = (s.mb, s.nt) := by
  unfold State.tetherSend
  split
  · rfl
  · rfl

theorem State.closeGroup_mbNt (s : State) (n : Fin 16) (w : Fin 64) (code : Nat) :
    ((s.closeGroup n w code).mb, (s.closeGroup n w code).nt) = (s.mb, s.nt) := by
  have hdropped : ((s.dropTents n w).mb, (s.dropTents n w).nt) = (s.mb, s.nt) :=
    foldl_keeps (fun t : State => (t.mb, t.nt)) (fun u (x : TentRec) => u.kill_mbNt x.place) _ s
  unfold State.closeGroup
  extract_lets dropped
  have hnumbered := (State.nextSeq_allocs dropped).mbNt.trans hdropped
  generalize dropped.nextSeq = numbered at hnumbered ⊢
  obtain ⟨q, t⟩ := numbered
  have hplaced := (t.allocMeta_allocs q false).mbNt.trans hnumbered
  dsimp only at hplaced ⊢
  generalize t.allocMeta q false = placed at hplaced ⊢
  obtain ⟨p, u⟩ := placed
  dsimp only
  split
  · exact (State.tetherSend_mbNt ..).trans hplaced
  · exact hplaced

theorem State.closeGroup_resetScope (s : State) (n : Fin 16) (w : Fin 64) (code : Nat) (m : Fin 16) :
    (s.closeGroup n w code).resetScope m = s.resetScope m := by
  have hmbNt := s.closeGroup_mbNt n w code
  obtain ⟨u, q, p, hdropped, hclosed⟩ := s.closeGroup_closes n w code
  rw [hclosed] at hmbNt ⊢
  obtain ⟨hmb, hnt⟩ := Prod.mk.inj hmbNt
  rw [State.modWin_resetScope]
  exact State.resetScope_of_notifies (.of_lds (State.lds_of_hostSide hdropped.host)) hmb (congrArg Nt.cl hnt)

theorem State.closeAll_resetScope (s : State) (n : Fin 16) (code : Nat) (m : Fin 16) : (s.closeAll n code).resetScope m = s.resetScope m := by
  refine foldl_keeps (fun t : State => t.resetScope m) (fun t w => ?_) _ s
  split
  · exact t.closeGroup_resetScope n w code m
  · rfl

/-! ### Scrubs and background commands -/

theorem State.mbxSignal_notifies (s : State) (i : Inst) (b : Nat) : s.Notifies (s.mbxSignal i b) := by
  unfold State.mbxSignal
  split
  · split
    · exact s.signal_notifies _ 0
    · exact .of_lds rfl
  · exact .of_lds rfl

theorem State.mbxSignal_resetScope (s : State) (i : Inst) (b : Nat) (m : Fin 16) : (s.mbxSignal i b).resetScope m = s.resetScope m :=
  State.resetScope_of_notifies (s.mbxSignal_notifies i b) (State.mbxSignal_keeps State.mb ..) (State.mbxSignal_keeps (fun t => t.nt.cl) ..)

theorem State.bgEnd_resetScope (s : State) (i : Inst) (code : Nat) (m : Fin 16) : (s.bgEnd i code).resetScope m = s.resetScope m := by
  unfold State.bgEnd
  split
  next b _ =>
    split
    · exact State.modMb_resetScope
    · exact (State.mbxSignal_resetScope ..).trans State.modMb_resetScope
  next => rfl

theorem State.scrubFinish_resetScope (s : State) (n : Fin 16) (flags : Nat) (m : Fin 16) : (s.scrubFinish n flags).resetScope m = s.resetScope m := by
  unfold State.scrubFinish
  extract_lets ended
  have hended : ended.resetScope m = s.resetScope m := State.modScrub_resetScope _
  split
  · exact (State.raise_resetScope ..).trans hended
  · exact hended

theorem State.scanStop_resetScope (s : State) (n : Fin 16) (flags code : Nat) (m : Fin 16) :
    (s.scanStop n flags code).resetScope m = s.resetScope m :=
  (State.bgEnd_resetScope ..).trans ((State.modScrub_resetScope _).trans (s.scrubFinish_resetScope n flags m))

/-! ### The steps of a reset -/

/-- A running scrub of an LD ends, with its background command where it is a Scan Media. -/
def State.stopScrub (s : State) (n : Fin 16) : State :=
  if (s.ld n).scrub.busy then
    if (s.ld n).scrub.scan then s.scanStop n (scrubFlags false true false false) 0x0012
    else s.scrubFinish n (scrubFlags false true false (s.ld n).scrub.counts.skipped)
  else s

theorem State.stopScrub_resetScope (s : State) (n m : Fin 16) : (s.stopScrub n).resetScope m = s.resetScope m := by
  unfold State.stopScrub
  split
  · split
    · exact State.scanStop_resetScope ..
    · exact State.scrubFinish_resetScope ..
  · rfl

theorem State.clearLeases_resetScope (s : State) (n m : Fin 16) : (s.clearLeases n).resetScope m = s.resetScope m := rfl

/-- The LD's own BAR2 registers are reset: of its scope, the windows are off and the stack is empty; another LD's stands. -/
theorem State.resetBar2_resetScope_eq (s : State) (n m : Fin 16) : (s.resetBar2 n).resetScope m =
    if n = m then { s.resetScope m with regs.cw := .init, stack := [] } else s.resetScope m := by
  unfold State.resetBar2
  extract_lets unwound _ unqueued unmasked closed cleared stopped
  have hcleared : cleared.resetScope m = closed.resetScope m := closed.clearLeases_resetScope n m
  have hstopped : stopped.resetScope m = cleared.resetScope m := cleared.stopScrub_resetScope n m
  have hclosedAll : (unmasked.closeAll n 8).resetScope m = unmasked.resetScope m := unmasked.closeAll_resetScope n 8 m
  refine (State.modScrub_resetScope _).trans (hstopped.trans (hcleared.trans ?_))
  split
  next h =>
    subst h
    have hunwound : unwound.resetScope n = { s.resetScope n with stack := [] } := s.unwind_resetScope n
    have hunmasked : unmasked.resetScope n = unwound.resetScope n := State.modCl_resetScope ..
    have hclosed : closed.resetScope n = { (unmasked.closeAll n 8).resetScope n with regs.cw := .init } := State.modLd_resetScope _
    rw [hclosed, hclosedAll, hunmasked, hunwound]
  next h =>
    have hunwound : unwound.resetScope m = s.resetScope m := State.unwind_resetScope_other h
    have hunmasked : unmasked.resetScope m = unwound.resetScope m := State.modCl_resetScope_other _ h
    exact (State.modLd_resetScope_other _ h).trans (hclosedAll.trans (hunmasked.trans hunwound))

theorem State.resetBar2_resetScope (s : State) (n : Fin 16) :
    (s.resetBar2 n).resetScope n = { s.resetScope n with regs.cw := .init, stack := [] } :=
  (s.resetBar2_resetScope_eq n n).trans (if_pos rfl)

theorem State.resetBar2_resetScope_other (h : n ≠ m) : (s.resetBar2 n).resetScope m = s.resetScope m :=
  (s.resetBar2_resetScope_eq n m).trans (if_neg h)

theorem State.resetFunction_resetScope_other (h : n ≠ m) : (s.resetFunction n).resetScope m = s.resetScope m :=
  (State.modMb_resetScope).trans (State.modLd_resetScope_other _ h)

/-- The registers that are reset before the windows. -/
def State.resetRegisters (s : State) (n : Fin 16) : State :=
  ((s.resetFunction n).resetDecoders n).modLd n fun l => { l with bar0 := [], resetting := none }

theorem State.resetRegisters_regs (s : State) (n : Fin 16) :
    ((s.resetRegisters n).resetScope n).regs = ⟨.replicate 4 .init, (s.ld n).cw, [], none⟩ := by
  unfold State.resetRegisters State.resetDecoders
  rw [State.modLd_resetScope, modLd_ld]
  have hcw : ((s.resetFunction n).ld n).cw = (s.ld n).cw := by
    show ((s.modLd n _).ld n).cw = _
    rw [modLd_ld]
  rw [← hcw]
  rfl

theorem State.resetLd_resetScope (s : State) (n : Fin 16) : (s.resetLd n).resetScope n = .cleared := by
  have hregs := s.resetRegisters_regs n
  refine (State.endSession_resetScope ..).trans ?_
  rw [State.resetBar2_resetScope]
  show ResetScope.mk { ((s.resetRegisters n).resetScope n).regs with cw := .init } none [] = _
  rw [hregs]
  rfl

theorem State.resetLd_resetScope_other (h : n ≠ m) : (s.resetLd n).resetScope m = s.resetScope m :=
  (State.endSession_resetScope_other h).trans ((State.resetBar2_resetScope_other h).trans ((State.modLd_resetScope_other _ h).trans
    ((State.modLd_resetScope_other _ h).trans (State.resetFunction_resetScope_other h))))

end

end Sys2Proof.Machine
end

section
/-! PROOFS. The resets themselves (10_cxl_interface.md R258, Table 10-6): of a port, of a function, of an LD's CXL.mem, and what follows when the last of
these completes. -/

namespace Sys2Proof.Machine

open Sys2Proof.Laws

/-! ### Resets of a port -/

/-- What the turn of one element sets, and the turns of the others leave, stands after all of them. -/
theorem foldl_sets {α β : Type} (view : State → β) {x : β} {f : State → α → State} {a : α} (hset : ∀ s, view (f s a) = x)
    (hkeep : ∀ s b, b ≠ a → view (f s b) = view s) (l : List α) (s : State) (h : view s = x ∨ a ∈ l) : view (l.foldl f s) = x := by
  induction l generalizing s with
  | nil => exact h.resolve_right List.not_mem_nil
  | cons b l ih =>
    refine ih _ ?_
    by_cases hb : b = a
    · exact .inl (hb ▸ hset s)
    · rcases h with hx | ha
      · exact .inl ((hkeep s b hb).trans hx)
      · exact .inr ((List.mem_cons.1 ha).resolve_left (Ne.symm hb))

/-- The frozen security state of an LD ends (R282). -/
def State.thaw (s : State) (n : Fin 16) : State := s.modLd n fun l => { l with pass := { l.pass with frozen := false } }

theorem State.thaw_frozen (s : State) (n : Fin 16) : ((s.thaw n).ld n).pass.frozen = false :=
  congrArg (fun l : LD => l.pass.frozen) (modLd_ld ..)

theorem State.thaw_frozen_other (s : State) {n m : Fin 16} (h : n ≠ m) : ((s.thaw n).ld m).pass.frozen = (s.ld m).pass.frozen :=
  congrArg (fun l : LD => l.pass.frozen) (modLd_ld_other _ _ _ _ h)

theorem State.mem_portLds {s : State} {p : Fin 2} {n : Fin 16} (h : s.portOf n = p) : n ∈ s.portLds p :=
  List.mem_filter.2 ⟨List.mem_finRange n, decide_eq_true h⟩

theorem State.portLds_of_pw {s t : State} (h : t.pw = s.pw) (p : Fin 2) : t.portLds p = s.portLds p := by
  unfold State.portLds State.portOf
  rw [h]

theorem State.dropTraffic_pw (s : State) (p : Fin 2) : (s.dropTraffic p).pw = s.pw := by
  unfold State.dropTraffic
  extract_lets mine cut gone freed recs ahead read mapped
  exact foldl_keeps State.pw (f := fun t c => t.readAdd c false) (fun _ _ => rfl) (freed ++ ahead) s

section
variable {s : State} {p : Fin 2} {mode : PortMode} {perst : Bool}

theorem State.resetPort_resetScope {n : Fin 16} (h : s.portOf n = p) : (s.resetPort p mode perst).resetScope n = .cleared := by
  unfold State.resetPort
  extract_lets dropped reset
  have hlds : dropped.portLds p = s.portLds p := State.portLds_of_pw (s.dropTraffic_pw p) p
  have hmem : n ∈ dropped.portLds p := hlds ▸ State.mem_portLds h
  exact foldl_sets (fun t : State => t.resetScope n) (fun t => t.resetLd_resetScope n) (fun t m hm => t.resetLd_resetScope_other hm) _ dropped (.inr hmem)

theorem State.resetPort_port : ((s.resetPort p mode perst).lk.ports[p]).mode = mode ∧ ((s.resetPort p mode perst).lk.ports[p]).lost = 0 ∧
    ((s.resetPort p mode perst).lk.ports[p]).ide = ⟨none, none, none, none⟩ := by
  unfold State.resetPort
  extract_lets dropped reset
  rw [modPort_port]
  exact ⟨rfl, rfl, rfl⟩

variable (hup : s.pw.dieUp = true) (hthere : s.portThere p = true)
include hup hthere

theorem exec_hotReset : exec (.hotReset p) s = .next (s.resetPort p .training false) := if_pos ⟨hup, hthere⟩

theorem exec_conventionalReset : exec (.conventionalReset p) s = .next ((s.portLds p).foldl State.thaw (s.resetPort p .down true)) :=
  if_pos ⟨hup, hthere⟩

end

section
variable (l : List (Fin 16)) (s : State)

theorem foldl_thaw_lk : (l.foldl State.thaw s).lk = s.lk := foldl_keeps State.lk (f := State.thaw) (fun _ _ => rfl) l s

theorem foldl_thaw_resetScope (n : Fin 16) : (l.foldl State.thaw s).resetScope n = s.resetScope n :=
  foldl_keeps (fun t : State => t.resetScope n) (fun _ _ => State.modLd_resetScope_of_keeps) l s

theorem foldl_thaw_frozen {n : Fin 16} (h : n ∈ l) : ((l.foldl State.thaw s).ld n).pass.frozen = false :=
  foldl_sets (fun t : State => (t.ld n).pass.frozen) (fun t => t.thaw_frozen n) (fun t _ hm => t.thaw_frozen_other hm) l s (.inr h)

end

/-- What a cleared scope says of the LD. -/
theorem State.parts_of_cleared {s : State} {n : Fin 16} (h : s.resetScope n = .cleared) : s.lds[n].decoders = .replicate 4 .init ∧
    s.lds[n].cw = .init ∧ s.lds[n].bar0 = [] ∧ s.lds[n].resetting = none ∧ (s.mb.inst[Inst.ix (.ld n)]).session = none ∧
    s.nt.cl[whoOf n].stack = [] :=
  ⟨congrArg (fun x => x.regs.decoders) h, congrArg (fun x => x.regs.cw) h, congrArg (fun x => x.regs.bar0) h,
    congrArg (fun x => x.regs.resetting) h, congrArg ResetScope.session h, congrArg ResetScope.stack h⟩

/-! ### FLR and CXL Reset -/

theorem exec_flr_resets {s : State} (n : Fin 16) (hup : s.pw.dieUp = true) : ∃ t : State, exec (.flr n) s = .next t ∧
    (t.mb.inst[Inst.ix (.ld n)]).session = none ∧ t.ld n = { s.ld n with
      vecMasked := .replicate 4 true, vecPending := .replicate 4 false, bar0 := (s.ld n).bar0.filter fun x => !(decide (0x11000 ≤ x.1)) } ∧
    t.wp.index = s.wp.index ∧ t.rp = s.rp :=
  ⟨_, if_pos hup, congrArg ResetScope.session (State.endSession_resetScope ..), modLd_ld .., rfl, rfl⟩

theorem exec_cxlReset_resets {s : State} {n : Fin 16} (clr : Bool) (hup : s.pw.dieUp = true) (hidle : s.lds[n].resetting = none) :
    ∃ t : State, exec (.cxlReset n clr) s = .next t ∧
      t.resetScope n = ⟨⟨.replicate 4 .init, .init, (s.ld n).bar0, some clr⟩, none, []⟩ := by
  refine ⟨_, if_pos ⟨hup, hidle⟩, ?_⟩
  have hdecoders : (s.resetDecoders n).resetScope n = { s.resetScope n with regs.decoders := .replicate 4 .init } := State.modLd_resetScope _
  have hended : (((s.resetDecoders n).resetBar2 n).endSession n).resetScope n = ⟨⟨.replicate 4 .init, .init, (s.ld n).bar0, none⟩, none, []⟩ := by
    rw [State.endSession_resetScope, State.resetBar2_resetScope, hdecoders]
    show ResetScope.mk ⟨_, _, _, s.lds[n].resetting⟩ _ _ = _
    rw [hidle]
    rfl
  generalize ((s.resetDecoders n).resetBar2 n).endSession n = ended at hended ⊢
  have hset : (ended.modLd n fun l => { l with resetting := some clr }).resetScope n = { ended.resetScope n with regs.resetting := some clr } :=
    State.modLd_resetScope _
  rw [hset, hended]

end Sys2Proof.Machine
end

section
/-! PROOFS. The end of a CXL Reset (10_cxl_interface.md R258): requests go on. Writes and reads that leave the receive buffers change no Shallows entry,
and no LD's reset. -/

namespace Sys2Proof.Machine

open Sys2Proof.Laws

/-! ### Reads that leave the receive buffer -/

section
variable (s : State)

theorem State.issuePrefetch_lds (n : Fin 16) (line : Nat) : (s.issuePrefetch n line).lds = s.lds := s.pmCount_lds 0x010 ⟨some n.val, none, none⟩

theorem State.queuePrefetch_lds (n : Fin 16) (line : Nat) : (s.queuePrefetch n line).lds = s.lds := by
  unfold State.queuePrefetch
  extract_lets q
  split
  · exact State.pmCount_lds ..
  · rfl

theorem State.runPrefetch_lds : s.runPrefetch.lds = s.lds := by
  unfold State.runPrefetch
  refine foldl_keeps State.lds (fun t x => ?_) _ _
  split
  · rfl
  · split
    · exact State.issuePrefetch_lds ..
    · rfl

theorem State.detect_lds (n : Fin 16) (line : Nat) : (s.detect n line).lds = s.lds := by
  unfold State.detect
  dsimp only
  split
  · split
    · rfl
    · refine (State.runPrefetch_lds _).trans (foldl_keeps State.lds (fun t l => ?_) _ _)
      split
      · exact t.queuePrefetch_lds n l
      · rfl
  · split
    · rfl
    · rfl

end

/-! ### What the receive buffers leave as it is -/

/-- The reset of an LD under way, and the Shallows entries. -/
def State.resumeView (n : Fin 16) (s : State) : Option Bool × Tbl Entry := ((s.ld n).resetting, s.wp.entries)

theorem State.resumeView_of_notifies {s t : State} {n : Fin 16} (h : s.Notifies t) (hentries : t.wp.entries = s.wp.entries) :
    t.resumeView n = s.resumeView n := by
  obtain ⟨_, _, hld⟩ := h n
  unfold State.resumeView
  rw [hld, hentries]

theorem State.modLd_resumeView {s : State} {m n : Fin 16} {f : LD → LD} (hf : ∀ l, (f l).resetting = l.resetting := by intros; rfl) :
    (s.modLd m f).resumeView n = s.resumeView n := by
  unfold State.resumeView
  by_cases h : m = n
  · subst h
    rw [modLd_ld, hf]
    rfl
  · rw [modLd_ld_other _ _ _ _ h]
    rfl

theorem State.complete_resumeView (s : State) (w : Write) (n : Fin 16) : (s.complete w).resumeView n = s.resumeView n := by
  unfold State.complete
  split
  · rfl
  · rfl

theorem State.stage1Write_resumeView (s : State) (r : RxReq) (n : Fin 16) : (s.stage1Write r).resumeView n = s.resumeView n := by
  cases hres : s.resolve r.ld r.addr with
  | none =>
    obtain ⟨t, hone, _, _, _, _, _, ht⟩ := State.stage1Write_unallocated hres
    have hnumbered : t.resumeView n = s.resumeView n := by rw [ht]; rfl
    rw [hone, State.complete_resumeView, ← hnumbered]
    exact State.resumeView_of_notifies (t.violate_notifies _ _ _) (by rw [State.violate_wp])
  | some found =>
    obtain ⟨_, _, _, _, _, hone⟩ := State.stage1Write_allocated hres
    rw [hone]
    exact State.modLd_resumeView

theorem State.drainWrites_resumeView (s : State) (n : Fin 16) : s.drainWrites.resumeView n = s.resumeView n := by
  unfold State.drainWrites
  refine foldl_keeps (State.resumeView n) (fun t r => ?_) s.wp.rx _
  split
  · exact t.stage1Write_resumeView r n
  · rfl

theorem State.stage1Read_resumeView (s : State) (r : RxReq) (n : Fin 16) : (s.stage1Read r).resumeView n = s.resumeView n := by
  obtain ⟨t, hcounted, _, _, _, _, _, ht⟩ := s.stage1Read_counts r.ld
  have hlds : t.lds = s.lds := by rw [ht]
  have hviolated := t.violate_notifies (whoOf r.ld) 5 (t.addrNum r.ld r.addr)
  have hres : t.resolve r.ld r.addr = s.resolve r.ld r.addr := by rw [ht]; rfl
  cases hfound : s.resolve r.ld r.addr with
  | none =>
    have hwp := (State.stage1Read_unallocated hfound).2.2.2
    refine State.resumeView_of_notifies ((State.Notifies.of_lds hlds).trans (hviolated.trans (.of_lds ?_))) (congrArg Wp.entries hwp)
    unfold State.stage1Read
    simp only [hcounted, hres, hfound]
    exact State.pmCount_lds ..
  | some found =>
    obtain ⟨line, win⟩ := found
    have hwp := (State.stage1Read_allocated hfound).1
    refine State.resumeView_of_notifies (.of_lds (Eq.trans ?_ hlds)) (congrArg Wp.entries hwp)
    rw [State.stage1Read_enters hcounted (hres.trans hfound)]
    extract_lets entered queued
    have hqueued : queued.lds = t.lds := by
      unfold queued
      split
      · rfl
      · rfl
    split
    · exact (State.detect_lds ..).trans hqueued
    · exact hqueued

theorem State.drainReads_resumeView (s : State) (n : Fin 16) : s.drainReads.resumeView n = s.resumeView n := by
  unfold State.drainReads
  refine foldl_keeps (State.resumeView n) (fun t r => ?_) s.rp.rx _
  split
  · exact t.stage1Read_resumeView r n
  · rfl

theorem State.judgeMarks_resumeView (s : State) (n : Fin 16) : s.judgeMarks.resumeView n = s.resumeView n :=
  State.resumeView_of_notifies s.judgeMarks_notifies (by rw [State.judgeMarks_wp])

/-! ### CXL_RESET_COMPLETE -/

section
variable {s : State} {n : Fin 16}

theorem exec_cxlResetComplete_ends (hreset : s.lds[n].resetting = some false) (hidle : s.ldBusy n = false) :
    exec (.cxlResetComplete n) s = .next (s.modLd n fun l => { l with resetting := none }).judgeMarks.drainWrites.drainReads := by
  have hreset : (s.ld n).resetting = some false := hreset
  show execCxlResetComplete n s = _
  unfold execCxlResetComplete
  rw [hreset]
  exact if_neg (by rw [hidle]; exact Bool.false_ne_true)

theorem exec_cxlResetComplete_resumes (hreset : s.lds[n].resetting = some false) (hidle : s.ldBusy n = false) : ∃ t : State,
    exec (.cxlResetComplete n) s = .next t ∧ t.lds[n].resetting = none ∧ t.wp.entries = s.wp.entries := by
  refine ⟨_, exec_cxlResetComplete_ends hreset hidle, ?_⟩
  have hended : (s.modLd n fun l => { l with resetting := none }).resumeView n = (none, s.wp.entries) := by
    unfold State.resumeView
    rw [modLd_ld]
    rfl
  generalize (s.modLd n fun l => { l with resetting := none }) = ended at hended ⊢
  have hview := (ended.judgeMarks.drainWrites.drainReads_resumeView n).trans
    ((ended.judgeMarks.drainWrites_resumeView n).trans ((ended.judgeMarks_resumeView n).trans hended))
  exact Prod.mk.inj hview

/-- Without a reset under way, or with a request of the LD still under way, nothing happens. -/
theorem exec_cxlResetComplete_waits (h : s.lds[n].resetting = none ∨ s.ldBusy n = true) : exec (.cxlResetComplete n) s = .next s := by
  show execCxlResetComplete n s = _
  unfold execCxlResetComplete
  split
  next => rfl
  next clr hreset =>
    have hreset : s.lds[n].resetting = some clr := hreset
    have hbusy := h.resolve_left (by rw [hreset]; exact Option.some_ne_none clr)
    exact if_pos hbusy

end

end Sys2Proof.Machine
end

section
/-! PROOFS. HDM decoders, GPF and what a port, the bus or a BAR answers at once (10_cxl_interface.md R245, R257, R259, R262; 02_persistence_contract.md R39;
20_electrical_and_package.md R452; 12_notifications_events_counters.md R292), and the statement about resets. -/

namespace Sys2Proof.Machine

open Sys2Proof.Laws

/-! ### HDM_DECODER_COMMIT (R245) -/

section
variable (s : State) (n : Fin 16) (d : Fin 4) (c : DecoderCfg)

/-- The decoders of an LD with one of them committed. -/
def State.tryDecoders : Vector Decoder 4 := (s.ld n).decoders.set d ⟨c, true, false⟩

/-- The DPA base that one of them would have. -/
def State.tryBase (i : Fin 4) : Nat := (decBases 0 (s.tryDecoders n d c).toList).getD i.val 0

/-- The end of the range that the decoder would cover. -/
def State.tryTop : Nat := s.tryBase n d c d + Decoder.span ⟨c, true, false⟩

/-- Whether that range meets the range of another committed decoder. -/
def State.TryMeets : Prop := ∃ i : Fin 4, i ≠ d ∧ ((s.tryDecoders n d c)[i]).committed = true ∧ s.tryBase n d c i < s.tryTop n d c ∧
  s.tryBase n d c d < s.tryBase n d c i + ((s.tryDecoders n d c)[i]).span

/-- What makes a commit fail: the decoder is not supported, its range is beyond the limit, or it meets another. -/
def State.DecoderFails : Prop := decoderFits c = false ∨ 0xC00000000000 < s.tryTop n d c ∨ s.TryMeets n d c

end

section
variable {s : State} {n : Fin 16} {d : Fin 4} {c : DecoderCfg}

theorem State.tryMeets_iff : ((allFin 4).any fun i => i ≠ d && ((s.tryDecoders n d c)[i]).committed && decide (s.tryBase n d c i < s.tryTop n d c) &&
    decide (s.tryBase n d c d < s.tryBase n d c i + ((s.tryDecoders n d c)[i]).span)) = true ↔ s.TryMeets n d c := by
  simp only [List.any_eq_true, Bool.and_eq_true, decide_eq_true_eq, State.TryMeets, and_assoc]
  exact ⟨fun ⟨i, _, h⟩ => ⟨i, h⟩, fun ⟨i, h⟩ => ⟨i, List.mem_finRange i, h⟩⟩

theorem State.commitDecoder_of_committed (h : ((s.ld n).decoders[d]).committed = true) : s.commitDecoder n d c = s := if_pos h

variable (hfree : ((s.ld n).decoders[d]).committed = false)
include hfree

theorem State.commitDecoder_of_fits (h : ¬s.DecoderFails n d c) :
    s.commitDecoder n d c = s.modLd n fun l => { l with decoders := s.tryDecoders n d c } := by
  refine (if_neg (by rw [hfree]; exact Bool.false_ne_true)).trans (if_neg fun hfails => h ?_)
  exact hfails.imp_right (Or.imp_right State.tryMeets_iff.1)

theorem State.commitDecoder_of_fails (h : s.DecoderFails n d c) :
    s.commitDecoder n d c = s.modLd n fun l => { l with decoders := l.decoders.set d ⟨c, false, true⟩ } := by
  refine (if_neg (by rw [hfree]; exact Bool.false_ne_true)).trans (if_pos ?_)
  exact h.imp_right (Or.imp_right State.tryMeets_iff.2)

end

section
variable {s : State} {n : Fin 16} (hreach : s.Reaches (whoOf n))
include hreach

theorem exec_hdmDecoderCommit (d : Fin 4) (c : DecoderCfg) : exec (.hdmDecoderCommit n d c) s = .next (s.commitDecoder n d c) :=
  congrArg Host.Outcome.next (State.io_of_reaches hreach _ _)

/-! ### REGISTER_WRITE (R3 to R5, R259, R292) -/

theorem exec_registerWrite_bar2 {off : Nat} (w v : Nat) (hoff : off < 0x1000000) :
    exec (.registerWrite n 2 off w v) s = .next (s.wrBar2 n off w v) :=
  congrArg Host.Outcome.next ((State.io_of_reaches hreach _ _).trans (if_pos ⟨rfl, hoff⟩))

theorem exec_registerWrite_no_bar {bar : Nat} (off w v : Nat) (h0 : bar ≠ 0) (h2 : bar ≠ 2) :
    exec (.registerWrite n bar off w v) s = .next { s with lk := { s.lk with aerNonfatal := true } } :=
  congrArg Host.Outcome.next ((State.io_of_reaches hreach _ _).trans ((if_neg fun h => h2 h.1).trans (if_neg fun h => h0 h.1)))

end

/-- The offsets from 0x500000 to the scratchpad's are reserved. -/
theorem State.wrBar2_reserved {off : Nat} (s : State) (n : Fin 16) (w v : Nat) (hlow : 0x500000 ≤ off) (hhigh : off < 0x800000) :
    s.wrBar2 n off w v = s.violate (whoOf n) 4 off := by
  unfold State.wrBar2
  extract_lets who
  rw [if_neg (by omega), if_neg (by omega), if_neg (by omega), if_neg (by omega), if_neg (by omega), if_pos hhigh]

theorem State.wrNotifAny_mask (s : State) (who : Fin 17) (k : Fin 8) (v : Nat) : s.wrNotifAny who (0x40 + 4 * k.val) 4 v =
    some (s.modCl who fun x => { x with mask := setMask x.mask k.val (v % 2 ^ 32) }) := by
  have hk := k.isLt
  have hword : (0x40 + 4 * k.val) / 4 * 4 = 0x40 + 4 * k.val := by omega
  have hindex : (0x40 + 4 * k.val - 0x40) / 4 = k.val := by omega
  unfold State.wrNotifAny State.wr32
  rw [if_neg (by omega), if_pos (by omega), hword, hindex, if_pos ⟨rfl, rfl⟩]

theorem State.wrBar2_mask (s : State) (n : Fin 16) (k : Fin 8) (v : Nat) : s.wrBar2 n (0x40 + 4 * k.val) 4 v =
    s.modCl (whoOf n) fun x => { x with mask := setMask x.mask k.val (v % 2 ^ 32) } := by
  have hk := k.isLt
  unfold State.wrBar2
  extract_lets who
  rw [if_pos (by omega)]
  unfold State.wrNotif
  extract_lets
  rw [State.wrNotifAny_mask]

/-! ### GPF (R39, R257) -/

/-- A fold that lets one output leave for each element ends with the last element's. -/
theorem foldl_emit_append {α : Type} (f : α → Output) (l : List α) (x : α) (s : State) :
    ((l ++ [x]).foldl (fun (t : State) g => t.emit (f g)) s).out.head? = some (f x) := by
  rw [List.foldl_append]
  rfl

theorem foldl_emit_lk {α : Type} (f : α → Output) (l : List α) (s : State) : (l.foldl (fun (t : State) g => t.emit (f g)) s).lk = s.lk :=
  foldl_keeps State.lk (f := fun t g => t.emit (f g)) (fun _ _ => rfl) l s

theorem foldl_emit_wp {α : Type} (f : α → Output) (l : List α) (s : State) : (l.foldl (fun (t : State) g => t.emit (f g)) s).wp = s.wp :=
  foldl_keeps State.wp (f := fun t g => t.emit (f g)) (fun _ _ => rfl) l s

/-- A Phase 2 enters the ones that wait. -/
def State.gpfEnter (t : State) (p : Fin 2) : State := { t with lk := { t.lk with gpf := t.lk.gpf ++ [t.gpfLeft p] } }

theorem State.gpfEnds_wp (s : State) : s.gpfEnds.wp = s.wp := foldl_emit_wp _ _ _

section
variable (t : State) (p : Fin 2)

/-- A Phase 2 that waits for nothing is reported last. -/
theorem State.gpfEnds_reports (h : (t.gpfEnter p).gpfOver (t.gpfLeft p) = true) : (t.gpfEnter p).gpfEnds.out.head? = some (.gpf p 2) := by
  have hover : (t.gpfEnter p).lk.gpf.filter (t.gpfEnter p).gpfOver = t.lk.gpf.filter (t.gpfEnter p).gpfOver ++ [t.gpfLeft p] := by
    show (t.lk.gpf ++ [t.gpfLeft p]).filter _ = _
    rw [List.filter_append, List.filter_cons_of_pos h, List.filter_nil]
  unfold State.gpfEnds
  extract_lets _ left
  rw [hover]
  exact foldl_emit_append (fun g : GpfWait => .gpf g.port 2) _ _ _

/-- One that waits for something waits on. -/
theorem State.gpfEnds_waits (h : (t.gpfEnter p).gpfOver (t.gpfLeft p) = false) : ∃ g ∈ (t.gpfEnter p).gpfEnds.lk.gpf, g.port = p := by
  refine ⟨t.gpfLeft p, ?_, rfl⟩
  unfold State.gpfEnds
  extract_lets _ left
  rw [foldl_emit_lk]
  refine List.mem_filter.2 ⟨List.mem_append_right _ List.mem_cons_self, ?_⟩
  rw [h]
  rfl

end

/-- The state in which a Phase 2 is judged: everything carried as far as it goes. -/
def State.gpfCarried (s : State) : State := (s.carryAll.returnAll s.carryAll.wp.cplQ.length).commitDue.judgeMarks

section
variable {s : State} (p : Fin 2) (hpath : s.pw.dataPath = true)
include hpath

theorem execGpfPhase2Request_eq : execGpfPhase2Request p s = s.done (s.gpfCarried.gpfEnter p).gpfEnds := by
  unfold execGpfPhase2Request
  rw [if_pos hpath]
  extract_lets carried settled
  have hsettled : settled = s.gpfCarried := rfl
  clear_value settled
  rw [← hsettled]
  rfl

theorem exec_gpfPhase2Request : ∃ t : State, exec (.gpfPhase2Request p) s = .next t ∧ t.out = (s.gpfCarried.gpfEnter p).gpfEnds.out ∧
    t.lk = (s.gpfCarried.gpfEnter p).gpfEnds.lk ∧ t.wp = (s.gpfCarried.gpfEnter p).gpfEnds.wp := by
  obtain ⟨t, hdone, hkept⟩ := State.done_answers (fun t => (t.out, t.lk, t.wp)) s (s.gpfCarried.gpfEnter p).gpfEnds
  have hexec : exec (.gpfPhase2Request p) s = execGpfPhase2Request p s := rfl
  simp only [Prod.mk.injEq] at hkept
  exact ⟨t, hexec.trans ((execGpfPhase2Request_eq p hpath).trans hdone), hkept⟩

theorem exec_gpfPhase2Request_reports_or_waits : ∃ t : State, exec (.gpfPhase2Request p) s = .next t ∧
    (t.out.head? = some (.gpf p 2) ∨ ∃ g ∈ t.lk.gpf, g.port = p) := by
  obtain ⟨t, hexec, hout, hlk, _⟩ := exec_gpfPhase2Request p hpath
  refine ⟨t, hexec, ?_⟩
  rw [hout, hlk]
  cases h : (s.gpfCarried.gpfEnter p).gpfOver (s.gpfCarried.gpfLeft p) with
  | true => exact .inl (State.gpfEnds_reports _ p h)
  | false => exact .inr (State.gpfEnds_waits _ p h)

end

/-! ### Nothing past admission is left -/

section
variable {s : State}

theorem foldl_of_nil {α : Type} {f : State → α → State} {l : List α} (h : l = []) : l.foldl f s = s := by
  rw [h]
  rfl

theorem State.runEnc_of_empty (h : s.wp.encQ = []) : s.runEnc = s :=
  (foldl_of_nil h).trans (by rw [← h])

theorem State.toIndex_of_empty (h : s.wp.progs = []) : s.toIndex = s :=
  (foldl_of_nil h).trans (by rw [← h])

theorem State.carryOnce_of_idle (h : s.inflight = []) : s.carryOnce = s := by
  simp only [State.inflight, List.append_eq_nil_iff] at h
  obtain ⟨⟨⟨⟨⟨hmerge, henc⟩, halloc⟩, hprogs⟩, hidx⟩, _⟩ := h
  have hnoAlloc : ({ s with wp := { s.wp with allocQ := [] } } : State) = s := by rw [← halloc]
  have hnoIdx : ({ s with wp := { s.wp with idxQ := [] } } : State) = s := by rw [← hidx]
  unfold State.carryOnce
  extract_lets merged encrypted _ placed programmed indexed
  have hmerged : merged = s := foldl_of_nil hmerge
  have hencrypted : encrypted = s := (congrArg State.runEnc hmerged).trans (State.runEnc_of_empty henc)
  have hplaced : placed = s := by
    unfold placed
    clear_value encrypted
    subst hencrypted
    exact (foldl_of_nil halloc).trans hnoAlloc
  have hprogrammed : programmed = s := by
    unfold programmed
    rw [hplaced]
    exact foldl_of_nil hprogs
  have hindexed : indexed = s := (congrArg State.toIndex hprogrammed).trans (State.toIndex_of_empty hprogs)
  clear_value indexed
  subst hindexed
  exact (foldl_of_nil hidx).trans hnoIdx

theorem State.carryAll_of_idle (h : s.inflight = []) : s.carryAll = s := by
  unfold State.carryAll
  rw [h]
  exact State.carryOnce_of_idle h

theorem State.commitDue_of_idle (h : ∀ (n : Fin 16) (w : Fin 64), (s.win n w).recIssued = false) : s.commitDue = s := by
  have hstay : ∀ {α : Type} (f : State → α → State) (l : List α), (∀ x, f s x = s) → l.foldl f s = s := by
    intro α f l hf
    induction l with
    | nil => rfl
    | cons x l ih => rw [List.foldl_cons, hf, ih]
  refine hstay _ _ fun n => hstay _ _ fun w => if_neg ?_
  rw [h n w]
  exact Bool.false_ne_true

theorem State.gpfCarried_of_idle (hinflight : s.inflight = []) (hcpl : s.wp.cplQ = [])
    (hrec : ∀ (n : Fin 16) (w : Fin 64), (s.win n w).recIssued = false) : s.gpfCarried = s.judgeMarks := by
  unfold State.gpfCarried
  rw [State.carryAll_of_idle hinflight, hcpl]
  exact congrArg State.judgeMarks (State.commitDue_of_idle hrec)

/-- With nothing in flight and no commit record issued, a Phase 2 waits for nothing. -/
theorem State.gpfLeft_of_idle (p : Fin 2) (hinflight : s.inflight = []) (hrec : ∀ (n : Fin 16) (w : Fin 64), (s.win n w).recIssued = false) :
    s.gpfLeft p = ⟨p, [], []⟩ := by
  simp [State.gpfLeft, hinflight, hrec]

theorem exec_gpfPhase2Request_of_idle (p : Fin 2) (hpath : s.pw.dataPath = true) (hinflight : s.inflight = []) (hcpl : s.wp.cplQ = [])
    (hrec : ∀ (n : Fin 16) (w : Fin 64), (s.win n w).recIssued = false) : ∃ t : State, exec (.gpfPhase2Request p) s = .next t ∧
      t.out.head? = some (.gpf p 2) ∧ t.wp.index = s.wp.index := by
  obtain ⟨t, hexec, hout, _, hwp⟩ := exec_gpfPhase2Request p hpath
  have hjudged : s.gpfCarried = s.judgeMarks := State.gpfCarried_of_idle hinflight hcpl hrec
  have hstill : s.judgeMarks.inflight = [] := by
    unfold State.inflight
    rw [State.judgeMarks_wp]
    exact hinflight
  have hnone : ∀ (n : Fin 16) (w : Fin 64), (s.judgeMarks.win n w).recIssued = false := by
    intro n w
    obtain ⟨_, _, hld⟩ := s.judgeMarks_notifies n
    unfold State.win
    rw [hld]
    exact hrec n w
  have hleft := State.gpfLeft_of_idle p hstill hnone
  refine ⟨t, hexec, ?_, ?_⟩
  · rw [hout, hjudged]
    exact State.gpfEnds_reports _ p (by rw [hleft]; rfl)
  · rw [hwp, hjudged, State.gpfEnds_wp]
    show s.judgeMarks.wp.index = s.wp.index
    rw [State.judgeMarks_wp]

end

/-! ### The obligation -/

theorem exec_reset_port {s : State} {p : Fin 2} (hup : s.pw.dieUp = true) (hthere : s.portThere p = true) (cold : Bool) : ∃ t : State,
    exec (if cold = true then .conventionalReset p else .hotReset p) s = .next t ∧
      (t.lk.ports[p]).mode = (if cold = true then .down else .training) ∧ (t.lk.ports[p]).lost = 0 ∧
      (t.lk.ports[p]).ide = ⟨none, none, none, none⟩ ∧
      ∀ n : Fin 16, s.portOf n = p → t.resetScope n = .cleared ∧ (cold = true → t.lds[n].pass.frozen = false) := by
  cases cold with
  | false =>
    obtain ⟨hmode, hlost, hide⟩ := State.resetPort_port (s := s) (p := p) (mode := .training) (perst := false)
    exact ⟨_, exec_hotReset hup hthere, hmode, hlost, hide, fun n hn => ⟨State.resetPort_resetScope hn, fun h => nomatch h⟩⟩
  | true =>
    obtain ⟨hmode, hlost, hide⟩ := State.resetPort_port (s := s) (p := p) (mode := .down) (perst := true)
    refine ⟨_, exec_conventionalReset hup hthere, ?_⟩
    rw [foldl_thaw_lk]
    exact ⟨hmode, hlost, hide, fun n hn => ⟨(foldl_thaw_resetScope ..).trans (State.resetPort_resetScope hn),
      fun _ => foldl_thaw_frozen _ _ (State.mem_portLds hn)⟩⟩

/-- Settles O54: each step of a reset clears its part of an LD's scope and leaves the other LDs' (`State.resetLd_resetScope`,
`State.resetLd_resetScope_other`); a decoder fails for one of three reasons (`State.DecoderFails`); and a Phase 2 is reported when it waits for nothing
(`State.gpfEnds_reports`). -/
theorem resetsClearTheirScope : Obligations.ResetsClearTheirScope := by
  unfold Obligations.ResetsClearTheirScope
  intro s
  refine ⟨fun p hup hthere cold => ?port, fun p hdown => ?down, fun n hup => ?flr, fun n clr hup hidle => ?cxl,
    fun n hreset hidle => exec_cxlResetComplete_resumes hreset hidle, fun n h => exec_cxlResetComplete_waits h, fun n d c hreach => ?decoder,
    fun p => ⟨rfl, fun hpath => if_neg ?_, fun hpath => exec_gpfPhase2Request_reports_or_waits p hpath,
      fun hpath hinflight hcpl hrec => exec_gpfPhase2Request_of_idle p hpath hinflight hcpl hrec⟩,
    fun n hup => if_pos hup, fun a b => ⟨fun halive ha hnone => if_pos ⟨halive, ha, hnone⟩, fun ha => if_neg fun h => ha h.2.1,
      fun halive hnone => if_pos ⟨halive, hnone⟩, fun hsome => if_neg fun h => hsome h.2⟩,
    fun n bar off w v hreach h0 h2 => exec_registerWrite_no_bar hreach off w v h0 h2, fun n off w v hreach hlow hhigh => ?reserved,
    fun n k v hreach => ?mask⟩
  case port =>
    obtain ⟨t, hexec, hmode, hlost, hide, hlds⟩ := exec_reset_port hup hthere cold
    refine ⟨t, hexec, hmode, hlost, hide, fun n hn => ?_⟩
    obtain ⟨hcleared, hfrozen⟩ := hlds n hn
    obtain ⟨hdecoders, hcw, hbar0, hresetting, hsession, hstack⟩ := State.parts_of_cleared hcleared
    exact ⟨hdecoders, hcw, hbar0, hresetting, hsession, hstack, hfrozen⟩
  case down =>
    have hno : ¬(s.pw.dieUp = true ∧ s.portThere p = true) := by
      rw [hdown]
      exact fun h => nomatch h.1
    exact ⟨if_neg hno, if_neg hno⟩
  case flr =>
    obtain ⟨t, hexec, hsession, hld, hindex, hrp⟩ := exec_flr_resets n hup
    have hld : t.lds[n] = _ := hld
    refine ⟨t, hexec, hsession, ?_⟩
    rw [hld]
    exact ⟨rfl, rfl, rfl, rfl, hindex, hrp⟩
  case cxl =>
    obtain ⟨t, hexec, hscope⟩ := exec_cxlReset_resets clr hup hidle
    exact ⟨t, hexec, congrArg (fun x => x.regs.resetting) hscope, congrArg (fun x => x.regs.decoders) hscope, congrArg (fun x => x.regs.cw) hscope,
      congrArg ResetScope.session hscope⟩
  case decoder =>
    intro tries bases top meets
    rw [exec_hdmDecoderCommit hreach]
    refine ⟨fun hcommitted => congrArg Host.Outcome.next (State.commitDecoder_of_committed hcommitted), fun hfree hfits htop hapart => ?_,
      fun hfree hfails => ?_⟩
    · have hgood : ¬s.DecoderFails n d c := by
        rintro (hunfit | hhigh | hmeets)
        · rw [hfits] at hunfit
          cases hunfit
        · exact Nat.not_lt.2 htop hhigh
        · exact hapart hmeets
      rw [State.commitDecoder_of_fits hfree hgood]
      exact ⟨_, rfl, congrArg LD.decoders (modLd_ld s n _), rfl⟩
    · rw [State.commitDecoder_of_fails hfree hfails]
      exact ⟨_, rfl, congrArg LD.decoders (modLd_ld s n _), rfl⟩
  case reserved =>
    rw [exec_registerWrite_bar2 hreach w v (by omega), State.wrBar2_reserved s n w v hlow hhigh]
  case mask =>
    have hk := k.isLt
    rw [exec_registerWrite_bar2 hreach 4 v (by omega), State.wrBar2_mask]
    exact ⟨_, rfl, congrArg Claimant.mask (modCl_cl s (whoOf n) _), rfl, rfl⟩
  · rw [hpath]
    exact Bool.false_ne_true

end Sys2Proof.Machine
end

section
/-! PROOFS. Every operation over the state leaves the queue of waiting commands (log 1), operation by operation in the order of the model:
what O4 is assembled from. -/

namespace Sys2Proof.Machine
open Sys2Proof.Laws

/-- The queue of `t` is the queue of `s`. (A name of its own: what is said of a
function's results can then be compared without a look into them.) -/
def SameQueue (t s : State) : Prop := t.pending = s.pending

@[simp] theorem sameQueue_iff (t s : State) : SameQueue t s ↔ t.pending = s.pending := Iff.rfl

/-- A fold of updates that leave the queue leaves the queue. -/
@[simp] theorem foldl_pending {α : Type} {f : State → α → State} (h : ∀ s a, SameQueue (f s a) s) (l : List α) (s : State) :
    (l.foldl f s).pending = s.pending := by
  induction l generalizing s with
  | nil => rfl
  | cons a l ih => exact (ih _).trans (h s a)

/-- The same for a fold that carries a value along with the state. -/
@[simp] theorem foldl_fst_pending {α β : Type} {f : State × β → α → State × β} (h : ∀ x a, SameQueue (f x a).1 x.1) (l : List α)
    (x : State × β) : (l.foldl f x).1.pending = x.1.pending := by
  induction l generalizing x with
  | nil => rfl
  | cons a l ih => exact (ih _).trans (h x a)

@[simp] theorem ite_pending (c : Prop) [Decidable c] (s t : State) : (if c then s else t).pending = if c then s.pending else t.pending :=
  apply_ite State.pending c s t

/-- Both branches leave the queue. -/
theorem ite_pending_of {c : Prop} [Decidable c] {s t u : State} (hs : s.pending = u.pending) (ht : t.pending = u.pending) :
    (if c then s else t).pending = u.pending := by
  split
  · exact hs
  · exact ht

/-! ### Keeper store, signals, rings, events -/

@[simp] theorem State.store_pending (s : State) (part : Fin 6) (item size : Nat) : (s.store part item size).pending = s.pending := by rfl

@[simp] theorem State.save_pending (s : State) (item : Nat) : (s.save item).pending = s.pending := by rfl

@[simp] theorem State.saveCounter_pending (s : State) (item : Nat) : (s.saveCounter item).pending = s.pending := by rfl

@[simp] theorem State.signal_pending (s : State) (n : Fin 16) (v : Fin 4) : (s.signal n v).pending = s.pending := by simp [State.signal]

@[simp] theorem State.queueRec_pending (s : State) (n : Fin 256) (refire : Bool) (evseq detail : Nat) :
    (s.queueRec n refire evseq detail).pending = s.pending := by simp [State.queueRec]

@[simp] theorem State.raise_pending (s : State) (n : Fin 256) (evseq detail : Nat) : (s.raise n evseq detail).pending = s.pending := by
  simp [State.raise]

@[simp] theorem State.fillWaiting_pending (s : State) : (s.fillWaiting).pending = s.pending := by rfl

@[simp] theorem State.swapBanks_pending (s : State) : (s.swapBanks).pending = s.pending := by simp [State.swapBanks]

@[simp] theorem State.pmAdd_pending (s : State) (n : Fin 64) (d : Nat) : (s.pmAdd n d).pending = s.pending := by simp [State.pmAdd]

@[simp] theorem State.pmCount_pending (s : State) (ev : Nat) (g : PmTag) : (s.pmCount ev g).pending = s.pending := by simp [State.pmCount]

@[simp] theorem State.ringSignal_pending (s : State) (n : Fin 16) (justStopped : Bool) : (s.ringSignal n justStopped).pending = s.pending := by
  simp [State.ringSignal]

@[simp] theorem State.ringWrite_pending (s : State) (n : Fin 16) (r : NRec) : (s.ringWrite n r).pending = s.pending := by simp [State.ringWrite]

@[simp] theorem State.fmSignal_pending (s : State) : (s.fmSignal).pending = s.pending := by simp [State.fmSignal]

@[simp] theorem State.fmShow_pending (s : State) : (s.fmShow).pending = s.pending := by rfl

@[simp] theorem State.fmWrite_pending (s : State) (r : NRec) : (s.fmWrite r).pending = s.pending := by simp [State.fmWrite]

@[simp] theorem State.evBlock_pending (s : State) : (s.evBlock).pending = s.pending := by simp [State.evBlock]

@[simp] theorem State.logRefill_pending (s : State) : (s.logRefill).pending = s.pending := by rfl

@[simp] theorem State.logAppend_pending (s : State) (r : EventRec) : (s.logAppend r).pending = s.pending := by simp [State.logAppend]

@[simp] theorem State.logRepeat_pending (s : State) : (s.logRepeat).pending = s.pending := by
  unfold State.logRepeat
  split <;> simp

@[simp] theorem State.cxlLog_pending (s : State) (n : Fin 16) (e : EventRec) : (s.cxlLog n e).pending = s.pending := by simp [State.cxlLog]

@[simp] theorem State.forward_pending (s : State) (e : EventRec) : (s.forward e).pending = s.pending := by simp [State.forward]

@[simp] theorem State.suppress_pending (s : State) (code : Nat) : (s.suppress code).pending = s.pending := by rfl

@[simp] theorem State.numbered_pending (s : State) (code : Nat) : (s.numbered code).pending = s.pending := by rfl

@[simp] theorem State.keeperEvent_pending (s : State) (code sev org p0 p1 p2 p3 : Nat) :
    (s.keeperEvent code sev org p0 p1 p2 p3).pending = s.pending := by simp [State.keeperEvent]

@[simp] theorem State.eventStore_pending (s : State) (code sev org p0 p1 p2 p3 : Nat) :
    (s.eventStore code sev org p0 p1 p2 p3).pending = s.pending := by
  unfold State.eventStore
  dsimp only
  (repeat' split) <;> simp

@[simp] theorem State.event_pending (s : State) (code sev org p0 p1 p2 p3 : Nat) : (s.event code sev org p0 p1 p2 p3).pending = s.pending := by
  unfold State.event
  (repeat' split) <;> simp

@[simp] theorem State.violate_pending (s : State) (who : Fin 17) (kind addr : Nat) : (s.violate who kind addr).pending = s.pending := by
  simp [State.violate]

/-! ### Operands -/

@[simp] theorem State.io_pending (s : State) (who : Fin 17) (c : Instr) (f : State → State) (hf : ∀ t, SameQueue (f t) t) :
    (s.io who c f).pending = s.pending := by
  have hf (t : State) : (f t).pending = t.pending := hf t
  simp [State.io, hf]

@[simp] theorem State.mbxSignal_pending (s : State) (i : Inst) (b : Nat) : (s.mbxSignal i b).pending = s.pending := by
  unfold State.mbxSignal
  split <;> simp

@[simp] theorem State.bgEnd_pending (s : State) (i : Inst) (code : Nat) : (s.bgEnd i code).pending = s.pending := by
  unfold State.bgEnd
  split <;> simp

/-! ### Flags -/

@[simp] theorem State.judgeMarks_pending (s : State) : (s.judgeMarks).pending = s.pending := by simp [State.judgeMarks]

@[simp] theorem State.pmTicks_pending (s : State) (d : Nat) : (s.pmTicks d).pending = s.pending := by simp [State.pmTicks]

@[simp] theorem State.pmEdges_pending (before after : State) : (before.pmEdges after).pending = after.pending := by simp [State.pmEdges]

@[simp] theorem State.ticked_pending (s : State) (d : Nat) : (s.ticked d).pending = s.pending := by simp [State.ticked]

@[simp] theorem State.pass_pending (s : State) (d : Nat) : (s.pass d).pending = s.pending := by rfl

@[simp] theorem State.advance_pending (s : State) (t : Nat) : (s.advance t).pending = s.pending := by rfl

@[simp] theorem State.since_pending (s : State) (t0 d : Nat) : (s.since t0 d).pending = s.pending := by rfl

/-! ### Encryption -/

@[simp] theorem State.setBlock_pending (s : State) (page : Nat) (b : CBlock) : (s.setBlock page b).pending = s.pending := by rfl

@[simp] theorem State.bump_pending (s : State) (line : Nat) : (s.bump line).pending = s.pending := by rfl

@[simp] theorem State.nextSeq_pending (s : State) : (s.nextSeq).2.pending = s.pending := by simp [State.nextSeq]

/-! ### Media packets -/

@[simp] theorem State.vyvon_pending (s : State) (a : VyBlock) (c : VyCmd) : (s.vyvon a c).pending = s.pending := by rfl

/-! ### What holds lines -/

@[simp] theorem State.cacheDrop_pending (s : State) (line : Nat) : (s.cacheDrop line).pending = s.pending := by
  unfold State.cacheDrop
  split <;> simp

@[simp] theorem State.dramPage_pending (s : State) (set : Nat) : (s.dramPage set).pending = s.pending := by simp [State.dramPage]

@[simp] theorem State.cacheEnter_pending (s : State) (line : Nat) (data : Line) (dirty : Bool) :
    (s.cacheEnter line data dirty).pending = s.pending := by
  unfold State.cacheEnter
  split <;> simp

@[simp] theorem State.cacheDirty_pending (s : State) (line : Nat) (d : Bool) : (s.cacheDirty line d).pending = s.pending := by rfl

@[simp] theorem State.poisonAdd_pending (s : State) (line lines : Nat) (src : PoisonSrc) : (s.poisonAdd line lines src).pending = s.pending := by
  simp [State.poisonAdd]

@[simp] theorem State.poisonDrop_pending (s : State) (line lines : Nat) : (s.poisonDrop line lines).pending = s.pending := by rfl

@[simp] theorem State.setMap_pending (s : State) (g : Nat) (m : MapEnt) : (s.setMap g m).pending = s.pending := by rfl

@[simp] theorem State.killFrame_pending (s : State) (k : Fin 4) (lane : Fin 16) (frame : Nat) : (s.killFrame k lane frame).pending = s.pending := by
  unfold State.killFrame
  split <;> simp

@[simp] theorem State.modDrDie_pending (s : State) (d : DieKey) (f : DriftDie → DriftDie) : (s.modDrDie d f).pending = s.pending := by rfl

@[simp] theorem State.modDrBlk_pending (s : State) (b : BlockKey) (f : DriftBlk → DriftBlk) : (s.modDrBlk b f).pending = s.pending := by rfl

@[simp] theorem State.modDrSeg_pending (s : State) (k : SegKey) (f : DriftSeg → DriftSeg) : (s.modDrSeg k f).pending = s.pending := by rfl

@[simp] theorem State.countRdc_pending (s : State) (k : SegKey) (n : Nat) : (s.countRdc k n).pending = s.pending := by rfl

@[simp] theorem State.setRfsh_pending (s : State) (g : Nat) : (s.setRfsh g).pending = s.pending := by simp [State.setRfsh]

@[simp] theorem State.wantPilot_pending (s : State) (b : BlockKey) : (s.wantPilot b).pending = s.pending := by simp [State.wantPilot]

@[simp] theorem State.wantPilots_pending (s : State) (bs : List BlockKey) : (s.wantPilots bs).pending = s.pending := by simp [State.wantPilots]

@[simp] theorem State.toPatrol_pending (s : State) (line : Nat) (cut : Bool) : (s.toPatrol line cut).pending = s.pending := by simp [State.toPatrol]

@[simp] theorem State.modEntry_pending (s : State) (p : Place) (f : Entry → Entry) : (s.modEntry p f).pending = s.pending := by
  unfold State.modEntry
  split <;> simp

@[simp] theorem State.kill_pending (s : State) (p : Place) : (s.kill p).pending = s.pending := by simp [State.kill]

@[simp] theorem State.pick_pending {α : Type} (s : State) (l : List α) : (s.pick l).2.pending = s.pending := by
  unfold State.pick
  split <;> simp

@[simp] theorem State.putMark_pending (s : State) (p : Place) (base : Nat) : (s.putMark p base).pending = s.pending := by simp [State.putMark]

@[simp] theorem State.openPair_pending (s : State) (k : Fin 4) (running : Bool) (seq : Nat) : (s.openPair k running seq).pending = s.pending := by
  unfold State.openPair
  dsimp only
  (repeat' split) <;> simp

@[simp] theorem State.openPairsUpTo_pending (s : State) (k : Fin 4) (seq n : Nat) : (s.openPairsUpTo k seq n).pending = s.pending := by
  induction n generalizing s with
  | zero => rfl
  | succ n ih =>
    unfold State.openPairsUpTo
    split
    · simp [ih]
    · rfl

@[simp] theorem State.closeShort_pending (s : State) (k : Fin 4) (seq : Nat) : (s.closeShort k seq).pending = s.pending := by rfl

@[simp] theorem State.takeSlot_pending (s : State) (p : Pair) (seq : Nat) : (s.takeSlot p seq).2.pending = s.pending := by simp [State.takeSlot]

@[simp] theorem State.slotOf_pending (s : State) (k : Fin 4) (running : Bool) (seq : Nat) (ok : Pair → Bool) :
    (s.slotOf k running seq ok).2.pending = s.pending := by
  unfold State.slotOf
  dsimp only
  split <;> simp

@[simp] theorem State.allocSlot_pending (s : State) (k : Fin 4) (seq : Nat) (ok : Pair → Bool) : (s.allocSlot k seq ok).2.pending = s.pending := by
  simp [State.allocSlot]

@[simp] theorem State.allocRun_pending (s : State) (k : Fin 4) (seq : Nat) : (s.allocRun k seq).2.pending = s.pending := by simp [State.allocRun]

@[simp] theorem State.allocFirst_pending (s : State) (run : Bool) (seq : Nat) (l : List (Fin 4)) :
    (s.allocFirst run seq l).2.pending = s.pending := by
  induction l generalizing s with
  | nil => rfl
  | cons k l ih =>
    have hk : (if run then s.allocRun k seq else s.allocSlot k seq fun _ => true).2.pending = s.pending := by
      split <;> simp
    unfold State.allocFirst
    split
    · next h => rw [h] at hk; exact hk
    · next h => rw [h] at hk; exact (ih _).trans hk

@[simp] theorem State.allocMeta_pending (s : State) (seq : Nat) (runOnly : Bool) : (s.allocMeta seq runOnly).2.pending = s.pending := by
  unfold State.allocMeta
  split
  · simp
  · have hslots := State.allocFirst_pending s false seq s.setList
    split
    · next h => rw [h] at hslots; exact hslots
    · next h => rw [h] at hslots; exact (State.allocFirst_pending ..).trans hslots

@[simp] theorem State.newMeta_pending (s : State) (r : MetaRec) (runOnly : Bool) : (s.newMeta r runOnly).2.pending = s.pending := by
  simp [State.newMeta]

@[simp] theorem State.journal_pending (s : State) (r : MetaRec) : (s.journal r).pending = s.pending := by simp [State.journal]

@[simp] theorem State.metaRec_pending (s : State) (r : MetaRec) : (s.metaRec r).pending = s.pending := by simp [State.metaRec]

@[simp] theorem State.putEntry_pending (s : State) (p : Place) (e : Entry) : (s.putEntry p e).pending = s.pending := by rfl

@[simp] theorem State.setIndex_pending (s : State) (line : Nat) (r : IndexRec) : (s.setIndex line r).pending = s.pending := by rfl

@[simp] theorem State.indexLine_pending (s : State) (line : Nat) (p : Place) (seq : Nat) (psn : Bool) :
    (s.indexLine line p seq psn).pending = s.pending := by
  unfold State.indexLine
  (repeat' split) <;> simp

@[simp] theorem State.stage8_pending (s : State) (line : Nat) (data : Line) (absent : Bool) : (s.stage8 line data absent).pending = s.pending := by
  simp [State.stage8]

@[simp] theorem State.dropPrefetch_pending (s : State) (line : Nat) : (s.dropPrefetch line).pending = s.pending := by rfl

@[simp] theorem State.allocLine_pending (s : State) (line seq : Nat) : (s.allocLine line seq).2.pending = s.pending := by
  have hslot := State.allocSlot_pending s (s.setOf (granOf line)) seq fun _ => true
  unfold State.allocLine
  split
  · next h => rw [h] at hslot; exact hslot
  · next h => rw [h] at hslot; exact (State.allocRun_pending ..).trans hslot

@[simp] theorem State.landLine_pending (s : State) (ld : Fin 16) (line : Nat) (psn : Bool) (ct : Line) (tag : Tag) :
    (s.landLine ld line psn ct tag).pending = s.pending := by
  have hline := State.allocLine_pending s.nextSeq.2 line s.nextSeq.1
  rw [State.nextSeq_pending] at hline
  unfold State.landLine
  dsimp only
  split
  · next h => rw [h] at hline; exact hline
  · next h => rw [h] at hline; simpa using hline

@[simp] theorem State.markPoison_pending (s : State) (ld : Fin 16) (line : Nat) (src : PoisonSrc) :
    (s.markPoison ld line src).pending = s.pending := by simp [State.markPoison]

@[simp] theorem State.countChild_pending (s : State) (level unit : Nat) : (s.countChild level unit).pending = s.pending := by rfl

@[simp] theorem State.durPage_pending (s : State) (page : Nat) : (s.durPage page).pending = s.pending := by simp [State.durPage]

@[simp] theorem State.reencPage_pending (s : State) (page major : Nat) (posB early : Bool) :
    (s.reencPage page major posB early).pending = s.pending := by simp [State.reencPage]

@[simp] theorem State.lodeSend_pending (s : State) (p : Fin 4) (t : Fin 8) (m : LodeMsg) : (s.lodeSend p t m).pending = s.pending := by rfl

@[simp] theorem State.tetherSend_pending (s : State) (t : Fin 8) (m : LodeMsg) : (s.tetherSend t m).pending = s.pending := by
  unfold State.tetherSend
  split <;> simp

@[simp] theorem State.setDirtyBit_pending (s : State) (t : Fin 8) (g : Nat) : (s.setDirtyBit t g).pending = s.pending := by simp [State.setDirtyBit]

/-! ### Commit groups -/

@[simp] theorem State.openGroup_pending (s : State) (n : Fin 16) (w : Fin 64) : (s.openGroup n w).pending = s.pending := by rfl

@[simp] theorem State.dropTents_pending (s : State) (n : Fin 16) (w : Fin 64) : (s.dropTents n w).pending = s.pending := by simp [State.dropTents]

@[simp] theorem State.closeGroup_pending (s : State) (n : Fin 16) (w : Fin 64) (code : Nat) : (s.closeGroup n w code).pending = s.pending := by
  unfold State.closeGroup
  dsimp only
  split <;> simp

@[simp] theorem State.closeAll_pending (s : State) (n : Fin 16) (code : Nat) : (s.closeAll n code).pending = s.pending := by simp [State.closeAll]

@[simp] theorem State.issueCommit_pending (s : State) (n : Fin 16) (w : Fin 64) : (s.issueCommit n w).pending = s.pending := by
  unfold State.issueCommit
  dsimp only
  (repeat' split) <;> simp

@[simp] theorem State.ackGroup_pending (s : State) (n : Fin 16) (w : Fin 64) (gseq : Nat) : (s.ackGroup n w gseq).pending = s.pending := by
  simp [State.ackGroup]

@[simp] theorem State.dbReject_pending (s : State) (n : Fin 16) (w : Fin 64) (cause : Nat) : (s.dbReject n w cause).pending = s.pending := by rfl

@[simp] theorem State.dbAccept_pending (s : State) (n : Fin 16) (w : Fin 64) (value : Nat) : (s.dbAccept n w value).pending = s.pending := by
  simp [State.dbAccept]

@[simp] theorem State.doorbell_pending (s : State) (n : Fin 16) (w : Fin 64) (whole : Bool) (value : Nat) :
    (s.doorbell n w whole value).pending = s.pending := by simp [State.doorbell]

@[simp] theorem State.arrive_pending (s : State) (n : Fin 16) (w : Fin 64) (seq : Nat) : (s.arrive n w seq).pending = s.pending := by
  simp [State.arrive]

@[simp] theorem State.postOutcome_pending (s : State) (n : Fin 16) (w : Fin 64) : (s.postOutcome n w).pending = s.pending := by rfl

@[simp] theorem State.clearLeases_pending (s : State) (n : Fin 16) : (s.clearLeases n).pending = s.pending := by rfl

@[simp] theorem State.clearRing_pending (s : State) (n : Fin 16) : (s.clearRing n).pending = s.pending := by rfl

@[simp] theorem State.outcomeDurable_pending (s : State) (n : Fin 16) (w : Fin 64) (flush : Bool) :
    (s.outcomeDurable n w flush).pending = s.pending := by
  unfold State.outcomeDurable
  dsimp only
  split <;> simp

@[simp] theorem State.commitLost_pending (s : State) (q : Nat) (t : TentRec) : (s.commitLost q t).pending = s.pending := by
  have hline := State.allocLine_pending (s.kill t.place).nextSeq.2 t.line (s.kill t.place).nextSeq.1
  rw [State.nextSeq_pending, State.kill_pending] at hline
  unfold State.commitLost
  dsimp only
  split
  · next h => rw [h] at hline; exact hline
  · next h => rw [h] at hline; simpa using hline

@[simp] theorem State.commitLine_pending (s : State) (q : Nat) (t : TentRec) : (s.commitLine q t).pending = s.pending := by
  unfold State.commitLine
  dsimp only
  (repeat' split) <;> simp

@[simp] theorem State.commitApply_pending (s : State) (n : Fin 16) (w : Fin 64) : (s.commitApply n w).pending = s.pending := by
  simp [State.commitApply]

@[simp] theorem State.commitNow_pending (s : State) (n : Fin 16) (w : Fin 64) (flush : Bool) : (s.commitNow n w flush).pending = s.pending := by
  unfold State.commitNow
  dsimp only
  split <;> simp

@[simp] theorem State.tryCommit_pending (s : State) (n : Fin 16) (w : Fin 64) (flush : Bool) : (s.tryCommit n w flush).pending = s.pending := by
  simp [State.tryCommit]

@[simp] theorem State.regionEnable_pending (s : State) (n : Fin 16) : (s.regionEnable n).pending = s.pending := by simp [State.regionEnable]

@[simp] theorem State.regionDisable_pending (s : State) (n : Fin 16) : (s.regionDisable n).pending = s.pending := by simp [State.regionDisable]

/-! ### The performance monitor -/

@[simp] theorem State.devOnly_pending (s : State) (who : Fin 17) (off : Nat) (f : State → State) (hf : ∀ t, SameQueue (f t) t) :
    (s.devOnly who off f).pending = s.pending := by
  have hf (t : State) : (f t).pending = t.pending := hf t
  simp [State.devOnly, hf]

@[simp] theorem State.pmSnap_pending (s : State) : (s.pmSnap).pending = s.pending := by rfl

@[simp] theorem State.pmClear_pending (s : State) : (s.pmClear).pending = s.pending := by rfl

@[simp] theorem State.newGap_pending (s : State) : (s.newGap).pending = s.pending := by rfl

@[simp] theorem State.sampleWrite_pending (s : State) (r : Sample) : (s.sampleWrite r).pending = s.pending := by simp [State.sampleWrite]

@[simp] theorem State.sampleRelease_pending (s : State) (b : BitVec 2) : (s.sampleRelease b).pending = s.pending := by rfl

@[simp] theorem State.samplingOn_pending (s : State) : (s.samplingOn).pending = s.pending := by simp [State.samplingOn]

/-! ### The write pipeline -/

@[simp] theorem State.countLeft_pending (s : State) (n : Fin 16) : (s.countLeft n).pending = s.pending := by rfl

@[simp] theorem State.complete_pending (s : State) (w : Write) : (s.complete w).pending = s.pending := by simp [State.complete]

@[simp] theorem State.stage1Write_pending (s : State) (r : RxReq) : (s.stage1Write r).pending = s.pending := by
  unfold State.stage1Write
  dsimp only
  split <;> simp

@[simp] theorem State.drainWrites_pending (s : State) : (s.drainWrites).pending = s.pending := by simp [State.drainWrites]

@[simp] theorem State.arriveWrite_pending (s : State) (r : RxReq) : (s.arriveWrite r).pending = s.pending := by simp [State.arriveWrite]

@[simp] theorem State.startRekey_pending (s : State) (r : Fin 256) (exhausted : Bool) : (s.startRekey r exhausted).pending = s.pending := by
  simp [State.startRekey]

@[simp] theorem State.toAlloc_pending (s : State) (w : Write) : (s.toAlloc w).pending = s.pending := by rfl

@[simp] theorem State.alone_pending (s : State) (t : Fin 8) (w : Write) : (s.alone t w).pending = s.pending := by simp [State.alone]

@[simp] theorem State.encrypt_pending (s : State) (w : Write) : (s.encrypt w).pending = s.pending := by
  unfold State.encrypt
  dsimp only
  (repeat' split) <;> simp

@[simp] theorem State.encryptPsn_pending (s : State) (w : Write) : (s.encryptPsn w).pending = s.pending := by
  unfold State.encryptPsn
  dsimp only
  split <;> simp

@[simp] theorem State.encryptAny_pending (s : State) (w : Write) : (s.encryptAny w).pending = s.pending := by simp [State.encryptAny]

@[simp] theorem State.relock_pending (s : State) (line : Nat) : (s.relock line).pending = s.pending := by rfl

@[simp] theorem State.earlyPage_pending (s : State) (line : Nat) : (s.earlyPage line).pending = s.pending := by simp [State.earlyPage]

@[simp] theorem State.stage4_pending (s : State) (w : Write) : (s.stage4 w).pending = s.pending := by simp [State.stage4]

@[simp] theorem State.runEnc_pending (s : State) : (s.runEnc).pending = s.pending := by simp [State.runEnc]

@[simp] theorem State.startWrite_pending (s : State) (w : Write) : (s.startWrite w).pending = s.pending := by
  unfold State.startWrite
  (repeat' split) <;> simp

@[simp] theorem State.takeLock_pending (s : State) (w : Write) : (s.takeLock w).pending = s.pending := by
  unfold State.takeLock
  split <;> simp

@[simp] theorem State.releaseLock_pending (s : State) (line : Nat) : (s.releaseLock line).pending = s.pending := by
  unfold State.releaseLock
  (repeat' split) <;> simp

@[simp] theorem State.forgetGran_pending (s : State) (g : Nat) : (s.forgetGran g).pending = s.pending := by rfl

/-- Every line of a granule leaves the index and the cache: a fold over the queue that stays. -/
theorem foldl_dropLine_pending (l : List Nat) (s : State) : (l.foldl (fun (s : State) l =>
    match tfind s.wp.index l with
    | some r => (({ s with wp := { s.wp with index := tdel l s.wp.index } }).kill (s.recPlace l r)).cacheDrop l
    | none => s.cacheDrop l) s).pending = s.pending := by
  refine foldl_pending (fun s l => ?_) l s
  split <;> simp

@[simp] theorem State.poisonGranule_pending (s : State) (g : Nat) (src : PoisonSrc) : (s.poisonGranule g src).pending = s.pending := by
  unfold State.poisonGranule
  simp only [State.poisonAdd_pending, State.journal_pending, State.setMap_pending, State.forgetGran_pending]
  refine (foldl_dropLine_pending _ _).trans ?_
  split <;> simp

@[simp] theorem State.unwriteGranule_pending (s : State) (g : Nat) : (s.unwriteGranule g).pending = s.pending := by
  unfold State.unwriteGranule
  simp only [State.journal_pending, State.setMap_pending, State.forgetGran_pending]
  refine (foldl_dropLine_pending _ _).trans ?_
  split <;> simp

@[simp] theorem State.enterEol_pending (s : State) (k : Fin 4) : (s.enterEol k).pending = s.pending := by simp [State.enterEol]

@[simp] theorem State.useSpare_pending (s : State) (d : DieKey) : (s.useSpare d).pending = s.pending := by simp [State.useSpare]

@[simp] theorem State.judgeHold_pending (s : State) (k : Fin 4) : (s.judgeHold k).pending = s.pending := by simp [State.judgeHold]

@[simp] theorem State.lateAnswer_pending (s : State) (i : Inst) (op : Nat) : (s.lateAnswer i op).pending = s.pending := by simp [State.lateAnswer]

@[simp] theorem State.finishWrite_pending (s : State) (w : Write) : (s.finishWrite w).pending = s.pending := by
  unfold State.finishWrite
  split <;> simp

@[simp] theorem State.index7_pending (s : State) (w : Write) : (s.index7 w).pending = s.pending := by
  unfold State.index7
  dsimp only
  (repeat' split) <;> simp

@[simp] theorem State.tent7_pending (s : State) (w : Write) (v : Fin 64) : (s.tent7 w v).pending = s.pending := by simp [State.tent7]

@[simp] theorem State.stage7_pending (s : State) (w : Write) : (s.stage7 w).pending = s.pending := by
  unfold State.stage7
  split <;> simp

@[simp] theorem State.toIndex_pending (s : State) : (s.toIndex).pending = s.pending := by simp [State.toIndex]

@[simp] theorem State.progAdd_pending (s : State) (p : Place) (up : Bool) : (s.progAdd p up).pending = s.pending := by
  unfold State.progAdd
  split <;> simp

theorem State.place5_pending {s t : State} {w : Write} {queued : Bool} (h : s.place5 w queued = some t) : t.pending = s.pending := by
  have halloc := State.allocSlot_pending s (s.setOf (granOf w.line)) w.seq (s.pairOk w queued)
  unfold State.place5 at h
  dsimp only at h
  split at h
  · cases h
  · next hp =>
    rw [hp] at halloc
    cases h
    simpa using halloc

@[simp] theorem State.failBlock_pending (s : State) (p : Place) (blk : Nat) : (s.failBlock p blk).pending = s.pending := by simp [State.failBlock]

@[simp] theorem State.verified_pending (s : State) (w : Write) (ok0 ok1 : Bool) : (s.verified w ok0 ok1).pending = s.pending := by
  unfold State.verified
  (repeat' split) <;> simp

@[simp] theorem State.admRemove_pending (s : State) (k q : Nat) : (s.admRemove k q).pending = s.pending := by simp [State.admRemove]

@[simp] theorem State.rollMs_pending (s : State) : (s.rollMs).pending = s.pending := by simp [State.rollMs]

@[simp] theorem State.takeTurn_pending (s : State) (k : Nat) : (s.takeTurn k).pending = s.pending := by rfl

@[simp] theorem State.enter_pending (s : State) (w : Write) : (s.enter w).pending = s.pending := by simp [State.enter]

@[simp] theorem State.admitWrite_pending (s : State) (k : Nat) (w : Write) : (s.admitWrite k w).pending = s.pending := by
  unfold State.admitWrite
  (repeat' split) <;> simp

@[simp] theorem State.discardWrite_pending (s : State) (w : Write) : (s.discardWrite w).pending = s.pending := by simp [State.discardWrite]

@[simp] theorem State.merged_pending (s : State) (w : Write) (r : MergeRes) : (s.merged w r).pending = s.pending := by
  unfold State.merged
  (repeat' split) <;> simp

@[simp] theorem State.mapWrites_pending (s : State) (f : Write → Write) : (s.mapWrites f).pending = s.pending := by rfl

@[simp] theorem State.markVersion_pending (s : State) (ld : Fin 16) (line ver : Nat) : (s.markVersion ld line ver).pending = s.pending := by
  simp [State.markVersion]

@[simp] theorem State.tentGone_pending (s : State) (t : TentRec) : (s.tentGone t).pending = s.pending := by simp [State.tentGone]

@[simp] theorem State.entryGone_pending (s : State) (ld : Fin 16) (line : Nat) (p : Place) : (s.entryGone ld line p).pending = s.pending := by
  unfold State.entryGone
  split <;> simp

@[simp] theorem State.carryOnce_pending (s : State) : (s.carryOnce).pending = s.pending := by
  unfold State.carryOnce
  extract_lets s1 s2 _ s3 s4 s5 _
  have h1 : s1.pending = s.pending := foldl_pending (fun s w => by simp) _ _
  have h2 : s2.pending = s.pending := (State.runEnc_pending s1).trans h1
  have h3 : s3.pending = s.pending := by
    refine (foldl_pending (fun s w => ?_) _ _).trans h2
    split
    · next h => exact State.place5_pending h
    · rfl
  have h4 : s4.pending = s.pending := (foldl_pending (fun s w => by simp) _ _).trans h3
  have h5 : s5.pending = s.pending := (State.toIndex_pending s4).trans h4
  exact (foldl_pending (fun s w => by simp) _ _).trans h5

@[simp] theorem State.carry_pending (s : State) (n : Nat) : (s.carry n).pending = s.pending := by
  induction n generalizing s with
  | zero => rfl
  | succ n ih => exact (ih _).trans (State.carryOnce_pending s)

@[simp] theorem State.carryAll_pending (s : State) : (s.carryAll).pending = s.pending := by simp [State.carryAll]

@[simp] theorem State.returnNdr_pending (s : State) : (s.returnNdr).pending = s.pending := by
  unfold State.returnNdr
  (repeat' split) <;> simp

@[simp] theorem State.returnAll_pending (s : State) (n : Nat) : (s.returnAll n).pending = s.pending := by
  induction n generalizing s with
  | zero => rfl
  | succ n ih => exact (ih _).trans (State.returnNdr_pending s)

/-! ### Segments, spare, drift entries -/

@[simp] theorem State.setSeg_pending (s : State) (k : SegKey) (x : Segment) : (s.setSeg k x).pending = s.pending := by rfl

@[simp] theorem State.queueMove_pending (s : State) (k : Fin 4) (l : Fin 16) (n : Nat) : (s.queueMove k l n).pending = s.pending := by
  simp [State.queueMove]

theorem State.dissolve_pending {s t : State} {seg : SegKey} (h : s.dissolve seg = some t) : t.pending = s.pending := by
  unfold State.dissolve at h
  split at h
  · cases h
  · cases h
    simp

theorem State.takeBlock_pending {s t : State} {seg : SegKey} {p : Fin 16} (h : s.takeBlock seg p = some t) : t.pending = s.pending := by
  unfold State.takeBlock at h
  dsimp only at h
  split at h
  · cases h
    rfl
  · split at h
    · next hd =>
      cases h
      split at hd
      · exact (State.dissolve_pending hd :)
      · cases hd
    · split at h
      · cases h
        simp
      · cases h

theorem State.standIn_pending {s t : State} {seg : SegKey} {pos : Fin 16} (h : s.standIn seg pos = some t) : t.pending = s.pending := by
  unfold State.standIn at h
  split at h
  · cases h
  · split at h
    · cases h
    · next hb =>
      cases h
      simpa using State.takeBlock_pending hb

@[simp] theorem State.standInsFor_pending (s : State) (seg : SegKey) : (s.standInsFor seg).pending = s.pending := by
  refine foldl_pending (fun s p => ?_) _ _
  split
  · split
    · next h => exact State.standIn_pending h
    · simp
  · rfl

@[simp] theorem State.openSeg_pending (s : State) (k : Fin 4) (l : Fin 16) (hot : Bool) : (s.openSeg k l hot).2.pending = s.pending := by
  unfold State.openSeg
  split <;> simp

@[simp] theorem State.replaceBlock_pending (s : State) (b : BlockKey) : (s.replaceBlock b).pending = s.pending := by simp [State.replaceBlock]

@[simp] theorem State.retireBlock_pending (s : State) (b : BlockKey) (cause : Nat) : (s.retireBlock b cause).pending = s.pending := by
  simp [State.retireBlock]

@[simp] theorem State.victimize_pending (s : State) (k : SegKey) : (s.victimize k).pending = s.pending := by simp [State.victimize]

@[simp] theorem State.retireAfterCopy_pending (s : State) (b : BlockKey) (cause : Nat) : (s.retireAfterCopy b cause).pending = s.pending := by
  simp [State.retireAfterCopy]

@[simp] theorem State.lifeEdge_pending (before after : State) : (before.lifeEdge after).pending = after.pending := by simp [State.lifeEdge]

@[simp] theorem State.bandDrift_pending (s : State) (k : SegKey) (band wclk tband : Nat) : (s.bandDrift k band wclk tband).pending = s.pending := by
  simp [State.bandDrift]

@[simp] theorem State.resetDrift_pending (s : State) (k : SegKey) : (s.resetDrift k).pending = s.pending := by simp [State.resetDrift]

@[simp] theorem State.slotFailed_pending (s : State) (b : BlockKey) (g : Nat) : (s.slotFailed b g).pending = s.pending := by simp [State.slotFailed]

@[simp] theorem State.stepped_pending (s : State) (b : BlockKey) (k : Int) : (s.stepped b k).pending = s.pending := by rfl

@[simp] theorem State.noteRecon_pending (s : State) (b : BlockKey) (slot : Nat) : (s.noteRecon b slot).pending = s.pending := by
  simp [State.noteRecon]

@[simp] theorem State.peatFound_pending (s : State) (b : BlockKey) (line slot : Nat) (x : Sense) :
    (s.peatFound b line slot x).pending = s.pending := by
  unfold State.peatFound
  split <;> simp

@[simp] theorem State.visitNext_pending (s : State) (k : SegKey) (due : Nat) (front : Bool) : (s.visitNext k due front).pending = s.pending := by rfl

@[simp] theorem State.treeMismatch_pending (s : State) (line level : Nat) : (s.treeMismatch line level).pending = s.pending := by
  simp [State.treeMismatch]

/-! ### The write path -/

@[simp] theorem State.writeAdmission_pending (s : State) : (s.writeAdmission).pending = s.pending := by
  unfold State.writeAdmission
  dsimp only
  (repeat' split) <;> simp

@[simp] theorem State.mergePilots_pending (s : State) (w : Write) (x : Sense) : (s.mergePilots w x).pending = s.pending := by
  unfold State.mergePilots
  split <;> simp

@[simp] theorem State.mergeFound_pending (s : State) (w : Write) (x : Sense) : (s.mergeFound w x).pending = s.pending := by
  unfold State.mergeFound
  split <;> simp

@[simp] theorem State.foldFirst_pending (s : State) (g : Nat) : (s.foldFirst g).pending = s.pending := by rfl

@[simp] theorem State.placeFirst_pending (s : State) (skipped l : List Write) : (s.placeFirst skipped l).pending = s.pending := by
  induction l generalizing skipped with
  | nil => rfl
  | cons w l ih =>
    unfold State.placeFirst
    split
    · exact ih _
    · split
      · next h => exact (State.place5_pending h).trans rfl
      · exact ih _

@[simp] theorem State.indexUpdate_pending (s : State) : (s.indexUpdate).pending = s.pending := by
  unfold State.indexUpdate
  split <;> simp

/-! ### Folding -/

@[simp] theorem State.orderFold_pending (s : State) (k : Fin 4) (g : Nat) (lane : Option (Fin 16)) : (s.orderFold k g lane).pending = s.pending := by
  simp [State.orderFold]

@[simp] theorem State.judgeLane_pending (s : State) (k : Fin 4) (l : Fin 16) : (s.judgeLane k l).pending = s.pending := by rfl

@[simp] theorem State.modBand_pending (s : State) (key : BandKey) (f : Band → Band) : (s.modBand key f).pending = s.pending := by rfl

@[simp] theorem State.bandFor_pending (s : State) (k : Fin 4) (l : Fin 16) (copy hot : Bool) (want : Option SegKey) :
    (s.bandFor k l copy hot want).2.pending = s.pending := by
  unfold State.bandFor
  dsimp only
  (repeat' split) <;> simp

@[simp] theorem State.issueBand_pending (s : State) (key : BandKey) : (s.issueBand key).pending = s.pending := by simp [State.issueBand]

@[simp] theorem State.issueWaiting_pending (s : State) (k : Fin 4) (l : Fin 16) : (s.issueWaiting k l).pending = s.pending := by
  unfold State.issueWaiting
  (repeat' split) <;> simp

@[simp] theorem State.placeFrame_pending (s : State) (key : BandKey) (p : Placed) : (s.placeFrame key p).pending = s.pending := by
  simp [State.placeFrame]

@[simp] theorem State.dropMove_pending (s : State) (g : Nat) : (s.dropMove g).pending = s.pending := by simp [State.dropMove]

@[simp] theorem State.gather_pending (s : State) (k : Fin 4) (g : Nat) (lane : Option (Fin 16)) : (s.gather k g lane).pending = s.pending := by
  simp [State.gather]

@[simp] theorem State.judgeGran_pending (s : State) (k : Fin 4) (g : Nat) : (s.judgeGran k g).pending = s.pending := by rfl

@[simp] theorem State.foldSlot_pending (s : State) (x : Gathered) : (s.foldSlot x).2.pending = s.pending := by
  unfold State.foldSlot
  (repeat' split) <;> simp

@[simp] theorem State.foldLine_pending (a : State × Tbl PeatSlot × List Gathered) (lost : List Nat) (x : Gathered) :
    (State.foldLine a lost x).1.pending = a.1.pending := by
  obtain ⟨s, slots, keep⟩ := a
  have hslot := State.foldSlot_pending s x
  unfold State.foldLine
  dsimp only
  split
  · split <;> simp
  · split <;> (next h => rw [h] at hslot; exact hslot)

@[simp] theorem State.foldFound_pending (a : State × Tbl PeatSlot) (x : LineSense) : (State.foldFound a x).1.pending = a.1.pending := by
  obtain ⟨s, slots⟩ := a
  unfold State.foldFound
  dsimp only
  split
  · rfl
  · split
    · simp
    · simp
    · dsimp only
      split <;> simp

@[simp] theorem State.foldRead_pending (s : State) (f : Fold) (lost : List Nat) (found : List LineSense) :
    (s.foldRead f lost found).pending = s.pending := by
  unfold State.foldRead
  extract_lets _ s1 m base s2 all
  have h2 : s2.pending = s.pending := by
    unfold s2
    split
    · rfl
    · exact State.countRdc_pending ..
  have hfound := foldl_fst_pending (f := State.foldFound) (fun a x => State.foldFound_pending a x) all (s2, base)
  split
  next u slots hu =>
  rw [hu] at hfound
  have hlines := foldl_fst_pending (f := fun a x => State.foldLine a lost x) (fun a x => State.foldLine_pending a lost x) f.gathered (u, slots, [])
  split
  next v slots keep hv =>
  rw [hv] at hlines
  have hv : v.pending = s.pending := hlines.trans (hfound.trans h2)
  have hband := State.bandFor_pending v f.set f.lane false (v.hotGran f.granule) none
  split
  · next hw => rw [hw] at hband; exact hband.trans hv
  · next hw =>
    rw [hw] at hband
    extract_lets _ w
    refine (State.placeFrame_pending ..).trans (Eq.trans ?_ (hband.trans hv))
    unfold w
    split <;> rfl

@[simp] theorem State.closeSeg_pending (s : State) (k : SegKey) : (s.closeSeg k).pending = s.pending := by rfl

@[simp] theorem State.forceClose_pending (s : State) (k : SegKey) : (s.forceClose k).pending = s.pending := by simp [State.forceClose]

@[simp] theorem State.copyFrame_pending (s : State) (seg : SegKey) (frame : Nat) (f : Frame) : (s.copyFrame seg frame f).pending = s.pending := by
  unfold State.copyFrame
  split
  · rfl
  · have hband := State.bandFor_pending s seg.set seg.lane true false (s.wearDest seg)
    split
    · next h => rw [h] at hband; exact hband
    · next h => rw [h] at hband; simpa using hband

@[simp] theorem State.feedVictim_pending (s : State) (k : Fin 4) (seg : SegKey) : (s.feedVictim k seg).pending = s.pending := by
  simp [State.feedVictim]

@[simp] theorem State.feedCopies_pending (s : State) (k : Fin 4) : (s.feedCopies k).pending = s.pending := by simp [State.feedCopies]

@[simp] theorem State.wearCopy_pending (s : State) (seg : SegKey) : (s.wearCopy seg).pending = s.pending := by
  unfold State.wearCopy
  dsimp only
  split
  · have hopen := State.openSeg_pending (s.victimize seg) seg.set seg.lane false
    rw [State.victimize_pending] at hopen
    split
    · next h => rw [h] at hopen; simpa using hopen
    · next h => rw [h] at hopen; simpa using hopen
  · simp

@[simp] theorem State.abandonBand_pending (s : State) (b : Band) : (s.abandonBand b).pending = s.pending := by
  unfold State.abandonBand
  extract_lets _ s1 s2 x s3 s4 back s5
  have h2 : s2.pending = s.pending := by
    refine (foldl_pending (fun s p => ?_) _ _).trans rfl
    split <;> split <;> rfl
  have h4 : s4.pending = s.pending := by
    unfold s4
    split
    · exact (State.closeSeg_pending ..).trans h2
    · exact h2
  have h5 : s5.pending = s.pending := by
    refine (foldl_pending (fun s k => ?_) _ _).trans h4
    split <;> rfl
  exact (State.feedCopies_pending ..).trans ((State.issueWaiting_pending ..).trans h5)

@[simp] theorem State.foldRemove_pending (s : State) (x : Gathered) : (s.foldRemove x).pending = s.pending := by simp [State.foldRemove]

@[simp] theorem State.switchFrame_pending (s : State) (key : BandKey) (i : Nat) (p : Placed) : (s.switchFrame key i p).pending = s.pending := by
  unfold State.switchFrame
  split <;> simp

@[simp] theorem State.keepSummary_pending (s : State) (b : Band) : (s.keepSummary b).pending = s.pending := by rfl

@[simp] theorem State.commitBand_pending (s : State) (b : Band) : (s.commitBand b).pending = s.pending := by simp [State.commitBand]

@[simp] theorem State.freePairs_pending (s : State) : (s.freePairs).pending = s.pending := by rfl

@[simp] theorem State.releaseSlot_pending (s : State) (c : Nat) : (s.releaseSlot c).pending = s.pending := by
  unfold State.releaseSlot
  dsimp only
  split <;> simp

/-! ### Drift and patrols -/

@[simp] theorem State.pilotGood_pending (s : State) (b : BlockKey) (r : PilotReport) : (s.pilotGood b r).pending = s.pending := by rfl

@[simp] theorem State.pilotEnds_pending (s : State) (b : BlockKey) (r : PilotReport) : (s.pilotEnds b r).pending = s.pending := by
  simp [State.pilotEnds]

@[simp] theorem State.keepRefs_pending (s : State) (b : BlockKey) (old new : Nat) : (s.keepRefs b old new).pending = s.pending := by rfl

@[simp] theorem State.visitLoss_pending (s : State) (b : BlockKey) (line : Nat) (tagFail : Bool) :
    (s.visitLoss b line tagFail).pending = s.pending := by
  unfold State.visitLoss
  dsimp only
  split <;> simp

@[simp] theorem State.visitLine_pending (s : State) (b : BlockKey) (x : LineSense) : (s.visitLine b x).pending = s.pending := by
  unfold State.visitLine
  split <;> simp

@[simp] theorem State.visitBlock_pending (s : State) (seg : SegKey) (first : Bool) (v : VisitResult) :
    (s.visitBlock seg first v).pending = s.pending := by simp [State.visitBlock]

@[simp] theorem State.passOn_pending (s : State) (k : Fin 4) : (s.passOn k).pending = s.pending := by simp [State.passOn]

@[simp] theorem State.placeAgain_pending (s : State) (p : Place) : (s.placeAgain p).2.pending = s.pending := by
  unfold State.placeAgain
  split
  · rfl
  · next e he =>
    have hslot := State.allocSlot_pending s p.set e.seq fun x => x.num ≠ p.pair
    split
    next q t hq =>
    have ht : t.pending = s.pending := by
      split at hq
      · next h => rw [h] at hslot; cases hq; exact hslot
      · next u h =>
        have hrun := State.allocRun_pending u p.set e.seq
        rw [h] at hslot
        rw [hq] at hrun
        exact hrun.trans hslot
    split
    · exact ht
    · extract_lets u _ v
      have hv : v.pending = s.pending := (State.kill_pending ..).trans ((State.putEntry_pending ..).trans ht)
      split
      · split
        · exact (State.setIndex_pending ..).trans hv
        · exact hv
      · exact hv

@[simp] theorem State.patrolCopy_pending (s : State) (k : Fin 4) (r : CopyRead) : (s.patrolCopy k r).pending = s.pending := by
  unfold State.patrolCopy
  dsimp only
  split <;> simp

@[simp] theorem State.scrubReject_pending (s : State) (n : Fin 16) (cause : Nat) : (s.scrubReject n cause).pending = s.pending := by rfl

@[simp] theorem State.scrubRecord_pending (s : State) (n : Fin 16) (flags : Nat) : (s.scrubRecord n flags).pending = s.pending := by
  simp [State.scrubRecord]

@[simp] theorem State.scrubStart_pending (s : State) (n : Fin 16) : (s.scrubStart n).pending = s.pending := by simp [State.scrubStart]

@[simp] theorem State.scrubAbort_pending (s : State) (n : Fin 16) : (s.scrubAbort n).pending = s.pending := by simp [State.scrubAbort]

@[simp] theorem State.scrubCount_pending (s : State) (n : Fin 16) (f : ScrubCounts → ScrubCounts) : (s.scrubCount n f).pending = s.pending := by rfl

@[simp] theorem State.scrubLost_pending (s : State) (n : Fin 16) (line : Nat) (tagFail : Bool) :
    (s.scrubLost n line tagFail).pending = s.pending := by simp [State.scrubLost]

@[simp] theorem State.scrubRepair_pending (s : State) (x : LineFound) (weak : Bool) : (s.scrubRepair x weak).2.pending = s.pending := by
  unfold State.scrubRepair
  dsimp only
  (repeat' split) <;> simp

theorem State.scrubRepair_if_pending (s : State) (x : LineFound) (repair weak : Bool) :
    (if repair then s.scrubRepair x weak else (false, s)).2.pending = s.pending := by
  split
  · exact State.scrubRepair_pending ..
  · rfl

@[simp] theorem State.checkLine_pending (s : State) (n : Fin 16) (repair : Bool) (x : LineFound) : (s.checkLine n repair x).pending = s.pending := by
  unfold State.checkLine
  extract_lets r s1 s2
  have h2 : s2.pending = s.pending := by
    unfold s2
    split
    · split <;> simp [s1]
    · simp [s1]
  clear_value s2 r
  refine ite_pending_of (State.scrubCount_pending ..) ?_
  cases r with
  | good corrected reconstructed weak =>
    have hrepair := State.scrubRepair_if_pending s2 x repair weak
    dsimp only
    generalize (if repair then s2.scrubRepair x weak else (false, s2)) = y at hrepair
    exact (State.scrubCount_pending ..).trans (hrepair.trans h2)
  | _ => simp [h2]

@[simp] theorem State.scrubLines_pending (s : State) (n : Fin 16) (repair : Bool) (found : List LineFound) :
    (s.scrubLines n repair found).2.pending = s.pending := by
  unfold State.scrubLines
  extract_lets x l t
  split <;> exact State.wantPilots_pending ..

theorem State.scrubLines_some_pending {s t : State} {n : Fin 16} {repair : Bool} {found : List LineFound}
    (h : (s.scrubLines n repair found).1 = some t) : t.pending = s.pending := by
  unfold State.scrubLines at h
  extract_lets x l u at h
  split at h
  · cases h
  · injection h with h
    rw [← h, foldl_pending fun s x => by simp]
    exact State.wantPilots_pending ..

@[simp] theorem State.scrubFinish_pending (s : State) (n : Fin 16) (flags : Nat) : (s.scrubFinish n flags).pending = s.pending := by
  simp [State.scrubFinish]

@[simp] theorem State.scrubsStop_pending (s : State) : (s.scrubsStop).pending = s.pending := by rfl

@[simp] theorem State.scrubsSettle_pending (s : State) : (s.scrubsSettle).pending = s.pending := by simp [State.scrubsSettle]

/-! ### Requests -/

@[simp] theorem State.dropHeld_pending (s : State) (f : Instr → Bool) : (s.dropHeld f).pending = s.pending := by rfl

/-! ### The end of a power-on -/

@[simp] theorem State.shutdownRec_pending (s : State) (code : Nat) : (s.shutdownRec code).pending = s.pending := by simp [State.shutdownRec]

@[simp] theorem State.dropCounters_pending (s : State) : (s.dropCounters).pending = s.pending := by simp [State.dropCounters]

@[simp] theorem State.rewindW_pending (s : State) : (s.rewindW).pending = s.pending := by simp [State.rewindW]

@[simp] theorem State.releaseFolded_pending (s : State) : (s.releaseFolded).pending = s.pending := by simp [State.releaseFolded]

@[simp] theorem State.dieDown_pending (s : State) : (s.dieDown).pending = s.pending := by simp [State.dieDown]

@[simp] theorem State.powerOff_pending (s : State) (st : PowerState) : (s.powerOff st).pending = s.pending := by simp [State.powerOff]

@[simp] theorem State.pscOn_pending (s : State) (rail : Nat) : (s.pscOn rail).pending = s.pending := by simp [State.pscOn]

@[simp] theorem State.pscOff_pending (s : State) : (s.pscOff).pending = s.pending := by simp [State.pscOff]

@[simp] theorem State.reverseDown_pending (s : State) (st : PowerState) : (s.reverseDown st).pending = s.pending := by simp [State.reverseDown]

@[simp] theorem State.faultOff_pending (s : State) (note : State → State) (hnote : ∀ t, SameQueue (note t) t) :
    (s.faultOff note).pending = s.pending := by
  have hnote (t : State) : (note t).pending = t.pending := hnote t
  unfold State.faultOff
  dsimp only
  split <;> simp [hnote]

@[simp] theorem State.railFault_pending (s : State) (org mv : Nat) : (s.railFault org mv).pending = s.pending := by simp [State.railFault]

@[simp] theorem State.pathFault_pending (s : State) : (s.pathFault).pending = s.pending := by simp [State.pathFault]

/-! ### The read path -/

@[simp] theorem State.readAdd_pending (s : State) (c : Fin 64) (up : Bool) : (s.readAdd c up).pending = s.pending := by rfl

@[simp] theorem State.modRead_pending (s : State) (id : Nat) (f : Read → Read) : (s.modRead id f).pending = s.pending := by rfl

@[simp] theorem State.dropRead_pending (s : State) (id : Nat) : (s.dropRead id).pending = s.pending := by rfl

@[simp] theorem State.respond_pending (s : State) : (s.respond).pending = s.pending := by simp [State.respond]

@[simp] theorem State.finishRead_pending (s : State) (id : Nat) (data : Line) (poison : Bool) :
    (s.finishRead id data poison).pending = s.pending := by simp [State.finishRead]

@[simp] theorem State.suspend_pending (s : State) (t : Tile) (a : VyBlock) : (s.suspend t a).pending = s.pending := by
  unfold State.suspend
  split <;> simp

@[simp] theorem State.sense_pending (s : State) (r : Read) (c : Fin 64) : (s.sense r c).pending = s.pending := by
  unfold State.sense
  (repeat' split) <;> simp

@[simp] theorem State.enqueue_pending (s : State) (r : Read) (c : Fin 64) : (s.enqueue r c).pending = s.pending := by simp [State.enqueue]

@[simp] theorem State.startRebuild_pending (s : State) (r : Read) : (s.startRebuild r).pending = s.pending := by
  unfold State.startRebuild
  (repeat' split) <;> simp

@[simp] theorem State.reachTile_pending (s : State) (r : Read) (c : Fin 64) : (s.reachTile r c).pending = s.pending := by
  unfold State.reachTile
  (repeat' split) <;> simp

@[simp] theorem State.tryQueue_pending (s : State) (r : Read) : (s.tryQueue r).pending = s.pending := by simp [State.tryQueue]

@[simp] theorem State.fillQueues_pending (s : State) : (s.fillQueues).pending = s.pending := by simp [State.fillQueues]

@[simp] theorem State.leaveQueue_pending (s : State) (r : Read) : (s.leaveQueue r).pending = s.pending := by
  unfold State.leaveQueue
  split <;> simp

@[simp] theorem State.issuePrefetch_pending (s : State) (n : Fin 16) (line : Nat) : (s.issuePrefetch n line).pending = s.pending := by
  simp [State.issuePrefetch]

@[simp] theorem State.queuePrefetch_pending (s : State) (n : Fin 16) (line : Nat) : (s.queuePrefetch n line).pending = s.pending := by
  simp [State.queuePrefetch]

@[simp] theorem State.runPrefetch_pending (s : State) : (s.runPrefetch).pending = s.pending := by simp [State.runPrefetch]

@[simp] theorem State.detect_pending (s : State) (n : Fin 16) (line : Nat) : (s.detect n line).pending = s.pending := by
  unfold State.detect
  dsimp only
  (repeat' split) <;> simp

@[simp] theorem State.countRead_pending (s : State) : (s.countRead).pending = s.pending := by rfl

@[simp] theorem State.stage1Read_pending (s : State) (r : RxReq) : (s.stage1Read r).pending = s.pending := by
  unfold State.stage1Read
  dsimp only
  split <;> simp

@[simp] theorem State.drainReads_pending (s : State) : (s.drainReads).pending = s.pending := by simp [State.drainReads]

@[simp] theorem State.arriveRead_pending (s : State) (kind : Nat) (ld : Fin 16) (addr : Addr) : (s.arriveRead kind ld addr).pending = s.pending := by
  simp [State.arriveRead]

@[simp] theorem State.moveReads_pending (s : State) : (s.moveReads).pending = s.pending := by simp [State.moveReads]

@[simp] theorem State.memInv_pending (s : State) (n : Fin 16) (a : Addr) : (s.memInv n a).pending = s.pending := by simp [State.memInv]

theorem State.dramSeen_pending {s t : State} {line : Nat} {d : DramAccess} (h : s.dramSeen line d = some t) : t.pending = s.pending := by
  unfold State.dramSeen at h
  split at h
  · cases h; rfl
  · cases h; rfl
  · split at h
    · cases h; simp
    · cases h

@[simp] theorem State.settleAhead_pending (s : State) (r : Read) (p : RPath) : (s.settleAhead r p).pending = s.pending := by
  unfold State.settleAhead
  dsimp only
  (repeat' split) <;> simp

@[simp] theorem State.serveCache_pending (s : State) (r : Read) : (s.serveCache r).pending = s.pending := by
  unfold State.serveCache
  split <;> simp

@[simp] theorem State.issueRead_pending (s : State) (id : Nat) : (s.issueRead id).pending = s.pending := by
  unfold State.issueRead
  dsimp only
  (repeat' split) <;> simp

@[simp] theorem State.lookup_pending (s : State) (r : Read) : (s.lookup r).pending = s.pending := by
  unfold State.lookup
  (repeat' split) <;> simp

@[simp] theorem State.fill_pending (s : State) (r : Read) (data : Line) (fromShallows : Bool) :
    (s.fill r data fromShallows).pending = s.pending := by simp [State.fill]

@[simp] theorem State.burstRetries_pending (s : State) (c : Fin 64) (n : Nat) : (s.burstRetries c n).pending = s.pending := by rfl

@[simp] theorem State.recovered_pending (s : State) (r : Read) (x : Sense) : (s.recovered r x).pending = s.pending := by
  unfold State.recovered
  (repeat' split) <;> simp

@[simp] theorem State.readFails_pending (s : State) (r : Read) (tagFail : Bool) (retries : Nat) :
    (s.readFails r tagFail retries).pending = s.pending := by
  unfold State.readFails
  (repeat' split) <;> simp

@[simp] theorem State.again_pending (s : State) (r : Read) : (s.again r).pending = s.pending := by rfl

@[simp] theorem State.rowLoses_pending (s : State) (r : Read) : (s.rowLoses r).pending = s.pending := by
  unfold State.rowLoses
  split <;> simp

@[simp] theorem State.sensed_pending (s : State) (r : Read) (x : Sense) : (s.sensed r x).pending = s.pending := by
  unfold State.sensed
  (repeat' split) <;> simp

@[simp] theorem State.rdcOf_pending (s : State) (r : Read) (x : Sense) : (s.rdcOf r x).pending = s.pending := by
  unfold State.rdcOf
  split <;> simp

@[simp] theorem State.rowPilots_pending (s : State) (r : Read) (x : Sense) : (s.rowPilots r x).pending = s.pending := by
  unfold State.rowPilots
  split <;> simp

@[simp] theorem State.cutoff_pending (s : State) (n : Fin 16) (line waited : Nat) : (s.cutoff n line waited).pending = s.pending := by
  unfold State.cutoff
  dsimp only
  split <;> simp

@[simp] theorem State.returnDrs_pending (s : State) : (s.returnDrs).pending = s.pending := by
  unfold State.returnDrs
  split <;> simp

/-! ### Faults, rebuild, drain -/

@[simp] theorem State.setTo_pending (s : State) (k : Fin 4) (x : SetState) : (s.setTo k x).pending = s.pending := by simp [State.setTo]

@[simp] theorem State.setChan_pending (s : State) (c : Fin 64) (x : ChanState) : (s.setChan c x).pending = s.pending := by rfl

@[simp] theorem State.rangeStop_pending (s : State) : (s.rangeStop).pending = s.pending := by simp [State.rangeStop]

@[simp] theorem State.faultJoin_pending (s : State) (u : FUnit) (hard : Bool) : (s.faultJoin u hard).pending = s.pending := by
  unfold State.faultJoin
  dsimp only
  (repeat' split) <;> simp

@[simp] theorem State.secondStack_pending (s : State) (k : Fin 5) : (s.secondStack k).pending = s.pending := by simp [State.secondStack]

@[simp] theorem State.windowGone_pending (s : State) (k : Fin 5) : (s.windowGone k).pending = s.pending := by simp [State.windowGone]

@[simp] theorem State.loseBlocks_pending (s : State) (u : FUnit) : (s.loseBlocks u).pending = s.pending := by simp [State.loseBlocks]

@[simp] theorem State.loseCopies_pending (s : State) (u : FUnit) : (s.loseCopies u).pending = s.pending := by rfl

@[simp] theorem State.withdrawWrites_pending (s : State) (u : FUnit) : (s.withdrawWrites u).pending = s.pending := by simp [State.withdrawWrites]

@[simp] theorem State.withdrawReads_pending (s : State) (u : FUnit) : (s.withdrawReads u).pending = s.pending := by
  unfold State.withdrawReads
  rw [State.fillQueues_pending]
  refine foldl_pending (fun s r => ?_) _ _
  (repeat' split) <;> simp

@[simp] theorem State.entryLost_pending (s : State) (p : Place) (e : Entry) : (s.entryLost p e).pending = s.pending := by simp [State.entryLost]

@[simp] theorem State.entriesLost_pending (s : State) (k : Fin 4) : (s.entriesLost k).pending = s.pending := by simp [State.entriesLost]

@[simp] theorem State.setLoses_pending (s : State) (k : Fin 4) : (s.setLoses k).pending = s.pending := by simp [State.setLoses]

@[simp] theorem State.spareOut_pending (s : State) (c : Fin 64) : (s.spareOut c).pending = s.pending := by simp [State.spareOut]

@[simp] theorem State.mediaOut_pending (s : State) (u : FUnit) (k : Fin 4) (row : Option Nat) : (s.mediaOut u k row).pending = s.pending := by
  unfold State.mediaOut
  (repeat' split) <;> simp

@[simp] theorem State.stackOut_pending (s : State) (k : Fin 5) : (s.stackOut k).pending = s.pending := by simp [State.stackOut]

@[simp] theorem State.takeOut_pending (s : State) (x : FaultItem) : (s.takeOut x).pending = s.pending := by
  unfold State.takeOut
  (repeat' split) <;> simp

@[simp] theorem State.issueAll_pending (s : State) : (s.issueAll).pending = s.pending := by simp [State.issueAll]

@[simp] theorem State.drainCheck_pending (s : State) (k : Fin 4) : (s.drainCheck k).pending = s.pending := by simp [State.drainCheck]

@[simp] theorem State.startDrain_pending (s : State) (c : Fin 64) : (s.startDrain c).pending = s.pending := by simp [State.startDrain]

@[simp] theorem State.restoreBlock_pending (s : State) (p : Pair) (second : Bool) : (s.restoreBlock p second).pending = s.pending := by
  unfold State.restoreBlock
  dsimp only
  split <;> simp

@[simp] theorem State.restorePairs_pending (s : State) (k : Fin 4) : (s.restorePairs k).pending = s.pending := by simp [State.restorePairs]

@[simp] theorem State.rebuildCheck_pending (s : State) (k : Fin 4) : (s.rebuildCheck k).pending = s.pending := by simp [State.rebuildCheck]

@[simp] theorem State.rebuildStart_pending (s : State) (k : Fin 4) : (s.rebuildStart k).pending = s.pending := by simp [State.rebuildStart]

@[simp] theorem State.dieRebuilt_pending (s : State) (seg : SegKey) (pos : Fin 16) : (s.dieRebuilt seg pos).pending = s.pending := by
  simp [State.dieRebuilt]

@[simp] theorem State.drainBlock_pending (s : State) (seg : SegKey) (pos : Fin 16) : (s.drainBlock seg pos).pending = s.pending := by
  unfold State.drainBlock
  split
  · next h => exact (State.drainCheck_pending ..).trans (State.standIn_pending h)
  · rfl

@[simp] theorem State.rebuildBlock_pending (s : State) (seg : SegKey) (pos : Fin 16) : (s.rebuildBlock seg pos).pending = s.pending := by
  unfold State.rebuildBlock
  split
  · simp
  · next t h =>
    have ht : t.pending = s.pending := by
      split at h
      · cases h; rfl
      · exact State.standIn_pending h
    simp [ht]

/-! ### The line cache -/

@[simp] theorem State.maintain_pending (s : State) (who : Fin 17) (c : Instr) (r : MReq) : (s.maintain who c r).pending = s.pending := by
  simp [State.maintain]

@[simp] theorem State.opAddr_pending (s : State) (who : Fin 17) (c : Instr) (op : MOp) (dpa : Nat) :
    (s.opAddr who c op dpa).pending = s.pending := by simp [State.opAddr]

@[simp] theorem State.opSw_pending (s : State) (who : Fin 17) (c : Instr) (op : MOp) (set way : Nat) :
    (s.opSw who c op set way).pending = s.pending := by simp [State.opSw]

@[simp] theorem State.opDone_pending (s : State) : (s.opDone).pending = s.pending := by rfl

@[simp] theorem State.opRun_pending (s : State) : (s.opRun).pending = s.pending := by
  unfold State.opRun
  (repeat' split) <;> simp

@[simp] theorem State.cleansEnd_pending (s : State) : (s.cleansEnd).pending = s.pending := by simp [State.cleansEnd]

@[simp] theorem State.sync_pending (s : State) (who : Fin 17) (c : Instr) : (s.sync who c).pending = s.pending := by simp [State.sync]

@[simp] theorem State.rangeStart_pending (s : State) : (s.rangeStart).pending = s.pending := by simp [State.rangeStart]

@[simp] theorem State.rangeEnd_pending (s : State) : (s.rangeEnd).pending = s.pending := by rfl

@[simp] theorem State.rangeWalk_pending (s : State) : (s.rangeWalk).pending = s.pending := by
  simp [State.rangeWalk]

/-! ### Notifications -/

@[simp] theorem State.claim_pending (s : State) (c : Fin 17) (n : Fin 256) : (s.claim c n).pending = s.pending := by rfl

@[simp] theorem State.readClaim_pending (s : State) (c : Fin 17) : (s.readClaim c).2.pending = s.pending := by
  unfold State.readClaim
  split <;> simp

@[simp] theorem State.release_pending (s : State) (n : Fin 256) : (s.release n).pending = s.pending := by simp [State.release]

@[simp] theorem State.eoiErr_pending (s : State) (c : Fin 17) : (s.eoiErr c).pending = s.pending := by
  unfold State.eoiErr
  split <;> simp

@[simp] theorem State.eoi_pending (s : State) (c : Fin 17) (n : Nat) : (s.eoi c n).pending = s.pending := by
  unfold State.eoi
  (repeat' split) <;> simp

@[simp] theorem State.unwind_pending (s : State) (c : Fin 17) : (s.unwind c).pending = s.pending := by simp [State.unwind]

@[simp] theorem State.swSet_pending (s : State) (v : BitVec 16) : (s.swSet v).pending = s.pending := by simp [State.swSet]

@[simp] theorem State.deliver_pending (s : State) (r : NRec) : (s.deliver r).pending = s.pending := by simp [State.deliver]

@[simp] theorem State.deliverNext_pending (s : State) : (s.deliverNext).pending = s.pending := by
  unfold State.deliverNext
  dsimp only
  split <;> simp

@[simp] theorem State.ringReset_pending (s : State) (n : Fin 16) : (s.ringReset n).pending = s.pending := by simp [State.ringReset]

@[simp] theorem State.queueReset_pending (s : State) : (s.queueReset).pending = s.pending := by simp [State.queueReset]

@[simp] theorem State.mismatch_pending (s : State) (c : Fin 17) : (s.mismatch c).pending = s.pending := by
  unfold State.mismatch
  split <;> simp

@[simp] theorem State.qcons_pending (s : State) (n : Fin 16) (v : Nat) : (s.qcons n v).pending = s.pending := by simp [State.qcons]

@[simp] theorem State.fmCons_pending (s : State) (v : Nat) : (s.fmCons v).pending = s.pending := by simp [State.fmCons]

@[simp] theorem State.queueEnable_pending (s : State) (n : Fin 16) : (s.queueEnable n).pending = s.pending := by simp [State.queueEnable]

@[simp] theorem State.clrLost_pending (s : State) (n : Fin 16) : (s.clrLost n).pending = s.pending := by rfl

/-! ### Scratchpads -/

@[simp] theorem State.leaseMap_pending (s : State) (who : Fin 17) : (s.leaseMap who).pending = s.pending := by rfl

@[simp] theorem State.spadStore_pending (s : State) (who : Fin 17) (off width value : Nat) :
    (s.spadStore who off width value).pending = s.pending := by simp [State.spadStore]

@[simp] theorem State.spadWrite_pending (s : State) (who : Fin 17) (off width value : Nat) :
    (s.spadWrite who off width value).pending = s.pending := by simp [State.spadWrite]

@[simp] theorem State.spadAlias_pending (s : State) (who : Fin 17) (off width : Nat) (f : Nat → Nat) :
    (s.spadAlias who off width f).pending = s.pending := by simp [State.spadAlias]

@[simp] theorem State.atomic_pending (s : State) (n : Fin 16) (off width : Nat) (f : Nat → Nat) : (s.atomic n off width f).pending = s.pending := by
  simp [State.atomic]

/-! ### Registers -/

@[simp] theorem State.wr64_pending (s : State) (base cur off width value : Nat) (f : Nat → State) (hf : ∀ v, SameQueue (f v) s) :
    (s.wr64 base cur off width value f).pending = s.pending := by
  unfold State.wr64
  split
  · exact hf _
  · rfl

@[simp] theorem State.wr32_pending (s : State) (base off width value : Nat) (f : Nat → State) (hf : ∀ v, SameQueue (f v) s) :
    (s.wr32 base off width value f).pending = s.pending := by
  have hf (v : Nat) : (f v).pending = s.pending := hf v
  simp [State.wr32, hf]

@[simp] theorem State.modQ_pending (s : State) (n : Fin 16) (f : Ring → Ring) : (s.modQ n f).pending = s.pending := by rfl

@[simp] theorem State.wrQctrl_pending (s : State) (n : Fin 16) (v : Nat) : (s.wrQctrl n v).pending = s.pending := by simp [State.wrQctrl]

theorem State.wrNotifAny_pending {s t : State} {who : Fin 17} {off width v : Nat} (h : s.wrNotifAny who off width v = some t) :
    t.pending = s.pending := by
  unfold State.wrNotifAny at h
  split at h
  · cases h; exact State.wr32_pending _ _ _ _ _ _ fun v => by simp
  · split at h
    · cases h; exact State.wr32_pending _ _ _ _ _ _ fun v => by rfl
    · cases h

@[simp] theorem State.wrNotif_pending (s : State) (n : Fin 16) (off width value : Nat) : (s.wrNotif n off width value).pending = s.pending := by
  unfold State.wrNotif
  extract_lets who
  split
  · next h => exact State.wrNotifAny_pending h
  · simp

@[simp] theorem State.wrSrc_pending (s : State) (n : Fin 256) (v : Nat) : (s.wrSrc n v).pending = s.pending := by rfl

@[simp] theorem State.wrNotifFm_pending (s : State) (off width value : Nat) : (s.wrNotifFm off width value).pending = s.pending := by
  unfold State.wrNotifFm
  split
  · next h => exact State.wrNotifAny_pending h
  · simp

@[simp] theorem State.wrTrCtrl_pending (s : State) (n : Fin 16) (v : Nat) : (s.wrTrCtrl n v).pending = s.pending := by simp [State.wrTrCtrl]

@[simp] theorem State.wrWin_pending (s : State) (n : Fin 16) (w : Fin 64) (off width value : Nat) :
    (s.wrWin n w off width value).pending = s.pending := by
  simp [State.wrWin]

@[simp] theorem State.wrCwin_pending (s : State) (n : Fin 16) (off width value : Nat) : (s.wrCwin n off width value).pending = s.pending := by
  simp [State.wrCwin]

@[simp] theorem State.wrCfg_pending (s : State) (n : Fin 64) (v : Nat) : (s.wrCfg n v).pending = s.pending := by simp [State.wrCfg]

@[simp] theorem State.wrSctrl_pending (s : State) (v : Nat) : (s.wrSctrl v).pending = s.pending := by simp [State.wrSctrl]

@[simp] theorem State.wrPmon_pending (s : State) (who : Fin 17) (off width value : Nat) : (s.wrPmon who off width value).pending = s.pending := by
  simp [State.wrPmon]

@[simp] theorem State.wrOpAddr_pending (s : State) (who : Fin 17) (v : Nat) : (s.wrOpAddr who v).pending = s.pending := by
  unfold State.wrOpAddr
  split <;> simp

@[simp] theorem State.wrOpSw_pending (s : State) (who : Fin 17) (v : Nat) : (s.wrOpSw who v).pending = s.pending := by
  unfold State.wrOpSw
  split <;> simp

@[simp] theorem State.wrRctrl_pending (s : State) (v : Nat) : (s.wrRctrl v).pending = s.pending := by simp [State.wrRctrl]

@[simp] theorem State.wrCache_pending (s : State) (who : Fin 17) (off width value : Nat) : (s.wrCache who off width value).pending = s.pending := by
  simp [State.wrCache]

@[simp] theorem State.wrScrubCtrl_pending (s : State) (n : Fin 16) (v : Nat) : (s.wrScrubCtrl n v).pending = s.pending := by simp [State.wrScrubCtrl]

@[simp] theorem State.wrScrub_pending (s : State) (n : Fin 16) (off width value : Nat) : (s.wrScrub n off width value).pending = s.pending := by
  simp [State.wrScrub]

@[simp] theorem State.wrSpad_pending (s : State) (who : Fin 17) (off width value : Nat) : (s.wrSpad who off width value).pending = s.pending := by
  simp [State.wrSpad]

@[simp] theorem State.wrBar2_pending (s : State) (n : Fin 16) (off width value : Nat) : (s.wrBar2 n off width value).pending = s.pending := by
  simp [State.wrBar2]

@[simp] theorem State.maskVec_pending (s : State) (n : Fin 16) (v : Fin 4) (masked : Bool) : (s.maskVec n v masked).pending = s.pending := by
  simp [State.maskVec]

@[simp] theorem State.wrBar0_pending (s : State) (n : Fin 16) (off width value : Nat) : (s.wrBar0 n off width value).pending = s.pending := by
  simp [State.wrBar0]

@[simp] theorem State.readFm_pending (s : State) (block off width : Nat) : (s.readFm block off width).2.pending = s.pending := by
  unfold State.readFm
  dsimp only
  (repeat' split) <;> simp

@[simp] theorem State.writeFm_pending (s : State) (block off width value : Nat) : (s.writeFm block off width value).pending = s.pending := by
  simp [State.writeFm]

/-! ### Tether ends -/

@[simp] theorem State.saveTether_pending (s : State) (t : Fin 8) : (s.saveTether t).pending = s.pending := by rfl

@[simp] theorem State.tetherTo_pending (s : State) (t : Fin 8) (x : TetherState) : (s.tetherTo t x).pending = s.pending := by simp [State.tetherTo]

@[simp] theorem State.waivePartner_pending (s : State) (t : Fin 8) : (s.waivePartner t).pending = s.pending := by simp [State.waivePartner]

@[simp] theorem State.resyncStop_pending (s : State) (t : Fin 8) : (s.resyncStop t).pending = s.pending := by simp [State.resyncStop]

@[simp] theorem State.declareAbsent_pending (s : State) (t : Fin 8) : (s.declareAbsent t).pending = s.pending := by simp [State.declareAbsent]

@[simp] theorem State.portsIdle_pending (s : State) : (s.portsIdle).pending = s.pending := by simp [State.portsIdle]

@[simp] theorem State.freeTether_pending (s : State) (t : Fin 8) : (s.freeTether t).pending = s.pending := by simp [State.freeTether]

@[simp] theorem State.forgetLevels_pending (s : State) (m : Nat) : (s.forgetLevels m).pending = s.pending := by rfl

@[simp] theorem State.removeTether_pending (s : State) (t : Fin 8) (tell : Bool) : (s.removeTether t tell).pending = s.pending := by
  simp [State.removeTether]

@[simp] theorem State.untether_pending (s : State) (base len : Nat) : (s.untether base len).pending = s.pending := by simp [State.untether]

@[simp] theorem State.untetherAll_pending (s : State) : (s.untetherAll).pending = s.pending := by simp [State.untetherAll]

/-! ### Links and resets -/

@[simp] theorem State.endSession_pending (s : State) (n : Fin 16) : (s.endSession n).pending = s.pending := by rfl

@[simp] theorem State.scanStop_pending (s : State) (n : Fin 16) (flags code : Nat) : (s.scanStop n flags code).pending = s.pending := by
  simp [State.scanStop]

@[simp] theorem State.resetBar2_pending (s : State) (n : Fin 16) : (s.resetBar2 n).pending = s.pending := by simp [State.resetBar2]

@[simp] theorem State.resetFunction_pending (s : State) (n : Fin 16) : (s.resetFunction n).pending = s.pending := by rfl

@[simp] theorem State.resetDecoders_pending (s : State) (n : Fin 16) : (s.resetDecoders n).pending = s.pending := by rfl

@[simp] theorem State.dropTraffic_pending (s : State) (p : Fin 2) : (s.dropTraffic p).pending = s.pending := by simp [State.dropTraffic]

@[simp] theorem State.resetLd_pending (s : State) (n : Fin 16) : (s.resetLd n).pending = s.pending := by simp [State.resetLd]

@[simp] theorem State.resetPort_pending (s : State) (p : Fin 2) (mode : PortMode) (perst : Bool) :
    (s.resetPort p mode perst).pending = s.pending := by simp [State.resetPort]

@[simp] theorem State.commitDue_pending (s : State) : (s.commitDue).pending = s.pending := by simp [State.commitDue]

@[simp] theorem State.gpfEnds_pending (s : State) : (s.gpfEnds).pending = s.pending := by simp [State.gpfEnds]

@[simp] theorem State.commitDecoder_pending (s : State) (n : Fin 16) (d : Fin 4) (c : DecoderCfg) : (s.commitDecoder n d c).pending = s.pending := by
  simp [State.commitDecoder]

/-! ### The MAC engine -/

@[simp] theorem State.newKey_pending (s : State) : (s.newKey).2.pending = s.pending := by rfl

@[simp] theorem State.saveUsage_pending (s : State) (slot : Fin 16) : (s.saveUsage slot).pending = s.pending := by rfl

@[simp] theorem State.macCount_pending (s : State) (slot : Fin 16) : (s.macCount slot).pending = s.pending := by simp [State.macCount]

@[simp] theorem State.macReset_pending (s : State) (slot : Fin 16) : (s.macReset slot).pending = s.pending := by rfl

@[simp] theorem State.reseal_pending (s : State) : (s.reseal).pending = s.pending := by rfl

@[simp] theorem State.sealUse_pending (s : State) : (s.sealUse).pending = s.pending := by simp [State.sealUse]

@[simp] theorem State.drawKey_pending (s : State) (item : Nat) : (s.drawKey item).2.pending = s.pending := by simp [State.drawKey]

@[simp] theorem State.macReplace_pending (s : State) (slot : Fin 16) : (s.macReplace slot).pending = s.pending := by simp [State.macReplace]

@[simp] theorem State.macUse_pending (s : State) (slot : Fin 16) : (s.macUse slot).pending = s.pending := by simp [State.macUse]

@[simp] theorem State.macRun_pending (s : State) (slot : Fin 16) (key : Key) (msg : List Byte) : (s.macRun slot key msg).2.pending = s.pending := by
  unfold State.macRun
  split <;> simp

@[simp] theorem State.macValue_pending (s : State) (eng : Bool) (slot : Fin 16) (key : Key) (msg : List Byte) :
    (s.macValue eng slot key msg).2.pending = s.pending := by
  unfold State.macValue
  split <;> simp

@[simp] theorem State.checkOf_pending (s : State) (eng : Bool) (slot : Fin 16) (key pw : Key) :
    (s.checkOf eng slot key pw).2.pending = s.pending := by simp [State.checkOf]

@[simp] theorem State.macMismatch_pending (s : State) (slot : Fin 16) (katOk : Bool) : (s.macMismatch slot katOk).pending = s.pending := by
  simp [State.macMismatch]

/-! ### Rekeys and roots -/

@[simp] theorem State.advanceW_pending (s : State) (r : Fin 256) : (s.advanceW r).pending = s.pending := by simp [State.advanceW]

@[simp] theorem State.rekeyPage_pending (s : State) (r : Fin 256) : (s.rekeyPage r).pending = s.pending := by simp [State.rekeyPage]

@[simp] theorem State.rekeyDone_pending (s : State) (r : Fin 256) : (s.rekeyDone r).pending = s.pending := by simp [State.rekeyDone]

@[simp] theorem State.writeDirty_pending (s : State) : (s.writeDirty).pending = s.pending := by simp [State.writeDirty]

@[simp] theorem State.sealRoots_pending (s : State) : (s.sealRoots).pending = s.pending := by simp [State.sealRoots]

/-! ### Erasure -/

@[simp] theorem State.newRegionKeys_pending (s : State) (r : Fin 256) : (s.newRegionKeys r).pending = s.pending := by simp [State.newRegionKeys]

@[simp] theorem State.restage_pending (s : State) : (s.restage).pending = s.pending := by
  simp [State.restage]

@[simp] theorem State.relook_pending (s : State) : (s.relook).pending = s.pending := by simp [State.relook]

@[simp] theorem State.eraseAll_pending (s : State) : (s.eraseAll).pending = s.pending := by simp [State.eraseAll]

@[simp] theorem State.eraseLd_pending (s : State) (n : Fin 16) : (s.eraseLd n).pending = s.pending := by
  unfold State.eraseLd
  extract_lets s1 mine s2 s3 s4 s5 s6
  have h1 : s1.pending = s.pending := State.untether_pending ..
  have h2 : s2.pending = s.pending := (foldl_pending (fun s e => by simp) _ _).trans h1
  have h4 : s4.pending = s.pending := by
    rw [show s4.pending = s3.pending from foldl_pending (fun s g => by simp) _ _]
    exact (State.closeAll_pending s2 n 8).trans h2
  have h5 : s5.pending = s.pending := by
    refine (foldl_pending (fun s r => ?_) _ _).trans h4
    dsimp only
    (repeat' split) <;> simp
  simp [s6, h5]

@[simp] theorem State.releaseBegin_pending (s : State) (n : Fin 16) (q : Range) : (s.releaseBegin n q).pending = s.pending := by
  simp [State.releaseBegin]

@[simp] theorem State.releaseDone_pending (s : State) (n : Fin 16) (q : Range) : (s.releaseDone n q).pending = s.pending := by
  simp [State.releaseDone]

@[simp] theorem State.releaseResume_pending (s : State) : (s.releaseResume).pending = s.pending := by simp [State.releaseResume]

/-! ### Mailboxes -/

@[simp] theorem State.setSession_pending (s : State) (i : Inst) (x : Option Session) : (s.setSession i x).pending = s.pending := by
  simp [State.setSession]

@[simp] theorem State.setHandle_pending (s : State) (i : Inst) (x : Option Handle) : (s.setHandle i x).pending = s.pending := by
  simp [State.setHandle]

@[simp] theorem State.answer_pending (s : State) (r : Req) (op : Nat) (a : Ans) : (s.answer r op a).pending = s.pending := by
  unfold State.answer
  dsimp only
  split <;> simp

@[simp] theorem State.mbxLater_pending (s : State) (c : Instr) (len : Option Nat) {body : State → Option Ans × State}
    (hbody : SameQueue (body s).2 s) : (s.mbxLater c len body).pending = s.pending := by
  have hbody : (body s).2.pending = s.pending := hbody
  unfold State.mbxLater
  split
  · rfl
  · split
    · rfl
    · rfl
    · split <;> simp
    · split
      · next h => rw [h] at hbody; simpa using hbody
      · next h => rw [h] at hbody; exact hbody

@[simp] theorem State.mbx_pending (s : State) (c : Instr) (len : Option Nat) {body : State → Ans × State}
    (hbody : SameQueue (body s).2 s) : (s.mbx c len body).pending = s.pending := State.mbxLater_pending s c len hbody

@[simp] theorem State.unwrap_pending (s : State) (slot : Fin 4) (w : BitVec 320) : (s.unwrap slot w).2.pending = s.pending := by
  unfold State.unwrap
  dsimp only
  (repeat' split) <;> simp

/-! ### Power -/

@[simp] theorem State.sealAdvance_pending (s : State) (keep0 : Bool) : (s.sealAdvance keep0).pending = s.pending := by rfl

@[simp] theorem State.eraseCustomer_pending (s : State) : (s.eraseCustomer).pending = s.pending := by rfl

@[simp] theorem State.erasePasswords_pending (s : State) : (s.erasePasswords).pending = s.pending := by rfl

@[simp] theorem State.lcKeeper_pending (s : State) : (s.lcKeeper).pending = s.pending := by
  unfold State.lcKeeper
  (repeat' split) <;> simp

@[simp] theorem State.startSeq_pending (s : State) : (s.startSeq).pending = s.pending := by simp [State.startSeq]

@[simp] theorem State.trySeq_pending (s : State) : (s.trySeq).pending = s.pending := by simp [State.trySeq]

@[simp] theorem State.seqFail_pending (s : State) (rail : Nat) : (s.seqFail rail).pending = s.pending := by simp [State.seqFail]

@[simp] theorem State.stopAdmission_pending (s : State) : (s.stopAdmission).pending = s.pending := by simp [State.stopAdmission]

@[simp] theorem State.orderly_pending (s : State) : (s.orderly).pending = s.pending := by simp [State.orderly]

@[simp] theorem State.flushEvent_pending (s : State) (cause : Nat) : (s.flushEvent cause).pending = s.pending := by simp [State.flushEvent]

@[simp] theorem State.answerPoint_pending (s : State) (pt : Point) : (s.answerPoint pt).pending = s.pending := by simp [State.answerPoint]

@[simp] theorem State.beginPoint_pending (s : State) (pt : Point) : (s.beginPoint pt).pending = s.pending := by rfl

@[simp] theorem State.flushPoint_pending (s : State) : (s.flushPoint).pending = s.pending := by simp [State.flushPoint]

@[simp] theorem State.flushStart_pending (s : State) (cause : FlushCause) : (s.flushStart cause).pending = s.pending := by simp [State.flushStart]

@[simp] theorem State.flushWrite_pending (s : State) (w : Write) : (s.flushWrite w).pending = s.pending := by
  unfold State.flushWrite
  dsimp only
  (repeat' split) <;> simp

@[simp] theorem State.flushCommits_pending (s : State) : (s.flushCommits).pending = s.pending := by simp [State.flushCommits]

@[simp] theorem State.flushOutcomes_pending (s : State) : (s.flushOutcomes).pending = s.pending := by simp [State.flushOutcomes]

@[simp] theorem State.flushMarks_pending (s : State) : (s.flushMarks).pending = s.pending := by simp [State.flushMarks]

@[simp] theorem State.flushContent_pending (s : State) : (s.flushContent).pending = s.pending := by simp [State.flushContent]

@[simp] theorem State.flushAll_pending (s : State) (pre : Bool) : (s.flushAll pre).pending = s.pending := by simp [State.flushAll]

@[simp] theorem State.endDown_pending (s : State) : (s.endDown).pending = s.pending := by simp [State.endDown]

@[simp] theorem State.keeperRam_pending (s : State) : (s.keeperRam).pending = s.pending := by rfl

@[simp] theorem State.advanceCounter_pending (s : State) (c : SecCounter) : (s.advanceCounter c).pending = s.pending := by
  cases c <;> simp [State.advanceCounter]

@[simp] theorem State.mountBad_pending (s : State) (b : BadRecord) : (s.mountBad b).pending = s.pending := by
  unfold State.mountBad
  (repeat' split) <;> simp

@[simp] theorem State.requestPoint_pending (s : State) (i : Inst) (pt : Point) : (s.requestPoint i pt).pending = s.pending := by
  unfold State.requestPoint
  (repeat' split) <;> simp

/-! ### Thermal -/

@[simp] theorem State.bandDie_pending (s : State) (d : DieKey) (first : Bool) : (s.bandDie d first).pending = s.pending := by rfl

@[simp] theorem State.refreshStack_pending (s : State) (k : Fin 5) (first : Bool) : (s.refreshStack k first).pending = s.pending := by rfl

@[simp] theorem State.sensorEvent_pending (s : State) (o : Nat) (before after : Sensor) : (s.sensorEvent o before after).pending = s.pending := by
  simp [State.sensorEvent]

@[simp] theorem State.measureCtl_pending (s : State) (rs : List Reading) (first : Bool) : (s.measureCtl rs first).pending = s.pending := by
  simp [State.measureCtl]

@[simp] theorem State.measureMedia_pending (s : State) (rs : List Reading) (first : Bool) : (s.measureMedia rs first).pending = s.pending := by
  simp [State.measureMedia]

@[simp] theorem State.judgeTrend_pending (s : State) : (s.judgeTrend).pending = s.pending := by rfl

@[simp] theorem State.setLevel_pending (s : State) (n : Nat) : (s.setLevel n).pending = s.pending := by simp [State.setLevel]

@[simp] theorem State.enterThrottle_pending (s : State) : (s.enterThrottle).pending = s.pending := by
  unfold State.enterThrottle
  (repeat' split) <;> simp

@[simp] theorem State.trip_pending (s : State) (p : Nat × Int) : (s.trip p).pending = s.pending := by
  unfold State.trip
  dsimp only
  split <;> simp

@[simp] theorem State.dscRecord_pending (s : State) (dirty : Bool) : (s.dscRecord dirty).pending = s.pending := by simp [State.dscRecord]

@[simp] theorem State.step10_pending (s : State) : (s.step10).pending = s.pending := by simp [State.step10]

@[simp] theorem State.degByte_pending (s : State) (t : Option Int) : (s.degByte t).2.pending = s.pending := by
  unfold State.degByte
  split <;> simp

/-! ### Start-up -/

@[simp] theorem State.blowFuse_pending (s : State) : (s.blowFuse).pending = s.pending := by simp [State.blowFuse]

@[simp] theorem State.diePowerUp_pending (s : State) : (s.diePowerUp).pending = s.pending := by simp [State.diePowerUp]

@[simp] theorem State.fwStart_pending (s : State) (b : Bool) : (s.fwStart b).pending = s.pending := by simp [State.fwStart]

@[simp] theorem State.chansUp_pending (s : State) : (s.chansUp).pending = s.pending := by simp [State.chansUp]

@[simp] theorem State.settleWins_pending (s : State) (bootType : Nat) : (s.settleWins bootType).pending = s.pending := by simp [State.settleWins]

@[simp] theorem State.restoreDrift_pending (s : State) : (s.restoreDrift).pending = s.pending := by rfl

@[simp] theorem State.mediaFlags_pending (s : State) : (s.mediaFlags).pending = s.pending := by rfl

@[simp] theorem State.eraseResume_pending (s : State) : (s.eraseResume).pending = s.pending := by
  have herase := State.eraseAll_pending s
  have hset (t : State) (i : Inst) (mb : Mb) (f : Mailbox → Mailbox) : (({ t with mb := mb } : State).modMb i f).pending = t.pending := rfl
  unfold State.eraseResume
  split
  · exact (hset ..).trans herase
  · rfl

@[simp] theorem State.drainsResume_pending (s : State) : (s.drainsResume).pending = s.pending := by simp [State.drainsResume]

@[simp] theorem State.mediaUp_pending (s : State) : (s.mediaUp).pending = s.pending := by simp [State.mediaUp]

@[simp] theorem State.loadRoots_pending (s : State) : (s.loadRoots).pending = s.pending := by rfl

@[simp] theorem State.replayLost_pending (s : State) (e : Entry) (tag : Bool) : (s.replayLost e tag).pending = s.pending := by simp [State.replayLost]

@[simp] theorem State.replayNone_pending (s : State) (n : RpCount) (r : ReplayEntry) (p : Place) (e : Entry) :
    (s.replayNone n r p e).1.pending = s.pending := by
  unfold State.replayNone
  (repeat' split) <;> simp

@[simp] theorem State.replayEntry_pending (x : State × RpCount) (r : ReplayEntry) : (State.replayEntry x r).1.pending = x.1.pending := by
  obtain ⟨s, n⟩ := x
  unfold State.replayEntry
  dsimp only
  (repeat' split) <;> simp

@[simp] theorem State.replayAgain_pending (x : State × RpCount) (r : ReplayEntry) : (State.replayAgain x r).1.pending = x.1.pending := by
  obtain ⟨s, n⟩ := x
  have hplace := State.placeAgain_pending s (rpPlace r)
  unfold State.replayAgain
  dsimp only
  split
  · rfl
  · split
    · split <;> (next h => rw [h] at hplace; exact hplace)
    · rfl

@[simp] theorem State.dropUnseen_pending (s : State) : (s.dropUnseen).pending = s.pending := by rfl

@[simp] theorem State.applyPlain_pending (s : State) (p : Place) (e : Entry) : (s.applyPlain p e).pending = s.pending := by simp [State.applyPlain]

@[simp] theorem State.applyPlains_pending (s : State) : (s.applyPlains).pending = s.pending := by simp [State.applyPlains]

@[simp] theorem State.joinTents_pending (s : State) (n : Fin 16) (w : Fin 64) : (s.joinTents n w).pending = s.pending := by simp [State.joinTents]

@[simp] theorem State.replayCommit_pending (s : State) (res : ReplayResult) (n : Fin 16) (w : Fin 64) :
    (s.replayCommit res n w).pending = s.pending := by simp [State.replayCommit]

@[simp] theorem State.decideGroup_pending (s : State) (res : ReplayResult) (n : Fin 16) (w : Fin 64) :
    (s.decideGroup res n w).1.pending = s.pending := by
  unfold State.decideGroup
  dsimp only
  (repeat' split) <;> simp

@[simp] theorem State.decideGroups_pending (s : State) (res : ReplayResult) : (s.decideGroups res).1.pending = s.pending := by
  simp [State.decideGroups]

@[simp] theorem State.replayBitmaps_pending (s : State) (unreached : List (Fin 8)) : (s.replayBitmaps unreached).pending = s.pending := by
  refine foldl_pending (fun s e => ?_) _ _
  split
  · simp
  · rfl

@[simp] theorem State.replayPage_pending (s : State) (page : Nat) : (s.replayPage page).pending = s.pending := by simp [State.replayPage]

@[simp] theorem State.restoringEnds_pending (t : State) : (t.restoringEnds).pending = t.pending := by simp [State.restoringEnds]

@[simp] theorem State.replayFound_pending (s : State) (res : ReplayResult) : (s.replayFound res).1.pending = s.pending := by simp [State.replayFound]

@[simp] theorem State.replayPages_pending (t : State) (fly : List Nat) (ticks : Nat) : (t.replayPages fly ticks).pending = t.pending := by
  simp [State.replayPages]

@[simp] theorem State.replayEnd_pending (t : State) (n : RpCount) (rep : RecoveryReport) : (t.replayEnd n rep).pending = t.pending := by
  simp [State.replayEnd]

@[simp] theorem State.formatBlocks_pending (s : State) (bad : List BlockKey) : (s.formatBlocks bad).pending = s.pending := by rfl

/-! ### Sessions -/

@[simp] theorem State.openHandle_pending (s : State) (i : Inst) (slot : Fin 4) (hn : BitVec 128) :
    (s.openHandle i slot hn).2.pending = s.pending := by simp [State.openHandle]

@[simp] theorem State.authFail_pending (s : State) (slot : Fin 4) : (s.authFail slot).pending = s.pending := by simp [State.authFail]

@[simp] theorem State.authGood_pending (s : State) (slot : Fin 4) : (s.authGood slot).pending = s.pending := by rfl

@[simp] theorem State.authCheck_pending (s : State) (i : Inst) (h : Handle) (k : SessKey) (resp : BitVec 128) :
    (s.authCheck i h k resp).2.pending = s.pending := by
  unfold State.authCheck
  dsimp only
  have hfirst := State.macValue_pending s (!s.keeperServes i) ⟨h.slot.val, by omega⟩ k.key (sessMsg 1 i h)
  split
  · next he => rw [he] at hfirst; exact hfirst
  · next t he =>
    rw [he] at hfirst
    split
    · have hsecond := State.macValue_pending t (!s.keeperServes i) ⟨h.slot.val, by omega⟩ k.key (sessMsg 2 i h)
      split
      · next he => rw [he] at hsecond; exact hsecond.trans hfirst
      · next he => rw [he] at hsecond; simpa using hsecond.trans hfirst
    · simpa using hfirst

@[simp] theorem State.endSlot_pending (s : State) (slot : Fin 4) : (s.endSlot slot).pending = s.pending := by rfl

@[simp] theorem State.setSessKey_pending (s : State) (slot : Fin 4) (role : Nat) (k : Key) : (s.setSessKey slot role k).pending = s.pending := by rfl

@[simp] theorem State.fmAddr_pending (before after : State) (block off : Nat) : (before.fmAddr after block off).pending = after.pending := by
  simp [State.fmAddr]

@[simp] theorem State.readFmAll_pending (s : State) (block width offset n : Nat) :
    (s.readFmAll block width offset n).2.pending = s.pending := by
  induction n generalizing s offset with
  | zero => rfl
  | succ n ih => exact (ih _ _).trans ((State.fmAddr_pending ..).trans (State.readFm_pending ..))

@[simp] theorem State.writeFmAll_pending (s : State) (block width offset : Nat) (l : List Nat) :
    (s.writeFmAll block width offset l).pending = s.pending := by
  induction l generalizing s offset with
  | nil => rfl
  | cons v l ih => exact (ih _ _).trans (by simp)

/-! ### Lode ports and tethers -/

@[simp] theorem State.lodeDown_pending (s : State) (p : Fin 4) : (s.lodeDown p).pending = s.pending := by rfl

@[simp] theorem State.tagFail_pending (s : State) (p : Fin 4) : (s.tagFail p).pending = s.pending := by simp [State.tagFail]

@[simp] theorem State.lodeRecv_pending (s : State) (h : LodeHdr) (f : State → State) (hf : ∀ t, SameQueue (f t) t) :
    (s.lodeRecv h f).pending = s.pending := by
  have hf (t : State) : (f t).pending = t.pending := hf t
  simp [State.lodeRecv, hf]

@[simp] theorem State.tetherRecv_pending (s : State) (h : LodeHdr) (f : State → State) (hf : ∀ t, SameQueue (f t) t) :
    (s.tetherRecv h f).pending = s.pending := by
  have hf (t : State) : (f t).pending = t.pending := hf t
  simp [State.tetherRecv, hf]

@[simp] theorem State.helloSend_pending (s : State) (p : Fin 4) : (s.helloSend p).pending = s.pending := by rfl

@[simp] theorem State.keyPort_pending (s : State) (p : Fin 4) (pairing : Key) : (s.keyPort p pairing).pending = s.pending := by rfl

@[simp] theorem State.deriveKeys_pending (s : State) (p : Fin 4) : (s.deriveKeys p).pending = s.pending := by
  unfold State.deriveKeys
  split <;> simp

@[simp] theorem State.levelSend_pending (s : State) : (s.levelSend).pending = s.pending := by simp [State.levelSend]

@[simp] theorem State.relevel_pending (s : State) : (s.relevel).pending = s.pending := by simp [State.relevel]

@[simp] theorem State.sendRs_pending (s : State) (t : Fin 8) (line : Nat) : (s.sendRs t line).pending = s.pending := by
  unfold State.sendRs
  split <;> simp

@[simp] theorem State.startGran_pending (s : State) (t : Fin 8) (g : Nat) : (s.startGran t g).pending = s.pending := by simp [State.startGran]

@[simp] theorem State.resyncDone_pending (s : State) (t : Fin 8) : (s.resyncDone t).pending = s.pending := by simp [State.resyncDone]

@[simp] theorem State.resyncStart_pending (s : State) (t : Fin 8) (all : Bool) : (s.resyncStart t all).pending = s.pending := by
  unfold State.resyncStart
  dsimp only
  split <;> simp

@[simp] theorem State.granDone_pending (s : State) (t : Fin 8) : (s.granDone t).pending = s.pending := by
  unfold State.granDone
  dsimp only
  split <;> simp

@[simp] theorem State.sendBitmap_pending (s : State) (t : Fin 8) : (s.sendBitmap t).pending = s.pending := by simp [State.sendBitmap]

@[simp] theorem State.asPrimary_pending (s : State) (t : Fin 8) (all : Bool) : (s.asPrimary t all).pending = s.pending := by simp [State.asPrimary]

@[simp] theorem State.asReplica_pending (s : State) (t : Fin 8) (epoch : Nat) (full sends : Bool) :
    (s.asReplica t epoch full sends).pending = s.pending := by simp [State.asReplica]

@[simp] theorem State.pair_pending (s : State) (t : Fin 8) (e : TetherEntry) : (s.pair t e).pending = s.pending := by
  unfold State.pair
  dsimp only
  split <;> simp

@[simp] theorem State.pairAll_pending (s : State) (l : List (Fin 8 × TetherEntry)) : (s.pairAll l).pending = s.pending := by simp [State.pairAll]

@[simp] theorem State.bringUpFails_pending (s : State) (p : Fin 4) : (s.bringUpFails p).pending = s.pending := by simp [State.bringUpFails]

@[simp] theorem State.bringUp_pending (s : State) (p : Fin 4) (m : HelloMsg) : (s.bringUp p m).pending = s.pending := by simp [State.bringUp]

@[simp] theorem State.mirror_pending (s : State) (t : Fin 8) (off : Nat) (win : Option (Fin 64)) (psn : Bool) (data : Line) (src : WSrc) :
    (s.mirror t off win psn data src).pending = s.pending := by simp [State.mirror]

@[simp] theorem State.resyncSeen_pending (s : State) (t : Fin 8) : (s.resyncSeen t).pending = s.pending := by simp [State.resyncSeen]

@[simp] theorem State.confirm_pending (s : State) (t : Fin 8) (q : Nat) : (s.confirm t q).pending = s.pending := by
  unfold State.confirm
  split <;> simp

@[simp] theorem State.replicaCommit_pending (s : State) (n : Fin 16) (w : Fin 64) : (s.replicaCommit n w).pending = s.pending := by
  simp [State.replicaCommit]

@[simp] theorem State.dropMirrored_pending (s : State) (t : Fin 8) (wins : List (Fin 64)) : (s.dropMirrored t wins).pending = s.pending := by rfl

@[simp] theorem State.newTether_pending (s : State) (t : Fin 8) (region partner : Nat) (ports : BitVec 4) (k : Key) :
    (s.newTether t region partner ports k).pending = s.pending := by simp [State.newTether]

@[simp] theorem State.failoverWin_pending (s : State) (n : Fin 16) (w : Fin 64) : (s.failoverWin n w).pending = s.pending := by
  simp [State.failoverWin]

@[simp] theorem State.becomePrimary_pending (s : State) (t : Fin 8) : (s.becomePrimary t).pending = s.pending := by simp [State.becomePrimary]

@[simp] theorem State.becomeReplica_pending (s : State) (t : Fin 8) : (s.becomeReplica t).pending = s.pending := by simp [State.becomeReplica]

/-! ### Cores and parity -/

@[simp] theorem State.lateError_pending (s : State) (i : Inst) (op : Nat) : (s.lateError i op).pending = s.pending := by simp [State.lateError]

@[simp] theorem State.bgLost_pending (s : State) (i : Inst) : (s.bgLost i).pending = s.pending := by simp [State.bgLost]

@[simp] theorem State.mailboxLost_pending (s : State) (role : Nat) : (s.mailboxLost role).pending = s.pending := by
  unfold State.mailboxLost
  refine (foldl_pending (fun s i => ?_) _ _).trans ?_
  · (repeat' split) <;> simp
  · simp

@[simp] theorem State.endSessions_pending (s : State) : (s.endSessions).pending = s.pending := by rfl

@[simp] theorem State.moveRole_pending (s : State) (c : Fin 12) (out : Bool) (log : List Nat) : (s.moveRole c out log).pending = s.pending := by rfl

@[simp] theorem State.coreRestart_pending (s : State) (c : Fin 12) : (s.coreRestart c).pending = s.pending := by simp [State.coreRestart]

@[simp] theorem State.newCacheKey_pending (s : State) : (s.newCacheKey).pending = s.pending := by rfl

@[simp] theorem State.ideKeyLost_pending (s : State) (i : Nat) : (s.ideKeyLost i).pending = s.pending := by simp [State.ideKeyLost]

@[simp] theorem State.bankEntry_pending (s : State) (off : Nat) : (s.bankEntry off).pending = s.pending := by simp [State.bankEntry]

@[simp] theorem State.writeBad_pending (s : State) (q : Nat) : (s.writeBad q).pending = s.pending := by simp [State.writeBad]

@[simp] theorem State.readBad_pending (s : State) (id : Nat) : (s.readBad id).pending = s.pending := by rfl

@[simp] theorem State.parityAct_pending (s : State) (m : Parity) (addr : Nat) : (s.parityAct m addr).pending = s.pending := by
  unfold State.parityAct
  split <;> simp

@[simp] theorem State.ringDrop_pending (s : State) (m : Parity) (addr : Nat) : (s.ringDrop m addr).pending = s.pending := by simp [State.ringDrop]

/-! ### Power commands and the customer partition -/

@[simp] theorem State.powerOn_pending (s : State) : (s.powerOn).pending = s.pending := by
  unfold State.powerOn
  dsimp only
  split <;> simp

@[simp] theorem State.powerOffReq_pending (s : State) : (s.powerOffReq).pending = s.pending := by
  unfold State.powerOffReq
  dsimp only
  split <;> simp

@[simp] theorem State.powerRestart_pending (s : State) : (s.powerRestart).pending = s.pending := by
  unfold State.powerRestart
  split <;> simp

@[simp] theorem State.tamperHolds_pending (s : State) : (s.tamperHolds).2.pending = s.pending := by
  unfold State.tamperHolds
  dsimp only
  (repeat' split) <;> simp

@[simp] theorem State.customerPw_pending (s : State) (i : Inst) (stored given : Key) : (s.customerPw i stored given).2.pending = s.pending := by
  unfold State.customerPw
  dsimp only
  split
  · rfl
  · have hcheck := State.checkOf_pending s (!s.keeperServes i) 5 s.sec.keyCust.get given
    split
    · next h => rw [h] at hcheck; exact hcheck
    · next h => rw [h] at hcheck; split <;> exact hcheck

@[simp] theorem State.customerGate_pending (s : State) (i : Inst) (offset length : Nat) (stored given : Key) :
    (s.customerGate i offset length stored given).2.pending = s.pending := by
  unfold State.customerGate
  (repeat' split) <;> simp

@[simp] theorem State.customerStore_pending (s : State) (offset length : Nat) : (s.customerStore offset length).pending = s.pending := by
  simp [State.customerStore]

/-! ### Life cycle and attestation -/

@[simp] theorem State.lcBegin_pending (s : State) (t : LifeCycle) : (s.lcBegin t).pending = s.pending := by simp [State.lcBegin]

@[simp] theorem State.setPhase_pending (s : State) (via : Inst) (p : SpdmPhase) : (s.setPhase via p).pending = s.pending := by rfl

@[simp] theorem State.spdmSay_pending (s : State) (via : Inst) (code : Nat) (l : List (String × Nat)) :
    (s.spdmSay via code l).pending = s.pending := by rfl

@[simp] theorem State.spdmError_pending (s : State) (via : Inst) (code : Nat) : (s.spdmError via code).pending = s.pending := by rfl

@[simp] theorem State.spdmDown_pending (s : State) (via : Inst) : (s.spdmDown via).pending = s.pending := by simp [State.spdmDown]

@[simp] theorem State.spdm_pending (s : State) (via : Inst) (need : SpdmPhase) (f : State → State) (hf : ∀ t, SameQueue (f t) t) :
    (s.spdm via need f).pending = s.pending := by
  have hf (t : State) : (f t).pending = t.pending := hf t
  simp [State.spdm, hf]

@[simp] theorem State.spdmSign_pending (s : State) : (s.spdmSign).2.pending = s.pending := by rfl

@[simp] theorem State.setSpdm_pending (s : State) (k : Fin 4) (x : SpdmSess) : (s.setSpdm k x).pending = s.pending := by rfl

@[simp] theorem State.spdmIn_pending (s : State) (via : Inst) (k : Fin 4) (need : SpdmSess) (f : State → State) (hf : ∀ t, SameQueue (f t) t) :
    (s.spdmIn via k need f).pending = s.pending := by
  have hf (t : State) : (f t).pending = t.pending := hf t
  simp [State.spdmIn, hf]

@[simp] theorem State.ideKm_pending (s : State) (k : Fin 4) (p : Fin 2) (f : State → State) (hf : ∀ t, SameQueue (f t) t) :
    (s.ideKm k p f).pending = s.pending := by
  have hf (t : State) : (f t).pending = t.pending := hf t
  simp [State.ideKm, hf]

@[simp] theorem State.tamperRespond_pending (s : State) : (s.tamperRespond).pending = s.pending := by simp [State.tamperRespond]

/-! ### Firmware -/

@[simp] theorem State.putImage_pending (s : State) (slot : Nat) (i : Image) : (s.putImage slot i).pending = s.pending := by rfl

@[simp] theorem State.storeImage_pending (s : State) (slot : Nat) (i : Image) : (s.storeImage slot i).2.pending = s.pending := by
  unfold State.storeImage
  (repeat' split) <;> simp

@[simp] theorem State.lowerProto_pending (s : State) (n : Nat) : (s.lowerProto n).pending = s.pending := by simp [State.lowerProto]

@[simp] theorem State.activateBegin_pending (s : State) (i : Inst) (b : Bool) (img : Image) : (s.activateBegin i b img).pending = s.pending := by
  simp [State.activateBegin]

@[simp] theorem State.activated_pending (s : State) (b : Bool) : (s.activated b).pending = s.pending := by simp [State.activated]

/-! ### Standard commands -/

@[simp] theorem State.bgStart_pending (s : State) (i : Inst) (op : Nat) : (s.bgStart i op).pending = s.pending := by rfl

@[simp] theorem State.setEvLog_pending (s : State) (i : Inst) (k : Fin 4) (l : EvLog) : (s.setEvLog i k l).pending = s.pending := by
  unfold State.setEvLog
  split <;> simp

@[simp] theorem State.mbxWrite_pending (s : State) (n : Fin 16) (line : Nat) (data : Line) (psn : Bool) (src : WSrc) :
    (s.mbxWrite n line data psn src).pending = s.pending := by simp [State.mbxWrite]

@[simp] theorem State.poisonWrite_pending (s : State) (n : Fin 16) (line : Nat) (data : Line) (psn : Bool) (src : WSrc) (a : Option Ans) :
    (s.poisonWrite n line data psn src a).2.pending = s.pending := by
  cases a <;> simp [State.poisonWrite]

@[simp] theorem State.scanEnd_pending (s before : State) (n : Fin 16) (found : List LineFound) : (s.scanEnd before n found).pending = s.pending := by
  simp [State.scanEnd]

@[simp] theorem State.eraseCmd_pending (s : State) (i : Inst) (op : Nat) : (s.eraseCmd i op).2.pending = s.pending := by
  unfold State.eraseCmd
  split <;> simp

@[simp] theorem State.eraseDone_pending (s : State) (i : Inst) : (s.eraseDone i).pending = s.pending := by simp [State.eraseDone]

@[simp] theorem State.modPass_pending (s : State) (n : Fin 16) (f : Pass → Pass) : (s.modPass n f).pending = s.pending := by rfl

@[simp] theorem State.judgePass_pending (s : State) (n : Fin 16) (master : Bool) (pw : Key) : (s.judgePass n master pw).2.pending = s.pending := by
  unfold State.judgePass
  dsimp only
  split
  · rfl
  · split
    · rfl
    · have hcheck := State.checkOf_pending s true 4 s.sec.keyPass.get pw
      split
      · next h => rw [h] at hcheck; exact hcheck
      · next h => rw [h] at hcheck; split <;> simpa using hcheck

@[simp] theorem State.storePass_pending (s : State) (n : Fin 16) (master : Bool) (pw : Key) : (s.storePass n master pw).2.pending = s.pending := by
  have hcheck := State.checkOf_pending s true 4 s.sec.keyPass.get pw
  unfold State.storePass
  split
  · next h => rw [h] at hcheck; exact hcheck
  · next h => rw [h] at hcheck; simpa using hcheck

/-! ### Dynamic capacity -/

@[simp] theorem State.divide_pending (s : State) (parts dcs : List Nat) : (s.divide parts dcs).pending = s.pending := by simp [State.divide]

theorem State.offer_pending {s t : State} {n : Fin 16} {q : Range} {k : Fin 8} (h : s.offer n q k = some t) : t.pending = s.pending := by
  unfold State.offer at h
  dsimp only at h
  split at h
  · split at h
    · cases h; rfl
    · cases h
  · split at h
    · cases h; rfl
    · cases h
  · cases h

@[simp] theorem State.dcRelease_pending (s : State) (c : Instr) (n : Fin 16) (qs : List Range) : (s.dcRelease c n qs).2.pending = s.pending := by
  unfold State.dcRelease
  dsimp only
  (repeat' split) <;> simp

@[simp] theorem State.setFractions_pending (s : State) (start : Nat) (fractions : List Byte) (f : LD → Nat → LD) :
    (s.setFractions start fractions f).pending = s.pending := by rfl

/-! ### Channel controller -/

@[simp] theorem State.statusRead_pending (s : State) (d : DieKey) (t : Fin 8) (st : Byte) : (s.statusRead d t st).pending = s.pending := by rfl

@[simp] theorem State.fatalRead_pending (s : State) (d : DieKey) (t : Fin 8) (st : Byte) : (s.fatalRead d t st).pending = s.pending := by
  simp [State.fatalRead]

/-! ### Vendor commands -/

@[simp] theorem State.chanBytes_pending (s : State) (c : Fin 64) : (s.chanBytes c).2.pending = s.pending := by
  unfold State.chanBytes
  split <;> simp

@[simp] theorem State.chansBytes_pending (s : State) (l : List (Fin 64)) : (s.chansBytes l).2.pending = s.pending := by
  induction l generalizing s with
  | nil => rfl
  | cons c l ih => exact (ih _).trans (State.chanBytes_pending s c)

@[simp] theorem State.startCommand_pending (s : State) (k : Fin 4) : (s.startCommand k).pending = s.pending := by simp [State.startCommand]

@[simp] theorem State.clearEarly_pending (s : State) (base size : Nat) : (s.clearEarly base size).pending = s.pending := by simp [State.clearEarly]

@[simp] theorem State.makeRegion_pending (s : State) (r : Fin 256) (base size : Nat) : (s.makeRegion r base size).pending = s.pending := by
  simp [State.makeRegion]

@[simp] theorem State.freeRegion_pending (s : State) (r : Fin 256) : (s.freeRegion r).pending = s.pending := by rfl

@[simp] theorem State.putNextKey_pending (s : State) (r : Fin 256) (k : SealedKey) : (s.putNextKey r k).pending = s.pending := by rfl

/-! ### Waiting commands -/

@[simp] theorem State.behind_pending (s : State) (before : List Instr) : (s.behind before).pending = s.pending := by rfl

@[simp] theorem State.rejoin_pending (s : State) (dieWas : Bool) (after : List Instr) : (s.rejoin dieWas after).pending = s.pending := by rfl

@[simp] theorem State.boundDirty_pending (s : State) : (s.boundDirty).pending = s.pending := by simp [State.boundDirty]

@[simp] theorem State.tick_pending (s : State) : (s.tick).pending = s.pending := by simp [State.tick]

end Sys2Proof.Machine
end

section
/-! PROOFS. Every command answers a next state and leaves the queue of waiting commands (log 1), command by command; a supply voltage beyond the
ratings apart (log 25). -/

namespace Sys2Proof.Machine
open Sys2Proof.Laws

/-- A command's outcome is a next state, with the queue as it was. -/
def Answers (s : State) (o : Host.Outcome State Fault Refusal) : Prop := ∃ t, o = .next t ∧ SameQueue t s

@[simp] theorem answers_next (s t : State) : Answers s (.next t) ↔ t.pending = s.pending :=
  ⟨fun ⟨_, h, hq⟩ => by cases h; exact hq, fun h => ⟨t, rfl, h⟩⟩

@[simp] theorem answers_done (s before after : State) : Answers s (before.done after) ↔ after.pending = s.pending := by
  simp [State.done]

@[simp] theorem answers_ite (s : State) (c : Prop) [Decidable c] (a b : Host.Outcome State Fault Refusal) :
    Answers s (if c then a else b) ↔ if c then Answers s a else Answers s b := by
  split <;> rfl

@[simp] theorem ite_snd_pending {α : Type} (c : Prop) [Decidable c] (x y : α × State) :
    (if c then x else y).2.pending = if c then x.2.pending else y.2.pending := apply_ite (fun z : α × State => z.2.pending) c x y

@[simp] theorem dite_snd_pending {α : Type} (c : Prop) [Decidable c] (x : c → α × State) (y : ¬c → α × State) :
    (if h : c then x h else y h).2.pending = if h : c then (x h).2.pending else (y h).2.pending :=
  apply_dite (fun z : α × State => z.2.pending) c x y

/-- The same with the body's value at hand. -/
theorem State.mbxLater_pending_of (s : State) (c : Instr) (len : Option Nat) {body : State → Option Ans × State} {x : Option Ans × State}
    (hx : body s = x) (h : x.2.pending = s.pending) : (s.mbxLater c len body).pending = s.pending := by
  subst hx
  exact State.mbxLater_pending s c len h

variable (s : State)

/-! ### Commit groups -/

@[simp] theorem execCommitDoorbell_answers (n : Fin 16) (w : Fin 64) (width : Nat) (value : BitVec 64) :
    Answers s (execCommitDoorbell n w width value s) := by simp [execCommitDoorbell]

@[simp] theorem execAbortDoorbell_answers (n : Fin 16) (w : Fin 64) (width : Nat) (value : BitVec 64) :
    Answers s (execAbortDoorbell n w width value s) := by simp [execAbortDoorbell]

@[simp] theorem execCommitTimerExpiry_answers (n : Fin 16) (w : Fin 64) : Answers s (execCommitTimerExpiry n w s) := by simp [execCommitTimerExpiry]

@[simp] theorem execCommitPoint_answers (n : Fin 16) (w : Fin 64) : Answers s (execCommitPoint n w s) := by
  unfold execCommitPoint
  (repeat' split) <;> simp

@[simp] theorem execOutcomeRecordDurable_answers (n : Fin 16) (w : Fin 64) : Answers s (execOutcomeRecordDurable n w s) := by
  simp [execOutcomeRecordDurable]

@[simp] theorem execRegionEnable_answers (n : Fin 16) : Answers s (execRegionEnable n s) := by simp [execRegionEnable]

@[simp] theorem execRegionDisable_answers (n : Fin 16) : Answers s (execRegionDisable n s) := by simp [execRegionDisable]

/-! ### The performance monitor -/

@[simp] theorem execPmonSnapshot_answers (who : Fin 17) : Answers s (execPmonSnapshot who s) := by simp [execPmonSnapshot]

@[simp] theorem execPmonClear_answers (who : Fin 17) : Answers s (execPmonClear who s) := by simp [execPmonClear]

@[simp] theorem execPmonCounterWrap_answers (n : Fin 64) : Answers s (execPmonCounterWrap n s) := by simp [execPmonCounterWrap]

@[simp] theorem execPmonSample_answers (rec : Sample) : Answers s (execPmonSample rec s) := by simp [execPmonSample]

@[simp] theorem execSampleBankRelease_answers (who : Fin 17) (bits : BitVec 2) : Answers s (execSampleBankRelease who bits s) := by
  simp [execSampleBankRelease]

@[simp] theorem execSamplingEnable_answers (who : Fin 17) : Answers s (execSamplingEnable who s) := by simp [execSamplingEnable]

/-! ### The write path -/

@[simp] theorem execMemWr_answers (ld : Fin 16) (addr : Addr) (data : Line) (poison : Bool) : Answers s (execMemWr ld addr data poison s) := by
  simp [execMemWr]

@[simp] theorem execMemWrPtl_answers (ld : Fin 16) (addr : Addr) (be : BitVec 64) (data : Line) (poison : Bool) :
    Answers s (execMemWrPtl ld addr be data poison s) := by simp [execMemWrPtl]

@[simp] theorem execWriteAdmission_answers : Answers s (execWriteAdmission s) := by simp [execWriteAdmission]

@[simp] theorem execMergeReadComplete_answers (seq : Nat) (sense : Sense) : Answers s (execMergeReadComplete seq sense s) := by
  unfold execMergeReadComplete
  (repeat' split) <;> simp

@[simp] theorem execSequenceCounterWrap_answers : Answers s (execSequenceCounterWrap s) := by simp [execSequenceCounterWrap]

@[simp] theorem execSeqAgeFold_answers : Answers s (execSeqAgeFold s) := by simp [execSeqAgeFold]

@[simp] theorem execSlotAllocation_answers : Answers s (execSlotAllocation s) := by simp [execSlotAllocation]

@[simp] theorem execShallowsPlacementVerified_answers (seq : Nat) (ok0 ok1 : Bool) : Answers s (execShallowsPlacementVerified seq ok0 ok1 s) := by
  unfold execShallowsPlacementVerified
  split <;> simp

@[simp] theorem execIndexUpdate_answers : Answers s (execIndexUpdate s) := by simp [execIndexUpdate]

@[simp] theorem execNdrReturn_answers : Answers s (execNdrReturn s) := by simp [execNdrReturn]

/-! ### Folding -/

@[simp] theorem execAutonomousFold_answers (set : Fin 4) : Answers s (execAutonomousFold set s) := by simp [execAutonomousFold]

@[simp] theorem execFoldOrder_answers (set : Fin 4) (granule : Nat) (lane : Fin 16) : Answers s (execFoldOrder set granule lane s) := by
  simp [execFoldOrder]

@[simp] theorem execFoldGather_answers (set : Fin 4) : Answers s (execFoldGather set s) := by
  unfold execFoldGather
  split <;> simp

@[simp] theorem execFoldReadsComplete_answers (id : Nat) (lost : FoldSense) : Answers s (execFoldReadsComplete id lost s) := by
  unfold execFoldReadsComplete
  split <;> simp

@[simp] theorem execBandFillTimeout_answers (band : BandKey) : Answers s (execBandFillTimeout band s) := by
  unfold execBandFillTimeout
  split <;> simp

@[simp] theorem execOpenSegmentForceClose_answers (seg : SegKey) : Answers s (execOpenSegmentForceClose seg s) := by
  unfold execOpenSegmentForceClose
  (repeat' split) <;> simp

@[simp] theorem execCopyOrder_answers (seg : SegKey) : Answers s (execCopyOrder seg s) := by simp [execCopyOrder]

@[simp] theorem execWearLevelCopy_answers (set : Fin 4) (lane : Fin 16) : Answers s (execWearLevelCopy set lane s) := by
  unfold execWearLevelCopy
  dsimp only
  split <;> simp

@[simp] theorem execBandProgramComplete_answers (band : BandKey) (failed : List Nat) (retried : Bool) :
    Answers s (execBandProgramComplete band failed retried s) := by
  unfold execBandProgramComplete
  split <;> simp

@[simp] theorem execBandCommitVerified_answers (band : BandKey) : Answers s (execBandCommitVerified band s) := by
  unfold execBandCommitVerified
  split <;> simp

@[simp] theorem execSlotRelease_answers : Answers s (execSlotRelease s) := by simp [execSlotRelease]

@[simp] theorem execCheckpointPieceWrite_answers (piece : Nat) : Answers s (execCheckpointPieceWrite piece s) := by simp [execCheckpointPieceWrite]

@[simp] theorem execSegmentReset_answers (seg : SegKey) : Answers s (execSegmentReset seg s) := by simp [execSegmentReset]

@[simp] theorem execSegmentResetComplete_answers (seg : SegKey) (failed : List Nat) : Answers s (execSegmentResetComplete seg failed s) := by
  simp [execSegmentResetComplete]

@[simp] theorem execHotspotDetect_answers (chan : Fin 64) (ticksOver progQ readQ : Nat) :
    Answers s (execHotspotDetect chan ticksOver progQ readQ s) := by simp [execHotspotDetect]

/-! ### Drift and patrols -/

@[simp] theorem execDriftEpochEnd_answers : Answers s (execDriftEpochEnd s) := by simp [execDriftEpochEnd]

@[simp] theorem execPilotReadComplete_answers (blk : BlockKey) (report : PilotReport) : Answers s (execPilotReadComplete blk report s) := by
  simp [execPilotReadComplete]

@[simp] theorem execGapEstimate_answers (die : DieKey) : Answers s (execGapEstimate die s) := by simp [execGapEstimate]

@[simp] theorem execPatrolVisit_answers (seg : SegKey) (visit : List VisitResult) : Answers s (execPatrolVisit seg visit s) := by
  simp [execPatrolVisit]

@[simp] theorem execShallowsPatrol_answers (set : Fin 4) (reads : List CopyRead) : Answers s (execShallowsPatrol set reads s) := by
  simp [execShallowsPatrol]

@[simp] theorem execReadDisturbVisit_answers (seg : SegKey) : Answers s (execReadDisturbVisit seg s) := by simp [execReadDisturbVisit]

@[simp] theorem execWarmUpSweepEnd_answers : Answers s (execWarmUpSweepEnd s) := by simp [execWarmUpSweepEnd]

@[simp] theorem execScrubStart_answers (ld : Fin 16) : Answers s (execScrubStart ld s) := by simp [execScrubStart]

@[simp] theorem execScrubAbort_answers (ld : Fin 16) : Answers s (execScrubAbort ld s) := by simp [execScrubAbort]

@[simp] theorem execScrubEnd_answers (ld : Fin 16) (found lost : List LineFound) : Answers s (execScrubEnd ld found lost s) := by
  unfold execScrubEnd
  dsimp only
  split
  · have hlines := State.scrubLines_pending s ld (s.ld ld).scrub.repair (found ++ lost)
    split
    · next h => rw [h] at hlines; simpa using hlines
    · next t _ h =>
      have ht := State.scrubLines_some_pending (congrArg Prod.fst h)
      simp [ht]
  · simp

@[simp] theorem execScrubProgressRecord_answers (ld : Fin 16) (found lost : List LineFound) :
    Answers s (execScrubProgressRecord ld found lost s) := by
  unfold execScrubProgressRecord
  dsimp only
  split
  · have hlines := State.scrubLines_pending (s.since (s.ld ld).scrub.recTick (2 ^ 30)) ld (s.ld ld).scrub.repair (found ++ lost)
    rw [State.since_pending] at hlines
    split
    · next h => rw [h] at hlines; simpa using hlines
    · next t _ h =>
      have ht := State.scrubLines_some_pending (congrArg Prod.fst h)
      simp [ht]
  · simp

/-! ### The read path -/

@[simp] theorem execMemRd_answers (ld : Fin 16) (addr : Addr) : Answers s (execMemRd ld addr s) := by simp [execMemRd]

@[simp] theorem execMemRdData_answers (ld : Fin 16) (addr : Addr) : Answers s (execMemRdData ld addr s) := by simp [execMemRdData]

@[simp] theorem execMemSpecRd_answers (_ld : Fin 16) (_addr : Addr) : Answers s (execMemSpecRd _ld _addr s) := by simp [execMemSpecRd]

@[simp] theorem execMemInv_answers (ld : Fin 16) (addr : Addr) : Answers s (execMemInv ld addr s) := by simp [execMemInv]

@[simp] theorem execMemInvNt_answers (ld : Fin 16) (addr : Addr) : Answers s (execMemInvNt ld addr s) := by simp [execMemInvNt]

@[simp] theorem execDetectorTimeout_answers (ld : Fin 16) (line : Nat) : Answers s (execDetectorTimeout ld line s) := by
  unfold execDetectorTimeout
  split <;> simp

@[simp] theorem execLookupSettled_answers (id : Nat) (dram : DramAccess) : Answers s (execLookupSettled id dram s) := by
  unfold execLookupSettled
  split
  · split
    · simp
    · split
      · simp
      · next h => simp [State.dramSeen_pending h]
  · simp

@[simp] theorem execSlotSenseComplete_answers (id : Nat) (sense : Sense) (crcFails : Nat) :
    Answers s (execSlotSenseComplete id sense crcFails s) := by
  unfold execSlotSenseComplete
  (repeat' split) <;> simp

@[simp] theorem execReadCutoff_answers (id : Nat) : Answers s (execReadCutoff id s) := by
  unfold execReadCutoff
  (repeat' split) <;> simp

@[simp] theorem execSlowSenseReconstruct_answers (id : Nat) : Answers s (execSlowSenseReconstruct id s) := by
  unfold execSlowSenseReconstruct
  (repeat' split) <;> simp

@[simp] theorem execDrsReturn_answers : Answers s (execDrsReturn s) := by simp [execDrsReturn]

/-! ### Faults, rebuild, drain -/

@[simp] theorem execFaultIndication_answers (row : FaultRow) (u : FUnit) : Answers s (execFaultIndication row u s) := by
  unfold execFaultIndication
  (repeat' split) <;> simp

@[simp] theorem execSecondStackLoss_answers (stack : Fin 5) : Answers s (execSecondStackLoss stack s) := by simp [execSecondStackLoss]

@[simp] theorem execStatusProbeAnswer_answers (u : FUnit) (ticks : Nat) : Answers s (execStatusProbeAnswer u ticks s) := by
  unfold execStatusProbeAnswer
  dsimp only
  (repeat' split) <;> simp

@[simp] theorem execProbeSilenceConfirmed_answers (u : FUnit) : Answers s (execProbeSilenceConfirmed u s) := by
  unfold execProbeSilenceConfirmed
  dsimp only
  split <;> simp

@[simp] theorem execFaultWindowClose_answers (win : Fin 5) : Answers s (execFaultWindowClose win s) := by
  unfold execFaultWindowClose
  split <;> simp

@[simp] theorem execShallowsRestorationComplete_answers (set : Fin 4) : Answers s (execShallowsRestorationComplete set s) := by
  simp [execShallowsRestorationComplete]

@[simp] theorem execRebuildSegmentComplete_answers (seg : SegKey) (pos : Fin 16) : Answers s (execRebuildSegmentComplete seg pos s) := by
  simp [execRebuildSegmentComplete]

@[simp] theorem execChannelSuspect_answers (chan : Fin 64) (retries alerts : Nat) : Answers s (execChannelSuspect chan retries alerts s) := by
  unfold execChannelSuspect
  dsimp only
  split
  · rw [answers_next, foldl_pending fun s x => by simp]
    simp
  · simp

@[simp] theorem execChannelSuspectClear_answers (chan : Fin 64) : Answers s (execChannelSuspectClear chan s) := by
  unfold execChannelSuspectClear
  (repeat' split) <;> simp

@[simp] theorem execCxlLaneFailure_answers (port : Fin 2) (lane : Fin 16) : Answers s (execCxlLaneFailure port lane s) := by simp [execCxlLaneFailure]

/-! ### The line cache -/

@[simp] theorem execCleanByAddress_answers (who : Fin 17) (dpa : Nat) : Answers s (execCleanByAddress who dpa s) := by simp [execCleanByAddress]

@[simp] theorem execInvalidateByAddress_answers (who : Fin 17) (dpa : Nat) : Answers s (execInvalidateByAddress who dpa s) := by
  simp [execInvalidateByAddress]

@[simp] theorem execCleanInvalidateByAddress_answers (who : Fin 17) (dpa : Nat) : Answers s (execCleanInvalidateByAddress who dpa s) := by
  simp [execCleanInvalidateByAddress]

@[simp] theorem execCleanBySetWay_answers (who : Fin 17) (set : Nat) (way : Fin 16) : Answers s (execCleanBySetWay who set way s) := by
  simp [execCleanBySetWay]

@[simp] theorem execInvalidateBySetWay_answers (who : Fin 17) (set : Nat) (way : Fin 16) : Answers s (execInvalidateBySetWay who set way s) := by
  simp [execInvalidateBySetWay]

@[simp] theorem execCleanInvalidateBySetWay_answers (who : Fin 17) (set : Nat) (way : Fin 16) :
    Answers s (execCleanInvalidateBySetWay who set way s) := by simp [execCleanInvalidateBySetWay]

@[simp] theorem execMaintenanceOpExecute_answers : Answers s (execMaintenanceOpExecute s) := by simp [execMaintenanceOpExecute]

@[simp] theorem execCleanComplete_answers : Answers s (execCleanComplete s) := by simp [execCleanComplete]

@[simp] theorem execCacheSync_answers (who : Fin 17) (width : Nat) : Answers s (execCacheSync who width s) := by simp [execCacheSync]

@[simp] theorem execRangeStart_answers (who : Fin 17) : Answers s (execRangeStart who s) := by simp [execRangeStart]

@[simp] theorem execRangeAbort_answers (who : Fin 17) : Answers s (execRangeAbort who s) := by simp [execRangeAbort]

@[simp] theorem execRangeComplete_answers : Answers s (execRangeComplete s) := by
  unfold execRangeComplete
  (repeat' split) <;> simp

/-! ### Notifications -/

@[simp] theorem execNotifClaim_answers (who : Fin 17) (width : Nat) : Answers s (execNotifClaim who width s) := by simp [execNotifClaim]

@[simp] theorem execNotifEoi_answers (who : Fin 17) (src : Nat) : Answers s (execNotifEoi who src s) := by simp [execNotifEoi]

@[simp] theorem execUnwind_answers (who : Fin 17) : Answers s (execUnwind who s) := by simp [execUnwind]

@[simp] theorem execNotifSwset_answers (value : BitVec 16) : Answers s (execNotifSwset value s) := by simp [execNotifSwset]

@[simp] theorem execNotifDeliver_answers (corrupt : Option (Fin 17)) : Answers s (execNotifDeliver corrupt s) := by
  unfold execNotifDeliver
  split <;> simp

@[simp] theorem execNotifQconsWrite_answers (ld : Fin 16) (value : Nat) : Answers s (execNotifQconsWrite ld value s) := by simp [execNotifQconsWrite]

@[simp] theorem execFmConsWrite_answers (value : Nat) : Answers s (execFmConsWrite value s) := by simp [execFmConsWrite]

@[simp] theorem execNotifQueueEnable_answers (ld : Fin 16) : Answers s (execNotifQueueEnable ld s) := by simp [execNotifQueueEnable]

@[simp] theorem execClrlost_answers (ld : Fin 16) : Answers s (execClrlost ld s) := by simp [execClrlost]

/-! ### Scratchpads -/

@[simp] theorem execSpadAddWrite_answers (who : Fin 17) (off width value : Nat) : Answers s (execSpadAddWrite who off width value s) := by
  simp [execSpadAddWrite]

@[simp] theorem execSpadSwapWrite_answers (who : Fin 17) (off width value : Nat) : Answers s (execSpadSwapWrite who off width value s) := by
  simp [execSpadSwapWrite]

@[simp] theorem execAtomicFetchAdd_answers (ld : Fin 16) (off width value : Nat) : Answers s (execAtomicFetchAdd ld off width value s) := by
  simp [execAtomicFetchAdd]

@[simp] theorem execAtomicSwap_answers (ld : Fin 16) (off width value : Nat) : Answers s (execAtomicSwap ld off width value s) := by
  simp [execAtomicSwap]

@[simp] theorem execAtomicCompareAndSwap_answers (ld : Fin 16) (off width : Nat) : Answers s (execAtomicCompareAndSwap ld off width s) := by
  simp [execAtomicCompareAndSwap]

/-! ### Registers -/

@[simp] theorem execRegisterWrite_answers (ld : Fin 16) (bar off width value : Nat) : Answers s (execRegisterWrite ld bar off width value s) := by
  simp [execRegisterWrite]

/-! ### Links and resets -/

@[simp] theorem execLinkTrainingResult_answers (port : Fin 2) (result : TrainResult) : Answers s (execLinkTrainingResult port result s) := by
  unfold execLinkTrainingResult
  split <;> simp

@[simp] theorem execConventionalReset_answers (port : Fin 2) : Answers s (execConventionalReset port s) := by simp [execConventionalReset]

@[simp] theorem execHotReset_answers (port : Fin 2) : Answers s (execHotReset port s) := by simp [execHotReset]

@[simp] theorem execFlr_answers (ld : Fin 16) : Answers s (execFlr ld s) := by simp [execFlr]

@[simp] theorem execCxlReset_answers (ld : Fin 16) (memClr : Bool) : Answers s (execCxlReset ld memClr s) := by simp [execCxlReset]

@[simp] theorem execCxlResetComplete_answers (ld : Fin 16) : Answers s (execCxlResetComplete ld s) := by
  unfold execCxlResetComplete
  split <;> simp

@[simp] theorem execGpfPhase1Request_answers (port : Fin 2) : Answers s (execGpfPhase1Request port s) := by simp [execGpfPhase1Request]

@[simp] theorem execGpfPhase2Request_answers (port : Fin 2) : Answers s (execGpfPhase2Request port s) := by simp [execGpfPhase2Request]

@[simp] theorem execHdmDecoderCommit_answers (ld : Fin 16) (dec : Fin 4) (cfg : DecoderCfg) : Answers s (execHdmDecoderCommit ld dec cfg s) := by
  simp [execHdmDecoderCommit]

@[simp] theorem execCdatTableAccess_answers (ld : Fin 16) : Answers s (execCdatTableAccess ld s) := by simp [execCdatTableAccess]

@[simp] theorem execIdeIntegrityFailure_answers (port : Fin 2) : Answers s (execIdeIntegrityFailure port s) := by simp [execIdeIntegrityFailure]

/-! ### Rekeys and roots -/

@[simp] theorem execRekeyPageStep_answers (region : Fin 256) : Answers s (execRekeyPageStep region s) := by simp [execRekeyPageStep]

@[simp] theorem execRekeyComplete_answers (region : Fin 256) : Answers s (execRekeyComplete region s) := by simp [execRekeyComplete]

@[simp] theorem execRootSeal_answers : Answers s (execRootSeal s) := by simp [execRootSeal]

/-! ### Mailboxes -/

@[simp] theorem execUnsupportedOpcode_answers (r : Req) (opcode : Nat) : Answers s (execUnsupportedOpcode r opcode s) := by
  unfold execUnsupportedOpcode
  split <;> simp

/-! ### Power -/

@[simp] theorem execVinDwellComplete_answers (vin : Nat) (hmv : overSupply vin = false) : Answers s (execVinDwellComplete vin s) := by
  simp [execVinDwellComplete, hmv]

@[simp] theorem execOffMinimumElapsed_answers : Answers s (execOffMinimumElapsed s) := by simp [execOffMinimumElapsed]

@[simp] theorem execRailSequenceTimeout_answers (rail : Nat) : Answers s (execRailSequenceTimeout rail s) := by simp [execRailSequenceTimeout]

@[simp] theorem execPscTransactionRetry_answers (rail : Nat) (ok : Bool) : Answers s (execPscTransactionRetry rail ok s) := by
  simp [execPscTransactionRetry]

@[simp] theorem execOrderlyPowerDownComplete_answers : Answers s (execOrderlyPowerDownComplete s) := by simp [execOrderlyPowerDownComplete]

@[simp] theorem execHardwareFlushComplete_answers : Answers s (execHardwareFlushComplete s) := by
  unfold execHardwareFlushComplete
  dsimp only
  (repeat' split) <;> simp

@[simp] theorem execVholdExhausted_answers (mv bytes : Nat) (hmv : overHold mv = false) : Answers s (execVholdExhausted mv bytes s) := by
  simp [execVholdExhausted, hmv]

@[simp] theorem execRailFallTimeout_answers (rail : Nat) : Answers s (execRailFallTimeout rail s) := by simp [execRailFallTimeout]

@[simp] theorem execVinCollapse_answers (mv : Nat) : Answers s (execVinCollapse mv s) := by
  unfold execVinCollapse
  (repeat' split) <;> simp

@[simp] theorem execPfailNLow_answers : Answers s (execPfailNLow s) := by simp [execPfailNLow]

@[simp] theorem execPfailNHighRestart_answers : Answers s (execPfailNHighRestart s) := by simp [execPfailNHighRestart]

@[simp] theorem execRunningRailFault_answers (rail mv : Nat) : Answers s (execRunningRailFault rail mv s) := by
  unfold execRunningRailFault
  (repeat' split) <;> simp

@[simp] theorem execFaultRestart_answers : Answers s (execFaultRestart s) := by
  unfold execFaultRestart
  split <;> simp

@[simp] theorem execKeeperSramError_answers : Answers s (execKeeperSramError s) := by
  unfold execKeeperSramError
  (repeat' split) <;> simp

@[simp] theorem execVsupCollapse_answers (mv : Nat) : Answers s (execVsupCollapse mv s) := by simp [execVsupCollapse]

@[simp] theorem execKeeperAlive_answers (vsup : Nat) (straps : BitVec 4) (bad : List BadRecord) (hmv : overSupply vsup = false) :
    Answers s (execKeeperAlive vsup straps bad s) := by
  simp [execKeeperAlive, hmv]

@[simp] theorem execHoldupReadyAsserted_answers (mv : Nat) (hmv : overHold mv = false) : Answers s (execHoldupReadyAsserted mv s) := by
  simp [execHoldupReadyAsserted, hmv]

@[simp] theorem execHoldupReadyLost_answers (mv : Nat) (hmv : overHold mv = false) : Answers s (execHoldupReadyLost mv s) := by
  simp [execHoldupReadyLost, hmv]

@[simp] theorem execVholdOvervoltage_answers (mv : Nat) (hmv : overHold mv = false) : Answers s (execVholdOvervoltage mv s) := by
  simp [execVholdOvervoltage, hmv]

@[simp] theorem execBoostRestart_answers (mv : Nat) (hmv : overHold mv = false) : Answers s (execBoostRestart mv s) := by
  simp [execBoostRestart, hmv]

@[simp] theorem execChargeTimeout_answers (mv : Nat) (hmv : overHold mv = false) : Answers s (execChargeTimeout mv s) := by
  simp [execChargeTimeout, hmv]

@[simp] theorem execSetdasa_answers (addr dyn : BitVec 7) : Answers s (execSetdasa addr dyn s) := by simp [execSetdasa]

@[simp] theorem execEntdaa_answers (dyn : BitVec 7) : Answers s (execEntdaa dyn s) := by simp [execEntdaa]

@[simp] theorem execOperatingPointReached_answers : Answers s (execOperatingPointReached s) := by
  unfold execOperatingPointReached
  (repeat' split) <;> simp

/-! ### Thermal -/

@[simp] theorem execThrottleGraceExpiry_answers : Answers s (execThrottleGraceExpiry s) := by
  unfold execThrottleGraceExpiry
  split <;> simp

@[simp] theorem execThermalMeasurement_answers (media : Bool) (readings : List Reading) : Answers s (execThermalMeasurement media readings s) := by
  unfold execThermalMeasurement
  split
  · simp
  · dsimp only
    split
    · simp
    · simp

@[simp] theorem execCoolingRestart_answers : Answers s (execCoolingRestart s) := by
  unfold execCoolingRestart
  split <;> simp

@[simp] theorem execMediaHoldTimeout_answers : Answers s (execMediaHoldTimeout s) := by
  unfold execMediaHoldTimeout
  split <;> simp

@[simp] theorem execGetThermalStatus_answers (r : Req) : Answers s (execGetThermalStatus r s) := by simp [execGetThermalStatus]

@[simp] theorem execSetThermalParameters_answers (r : Req) (grace : Nat) : Answers s (execSetThermalParameters r grace s) := by
  unfold execSetThermalParameters
  split <;> simp

/-! ### Start-up -/

@[simp] theorem execRailDwellComplete_answers (rail : Nat) : Answers s (execRailDwellComplete rail s) := by
  unfold execRailDwellComplete
  split <;> simp

@[simp] theorem execBootRomImageCheck_answers : Answers s (execBootRomImageCheck s) := by simp [execBootRomImageCheck]

@[simp] theorem execAntiRollbackRaise_answers : Answers s (execAntiRollbackRaise s) := by
  unfold execAntiRollbackRaise
  split <;> simp

@[simp] theorem execChannelTrainingComplete_answers (found : List PackageFound) (failed : List Nat) (readings : List Reading) :
    Answers s (execChannelTrainingComplete found failed readings s) := by
  unfold execChannelTrainingComplete
  dsimp only
  (repeat' split) <;> simp

@[simp] theorem execNormalBootComplete_answers : Answers s (execNormalBootComplete s) := by simp [execNormalBootComplete]

@[simp] theorem execReplayComplete_answers (res : ReplayResult) : Answers s (execReplayComplete res s) := by simp [execReplayComplete]

@[simp] theorem execFirstFormatComplete_answers (badBlocks : List BlockKey) : Answers s (execFirstFormatComplete badBlocks s) := by
  simp [execFirstFormatComplete]

/-! ### Sessions -/

@[simp] theorem execOpenSession_answers (r : Req) (slot : Nat) (hn : BitVec 128) : Answers s (execOpenSession r slot hn s) := by
  simp [execOpenSession]

@[simp] theorem execAuthenticateSession_answers (r : Req) (handle : BitVec 32) (resp : BitVec 128) (mac : MacFault) :
    Answers s (execAuthenticateSession r handle resp mac s) := by
  refine (answers_next ..).2 (State.mbx_pending _ _ _ ?_)
  dsimp only
  (repeat' split) <;> simp

@[simp] theorem execHandleTimeout_answers (inst : Inst) : Answers s (execHandleTimeout inst s) := by
  unfold execHandleTimeout
  split <;> simp

@[simp] theorem execCloseSession_answers (r : Req) : Answers s (execCloseSession r s) := by simp [execCloseSession]

@[simp] theorem execSessionIdleTimeout_answers (inst : Inst) : Answers s (execSessionIdleTimeout inst s) := by
  unfold execSessionIdleTimeout
  split <;> simp

@[simp] theorem execGetSessionStatus_answers (r : Req) : Answers s (execGetSessionStatus r s) := by simp [execGetSessionStatus]

@[simp] theorem execGetLastFailure_answers (r : Req) : Answers s (execGetLastFailure r s) := by simp [execGetLastFailure]

@[simp] theorem execProvisionSessionKey_answers (r : Req) (slot role : Nat) (key : BitVec 320) :
    Answers s (execProvisionSessionKey r slot role key s) := by
  refine (answers_next ..).2 (State.mbx_pending _ _ _ ?_)
  dsimp only
  split
  · simp
  · split
    · simp
    · split
      · split
        · rfl
        · split
          · split <;> simp
          · split
            · rfl
            · next x _ =>
              have hkey := State.unwrap_pending s x.slot key
              split
              · next h => rw [h] at hkey; simpa using hkey
              · next h => rw [h] at hkey; exact hkey
      · rfl

@[simp] theorem execRevokeSessionKey_answers (r : Req) (slot : Nat) : Answers s (execRevokeSessionKey r slot s) := by simp [execRevokeSessionKey]

@[simp] theorem execGrantDeviceControl_answers (r : Req) (ld : Nat) : Answers s (execGrantDeviceControl r ld s) := by
  unfold execGrantDeviceControl
  (repeat' split) <;> simp

@[simp] theorem execGetViolationCounters_answers (r : Req) (clear : Bool) : Answers s (execGetViolationCounters r clear s) := by
  simp [execGetViolationCounters]

@[simp] theorem execReadDeviceRegisters_answers (r : Req) (block width count offset : Nat) :
    Answers s (execReadDeviceRegisters r block width count offset s) := by
  unfold execReadDeviceRegisters
  split <;> simp

@[simp] theorem execWriteDeviceRegisters_answers (r : Req) (block width count offset : Nat) (data : List Nat) :
    Answers s (execWriteDeviceRegisters r block width count offset data s) := by
  unfold execWriteDeviceRegisters
  split <;> simp

/-! ### Lode ports and tethers -/

@[simp] theorem execLodeTrainingResult_answers (port : Fin 4) (ok : Bool) (lanes : Nat) : Answers s (execLodeTrainingResult port ok lanes s) := by
  simp [execLodeTrainingResult]

@[simp] theorem execHelloRepeat_answers (port : Fin 4) : Answers s (execHelloRepeat port s) := by simp [execHelloRepeat]

@[simp] theorem execKeepaliveSend_answers (port : Fin 4) : Answers s (execKeepaliveSend port s) := by simp [execKeepaliveSend]

@[simp] theorem execKeepalive_answers (h : LodeHdr) : Answers s (execKeepalive h s) := by simp [execKeepalive]

@[simp] theorem execLodeSilenceTimeout_answers (port : Fin 4) : Answers s (execLodeSilenceTimeout port s) := by simp [execLodeSilenceTimeout]

@[simp] theorem execLodeLaneFailure_answers (port : Fin 4) (lane : Fin 2) : Answers s (execLodeLaneFailure port lane s) := by
  simp [execLodeLaneFailure]

@[simp] theorem execUnknownLodeMessageType_answers (h : LodeHdr) (type : Byte) : Answers s (execUnknownLodeMessageType h type s) := by
  simp [execUnknownLodeMessageType]

@[simp] theorem execLodeKeyRederive_answers (port : Fin 4) : Answers s (execLodeKeyRederive port s) := by simp [execLodeKeyRederive]

@[simp] theorem execLevel_answers (h : LodeHdr) (entries : List MemberLevel) : Answers s (execLevel h entries s) := by simp [execLevel]

@[simp] theorem execSwitch_answers (h : LodeHdr) (level : Nat) : Answers s (execSwitch h level s) := by simp [execSwitch]

@[simp] theorem execResyncGranule_answers (t : Fin 8) : Answers s (execResyncGranule t s) := by simp [execResyncGranule]

@[simp] theorem execHello_answers (h : LodeHdr) (msg : HelloMsg) : Answers s (execHello h msg s) := by simp [execHello]

@[simp] theorem execAbsentRetry_answers (t : Fin 8) : Answers s (execAbsentRetry t s) := by
  unfold execAbsentRetry
  dsimp only
  split <;> simp

@[simp] theorem execBitmap_answers (h : LodeHdr) (first : Nat) (bits : List Bool) : Answers s (execBitmap h first bits s) := by simp [execBitmap]

@[simp] theorem execTwrite_answers (h : LodeHdr) (off : Nat) (win : Option (Fin 64)) (psn : Bool) (data : Line) :
    Answers s (execTwrite h off win psn data s) := by simp [execTwrite]

@[simp] theorem execRsline_answers (h : LodeHdr) (off : Nat) (psn : Bool) (data : Line) : Answers s (execRsline h off psn data s) := by
  simp [execRsline]

@[simp] theorem execRsmark_answers (h : LodeHdr) (granule : Nat) (poisoned : Bool) : Answers s (execRsmark h granule poisoned s) := by
  simp [execRsmark]

@[simp] theorem execTconf_answers (h : LodeHdr) (seqs : List Nat) : Answers s (execTconf h seqs s) := by simp [execTconf]

@[simp] theorem execTcommit_answers (h : LodeHdr) (win : Fin 64) (gseq first last count : Nat) :
    Answers s (execTcommit h win gseq first last count s) := by simp [execTcommit]

@[simp] theorem execTpoint_answers (h : LodeHdr) (win : Fin 64) (gseq : Nat) : Answers s (execTpoint h win gseq s) := by simp [execTpoint]

@[simp] theorem execTabort_answers (h : LodeHdr) (win : Fin 64) (outcome gseq : Nat) : Answers s (execTabort h win outcome gseq s) := by
  simp [execTabort]

@[simp] theorem execTquery_answers (h : LodeHdr) (win : Fin 64) (gseq : Nat) : Answers s (execTquery h win gseq s) := by simp [execTquery]

@[simp] theorem execTqans_answers (h : LodeHdr) (win : Fin 64) (answer : Bool) (gseq : Nat) : Answers s (execTqans h win answer gseq s) := by
  simp [execTqans]

@[simp] theorem execRole_answers (h : LodeHdr) (replica : Bool) (epoch : Nat) : Answers s (execRole h replica epoch s) := by simp [execRole]

@[simp] theorem execRemoved_answers (h : LodeHdr) : Answers s (execRemoved h s) := by simp [execRemoved]

@[simp] theorem execPartnerAbsentTimeout_answers (t : Fin 8) : Answers s (execPartnerAbsentTimeout t s) := by
  unfold execPartnerAbsentTimeout
  split <;> simp

@[simp] theorem execConfirmedMark_answers : Answers s (execConfirmedMark s) := by simp [execConfirmedMark]

@[simp] theorem execGetPoolStatus_answers (r : Req) : Answers s (execGetPoolStatus r s) := by simp [execGetPoolStatus]

@[simp] theorem execSetPoolIdentity_answers (r : Req) (pool : BitVec 64) (member : Nat) : Answers s (execSetPoolIdentity r pool member s) := by
  simp [execSetPoolIdentity]

@[simp] theorem execConfigureTether_answers (r : Req) (tether region partner ports : Nat) (key : BitVec 320) :
    Answers s (execConfigureTether r tether region partner ports key s) := by
  refine (answers_next ..).2 (State.mbx_pending _ _ _ ?_)
  dsimp only
  split
  · split
    · rfl
    · split
      · rfl
      · split
        · rfl
        · split
          · rfl
          · split
            · rfl
            · next x _ =>
              have hkey := State.unwrap_pending s x.slot key
              split
              · next h => rw [h] at hkey; exact hkey
              · next h => rw [h] at hkey; split <;> simpa using hkey
  · rfl

@[simp] theorem execRemoveTether_answers (r : Req) (tether : Nat) : Answers s (execRemoveTether r tether s) := by simp [execRemoveTether]

@[simp] theorem execDeclarePartnerAbsent_answers (r : Req) (tether : Nat) : Answers s (execDeclarePartnerAbsent r tether s) := by
  simp [execDeclarePartnerAbsent]

@[simp] theorem execFailover_answers (r : Req) (tether role : Nat) : Answers s (execFailover r tether role s) := by simp [execFailover]

@[simp] theorem execRaiseFormatLevel_answers (r : Req) (level : Nat) : Answers s (execRaiseFormatLevel r level s) := by simp [execRaiseFormatLevel]

/-! ### Cores and parity -/

@[simp] theorem execWatchdogExpiry_answers (core : Fin 12) : Answers s (execWatchdogExpiry core s) := by simp [execWatchdogExpiry]

@[simp] theorem execSramParityError_answers (mem : Parity) (addr : Nat) : Answers s (execSramParityError mem addr s) := by simp [execSramParityError]

/-! ### Power commands and the customer partition -/

@[simp] theorem execGetPowerStatus_answers (r : Req) : Answers s (execGetPowerStatus r s) := by simp [execGetPowerStatus]

@[simp] theorem execPowerRequest_answers (r : Req) (op : Nat) : Answers s (execPowerRequest r op s) := by simp [execPowerRequest]

@[simp] theorem execSetRailParameters_answers (r : Req) (rail filter low high dwell timeout retries : Nat) :
    Answers s (execSetRailParameters r rail filter low high dwell timeout retries s) := by
  unfold execSetRailParameters
  (repeat' split) <;> simp

@[simp] theorem execSetOperatingPoint_answers (r : Req) (point : Nat) : Answers s (execSetOperatingPoint r point s) := by simp [execSetOperatingPoint]

@[simp] theorem execReadCustomerPartition_answers (r : Req) (offset length : Nat) (pass : Key) :
    Answers s (execReadCustomerPartition r offset length pass s) := by
  refine (answers_next ..).2 (State.mbx_pending _ _ _ ?_)
  have hgate := State.customerGate_pending s r.inst offset length s.kp.readPw pass
  split
  · next h => rw [h] at hgate; exact hgate
  · next h => rw [h] at hgate; simpa using hgate

@[simp] theorem execWriteCustomerPartition_answers (r : Req) (offset length : Nat) (pass : Key) (data : List Byte) :
    Answers s (execWriteCustomerPartition r offset length pass data s) := by
  refine (answers_next ..).2 (State.mbx_pending _ _ _ ?_)
  dsimp only
  have hgate := State.customerGate_pending s r.inst offset length s.kp.writePw pass
  split
  · next h => rw [h] at hgate; exact hgate
  · next h => rw [h] at hgate; simpa using hgate

@[simp] theorem execSetCustomerPasswords_answers (r : Req) (readPw writePw : Key) : Answers s (execSetCustomerPasswords r readPw writePw s) := by
  refine (answers_next ..).2 (State.mbx_pending _ _ _ ?_)
  dsimp only
  have hread := State.checkOf_pending s (!s.keeperServes r.inst) 5 s.sec.keyCust.get readPw
  split
  · next h => rw [h] at hread; exact hread
  · next t h =>
    rw [h] at hread
    have hwrite := State.checkOf_pending t (!s.keeperServes r.inst) 5 t.sec.keyCust.get writePw
    split
    · next h => rw [h] at hwrite; exact hwrite.trans hread
    · next h => rw [h] at hwrite; simpa using hwrite.trans hread

/-! ### Life cycle and attestation -/

@[simp] theorem execGetLifeCycleState_answers (r : Req) : Answers s (execGetLifeCycleState r s) := by simp [execGetLifeCycleState]

@[simp] theorem execSetLifeCycleState_answers (r : Req) (target : Nat) : Answers s (execSetLifeCycleState r target s) := by
  simp [execSetLifeCycleState]

@[simp] theorem execGetBootStatus_answers (r : Req) : Answers s (execGetBootStatus r s) := by simp [execGetBootStatus]

@[simp] theorem execSetBootImagePreference_answers (r : Req) (image : Nat) : Answers s (execSetBootImagePreference r image s) := by
  unfold execSetBootImagePreference
  split <;> simp

@[simp] theorem execSpdmGetVersion_answers (via : Inst) : Answers s (execSpdmGetVersion via s) := by simp [execSpdmGetVersion]

@[simp] theorem execSpdmGetCapabilities_answers (via : Inst) : Answers s (execSpdmGetCapabilities via s) := by simp [execSpdmGetCapabilities]

@[simp] theorem execSpdmNegotiateAlgorithms_answers (via : Inst) : Answers s (execSpdmNegotiateAlgorithms via s) := by
  simp [execSpdmNegotiateAlgorithms]

@[simp] theorem execSpdmGetDigests_answers (via : Inst) : Answers s (execSpdmGetDigests via s) := by simp [execSpdmGetDigests]

@[simp] theorem execSpdmGetCertificate_answers (via : Inst) : Answers s (execSpdmGetCertificate via s) := by simp [execSpdmGetCertificate]

@[simp] theorem execSpdmChallenge_answers (via : Inst) (nonce : Key) : Answers s (execSpdmChallenge via nonce s) := by simp [execSpdmChallenge]

@[simp] theorem execSpdmGetMeasurements_answers (via : Inst) (nonce : Key) : Answers s (execSpdmGetMeasurements via nonce s) := by
  simp [execSpdmGetMeasurements]

@[simp] theorem execSpdmKeyExchange_answers (via : Inst) : Answers s (execSpdmKeyExchange via s) := by
  refine (answers_next ..).2 (State.spdm_pending _ _ _ _ fun t => ?_)
  split <;> simp

@[simp] theorem execSpdmFinish_answers (via : Inst) (session : Fin 4) : Answers s (execSpdmFinish via session s) := by simp [execSpdmFinish]

@[simp] theorem execSpdmHeartbeat_answers (via : Inst) (session : Fin 4) : Answers s (execSpdmHeartbeat via session s) := by simp [execSpdmHeartbeat]

@[simp] theorem execSpdmKeyUpdate_answers (via : Inst) (session : Fin 4) : Answers s (execSpdmKeyUpdate via session s) := by simp [execSpdmKeyUpdate]

@[simp] theorem execSpdmEndSession_answers (via : Inst) (session : Fin 4) : Answers s (execSpdmEndSession via session s) := by
  simp [execSpdmEndSession]

@[simp] theorem execIdeKmKeyProg_answers (session : Fin 4) (port : Fin 2) (tx : Bool) (key : Key) :
    Answers s (execIdeKmKeyProg session port tx key s) := by simp [execIdeKmKeyProg]

@[simp] theorem execIdeKmKSetGo_answers (session : Fin 4) (port : Fin 2) : Answers s (execIdeKmKSetGo session port s) := by simp [execIdeKmKSetGo]

@[simp] theorem execIdeKmKSetStop_answers (session : Fin 4) (port : Fin 2) : Answers s (execIdeKmKSetStop session port s) := by
  simp [execIdeKmKSetStop]

@[simp] theorem execTamperInputActive_answers (input : Fin 4) : Answers s (execTamperInputActive input s) := by simp [execTamperInputActive]

/-! ### Firmware -/

@[simp] theorem execGetFwInfo_answers (r : Req) : Answers s (execGetFwInfo r s) := by simp [execGetFwInfo]

@[simp] theorem execTransferFw_answers (r : Req) (action slot : Nat) (image : Image) : Answers s (execTransferFw r action slot image s) := by
  refine (answers_next ..).2 (State.mbx_pending _ _ _ ?_)
  dsimp only
  (repeat' split) <;> simp

@[simp] theorem execActivateFw_answers (r : Req) (action slot : Nat) : Answers s (execActivateFw r action slot s) := by
  refine (answers_next ..).2 (State.mbxLater_pending _ _ _ ?_)
  dsimp only
  (repeat' split) <;> simp

@[simp] theorem execFirmwareActivationComplete_answers (started : Bool) : Answers s (execFirmwareActivationComplete started s) := by
  unfold execFirmwareActivationComplete
  split <;> simp

/-! ### Standard commands -/

@[simp] theorem execIdentify_answers (r : Req) : Answers s (execIdentify r s) := by simp [execIdentify]

@[simp] theorem execBackgroundOperationStatus_answers (r : Req) : Answers s (execBackgroundOperationStatus r s) := by
  simp [execBackgroundOperationStatus]

@[simp] theorem execRequestAbortBackgroundOperation_answers (r : Req) : Answers s (execRequestAbortBackgroundOperation r s) := by
  refine (answers_next ..).2 (State.mbxLater_pending _ _ _ ?_)
  dsimp only
  (repeat' split) <;> simp

@[simp] theorem execGetEventRecords_answers (r : Req) (log : Fin 4) : Answers s (execGetEventRecords r log s) := by simp [execGetEventRecords]

@[simp] theorem execClearEventRecords_answers (r : Req) (log : Fin 4) (all : Bool) (handles : List Nat) :
    Answers s (execClearEventRecords r log all handles s) := by simp [execClearEventRecords]

@[simp] theorem execGetEventInterruptPolicy_answers (r : Req) : Answers s (execGetEventInterruptPolicy r s) := by simp [execGetEventInterruptPolicy]

@[simp] theorem execSetEventInterruptPolicy_answers (r : Req) (info warning failure fatal : Byte) :
    Answers s (execSetEventInterruptPolicy r info warning failure fatal s) := by
  unfold execSetEventInterruptPolicy
  split <;> simp

@[simp] theorem execGetTimestamp_answers (r : Req) : Answers s (execGetTimestamp r s) := by simp [execGetTimestamp]

@[simp] theorem execSetTimestamp_answers (r : Req) (time : BitVec 64) : Answers s (execSetTimestamp r time s) := by simp [execSetTimestamp]

@[simp] theorem execGetSupportedLogs_answers (r : Req) : Answers s (execGetSupportedLogs r s) := by simp [execGetSupportedLogs]

@[simp] theorem execGetLog_answers (r : Req) (cel : Bool) (offset length : Nat) : Answers s (execGetLog r cel offset length s) := by
  unfold execGetLog
  (repeat' split) <;> simp

@[simp] theorem execIdentifyMemoryDevice_answers (r : Req) : Answers s (execIdentifyMemoryDevice r s) := by simp [execIdentifyMemoryDevice]

@[simp] theorem execGetPartitionInfo_answers (r : Req) : Answers s (execGetPartitionInfo r s) := by simp [execGetPartitionInfo]

@[simp] theorem execSetPartitionInfo_answers (r : Req) : Answers s (execSetPartitionInfo r s) := by simp [execSetPartitionInfo]

@[simp] theorem execGetLsa_answers (r : Req) (offset length : Nat) : Answers s (execGetLsa r offset length s) := by
  unfold execGetLsa
  (repeat' split) <;> simp

@[simp] theorem execSetLsa_answers (r : Req) (offset : Nat) (data : List Byte) : Answers s (execSetLsa r offset data s) := by
  unfold execSetLsa
  split <;> simp

@[simp] theorem execGetHealthInfo_answers (r : Req) : Answers s (execGetHealthInfo r s) := by simp [execGetHealthInfo]

@[simp] theorem execGetAlertConfiguration_answers (r : Req) : Answers s (execGetAlertConfiguration r s) := by simp [execGetAlertConfiguration]

@[simp] theorem execSetAlertConfiguration_answers (r : Req) (life : Nat) (hot cold : Int) :
    Answers s (execSetAlertConfiguration r life hot cold s) := by
  unfold execSetAlertConfiguration
  (repeat' split) <;> simp

@[simp] theorem execGetShutdownState_answers (r : Req) : Answers s (execGetShutdownState r s) := by simp [execGetShutdownState]

@[simp] theorem execSetShutdownState_answers (r : Req) (state : Byte) : Answers s (execSetShutdownState r state s) := by simp [execSetShutdownState]

@[simp] theorem execGetPoisonList_answers (r : Req) (dpa lines : Nat) : Answers s (execGetPoisonList r dpa lines s) := by simp [execGetPoisonList]

@[simp] theorem execInjectPoison_answers (r : Req) (dpa : Nat) : Answers s (execInjectPoison r dpa s) := by
  exact (answers_next ..).2 (State.mbxLater_pending_of _ _ _ rfl (State.poisonWrite_pending ..))

@[simp] theorem execClearPoison_answers (r : Req) (dpa : Nat) (data : Line) : Answers s (execClearPoison r dpa data s) := by
  exact (answers_next ..).2 (State.mbxLater_pending_of _ _ _ rfl (State.poisonWrite_pending ..))

@[simp] theorem execGetScanMediaCapabilities_answers (r : Req) (dpa lines : Nat) : Answers s (execGetScanMediaCapabilities r dpa lines s) := by
  simp [execGetScanMediaCapabilities]

@[simp] theorem execScanMedia_answers (r : Req) (dpa lines : Nat) : Answers s (execScanMedia r dpa lines s) := by simp [execScanMedia]

@[simp] theorem execGetScanMediaResults_answers (r : Req) : Answers s (execGetScanMediaResults r s) := by simp [execGetScanMediaResults]

@[simp] theorem execSanitize_answers (r : Req) : Answers s (execSanitize r s) := by simp [execSanitize]

@[simp] theorem execSecureErase_answers (r : Req) : Answers s (execSecureErase r s) := by simp [execSecureErase]

@[simp] theorem execBackgroundCommandComplete_answers (inst : Inst) (found lost : List LineFound) :
    Answers s (execBackgroundCommandComplete inst found lost s) := by
  unfold execBackgroundCommandComplete
  split
  · split
    · split
      · have hlines := State.scrubLines_pending s (Inst.ldN inst) false (found ++ lost)
        split
        · next h => rw [h] at hlines; simpa using hlines
        · next t _ h =>
          have ht := State.scrubLines_some_pending (congrArg Prod.fst h)
          simp [ht]
      · simp
    · simp
  · simp

@[simp] theorem execGetSecurityState_answers (r : Req) : Answers s (execGetSecurityState r s) := by simp [execGetSecurityState]

@[simp] theorem execSetPassphrase_answers (r : Req) (master : Bool) (old new : Key) : Answers s (execSetPassphrase r master old new s) := by
  refine (answers_next ..).2 (State.mbx_pending _ _ _ ?_)
  dsimp only
  split
  · rfl
  · split
    · have hjudge := State.judgePass_pending s (Inst.ldN r.inst) master old
      split
      · next h => rw [h] at hjudge; exact hjudge
      · next h => rw [h] at hjudge; simpa using hjudge
    · simp

@[simp] theorem execDisablePassphrase_answers (r : Req) (master : Bool) (pass : Key) : Answers s (execDisablePassphrase r master pass s) := by
  refine (answers_next ..).2 (State.mbx_pending _ _ _ ?_)
  dsimp only
  split
  · rfl
  · have hjudge := State.judgePass_pending s (Inst.ldN r.inst) master pass
    split
    · next h => rw [h] at hjudge; exact hjudge
    · next h => rw [h] at hjudge; simpa using hjudge

@[simp] theorem execUnlock_answers (r : Req) (pass : Key) : Answers s (execUnlock r pass s) := by
  refine (answers_next ..).2 (State.mbx_pending _ _ _ ?_)
  dsimp only
  split
  · rfl
  · split
    · rfl
    · have hjudge := State.judgePass_pending s (Inst.ldN r.inst) false pass
      split
      · next h => rw [h] at hjudge; exact hjudge
      · next h => rw [h] at hjudge; simpa using hjudge

@[simp] theorem execFreezeSecurityState_answers (r : Req) : Answers s (execFreezeSecurityState r s) := by simp [execFreezeSecurityState]

@[simp] theorem execPassphraseSecureErase_answers (r : Req) (master : Bool) (pass : Key) : Answers s (execPassphraseSecureErase r master pass s) := by
  refine (answers_next ..).2 (State.mbx_pending _ _ _ ?_)
  dsimp only
  split
  · rfl
  · have hjudge := State.judgePass_pending s (Inst.ldN r.inst) master pass
    split
    · next h => rw [h] at hjudge; exact hjudge
    · next h => rw [h] at hjudge; simpa using hjudge

@[simp] theorem execSecuritySend_answers (r : Req) : Answers s (execSecuritySend r s) := by simp [execSecuritySend]

@[simp] theorem execSecurityReceive_answers (r : Req) : Answers s (execSecurityReceive r s) := by simp [execSecurityReceive]

/-! ### Dynamic capacity -/

@[simp] theorem execGetLdInfo_answers (r : Req) : Answers s (execGetLdInfo r s) := by simp [execGetLdInfo]

@[simp] theorem execGetLdAllocations_answers (r : Req) : Answers s (execGetLdAllocations r s) := by simp [execGetLdAllocations]

@[simp] theorem execSetLdAllocations_answers (r : Req) (start : Nat) (units : List Nat) : Answers s (execSetLdAllocations r start units s) := by
  simp [execSetLdAllocations]

@[simp] theorem execGetDcdInfo_answers (r : Req) : Answers s (execGetDcdInfo r s) := by simp [execGetDcdInfo]

@[simp] theorem execGetHostDcRegionConfig_answers (r : Req) (ld : Nat) : Answers s (execGetHostDcRegionConfig r ld s) := by
  unfold execGetHostDcRegionConfig
  split <;> simp

@[simp] theorem execSetDcRegionConfig_answers (r : Req) (region units : Nat) (sharable : Bool) :
    Answers s (execSetDcRegionConfig r region units sharable s) := by
  refine (answers_next ..).2 (State.mbx_pending _ _ _ ?_)
  dsimp only
  (repeat' split) <;> simp

@[simp] theorem execGetDcConfig_answers (r : Req) : Answers s (execGetDcConfig r s) := by simp [execGetDcConfig]

@[simp] theorem execGetDcExtentList_answers (r : Req) (start count : Nat) : Answers s (execGetDcExtentList r start count s) := by
  simp [execGetDcExtentList]

@[simp] theorem execGetDcRegionExtentLists_answers (r : Req) (ld : Nat) : Answers s (execGetDcRegionExtentLists r ld s) := by
  unfold execGetDcRegionExtentLists
  split <;> simp

@[simp] theorem execInitiateDcAdd_answers (r : Req) (ld : Nat) (range : Range) : Answers s (execInitiateDcAdd r ld range s) := by
  refine (answers_next ..).2 (State.mbx_pending _ _ _ ?_)
  split
  · split
    · rfl
    · split
      · next h => exact State.offer_pending h
      · rfl
  · rfl

@[simp] theorem execAddDcResponse_answers (r : Req) (accept : List Range) : Answers s (execAddDcResponse r accept s) := by simp [execAddDcResponse]

@[simp] theorem execReleaseDc_answers (r : Req) (ranges : List Range) : Answers s (execReleaseDc r ranges s) := by simp [execReleaseDc]

@[simp] theorem execInitiateDcRelease_answers (r : Req) (ld : Nat) (range : Range) (force : Bool) :
    Answers s (execInitiateDcRelease r ld range force s) := by simp [execInitiateDcRelease]

@[simp] theorem execGetQosControl_answers (r : Req) : Answers s (execGetQosControl r s) := by simp [execGetQosControl]

@[simp] theorem execSetQosControl_answers (r : Req) (epc ttr : Bool) (value : Nat) : Answers s (execSetQosControl r epc ttr value s) := by
  unfold execSetQosControl
  split <;> simp

@[simp] theorem execGetQosStatus_answers (r : Req) : Answers s (execGetQosStatus r s) := by simp [execGetQosStatus]

@[simp] theorem execGetQosAllocatedBw_answers (r : Req) : Answers s (execGetQosAllocatedBw r s) := by simp [execGetQosAllocatedBw]

@[simp] theorem execSetQosAllocatedBw_answers (r : Req) (start : Nat) (fractions : List Byte) :
    Answers s (execSetQosAllocatedBw r start fractions s) := by
  unfold execSetQosAllocatedBw
  split <;> simp

@[simp] theorem execGetQosBwLimit_answers (r : Req) : Answers s (execGetQosBwLimit r s) := by simp [execGetQosBwLimit]

@[simp] theorem execSetQosBwLimit_answers (r : Req) (start : Nat) (fractions : List Byte) : Answers s (execSetQosBwLimit r start fractions s) := by
  unfold execSetQosBwLimit
  split <;> simp

/-! ### Channel controller -/

@[simp] theorem execRdyNFall_answers (chan : Fin 64) (die : Fin 16) (tile : Fin 8) (status : Byte) :
    Answers s (execRdyNFall chan die tile status s) := by simp [execRdyNFall]

@[simp] theorem execAlertNFall_answers (chan : Fin 64) (die : Fin 16) (tile : Fin 8) (status : Byte) :
    Answers s (execAlertNFall chan die tile status s) := by simp [execAlertNFall]

/-! ### Vendor commands -/

@[simp] theorem execGetDeviceIdentity_answers (r : Req) : Answers s (execGetDeviceIdentity r s) := by simp [execGetDeviceIdentity]

@[simp] theorem execGetChannelStatus_answers (r : Req) (first count : Nat) : Answers s (execGetChannelStatus r first count s) := by
  unfold execGetChannelStatus
  (repeat' split) <;> simp

@[simp] theorem execGetRecoveryReport_answers (r : Req) (first : Nat) : Answers s (execGetRecoveryReport r first s) := by
  unfold execGetRecoveryReport
  split <;> simp

@[simp] theorem execGetGroupOutcomes_answers (r : Req) : Answers s (execGetGroupOutcomes r s) := by
  unfold execGetGroupOutcomes
  split <;> simp

@[simp] theorem execSetGroupQuota_answers (r : Req) (ld quota : Nat) : Answers s (execSetGroupQuota r ld quota s) := by
  unfold execSetGroupQuota
  (repeat' split) <;> simp

@[simp] theorem execGetStripeSetStatus_answers (r : Req) (set : Nat) : Answers s (execGetStripeSetStatus r set s) := by simp [execGetStripeSetStatus]

@[simp] theorem execRetireChannel_answers (r : Req) (chan : Nat) : Answers s (execRetireChannel r chan s) := by simp [execRetireChannel]

@[simp] theorem execSetRebuildControl_answers (r : Req) (set : Nat) (auto start : Bool) (prio : Nat) :
    Answers s (execSetRebuildControl r set auto start prio s) := by simp [execSetRebuildControl]

@[simp] theorem execConfigureRegion_answers (r : Req) (region base size : Nat) : Answers s (execConfigureRegion r region base size s) := by
  simp [execConfigureRegion]

@[simp] theorem execRemoveRegion_answers (r : Req) (region : Nat) : Answers s (execRemoveRegion r region s) := by simp [execRemoveRegion]

@[simp] theorem execSetNextKey_answers (r : Req) (region mode : Nat) (key : BitVec 320) : Answers s (execSetNextKey r region mode key s) := by
  refine (answers_next ..).2 (State.mbx_pending _ _ _ ?_)
  dsimp only
  split
  · split
    · rfl
    · split
      · rfl
      · split
        · rfl
        · split
          · rfl
          · split
            · simp
            · split
              · rfl
              · next x _ =>
                have hkey := State.unwrap_pending s x.slot key
                split
                · next h => rw [h] at hkey; exact hkey
                · next h => rw [h] at hkey; simpa using hkey
  · rfl

@[simp] theorem execStartRekey_answers (r : Req) (region : Nat) : Answers s (execStartRekey r region s) := by
  refine (answers_next ..).2 (State.mbx_pending _ _ _ ?_)
  dsimp only
  (repeat' split) <;> simp

@[simp] theorem execGetRegionStatus_answers (r : Req) (region : Nat) : Answers s (execGetRegionStatus r region s) := by
  unfold execGetRegionStatus
  split <;> simp

@[simp] theorem execReadPersistentLog_answers (r : Req) (area first top : Nat) : Answers s (execReadPersistentLog r area first top s) := by
  unfold execReadPersistentLog
  (repeat' split) <;> simp

@[simp] theorem execReadHardwareRing_answers (r : Req) (area first top : Nat) : Answers s (execReadHardwareRing r area first top s) := by
  unfold execReadHardwareRing
  (repeat' split) <;> simp

@[simp] theorem execSetEventRateLimit_answers (r : Req) (code limit : Nat) : Answers s (execSetEventRateLimit r code limit s) := by
  unfold execSetEventRateLimit
  (repeat' split) <;> simp

@[simp] theorem execSetCachePolicy_answers (r : Req) (ld : Nat) (flags : Byte) : Answers s (execSetCachePolicy r ld flags s) := by
  simp [execSetCachePolicy]

@[simp] theorem execGetCacheStatus_answers (r : Req) : Answers s (execGetCacheStatus r s) := by simp [execGetCacheStatus]

@[simp] theorem execSetPatrolParameters_answers (r : Req) (p : PatrolInput) (busShare : Nat) :
    Answers s (execSetPatrolParameters r p busShare s) := by
  refine (answers_next ..).2 (State.mbx_pending _ _ _ ?_)
  dsimp only
  (repeat' split) <;> simp

@[simp] theorem execGetPatrolStatus_answers (r : Req) : Answers s (execGetPatrolStatus r s) := by simp [execGetPatrolStatus]

end Sys2Proof.Machine
end

section
/-! PROOFS. Statements about the queue and the step (95_what_each_step_holds.md): a step takes the front command, every command answers, and the queue
is first in, first out. -/

namespace Sys2Proof.Machine
open Sys2Proof.Laws

/-- Every command that carries no supply voltage beyond the ratings answers a next state and leaves the queue, command by command. -/
theorem exec_answers (c : Instr) (s : State) (h : beyondMaximum c = false) : Answers s (exec c s) := by
  cases c <;> simp_all [exec, beyondMaximum]

/-- The eight commands that carry a supply voltage fault where it is beyond the ratings. -/
theorem exec_faults_of_beyondMaximum (c : Instr) (s : State) (h : beyondMaximum c = true) : exec c s = .fault .beyondRatings := by
  cases c with
  | keeperAlive | vinDwellComplete | vholdExhausted | holdupReadyAsserted | holdupReadyLost | vholdOvervoltage | boostRestart | chargeTimeout =>
    exact if_pos h
  | _ => cases h

theorem exec_next_pending {c : Instr} {s t : State} (h : exec c s = .next t) : t.pending = s.pending := by
  cases hb : beyondMaximum c with
  | false =>
    obtain ⟨u, hu, hq⟩ := exec_answers c s hb
    rw [hu] at h
    cases h
    exact hq
  | true =>
    rw [exec_faults_of_beyondMaximum c s hb] at h
    cases h

theorem State.nextHeld_mem {s : State} {before after l b : List Instr} {c : Instr} (h : s.nextHeld before l = some (b, c, after)) : c ∈ l := by
  induction l generalizing before with
  | nil => cases h
  | cons d l ih =>
    unfold State.nextHeld at h
    split at h
    · cases h
      exact List.mem_cons_self
    · exact List.mem_cons_of_mem _ (ih h)

theorem State.idle_next_pending {s t : State} (h : s.idle = .next t) : t.pending = s.pending := by
  unfold State.idle at h
  split at h
  · cases h
    simp
  · split at h
    · next hexec =>
      cases h
      exact (State.rejoin_pending ..).trans ((exec_next_pending hexec).trans (State.behind_pending ..))
    · cases h
    · cases h

/-- On an empty queue the block answers a next state where no waiting command carries a voltage beyond the ratings. -/
theorem State.idle_answers {s : State} (h : ∀ c ∈ s.held, beyondMaximum c = false) : ∃ t, s.idle = .next t := by
  unfold State.idle
  split
  · exact ⟨_, rfl⟩
  · next before c after hc =>
    obtain ⟨t, ht, _⟩ := exec_answers c (s.behind before) (h c (State.nextHeld_mem hc))
    rw [ht]
    exact ⟨_, rfl⟩

theorem step_cons {s : State} {c : Instr} {rest : List Instr} (h : s.pending = c :: rest) : step s = exec c { s with pending := rest } := by
  unfold step
  rw [h]

theorem step_nil {s : State} (h : s.pending = []) : step s = s.idle := by
  unfold step
  rw [h]

/-- Settles O3: no command is refused (`exec_answers`), and eight fault beyond the ratings (`exec_faults_of_beyondMaximum`). -/
theorem everyStepAnswers : Obligations.EveryStepAnswers := by
  unfold Obligations.EveryStepAnswers
  refine ⟨fun c s h => ?_, exec_faults_of_beyondMaximum, fun s h => ?_⟩
  · obtain ⟨t, ht, _⟩ := exec_answers c s h
    exact ⟨t, ht⟩
  · have hwithin : ∀ c ∈ s.pending ++ s.held, beyondMaximum c = false := by simpa [or_imp, forall_and] using h
    cases hp : s.pending with
    | nil =>
      obtain ⟨t, ht⟩ := State.idle_answers fun c hc => hwithin c (List.mem_append_right _ hc)
      exact ⟨t, (step_nil hp).trans ht⟩
    | cons c rest =>
      obtain ⟨t, ht, _⟩ := exec_answers c { s with pending := rest } (hwithin c (by simp [hp]))
      exact ⟨t, (step_cons hp).trans ht⟩

/-- Settles O4: no command's effect touches the queue (`exec_next_pending`), nor does the tick of an idle step or a command that had waited. -/
theorem queueIsFirstInFirstOut : Obligations.QueueIsFirstInFirstOut := by
  unfold Obligations.QueueIsFirstInFirstOut
  refine ⟨fun s t h => ?_, fun c s t h => exec_next_pending h⟩
  cases hp : s.pending with
  | nil =>
    rw [step_nil hp] at h
    rw [State.idle_next_pending h, hp]
    rfl
  | cons c rest =>
    rw [step_cons hp] at h
    exact exec_next_pending h

/-- Settles O1: by the definition of a step. -/
theorem stepTakesTheFrontCommand : Obligations.StepTakesTheFrontCommand := by
  unfold Obligations.StepTakesTheFrontCommand
  intro c rest s
  exact step_cons rfl

end Sys2Proof.Machine
end

section
/-! PROOFS. Statements about the state after reset and the byte memories (00_scope.md Table 00-4, 16_power_and_holdup.md R377): what reset leaves, and
what a write of bytes leaves. -/

namespace Sys2Proof.Machine
open Sys2Proof.Laws

theorem getElem_replicate_fin {α : Type} {n : Nat} (x : α) (i : Fin n) : (Vector.replicate n x)[i] = x := by simp

/-- An empty memory reads zero. -/
theorem read_nil (a : Nat) : Mem.read [] a = 0 := rfl

/-- The memories of reset are empty. -/
theorem reset_ramsCanonical : State.reset.RamsCanonical where
  customer := nil_wf
  labels n := by
    have hlds : State.reset.lds[n] = LD.init := getElem_replicate_fin ..
    rw [hlds]
    exact nil_wf
  banks b := by
    have hbanks : State.reset.sp.banks[b] = [] := getElem_replicate_fin ..
    rw [hbanks]
    exact nil_wf

/-- Settles O6: by the laws of byte memories (`read_writeBytes_same`, `read_writeBytes_other`, `writeBytes_wf`). -/
theorem byteMemoriesReadBackAndStayCanonical : Obligations.ByteMemoriesReadBackAndStayCanonical := by
  unfold Obligations.ByteMemoriesReadBackAndStayCanonical
  refine ⟨fun m a l hwf => ⟨writeBytes_wf m a l hwf, fun i hi => ?_, read_writeBytes_other m a l⟩, reset_ramsCanonical⟩
  rw [read_writeBytes_same m a l i hi, List.getD_eq_getElem l 0 hi]

/-- Settles O5: reset holds its initial values, and its memories are empty. -/
theorem resetLeavesTheDeviceUnpowered : Obligations.ResetLeavesTheDeviceUnpowered := by
  unfold Obligations.ResetLeavesTheDeviceUnpowered
  have hlds (n : Fin 16) : State.reset.lds[n] = LD.init := getElem_replicate_fin ..
  refine ⟨rfl, rfl, rfl, rfl, rfl, rfl, rfl, fun k => getElem_replicate_fin .., fun n => ?_, fun k => ?_, rfl, rfl, rfl, read_nil, fun n a => ?_,
    fun b a => ?_⟩
  · rw [hlds]
    exact ⟨rfl, rfl, rfl⟩
  · have hregion : State.reset.lk.dcRegions[k] = ⟨0, 0, false⟩ := getElem_replicate_fin ..
    rw [hregion]
  · rw [hlds]
    exact read_nil a
  · have hbank : State.reset.sp.banks[b] = [] := getElem_replicate_fin ..
    rw [hbank]
    exact read_nil a

end Sys2Proof.Machine
end

section
/-! PROOFS. Statements about the mailboxes (11_mailbox_and_sessions.md R271, R278, R279): how a request is refused before its own checks, and what an
answer changes. -/

namespace Sys2Proof.Machine
open Sys2Proof.Laws

/-! ### A refusal before the command's own checks (R279) -/

/-- Every mailbox command is taken through the gate, UNSUPPORTED_OPCODE apart. -/
theorem exec_eq_mbxLater {c : Instr} {r : Req} {op : Nat} (h : request c = some (r, op)) :
    c = .unsupportedOpcode r op ∨ ∃ len body, ∀ s, exec c s = .next (s.mbxLater c len body) := by
  cases c <;> cases h
  case unsupportedOpcode => exact Or.inl rfl
  all_goals exact Or.inr ⟨_, _, fun _ => rfl⟩

/-- A request that the gate refuses, whatever the length of its input, is answered with the refusal, and counted where R279 counts it. -/
theorem exec_of_refused {s : State} {c : Instr} {r : Req} {op : Nat} {a : Ans} {k : Bool} (hc : request c = some (r, op))
    (h : ∀ len, s.gate r op len = .refused a k) :
    exec c s = .next ((if k then s.violate (Inst.who r.inst) 6 op else s).answer r op a) := by
  rcases exec_eq_mbxLater hc with rfl | ⟨len, body, hexec⟩
  · show Host.Outcome.next (match s.gate r op none with
      | .runs => s
      | _ => s.mbx (.unsupportedOpcode r op) none fun t => (unsupportedAns, t)) = _
    rw [h none]
    exact congrArg Host.Outcome.next (State.mbx_refused hc (h none))
  · rw [hexec, State.mbxLater_refused hc (h len)]

/-- Past the firmware's start the route of the opcode decides. -/
theorem State.gate_of_fwUp {s : State} {r : Req} {op : Nat} {x : Route} (hdie : s.pw.dieUp = true) (hfw : s.fwUp = true)
    (hwait : s.mustWait r.inst = false) (hroute : route op = some x) (len : Option Nat) :
    s.gate r op len = s.routeGate r.inst r.len x len := by
  have hrom : s.sec.romOnly = false := by
    unfold State.fwUp at hfw
    simp_all
  simp [State.gate, State.keeperServes, hdie, hfw, hwait, hroute, hrom]

theorem State.session_none_of_not_owner {s : State} {i : Inst} (h : s.session i = none) : s.ownerOn i = false := by
  simp [State.ownerOn, h]

/-- Settles O7: past the firmware's start the gate is that of the route (`State.gate_of_fwUp`), which refuses the path first and then the
privilege. -/
theorem mailboxRefusalsNameTheirReason : Obligations.MailboxRefusalsNameTheirReason := by
  unfold Obligations.MailboxRefusalsNameTheirReason
  intro c r op x s hc hdie hfw hwait hroute offered refusedWith
  have hgate := State.gate_of_fwUp hdie hfw hwait hroute
  refine ⟨fun hpath => exec_of_refused hc (k := true) fun len => ?_, fun hpath hpriv hsess => exec_of_refused hc (k := true) fun len => ?_,
    fun hpath hpriv hsess howner => exec_of_refused hc (k := true) fun len => ?_⟩
  · rw [hgate]
    exact if_pos hpath
  · rw [hgate]
    exact (if_neg (ne_false_of_eq_true hpath)).trans (if_pos ⟨hpriv, hsess⟩)
  · rw [hgate]
    exact (if_neg (ne_false_of_eq_true hpath)).trans ((if_neg fun h => hsess h.2).trans (if_pos ⟨hpriv, howner⟩))

/-! ### What an answer changes (R271, R278) -/

/-- A signal leaves as an MSI-X vector or as a pending bit, and changes nothing else. -/
def State.Signals (s t : State) (v : Fin 4) : Prop :=
  (t.out = s.out ∨ ∃ n, t.out = .msix n v :: s.out) ∧ ∀ n : Fin 16, t.lds[n] = { s.lds[n] with vecPending := t.lds[n].vecPending }

theorem State.signals_refl (s : State) (v : Fin 4) : s.Signals s v := ⟨Or.inl rfl, fun _ => rfl⟩

theorem State.signal_signals (s : State) (n : Fin 16) (v : Fin 4) : s.Signals (s.signal n v) v := by
  unfold State.signal
  split
  · refine ⟨Or.inl rfl, fun m => ?_⟩
    rw [show (s.modLd n fun l => { l with vecPending := l.vecPending.set v true }).lds[m] = _ from vmod_get ..]
    split <;> rfl
  · exact ⟨Or.inr ⟨n, rfl⟩, fun _ => rfl⟩

theorem State.mbxSignal_signals (s : State) (i : Inst) (b : Nat) : s.Signals (s.mbxSignal i b) 0 := by
  unfold State.mbxSignal
  split
  · split
    · exact State.signal_signals ..
    · exact State.signals_refl ..
  · exact State.signals_refl ..

theorem vmod_self {α : Type} {n : Nat} {v : Vector α n} {i : Fin n} {f : α → α} (h : f v[i] = v[i]) : vmod v i f = v := by
  rw [vmod, h]
  exact Vector.set_getElem_self ..

theorem vmod_vmod {α : Type} {n : Nat} (v : Vector α n) (i : Fin n) (f g : α → α) : vmod (vmod v i f) i g = vmod v i fun x => g (f x) := by
  simp [vmod]

/-- A session is stored with the side that serves the mailbox: the keeper's own one, or the mailbox's. -/
theorem State.setSession_mb (s : State) (i : Inst) (x : Option Session) : ∃ keeper own,
    (s.setSession i x).mb = { s.mb with keeperSess := keeper, inst := vmod s.mb.inst (Inst.ix i) fun m => { m with session := own } } := by
  unfold State.setSession
  split
  · refine ⟨x, s.mb.inst[Inst.ix i].session, ?_⟩
    rw [vmod_self rfl]
  · exact ⟨s.mb.keeperSess, x, rfl⟩

/-- The mailboxes after an answer: the failure record of the request's own, for a code above 0x0001 of another opcode than Get Last
Failure, and the idle time of a session. -/
theorem State.answer_mb (s : State) (r : Req) (op : Nat) (a : Ans) : ∃ keeper own,
    (s.answer r op a).mb = { s.mb with keeperSess := keeper, inst := vmod s.mb.inst (Inst.ix r.inst) fun m =>
      { m with session := own, failure := if a.code ≤ 1 ∨ op = 0xC004 then m.failure else ⟨op, a.code, a.reason, a.param⟩ } } := by
  unfold State.answer
  extract_lets recorded timed
  have hrecorded : recorded.mb = { s.mb with inst := vmod s.mb.inst (Inst.ix r.inst) fun m =>
      { m with failure := if a.code ≤ 1 ∨ op = 0xC004 then m.failure else ⟨op, a.code, a.reason, a.param⟩ } } := by
    unfold recorded
    split
    · rw [vmod_self rfl]
    · rfl
  have htimed : ∃ keeper own, timed.mb = { recorded.mb with keeperSess := keeper, inst := vmod recorded.mb.inst (Inst.ix r.inst) fun m =>
      { m with session := own } } := by
    unfold timed
    split
    · exact State.setSession_mb ..
    · exact ⟨recorded.mb.keeperSess, recorded.mb.inst[Inst.ix r.inst].session, by rw [vmod_self rfl]⟩
  obtain ⟨keeper, own, ht⟩ := htimed
  obtain ⟨lds, out, hsignal⟩ := State.mbxSignal_touches (timed.emit (.mbx r.inst op a.code a.out)) r.inst 1
  refine ⟨keeper, own, ?_⟩
  rw [hsignal]
  show timed.mb = _
  rw [ht, hrecorded, vmod_vmod]

theorem State.answer_signals (s : State) (r : Req) (op : Nat) (a : Ans) : (s.emit (.mbx r.inst op a.code a.out)).Signals (s.answer r op a) 0 := by
  unfold State.answer
  extract_lets recorded timed
  have htimed : ∃ mb, timed = { s with mb := mb } := by
    have hrecorded : ∃ mb, recorded = { s with mb := mb } := by
      unfold recorded
      split
      · exact ⟨s.mb, rfl⟩
      · exact ⟨_, rfl⟩
    obtain ⟨mb, hrecorded⟩ := hrecorded
    unfold timed
    split
    · obtain ⟨mb, h⟩ := State.setSession_touches recorded r.inst _
      exact ⟨mb, by rw [h, hrecorded]⟩
    · exact ⟨mb, hrecorded⟩
  obtain ⟨mb, ht⟩ := htimed
  have hsignal := State.mbxSignal_signals (timed.emit (.mbx r.inst op a.code a.out)) r.inst 1
  rw [ht] at hsignal ⊢
  exact hsignal

/-- Settles O8: the mailboxes by `State.answer_mb`, the outputs and the LDs by `State.answer_signals`, the rest by `State.answer_touches`. -/
theorem answersChangeOnlyTheMailbox : Obligations.AnswersChangeOnlyTheMailbox := by
  unfold Obligations.AnswersChangeOnlyTheMailbox
  intro s r op a t
  obtain ⟨keeper, own, hmb⟩ := State.answer_mb s r op a
  obtain ⟨hout, hlds⟩ := State.answer_signals s r op a
  obtain ⟨mb, lds, out, ht⟩ := State.answer_touches s r op a
  have hinst : t.mb.inst = _ := congrArg Mb.inst hmb
  refine ⟨?_, hout, hlds, (congrArg Mb.viol hmb :), (congrArg Mb.outage hmb :), (congrArg Mb.activate hmb :), (congrArg Mb.transfer hmb :),
    (congrArg Mb.sanitize hmb :), (congrArg Mb.keeperHandle hmb :), fun i hi => ?_, ?_, ?_, ?_⟩
  · unfold t
    rw [ht]
  · rw [hinst, vmod_get, if_neg hi.symm]
  · rw [hinst, vmod_same]
  · rw [hinst, vmod_same]
  · rw [hinst, vmod_same]

end Sys2Proof.Machine
end

section
/-! PROOFS. Statements about the standard commands (11_mailbox_and_sessions.md R272): the reads of the device's identity and logs, those of a memory
device, the settings, and what is Unsupported. -/

namespace Sys2Proof.Machine
open Sys2Proof.Laws

/-! ### Opcodes that are not listed -/

/-- Past the firmware's start an opcode without a route is refused as Unsupported, and not counted. -/
theorem State.gate_of_route_none {s : State} {r : Req} {op : Nat} (hdie : s.pw.dieUp = true) (hfw : s.fwUp = true)
    (hwait : s.mustWait r.inst = false) (hroute : route op = none) (len : Option Nat) : s.gate r op len = .refused unsupportedAns false := by
  have hrom : s.sec.romOnly = false := by
    unfold State.fwUp at hfw
    simp_all
  simp [State.gate, State.keeperServes, hdie, hfw, hwait, hroute, hrom]

/-- A request of an opcode without a route is answered Unsupported. -/
theorem exec_of_route_none {s : State} {c : Instr} {r : Req} {op : Nat} (hc : request c = some (r, op)) (hdie : s.pw.dieUp = true)
    (hfw : s.fwUp = true) (hwait : s.mustWait r.inst = false) (hroute : route op = none) : exec c s = .next (s.answer r op unsupportedAns) := by
  have hexec := exec_of_refused hc (State.gate_of_route_none hdie hfw hwait hroute)
  rwa [if_neg nofun] at hexec

/-- Settles O13: none of the opcodes has a route (`exec_of_route_none`). -/
theorem unimplementedStandardCommandsAreUnsupported : Obligations.UnimplementedStandardCommandsAreUnsupported := by
  unfold Obligations.UnimplementedStandardCommandsAreUnsupported
  intro s r hdie hfw hwait no
  have hexec {c : Instr} {op : Nat} (hc : request c = some (r, op)) := exec_of_route_none hc hdie hfw hwait
  exact ⟨hexec rfl rfl, hexec rfl rfl, hexec rfl rfl, fun op hop => hexec rfl hop⟩

/-! ### Identity and logs -/

section
variable {s : State} {r : Req}

/-- The fields of a mailbox's background command. -/
def Background.fields (b : Background) : List (String × Nat) :=
  [("running", b2n b.running), ("percent", b.percent), ("opcode", b.opcode), ("code", b.code)]

/-- What BACKGROUND_OPERATION_STATUS answers of a mailbox: its background command, or zeros. -/
theorem exec_backgroundOperationStatus (h : s.Taken r 0x0002 (some 0)) : exec (.backgroundOperationStatus r) s =
    .next (s.answer r 0x0002 (okOut (.fields ((s.mb.inst[Inst.ix r.inst].bg.map Background.fields).getD
      [("running", 0), ("percent", 0), ("opcode", 0), ("code", 0)])))) := by
  refine congrArg Host.Outcome.next (State.mbx_answers rfl h ?_)
  cases s.mb.inst[Inst.ix r.inst].bg <;> rfl

theorem exec_getFwInfo (h : s.Taken r 0x0200 (some 0)) : exec (.getFwInfo r) s = .next (s.answer r 0x0200
    (okOut (.fields [("slots", 2), ("activeSlot", if s.sec.runningB then 2 else 1), ("onlineActivation", 1),
      ("slot1Version", imageVersion s.sec.imgA), ("slot2Version", imageVersion s.sec.imgB)]))) := by
  refine congrArg Host.Outcome.next (State.mbx_answers rfl h ?_)
  cases s.sec.runningB <;> rfl

theorem exec_getLog {offset length : Nat} (h : s.Taken r 0x0401 (some 24)) (hoff : offset < celBytes.length)
    (hlen : offset + length ≤ celBytes.length) :
    exec (.getLog r true offset length) s = .next (s.answer r 0x0401 (okOut (.bytes ((celBytes.drop offset).take length)))) :=
  congrArg Host.Outcome.next (State.mbx_answers rfl h ((if_neg nofun).trans ((if_neg (Nat.not_le.2 hoff)).trans (if_neg (Nat.not_lt.2 hlen)))))

end

/-- Settles O9: each command's own answer, by `State.mbx_answers`. -/
theorem identityAndLogReadsAnswer : Obligations.IdentityAndLogReadsAnswer := by
  unfold Obligations.IdentityAndLogReadsAnswer
  intro s r
  refine ⟨fun h => congrArg Host.Outcome.next (State.mbx_answers rfl h rfl), fun h => ⟨_, exec_backgroundOperationStatus h, fun b hb => ?_⟩,
    exec_getFwInfo, fun h => congrArg Host.Outcome.next (State.mbx_answers rfl h rfl),
    fun h => congrArg Host.Outcome.next (State.mbx_answers rfl h rfl), fun offset length h hoff hlen => exec_getLog h hoff hlen⟩
  rw [hb]
  rfl

/-! ### Reads of a memory device -/

section
variable {s : State} {n : Fin 16} {len : Nat}

theorem exec_getLsa {offset length : Nat} (h : s.Taken ⟨.ld n, len⟩ 0x4102 (some 8)) (hoff : offset < 262144) (hlen : length ≤ 16384)
    (hend : offset + length ≤ 262144) : exec (.getLsa ⟨.ld n, len⟩ offset length) s = .next (s.answer ⟨.ld n, len⟩ 0x4102
      (okOut (.bytes ((List.range length).map fun i => s.lds[n].lsa.read (offset + i))))) :=
  congrArg Host.Outcome.next (State.mbx_answers rfl h ((if_neg (Nat.not_le.2 hoff)).trans (if_neg (by omega))))

/-- The poison records of an LD's allocated capacity that meet a range. -/
def State.poisonIn (s : State) (n : Fin 16) (dpa lines : Nat) : List PoisonRec :=
  (s.poisonOf n).filter fun p => decide (dpa / 64 < p.line + p.lines) && decide (p.line < dpa / 64 + lines)

/-- The fields of a poison record. -/
def PoisonRec.fields (p : PoisonRec) : List (String × Nat) := [("dpa", p.line * 64), ("lines", p.lines), ("source", PoisonSrc.code p.src)]

theorem exec_getPoisonList {dpa lines : Nat} (h : s.Taken ⟨.ld n, len⟩ 0x4300 (some 16)) : exec (.getPoisonList ⟨.ld n, len⟩ dpa lines) s =
    .next (s.answer ⟨.ld n, len⟩ 0x4300 (okOut (.fields ([("overflow", b2n s.lk.poisonOverflow.isSome),
      ("overflowTime", s.lk.poisonOverflow.getD 0), ("count", (s.poisonIn n dpa lines).length)] ++
      (s.poisonIn n dpa lines).flatMap PoisonRec.fields)))) :=
  congrArg Host.Outcome.next (State.mbx_answers rfl h rfl)

theorem State.mem_poisonIn {dpa lines : Nat} {p : PoisonRec} : p ∈ s.poisonIn n dpa lines ↔
    p ∈ s.lk.poison ∧ s.allocated n p.line = true ∧ dpa / 64 < p.line + p.lines ∧ p.line < dpa / 64 + lines := by
  simp only [State.poisonIn, State.poisonOf, List.mem_filter, Bool.and_eq_true, decide_eq_true_eq]
  tauto

end

/-- Settles O10: each command's own answer, by `State.mbx_answers`. -/
theorem memoryDeviceReadsAnswer : Obligations.MemoryDeviceReadsAnswer := by
  unfold Obligations.MemoryDeviceReadsAnswer
  intro s n len r
  refine ⟨fun h => congrArg Host.Outcome.next (State.mbx_answers rfl h rfl), fun h => congrArg Host.Outcome.next (State.mbx_answers rfl h rfl),
    fun offset length h hoff hlen hend => exec_getLsa h hoff hlen hend,
    fun h => ⟨_, congrArg Host.Outcome.next (State.mbx_answers rfl h rfl), by simp, by simp, fun ht => ?_⟩,
    fun h => congrArg Host.Outcome.next (State.mbx_answers rfl h rfl), fun h => congrArg Host.Outcome.next (State.mbx_answers rfl h rfl),
    fun k h => congrArg Host.Outcome.next (State.mbx_answers rfl h rfl), fun h => congrArg Host.Outcome.next (State.mbx_answers rfl h rfl),
    fun dpa lines h => ⟨_, exec_getPoisonList h, fun p hp hld hbase hend => ?_⟩,
    fun dpa lines h => congrArg Host.Outcome.next (State.mbx_answers rfl h rfl), fun h => congrArg Host.Outcome.next (State.mbx_answers rfl h rfl)⟩
  · obtain ⟨t, ht⟩ := Option.isSome_iff_exists.1 ht
    exact ⟨t, ht, by simp [ht]⟩
  · have hin : p ∈ s.poisonIn n dpa lines := State.mem_poisonIn.2 ⟨hp, hld, hbase, hend⟩
    have hfield {x} (hx : x ∈ p.fields) : x ∈ (s.poisonIn n dpa lines).flatMap PoisonRec.fields := List.mem_flatMap.2 ⟨p, hin, hx⟩
    exact ⟨List.mem_append_right _ (hfield (by simp [PoisonRec.fields])), List.mem_append_right _ (hfield (by simp [PoisonRec.fields])),
      List.mem_append_right _ (hfield (by simp [PoisonRec.fields]))⟩

/-! ### Settings -/

section
variable {s : State} {n : Fin 16} {len : Nat}

theorem exec_setAlertConfiguration {life : Nat} {hot cold : Int} (h : s.Taken ⟨.ld n, len⟩ 0x4202 (some 12)) (hlife : life ≤ 100)
    (hhot : -32768 ≤ hot ∧ hot ≤ 32767) (hcold : -32768 ≤ cold ∧ cold ≤ 32767) : exec (.setAlertConfiguration ⟨.ld n, len⟩ life hot cold) s =
    .next ((s.modLd n fun l => { l with lifeWarn := life, hotWarn := hot, coldWarn := cold }).answer ⟨.ld n, len⟩ 0x4202 okAns) :=
  congrArg Host.Outcome.next (State.mbx_answers rfl h ((if_neg (by omega)).trans ((if_neg (by omega)).trans (if_neg (by omega)))))

theorem exec_setLsa {offset : Nat} {data : List Byte} (h : s.Taken ⟨.ld n, len⟩ 0x4103 (some (8 + data.length)))
    (hend : offset + data.length ≤ 262144) : exec (.setLsa ⟨.ld n, len⟩ offset data) s =
    .next ((s.modLd n fun l => { l with lsa := l.lsa.writeBytes offset data }).answer ⟨.ld n, len⟩ 0x4103 okAns) :=
  congrArg Host.Outcome.next (State.mbx_answers rfl h (if_neg (Nat.not_lt.2 hend)))

variable {k : Fin 4} {hs : List Nat} (h : s.Taken ⟨.ld n, len⟩ 0x0101 (some (6 + 2 * hs.length)))
include h

theorem exec_clearEventRecords_all : exec (.clearEventRecords ⟨.ld n, len⟩ k true hs) s =
    .next ((s.modLd n fun l => { l with evLogs := l.evLogs.set k ⟨[], l.evLogs[k].next, 0⟩ }).answer ⟨.ld n, len⟩ 0x0101 okAns) :=
  congrArg Host.Outcome.next (State.mbx_answers rfl h rfl)

theorem exec_clearEventRecords_oldest (hold : (s.lds[n].evLogs[k].recs.take hs.length).map (fun x => x.handle) = hs) :
    exec (.clearEventRecords ⟨.ld n, len⟩ k false hs) s = .next ((s.modLd n fun l =>
      { l with evLogs := l.evLogs.set k ⟨l.evLogs[k].recs.drop hs.length, l.evLogs[k].next, 0⟩ }).answer ⟨.ld n, len⟩ 0x0101 okAns) :=
  congrArg Host.Outcome.next (State.mbx_answers rfl h ((if_neg nofun).trans (if_pos hold)))

end

/-- Settles O11: each command stores its setting, by `State.mbx_answers`. -/
theorem standardSettingsAreStored : Obligations.StandardSettingsAreStored := by
  unfold Obligations.StandardSettingsAreStored
  intro s n len r
  exact ⟨fun time h => congrArg Host.Outcome.next (State.mbx_answers rfl h rfl),
    fun life hot cold h hlife hhot hhot' hcold hcold' => exec_setAlertConfiguration h hlife ⟨hhot, hhot'⟩ ⟨hcold, hcold'⟩,
    fun a b c d h => congrArg Host.Outcome.next (State.mbx_answers rfl h rfl), fun offset data h hend => exec_setLsa h hend,
    fun k hs h => exec_clearEventRecords_all h, fun k hs h hold => exec_clearEventRecords_oldest h hold,
    fun b h => congrArg Host.Outcome.next (State.mbx_answers rfl h rfl)⟩

end Sys2Proof.Machine
end

section
/-! PROOFS. What the MAC engine's count, an event and an answer leave of the security state and of a mailbox
(11_mailbox_and_sessions.md R276 to R278; 14_security_and_lifecycle.md R342). -/

namespace Sys2Proof.Machine
open Sys2Proof.Laws

/-! ### An event reserves numbers, and leaves the rest of the security state -/

/-- The security state without the numbers reserved for events. -/
def State.secKept (s : State) : Sec := { s.sec with evReserve := 0 }

section
variable (s : State)

theorem State.evBlock_secKept : s.evBlock.secKept = s.secKept := by
  unfold State.evBlock
  split <;> rfl

theorem State.logRepeat_secKept : s.logRepeat.secKept = s.secKept := by
  obtain ⟨_, _, h⟩ := s.logRepeat_touches
  rw [h]
  rfl

theorem State.logAppend_secKept (r : EventRec) : (s.logAppend r).secKept = s.secKept := by
  obtain ⟨_, _, h⟩ := s.logAppend_touches r
  rw [h]
  rfl

theorem State.pmCount_secKept (ev : Nat) (g : PmTag) : (s.pmCount ev g).secKept = s.secKept := by
  obtain ⟨_, _, h⟩ := s.pmCount_touches ev g
  rw [h]
  rfl

theorem State.forward_secKept (e : EventRec) : (s.forward e).secKept = s.secKept := by
  obtain ⟨_, _, h⟩ := s.forward_touches e
  rw [h]
  rfl

theorem State.raise_secKept (n : Fin 256) (e d : Nat) : (s.raise n e d).secKept = s.secKept := State.raise_keeps State.secKept ..

theorem State.keeperEvent_secKept (code sev org p0 p1 p2 p3 : Nat) : (s.keeperEvent code sev org p0 p1 p2 p3).secKept = s.secKept := by
  unfold State.keeperEvent
  split
  · rfl
  · extract_lets opened r counted
    have hcounted : counted.secKept = s.secKept := s.evBlock_secKept
    split
    · exact (counted.logAppend_secKept r).trans hcounted
    · exact hcounted

theorem State.eventStore_secKept (code sev org p0 p1 p2 p3 : Nat) : (s.eventStore code sev org p0 p1 p2 p3).secKept = s.secKept := by
  unfold State.eventStore
  split
  · rfl
  · extract_lets opened supp r counted inserted ringed kept noted fatal
    have hcounted : counted.secKept = s.secKept := (State.evBlock_secKept _).trans s.logRepeat_secKept
    have hringed : ringed.secKept = s.secKept := by
      unfold ringed
      split
      · exact hcounted
      · exact (State.pmCount_secKept ..).trans hcounted
    simp only [State.forward_secKept, fatal, noted, kept, apply_ite State.secKept, State.raise_secKept, State.logAppend_secKept, ite_self, hringed]

theorem State.event_secKept (code sev org p0 p1 p2 p3 : Nat) : (s.event code sev org p0 p1 p2 p3).secKept = s.secKept := by
  unfold State.event
  split
  · exact s.keeperEvent_secKept ..
  · split
    · split
      · rfl
      · exact s.eventStore_secKept ..
    · exact s.eventStore_secKept ..

theorem State.event_mb (code sev org p0 p1 p2 p3 : Nat) : (s.event code sev org p0 p1 p2 p3).mb = s.mb := State.event_keeps State.mb ..

theorem State.event_authFails (code sev org p0 p1 p2 p3 : Nat) : (s.event code sev org p0 p1 p2 p3).sec.authFails = s.sec.authFails :=
  (congrArg Sec.authFails (s.event_secKept code sev org p0 p1 p2 p3) :)

theorem State.event_romOnly (code sev org p0 p1 p2 p3 : Nat) : (s.event code sev org p0 p1 p2 p3).sec.romOnly = s.sec.romOnly :=
  (congrArg Sec.romOnly (s.event_secKept code sev org p0 p1 p2 p3) :)

theorem State.event_keeperServes (code sev org p0 p1 p2 p3 : Nat) (i : Inst) :
    (s.event code sev org p0 p1 p2 p3).keeperServes i = s.keeperServes i := by
  have hpw : (s.event code sev org p0 p1 p2 p3).pw = s.pw := State.event_keeps State.pw ..
  have hbt : (s.event code sev org p0 p1 p2 p3).bt = s.bt := State.event_keeps State.bt ..
  rw [State.keeperServes, State.fwUp, hpw, hbt, State.event_romOnly, ← State.fwUp, ← State.keeperServes]

/-! ### One use of a MAC slot -/

theorem vmod_congr {α : Type} {n : Nat} {v : Vector α n} {i : Fin n} {f g : α → α} (h : f v[i] = g v[i]) : vmod v i f = vmod v i g := by
  rw [vmod, vmod, h]

theorem State.macCount_sec (slot : Fin 16) : (s.macCount slot).sec = { s.sec with macSlots := vmod s.sec.macSlots slot fun m =>
    { m with uses := m.uses + 1, reserved := if m.uses < m.reserved then m.reserved else m.reserved + 65536 } } := by
  unfold State.macCount
  extract_lets m _ reserved
  have hreserved : reserved.sec = { s.sec with macSlots := vmod s.sec.macSlots slot fun m =>
      { m with reserved := if m.uses < m.reserved then m.reserved else m.reserved + 65536 } } := by
    unfold reserved m
    split
    next h => rw [vmod_self (by rw [if_pos h])]
    next h => exact congrArg (fun v => ({ s.sec with macSlots := v } : Sec)) (vmod_congr (by rw [if_neg h]))
  show ({ reserved.sec with macSlots := vmod reserved.sec.macSlots slot _ } : Sec) = _
  rw [hreserved, vmod_vmod]

/-- The slots of session keys are never replaced by the engine: a use is a count. -/
theorem State.macUse_macOfSlot (k : Fin 4) : s.macUse (macOfSlot k) = s.macCount (macOfSlot k) :=
  if_neg fun h => absurd h.1 (Nat.not_le.2 k.isLt)

theorem State.macUse_sessionSlot (k : Fin 4) :
    ∃ kp slots, s.macUse (macOfSlot k) = { s with kp := kp, sec := { s.sec with macSlots := slots } } := by
  obtain ⟨kp, sec, h⟩ := State.macCount_touches s (macOfSlot k)
  have hsec : sec = _ := (congrArg State.sec h).symm.trans (State.macCount_sec s (macOfSlot k))
  exact ⟨kp, _, by rw [State.macUse_macOfSlot, h, hsec]⟩

/-! ### What an answer leaves of the mailbox it answers for -/

variable (r : Req) (op : Nat) (a : Ans)

theorem State.answer_handle : (s.answer r op a).mb.inst[Inst.ix r.inst].handle = s.mb.inst[Inst.ix r.inst].handle := by
  obtain ⟨keeper, own, h⟩ := State.answer_mb s r op a
  have hinst : (s.answer r op a).mb.inst = _ := congrArg Mb.inst h
  rw [hinst, vmod_same]

theorem State.answer_sec : (s.answer r op a).sec = s.sec := by
  obtain ⟨_, _, _, h⟩ := State.answer_touches s r op a
  rw [h]

theorem State.answer_freeIx : (s.answer r op a).freeIx = s.freeIx := by
  obtain ⟨_, _, _, h⟩ := State.answer_touches s r op a
  rw [h]

end

/-! ### A mailbox that the keeper does not serve -/

section
variable {s : State} {r : Req} {op : Nat} {a : Ans}

theorem State.modMb_inst (s : State) (i : Inst) (f : Mailbox → Mailbox) : (s.modMb i f).mb.inst[Inst.ix i] = f s.mb.inst[Inst.ix i] := vmod_same ..

theorem State.session_of_die {i : Inst} (h : s.keeperServes i = false) : s.session i = s.mb.inst[Inst.ix i].session.filter fun x =>
    s.mb.inst[Inst.ix i].bg.any (·.running) || decide (s.now - x.lastTick ≤ secTicks 30) := by
  rw [State.session, h]
  rfl

theorem State.setSession_of_die {i : Inst} (h : s.keeperServes i = false) (x : Option Session) :
    s.setSession i x = s.modMb i fun m => { m with session := x } := by
  rw [State.setSession, h]
  rfl

theorem State.handle_of_die {i : Inst} (h : s.keeperServes i = false) : s.handle i = s.mb.inst[Inst.ix i].handle := by
  rw [State.handle, h]
  rfl

theorem State.setHandle_of_die {i : Inst} (h : s.keeperServes i = false) (x : Option Handle) :
    s.setHandle i x = s.modMb i fun m => { m with handle := x } := by
  rw [State.setHandle, h]
  rfl

/-- The open session's idle time starts again, and a session that is not open stays as it is. -/
theorem State.answer_session (hkeeper : s.keeperServes r.inst = false) : (s.answer r op a).mb.inst[Inst.ix r.inst].session =
    match s.session r.inst with
    | some x => some { x with lastTick := s.now }
    | none => s.mb.inst[Inst.ix r.inst].session := by
  unfold State.answer
  extract_lets recorded timed
  have hrecorded : ∃ f : Failure → Failure, recorded = s.modMb r.inst fun m => { m with failure := f m.failure } := by
    unfold recorded
    split
    · exact ⟨id, by rw [State.modMb, vmod_self rfl]⟩
    · exact ⟨fun _ => _, rfl⟩
  obtain ⟨f, hf⟩ := hrecorded
  have hserves : recorded.keeperServes r.inst = false := by rw [hf]; exact hkeeper
  have hinst : recorded.mb.inst[Inst.ix r.inst] = { s.mb.inst[Inst.ix r.inst] with failure := f s.mb.inst[Inst.ix r.inst].failure } := by
    rw [hf, State.modMb_inst]
  have hnow : recorded.now = s.now := by rw [hf]; rfl
  have hsession : recorded.session r.inst = s.session r.inst := by
    rw [State.session_of_die hserves, State.session_of_die hkeeper, hinst, hnow]
  obtain ⟨_, _, hsignal⟩ := State.mbxSignal_touches (timed.emit (.mbx r.inst op a.code a.out)) r.inst 1
  rw [hsignal]
  show timed.mb.inst[Inst.ix r.inst].session = _
  unfold timed
  rw [hsession]
  cases s.session r.inst with
  | some x =>
    show ((recorded.setSession r.inst _).mb.inst[Inst.ix r.inst]).session = _
    rw [State.setSession_of_die hserves, State.modMb_inst, hnow]
  | none =>
    show recorded.mb.inst[Inst.ix r.inst].session = _
    rw [hinst]

end
end Sys2Proof.Machine
end

section
/-! PROOFS. Statements about sessions and the last failure record (11_mailbox_and_sessions.md R271, R275 to R278). -/

namespace Sys2Proof.Machine
open Sys2Proof.Laws

/-- Settles O22: the record by `State.answer_mb`, the read by `State.mbx_answers`. -/
theorem lastFailureIsReported : Obligations.LastFailureIsReported := by
  unfold Obligations.LastFailureIsReported
  refine ⟨fun s r op a => ?_, fun s r h => congrArg Host.Outcome.next (State.mbx_answers rfl h rfl)⟩
  obtain ⟨keeper, own, hmb⟩ := State.answer_mb s r op a
  have hinst : (s.answer r op a).mb.inst = _ := congrArg Mb.inst hmb
  rw [hinst, vmod_same]
  exact if_congr (by omega) rfl rfl

/-! ### Opening a session (R276, R277) -/

theorem State.macRun_session {s : State} {k : Fin 4} {key : Key} {tag : Nat} {i : Inst} {x : Handle} (hmac : s.macOk (macOfSlot k) = true) :
    s.macRun (macOfSlot k) key (sessMsg tag i x) = (some (Config.cmac key (sessMsg tag i x)), s.macUse (macOfSlot k)) := by
  have hmarked : MacFn.cmac.marked (macOfSlot k) = true := decide_eq_true (Or.inl (Nat.le_trans (Nat.lt_succ_iff.1 k.isLt) (by decide)))
  have hlength : (sessMsg tag i x).length ≤ macMsgLimit := by simp [sessMsg, macMsgLimit]
  exact macRun_fits s _ key _ hmarked hmac hlength

theorem State.authFail_mb (s : State) (k : Fin 4) : (s.authFail k).mb = s.mb := by
  unfold State.authFail
  extract_lets n _ counted
  split
  · rfl
  · exact State.event_mb ..

theorem State.authFail_keeperServes (s : State) (k : Fin 4) (i : Inst) : (s.authFail k).keeperServes i = s.keeperServes i := by
  unfold State.authFail
  extract_lets n _ counted
  split
  · rfl
  · exact State.event_keeperServes ..

theorem State.authFail_counts (s : State) (k : Fin 4) : (s.authFail k).sec.authFails[k] = s.sec.authFails[k] + 1 := by
  unfold State.authFail
  extract_lets n _ counted
  have hcounted : counted.sec.authFails[k] = s.sec.authFails[k] + 1 := Vector.getElem_set_self ..
  split
  · exact hcounted
  · exact (congrArg (fun fails : Vector Nat 4 => fails[k]) (State.event_authFails ..)).trans hcounted

section
variable {s : State} {r : Req} (hkeeper : s.keeperServes r.inst = false)
include hkeeper

/-- The handle of OPEN_SESSION: the next free values, void after 5 s. -/
def State.drawnHandle (s : State) (k : Fin 4) (hn : BitVec 128) : Handle :=
  ⟨Config.freeHandle s.freeIx, k, hn, Config.freeNonce (s.freeIx + 1), s.now + secTicks 5⟩

theorem State.openHandle_of_die (k : Fin 4) (hn : BitVec 128) : s.openHandle r.inst k hn =
    (okOut (.bytes (le 4 (Config.freeHandle s.freeIx).toNat ++ le 16 (Config.freeNonce (s.freeIx + 1)).toNat)),
      ({ s with freeIx := s.freeIx + 2 } : State).modMb r.inst fun m => { m with handle := some (s.drawnHandle k hn) }) :=
  congrArg (Prod.mk _) (State.setHandle_of_die (s := { s with freeIx := s.freeIx + 2 }) hkeeper _)

theorem exec_openSession {k : Fin 4} {hn : BitVec 128} (h : s.Taken r 0xC000 (some 32)) (hoff : s.backedOff k = false)
    (huses : s.sec.macSlots[macOfSlot k].uses < s.sec.macSlots[macOfSlot k].limit) (hkey : s.sec.sessKeys[k].isSome = true) :
    exec (.openSession r k.val hn) s = .next ((({ s with freeIx := s.freeIx + 2 } : State).modMb r.inst fun m =>
      { m with handle := some (s.drawnHandle k hn) }).answer r 0xC000
        (okOut (.bytes (le 4 (Config.freeHandle s.freeIx).toNat ++ le 16 (Config.freeNonce (s.freeIx + 1)).toNat)))) := by
  refine congrArg Host.Outcome.next (State.mbx_answers rfl h ?_)
  rw [State.setHandle_of_die hkeeper]
  have hnone : s.sec.sessKeys[k].isNone = false := by simpa using hkey
  refine (dif_pos k.isLt).trans ((if_neg (ne_true_of_eq_false hoff)).trans ((if_neg (Nat.not_le.2 huses)).trans
    ((if_neg (ne_true_of_eq_false hnone)).trans ((State.openHandle_of_die (s := s.modMb r.inst _) hkeeper k hn).trans
      (congrArg (fun v => (_, ({ s with freeIx := s.freeIx + 2, mb := { s.mb with inst := v } } : State)))
        (vmod_vmod s.mb.inst _ (fun m => { m with handle := none }) fun m => { m with handle := some (s.drawnHandle k hn) }))))))

/-- The waiting handle that AUTHENTICATE_SESSION names. -/
theorem State.handle_filter {x : Handle} (hx : s.mb.inst[Inst.ix r.inst].handle = some x) (hnow : s.now ≤ x.voidAt) :
    ((s.handle r.inst).filter fun h => h.handle = x.handle && decide (s.now ≤ h.voidAt)) = some x := by
  rw [State.handle_of_die hkeeper, hx]
  simp [Option.filter, hnow]

/-- A taken AUTHENTICATE_SESSION of the waiting handle voids it and has RESP checked under the slot's key. -/
theorem exec_authenticateSession {x : Handle} {k : SessKey} (resp : BitVec 128) (h : s.Taken r 0xC001 (some 20))
    (hx : s.mb.inst[Inst.ix r.inst].handle = some x) (hnow : s.now ≤ x.voidAt) (hk : s.sec.sessKeys[x.slot] = some k)
    (hmac : s.macOk (macOfSlot x.slot) = true) : exec (.authenticateSession r x.handle resp .agree) s =
      .next (((s.modMb r.inst fun m => { m with handle := none }).authCheck r.inst x k resp).2.answer r 0xC001
        ((s.modMb r.inst fun m => { m with handle := none }).authCheck r.inst x k resp).1) := by
  refine congrArg Host.Outcome.next (State.mbx_answers rfl h ?_)
  rw [State.handle_filter hkeeper hx hnow]
  dsimp only
  rw [State.setHandle_of_die hkeeper]
  generalize ht : (s.modMb r.inst fun m => { m with handle := none }) = t
  have hkeys : t.sec.sessKeys[x.slot] = some k := by rw [← ht]; exact hk
  have hserves : t.keeperServes r.inst = false := by rw [← ht]; exact hkeeper
  have hmac : t.macOk ⟨x.slot.val, by omega⟩ = true := by rw [← ht]; exact hmac
  rw [hkeys]
  simp [hserves, hmac]

/-! ### The check of RESP (R276, R277) -/

theorem State.authCheck_wrong {x : Handle} {k : SessKey} {resp : BitVec 128} (hmac : s.macOk (macOfSlot x.slot) = true)
    (hresp : Config.cmac k.key (sessMsg 1 r.inst x) ≠ resp) :
    s.authCheck r.inst x k resp = (badAns 0x000D, (s.macUse (macOfSlot x.slot)).authFail x.slot) := by
  have hrun := State.macRun_session (key := k.key) (tag := 1) (i := r.inst) (x := x) hmac
  unfold State.authCheck
  simp only [State.macValue, hkeeper]
  rw [show (⟨x.slot.val, by omega⟩ : Fin 16) = macOfSlot x.slot from rfl]
  simp [hrun, hresp]

theorem State.authCheck_right {x : Handle} {k : SessKey} {resp : BitVec 128} (hmac : s.macOk (macOfSlot x.slot) = true)
    (hmac' : (s.macUse (macOfSlot x.slot)).macOk (macOfSlot x.slot) = true) (hresp : Config.cmac k.key (sessMsg 1 r.inst x) = resp) :
    s.authCheck r.inst x k resp = (okOut (.bytes (le 16 (Config.cmac k.key (sessMsg 2 r.inst x)).toNat)),
      ((((s.macUse (macOfSlot x.slot)).macUse (macOfSlot x.slot)).authGood x.slot).setSession r.inst (some ⟨x.slot, k.role, s.now⟩))) := by
  have hrun := State.macRun_session (key := k.key) (tag := 1) (i := r.inst) (x := x) hmac
  have hrun' := State.macRun_session (key := k.key) (tag := 2) (i := r.inst) (x := x) hmac'
  unfold State.authCheck
  simp only [State.macValue, hkeeper]
  rw [show (⟨x.slot.val, by omega⟩ : Fin 16) = macOfSlot x.slot from rfl]
  obtain ⟨kp, slots, huse⟩ := s.macUse_sessionSlot x.slot
  obtain ⟨kp', slots', huse'⟩ := (s.macUse (macOfSlot x.slot)).macUse_sessionSlot x.slot
  have hnow : ((s.macUse (macOfSlot x.slot)).macUse (macOfSlot x.slot)).now = s.now := by rw [huse', huse]
  simp [hrun, hrun', hresp, hnow, State.authGood]

/-- RESP fits: the session is open, its slot's count is cleared, and the proof is answered. -/
theorem State.authenticated {x : Handle} {k : SessKey} {resp : BitVec 128} (h : s.Taken r 0xC001 (some 20))
    (hx : s.mb.inst[Inst.ix r.inst].handle = some x) (hnow : s.now ≤ x.voidAt) (hk : s.sec.sessKeys[x.slot] = some k)
    (hmac : s.macOk (macOfSlot x.slot) = true) (hmac' : (s.macUse (macOfSlot x.slot)).macOk (macOfSlot x.slot) = true)
    (hresp : Config.cmac k.key (sessMsg 1 r.inst x) = resp) :
    ∃ t, exec (.authenticateSession r x.handle resp .agree) s = .next t ∧ t.mb.inst[Inst.ix r.inst].handle = none ∧
      t.mb.inst[Inst.ix r.inst].session = some ⟨x.slot, k.role, s.now⟩ ∧ t.sec.authFails[x.slot] = 0 ∧
      .mbx r.inst 0xC001 0x0000 (.bytes (le 16 (Config.cmac k.key (sessMsg 2 r.inst x)).toNat)) ∈ t.out := by
  have hexec := exec_authenticateSession hkeeper resp h hx hnow hk hmac
  generalize hopen : (s.modMb r.inst fun m => { m with handle := none }) = t at hexec
  have htnow : t.now = s.now := by rw [← hopen]; rfl
  have htsec : t.sec = s.sec := by rw [← hopen]; rfl
  have hserves : t.keeperServes r.inst = false := by rw [← hopen]; exact hkeeper
  have hhandle : t.mb.inst[Inst.ix r.inst].handle = none := by rw [← hopen, State.modMb_inst]
  have hmact : (t.macUse (macOfSlot x.slot)).macOk (macOfSlot x.slot) = true := by
    rwa [State.macUse_macOfSlot, State.macOk, State.macCount_sec, htsec, ← State.macCount_sec, ← State.macOk, ← State.macUse_macOfSlot]
  rw [State.authCheck_right hserves (by rwa [State.macOk, htsec]) hmact hresp] at hexec
  obtain ⟨kp, slots, huse⟩ := t.macUse_sessionSlot x.slot
  obtain ⟨kp', slots', huse'⟩ := (t.macUse (macOfSlot x.slot)).macUse_sessionSlot x.slot
  generalize hgood : ((t.macUse (macOfSlot x.slot)).macUse (macOfSlot x.slot)).authGood x.slot = u at hexec
  rw [huse', huse] at hgood
  have huserves : u.keeperServes r.inst = false := by rw [← hgood]; exact hserves
  have hunow : u.now = s.now := by rw [← hgood]; exact htnow
  rw [State.setSession_of_die huserves, htnow] at hexec
  generalize hset : (u.modMb r.inst fun m => { m with session := some ⟨x.slot, k.role, s.now⟩ }) = v at hexec
  have hinst : v.mb.inst[Inst.ix r.inst] = { u.mb.inst[Inst.ix r.inst] with session := some ⟨x.slot, k.role, s.now⟩ } := by
    rw [← hset, State.modMb_inst]
  have hvserves : v.keeperServes r.inst = false := by rw [← hset]; exact huserves
  have hvnow : v.now = s.now := by rw [← hset]; exact hunow
  refine ⟨_, hexec, ?_, ?_, ?_, State.answer_emits ..⟩
  · rw [State.answer_handle, hinst, ← hgood]
    exact hhandle
  · rw [State.answer_session hvserves, State.session_of_die hvserves, hinst, hvnow]
    simp [Option.filter]
  · rw [State.answer_sec, ← hset, ← hgood]
    exact Vector.getElem_set_self ..

/-- RESP does not fit: the handle is void, no session opens, and the failure counts. -/
theorem State.notAuthenticated {x : Handle} {k : SessKey} {resp : BitVec 128} (h : s.Taken r 0xC001 (some 20))
    (hx : s.mb.inst[Inst.ix r.inst].handle = some x) (hnow : s.now ≤ x.voidAt) (hk : s.sec.sessKeys[x.slot] = some k)
    (hmac : s.macOk (macOfSlot x.slot) = true) (hresp : Config.cmac k.key (sessMsg 1 r.inst x) ≠ resp) :
    ∃ t, exec (.authenticateSession r x.handle resp .agree) s = .next t ∧ t.mb.inst[Inst.ix r.inst].handle = none ∧
      t.sec.authFails[x.slot] = s.sec.authFails[x.slot] + 1 ∧ .mbx r.inst 0xC001 0x0002 .none ∈ t.out ∧
      (s.mb.inst[Inst.ix r.inst].session = none → t.mb.inst[Inst.ix r.inst].session = none) := by
  have hexec := exec_authenticateSession hkeeper resp h hx hnow hk hmac
  generalize hopen : (s.modMb r.inst fun m => { m with handle := none }) = t at hexec
  have hserves : t.keeperServes r.inst = false := by rw [← hopen]; exact hkeeper
  rw [State.authCheck_wrong hserves (by rwa [← hopen]) hresp] at hexec
  obtain ⟨kp, slots, huse⟩ := t.macUse_sessionSlot x.slot
  have hinst : ((t.macUse (macOfSlot x.slot)).authFail x.slot).mb.inst[Inst.ix r.inst] = { s.mb.inst[Inst.ix r.inst] with handle := none } := by
    rw [State.authFail_mb, huse, ← hopen]
    exact State.modMb_inst ..
  refine ⟨_, hexec, ?_, ?_, State.answer_emits .., fun hnone => ?_⟩
  · rw [State.answer_handle, hinst]
  · rw [State.answer_sec, State.authFail_counts, huse, ← hopen]
    rfl
  · have hfails : ((t.macUse (macOfSlot x.slot)).authFail x.slot).keeperServes r.inst = false := by
      rw [State.authFail_keeperServes, huse]
      exact hserves
    rw [State.answer_session hfails, State.session_of_die hfails, hinst]
    simp only [hnone, Option.filter_none]

end

/-- Settles O21: the handle by `exec_openSession`, the check of RESP by `State.authenticated` and `State.notAuthenticated`. -/
theorem sessionsOpenAuthenticateAndEnd : Obligations.SessionsOpenAuthenticateAndEnd := by
  unfold Obligations.SessionsOpenAuthenticateAndEnd
  intro s r hkeeper
  refine ⟨fun k hn h hoff huses hkey => ⟨_, exec_openSession hkeeper h hoff huses hkey, State.answer_freeIx .., ?_, State.answer_emits ..⟩,
    fun x k resp h hx hnow hk hmac hmac' hresp => State.authenticated hkeeper h hx hnow hk hmac hmac' hresp,
    fun x k resp h hx hnow hk hmac hresp => State.notAuthenticated hkeeper h hx hnow hk hmac hresp,
    fun h => congrArg Host.Outcome.next (State.mbx_answers rfl h (congrArg (Prod.mk _) (State.setSession_of_die hkeeper none))),
    fun h hnone => congrArg Host.Outcome.next (State.mbx_answers rfl h ?_),
    fun x h hx => congrArg Host.Outcome.next (State.mbx_answers rfl h ?_), fun x hx => ?_, fun x hx hidle => ?_⟩
  · rw [State.answer_handle, State.modMb_inst]
    rfl
  · rw [hnone]
    rfl
  · rw [hx]
  · show execHandleTimeout r.inst s = _
    unfold execHandleTimeout
    rw [State.handle_of_die hkeeper, hx]
  · show execSessionIdleTimeout r.inst s = _
    unfold execSessionIdleTimeout State.storedSession
    simp only [hkeeper, hx, hidle, Bool.false_eq_true, if_false]
    rfl

end Sys2Proof.Machine
end

section
/-! PROOFS. Statements about passphrases, session keys, the violation counters and the reads of capacity (11_mailbox_and_sessions.md R273, R275, R282,
R284, R285). -/

namespace Sys2Proof.Machine
open Sys2Proof.Laws

/-! ### Passphrases (R282) -/

theorem State.checkOf_engine {s : State} {slot : Fin 16} (hslot : slot.val ≤ 5) (hmac : s.macOk slot = true) (key pw : Key) :
    s.checkOf true slot key pw = (some (checkValue key pw), s.macUse slot) := by
  have hmarked : MacFn.cmac.marked slot = true := decide_eq_true (Or.inl hslot)
  exact macRun_fits s slot key (keyBytes pw) hmarked hmac (by simp [macMsgLimit])

section
variable {s : State} {n : Fin 16} {m : Bool} {pw : Key} {slot : Fin 16} (hslot : slot = 4)
include hslot

theorem State.judgePass_right (hcheck : s.lds[n].pass.check m = some (checkValue s.sec.keyPass.get pw)) (htries : s.lds[n].pass.tries m < 5)
    (hmac : s.macOk slot = true) : s.judgePass n m pw = (none, s.macUse slot) := by
  subst hslot
  unfold State.judgePass
  rw [show s.ld n = s.lds[n] from rfl, State.checkOf_engine (by decide) hmac]
  simp only [hcheck, if_neg (Nat.not_le.2 htries), if_true]

theorem State.judgePass_wrong {c : Block128} (hcheck : s.lds[n].pass.check m = some c) (htries : s.lds[n].pass.tries m < 5)
    (hmac : s.macOk slot = true) (hpw : checkValue s.sec.keyPass.get pw ≠ c) :
    s.judgePass n m pw = (some (codeAns 0x0014 0), (s.macUse slot).modPass n fun p => p.miss m) := by
  subst hslot
  unfold State.judgePass
  rw [show s.ld n = s.lds[n] from rfl, State.checkOf_engine (by decide) hmac]
  simp only [hcheck, if_neg (Nat.not_le.2 htries), if_neg hpw]

theorem State.storePass_stores (hmac : s.macOk slot = true) : s.storePass n m pw = (okAns, (((s.macUse slot).sealUse).modPass n fun q =>
    q.put m (some (checkValue (s.macUse slot).sealUse.sec.keyPass.get pw)) (some pw)).save (512 + n.val)) := by
  subst hslot
  unfold State.storePass
  rw [State.checkOf_engine (by decide) hmac]

variable {len : Nat} {old new : Key}

theorem exec_setPassphrase_first (h : s.Taken ⟨.ld n, len⟩ 0x4501 (some 96)) (hfrozen : s.lds[n].pass.frozen = false)
    (hlocked : s.lds[n].pass.locked = false) (hcheck : s.lds[n].pass.check m = none) (hmac : s.macOk slot = true) :
    exec (.setPassphrase ⟨.ld n, len⟩ m old new) s = .next (((((s.macUse slot).sealUse).modPass n fun q =>
      q.put m (some (checkValue (s.macUse slot).sealUse.sec.keyPass.get new)) (some new)).save (512 + n.val)).answer ⟨.ld n, len⟩ 0x4501 okAns) := by
  refine congrArg Host.Outcome.next (State.mbx_answers rfl h ?_)
  refine (if_neg ?_).trans ((if_neg ?_).trans (State.storePass_stores hslot hmac))
  · rw [show s.ld (Inst.ldN (.ld n)) = s.lds[n] from rfl, hfrozen, hlocked]
    simp
  · rw [show s.ld (Inst.ldN (.ld n)) = s.lds[n] from rfl, hcheck]
    simp

omit hslot in
theorem exec_disablePassphrase_right (h : s.Taken ⟨.ld n, len⟩ 0x4502 (some 64)) (hfrozen : s.lds[n].pass.frozen = false)
    (hlocked : s.lds[n].pass.locked = false) (hjudge : s.judgePass n m old = (none, s.macUse slot)) :
    exec (.disablePassphrase ⟨.ld n, len⟩ m old) s =
      .next ((((s.macUse slot).modPass n fun q => q.put m none none).save (512 + n.val)).answer ⟨.ld n, len⟩ 0x4502 okAns) := by
  refine congrArg Host.Outcome.next (State.mbx_answers rfl h ?_)
  refine (if_neg ?_).trans ?_
  · rw [show s.ld (Inst.ldN (.ld n)) = s.lds[n] from rfl, hfrozen, hlocked]
    simp
  · rw [show Inst.ldN (.ld n) = n from rfl, hjudge]

end

section
variable {s : State} {n : Fin 16} {m : Bool} {len : Nat} {old new : Key}

section
variable (h : s.Taken ⟨.ld n, len⟩ 0x4503 (some 32)) (hfrozen : s.lds[n].pass.frozen = false) (hlocked : s.lds[n].pass.locked = true)
include h hfrozen hlocked

theorem exec_unlock_right {t : State} (hjudge : s.judgePass n false old = (none, t)) :
    exec (.unlock ⟨.ld n, len⟩ old) s = .next ((t.modPass n fun q => { q with locked := false }).answer ⟨.ld n, len⟩ 0x4503 okAns) := by
  refine congrArg Host.Outcome.next (State.mbx_answers rfl h ((if_neg ?_).trans ((if_neg ?_).trans ?_)))
  · exact ne_true_of_eq_false hfrozen
  · exact ne_false_of_eq_true hlocked
  · rw [show Inst.ldN (.ld n) = n from rfl, hjudge]

theorem exec_unlock_wrong {t : State} {a : Ans} (hjudge : s.judgePass n false old = (some a, t)) :
    exec (.unlock ⟨.ld n, len⟩ old) s = .next (t.answer ⟨.ld n, len⟩ 0x4503 a) := by
  refine congrArg Host.Outcome.next (State.mbx_answers rfl h ((if_neg ?_).trans ((if_neg ?_).trans ?_)))
  · exact ne_true_of_eq_false hfrozen
  · exact ne_false_of_eq_true hlocked
  · rw [show Inst.ldN (.ld n) = n from rfl, hjudge]

end

section
variable (hfrozen : s.lds[n].pass.frozen = true)
include hfrozen

theorem exec_setPassphrase_frozen (h : s.Taken ⟨.ld n, len⟩ 0x4501 (some 96)) :
    exec (.setPassphrase ⟨.ld n, len⟩ m old new) s = .next (s.answer ⟨.ld n, len⟩ 0x4501 (secState 0x0005)) :=
  congrArg Host.Outcome.next (State.mbx_answers rfl h (if_pos (.inl hfrozen)))

theorem exec_disablePassphrase_frozen (h : s.Taken ⟨.ld n, len⟩ 0x4502 (some 64)) :
    exec (.disablePassphrase ⟨.ld n, len⟩ m old) s = .next (s.answer ⟨.ld n, len⟩ 0x4502 (secState 0x0005)) :=
  congrArg Host.Outcome.next (State.mbx_answers rfl h (if_pos (.inl hfrozen)))

theorem exec_unlock_frozen (h : s.Taken ⟨.ld n, len⟩ 0x4503 (some 32)) :
    exec (.unlock ⟨.ld n, len⟩ old) s = .next (s.answer ⟨.ld n, len⟩ 0x4503 (secState 0x0005)) :=
  congrArg Host.Outcome.next (State.mbx_answers rfl h (if_pos hfrozen))

theorem exec_passphraseSecureErase_frozen (h : s.Taken ⟨.ld n, len⟩ 0x4505 (some 64)) :
    exec (.passphraseSecureErase ⟨.ld n, len⟩ m old) s = .next (s.answer ⟨.ld n, len⟩ 0x4505 (secState 0x0005)) :=
  congrArg Host.Outcome.next (State.mbx_answers rfl h (if_pos hfrozen))

end

end

/-- The flags of GET_SECURITY_STATE, bit by bit. -/
theorem testBit_securityFlags (a b c d e f : Bool) :
    let v := b2n a + 2 * b2n b + 4 * b2n c + 8 * b2n d + 16 * b2n e + 32 * b2n f
    v.testBit 0 = a ∧ v.testBit 1 = b ∧ v.testBit 2 = c ∧ v.testBit 3 = d := by
  revert a b c d e f
  decide

/-- Settles O14: a passphrase is judged by `State.judgePass_right` and `State.judgePass_wrong`, and stored by `State.storePass_stores`. -/
theorem passphraseCommandsTakeEffect : Obligations.PassphraseCommandsTakeEffect := by
  unfold Obligations.PassphraseCommandsTakeEffect
  intro s n len m old new
  dsimp only
  refine ⟨exec_setPassphrase_first (by rfl),
    fun h hfrozen hlocked hright => exec_disablePassphrase_right h hfrozen hlocked (State.judgePass_right (by rfl) hright.1 hright.2.1 hright.2.2),
    fun h hfrozen hlocked hright => exec_unlock_right h hfrozen hlocked (State.judgePass_right (by rfl) hright.1 hright.2.1 hright.2.2),
    fun c h hfrozen hlocked hcheck htries hmac hpw => exec_unlock_wrong h hfrozen hlocked (State.judgePass_wrong (by rfl) hcheck htries hmac hpw),
    fun h => congrArg Host.Outcome.next (State.mbx_answers rfl h rfl),
    fun h => ⟨_, congrArg Host.Outcome.next (State.mbx_answers rfl h rfl), testBit_securityFlags ..⟩,
    fun hfrozen => ⟨exec_setPassphrase_frozen hfrozen, exec_disablePassphrase_frozen hfrozen, exec_unlock_frozen hfrozen,
      exec_passphraseSecureErase_frozen hfrozen⟩⟩

/-! ### Reads of the division of capacity (R244, R246, R273) -/

theorem State.mem_regionFields (s : State) (k : Fin 8) :
    ("base", s.lk.dcRegions[k].base) ∈ s.regionFields ∧ ("len", s.lk.dcRegions[k].len) ∈ s.regionFields := by
  have hmem : s.lk.dcRegions[k] ∈ s.lk.dcRegions.toList := by simp
  exact ⟨List.mem_flatMap.2 ⟨_, hmem, by simp⟩, List.mem_flatMap.2 ⟨_, hmem, by simp⟩⟩

section
variable {s : State} {r : Req}

theorem exec_getLdAllocations (h : s.Taken r 0x5401 none) : exec (.getLdAllocations r) s = .next (s.answer r 0x5401
    (okOut (.fields ([("granularity", 2 ^ 28)] ++ s.lds.toList.map fun l => ("units", l.partSize / 2 ^ 28))))) := by
  refine congrArg Host.Outcome.next (State.mbx_answers rfl h ?_)
  rw [State.partSizes, List.map_map]
  rfl

theorem exec_getHostDcRegionConfig {ld : Nat} (hld : ld < 16) (h : s.Taken r 0x5601 none) :
    exec (.getHostDcRegionConfig r ld) s = .next (s.answer r 0x5601 (okOut (.fields s.regionFields))) :=
  congrArg Host.Outcome.next (State.mbx_answers rfl h (if_neg (Nat.not_le.2 hld)))

theorem exec_getDcRegionExtentLists {n : Fin 16} (h : s.Taken r 0x5603 none) : exec (.getDcRegionExtentLists r n.val) s =
    .next (s.answer r 0x5603 (okOut (.fields (extentFields (s.lk.extents.filter fun e => e.holders.contains n))))) :=
  congrArg Host.Outcome.next (State.mbx_answers rfl h (dif_pos n.isLt))

end

/-- Settles O17: each command's own answer, by `State.mbx_answers`. -/
theorem capacityReadsAnswer : Obligations.CapacityReadsAnswer := by
  unfold Obligations.CapacityReadsAnswer
  intro s r
  refine ⟨fun h => congrArg Host.Outcome.next (State.mbx_answers rfl h rfl), exec_getLdAllocations,
    fun h => congrArg Host.Outcome.next (State.mbx_answers rfl h rfl), fun ld hld h => ⟨_, exec_getHostDcRegionConfig hld h, s.mem_regionFields⟩,
    fun n len hr h => ⟨_, congrArg Host.Outcome.next (State.mbx_answers rfl h rfl), by simp, by simp, fun k => ?_⟩, fun n len start count hr h => ?_,
    fun n h => exec_getDcRegionExtentLists h⟩
  · exact ⟨List.mem_append_right _ (s.mem_regionFields k).1, List.mem_append_right _ (s.mem_regionFields k).2⟩
  · subst hr
    exact congrArg Host.Outcome.next (State.mbx_answers rfl h rfl)

end Sys2Proof.Machine
end

section
/-! PROOFS. Statements about session keys, the device-control grant and the violation counters (11_mailbox_and_sessions.md R275, R284, R285;
10_cxl_interface.md R265). -/

namespace Sys2Proof.Machine
open Sys2Proof.Laws

/-! ### Session keys (R275) -/

section
variable {s : State} {r : Req} (h : s.Taken r 0xC008 (some 48))
include h

theorem exec_provisionSessionKey_plain {key : BitVec 320} (hblank : s.sec.fuseLC = .blank) (hempty : s.sec.sessKeys[(0 : Fin 4)] = none)
    (hkey : key.toNat < 2 ^ 256) :
    exec (.provisionSessionKey r 0 1 key) s = .next ((s.setSessKey 0 1 (key.setWidth 256)).answer r 0xC008 okAns) := by
  refine congrArg Host.Outcome.next (State.mbx_answers rfl h ?_)
  have hempty : s.sec.sessKeys[0] = none := hempty
  simp only [hblank, hempty, if_pos hkey]
  cases s.session r.inst with
  | none => rfl
  | some x => rfl

variable {k : Fin 4} {role : Nat} {key : BitVec 320} (hblank : s.sec.fuseLC ≠ .blank)
include hblank

theorem exec_provisionSessionKey_noSession (hsess : s.session r.inst = none) : exec (.provisionSessionKey r k.val role key) s =
    .next ((s.violate (Inst.who r.inst) 6 0xC008).answer r 0xC008 (badAns 0x0001)) := by
  refine congrArg Host.Outcome.next (State.mbx_answers rfl h ?_)
  have hplain : (s.sec.fuseLC == .blank) = false := beq_eq_false_iff_ne.2 hblank
  simp [hplain, hsess]

theorem exec_provisionSessionKey_notOwner (hsess : s.session r.inst ≠ none) (howner : s.ownerOn r.inst = false) :
    exec (.provisionSessionKey r k.val role key) s = .next ((s.violate (Inst.who r.inst) 6 0xC008).answer r 0xC008 (badAns 0x0002)) := by
  refine congrArg Host.Outcome.next (State.mbx_answers rfl h ?_)
  obtain ⟨x, hx⟩ := Option.ne_none_iff_exists'.1 hsess
  simp [hblank, hx, howner]

section
variable {x : Session} (hx : s.session r.inst = some x) (howner : x.role = 1) (hrole : role ≤ 1) (hzero : k = 0 → role = 1)
include hx howner hrole hzero

/-- What an Owner's session has unwrapped is answered. -/
theorem exec_provisionSessionKey_owner {a : Ans} {t : State} (hwrap : (match s.unwrap x.slot key with
      | (some p, t) => (okAns, t.setSessKey k role p)
      | (none, t) => (badAns (if t.macOk (macOfSlot x.slot) then 0x000D else 0x0006), t)) = (a, t)) :
    exec (.provisionSessionKey r k.val role key) s = .next (t.answer r 0xC008 a) := by
  refine congrArg Host.Outcome.next (State.mbx_answers rfl h ?_)
  have hon : s.ownerOn r.inst = true := by simp [State.ownerOn, hx, howner]
  have hrange : ¬ (1 < role ∨ k.val = 0 ∧ role ≠ 1) := by
    have := fun hk : k.val = 0 => hzero (Fin.ext hk)
    omega
  rw [← hwrap]
  simp only [hx, hon, k.isLt, dif_pos, if_neg hrange, beq_eq_false_iff_ne.2 hblank, Bool.false_and, Bool.true_eq_false, and_false, if_false,
    Bool.false_eq_true]
  rfl

theorem exec_provisionSessionKey_wrapped : match (s.unwrap x.slot key).1 with
    | some p => exec (.provisionSessionKey r k.val role key) s = .next (((s.unwrap x.slot key).2.setSessKey k role p).answer r 0xC008 okAns)
    | none => ∃ reason, exec (.provisionSessionKey r k.val role key) s =
        .next ((s.unwrap x.slot key).2.answer r 0xC008 ⟨0x0002, reason, 0, .none⟩) := by
  have hexec := fun a t => exec_provisionSessionKey_owner (a := a) (t := t) (key := key) h hblank hx howner hrole hzero
  rcases hunwrap : s.unwrap x.slot key with ⟨_ | p, t⟩
  · rw [hunwrap] at hexec
    exact ⟨_, hexec _ _ rfl⟩
  · rw [hunwrap] at hexec
    exact hexec _ _ rfl

end
end

section
variable {s : State} {r : Req} {k : Fin 4} (h : s.Taken r 0xC009 (some 1))
include h

theorem exec_revokeSessionKey_refused (hk : k = 0 ∨ ∃ x, s.session r.inst = some x ∧ x.slot = k) :
    exec (.revokeSessionKey r k.val) s = .next (s.answer r 0xC009 (badAns 0x000A)) := by
  refine congrArg Host.Outcome.next (State.mbx_answers rfl h ((dif_pos k.isLt).trans (if_pos ?_)))
  rcases hk with rfl | ⟨x, hx, rfl⟩
  · exact .inl rfl
  · exact .inr (by simp [hx])

theorem exec_revokeSessionKey_wipes (hk : k ≠ 0) (hslot : ∀ x, s.session r.inst = some x → x.slot ≠ k) :
    exec (.revokeSessionKey r k.val) s = .next
      ((({ s with sec := { s.sec with sessKeys := s.sec.sessKeys.set k none } }.store 1 (16 + k.val) 48).endSlot k).answer r 0xC009 okAns) := by
  refine congrArg Host.Outcome.next (State.mbx_answers rfl h ((dif_pos k.isLt).trans (if_neg ?_)))
  rintro (hzero | hsess)
  · exact hk (Fin.ext hzero)
  · cases hx : s.session r.inst with
    | none => simp [hx] at hsess
    | some x => exact hslot x hx (by simpa [hx] using hsess)

end

/-- A slot ended leaves no session and no handle of it. -/
theorem State.endSlot_inst (s : State) (k : Fin 4) (i : Fin 18) : (s.endSlot k).mb.inst[i] = { s.mb.inst[i] with
    session := s.mb.inst[i].session.filter fun y => y.slot ≠ k, handle := s.mb.inst[i].handle.filter fun y => y.slot ≠ k } := by
  simp [State.endSlot]

/-- Settles O23: PROVISION_SESSION_KEY and REVOKE_SESSION_KEY case by case, the ended sessions by `State.endSlot_inst`. -/
theorem sessionKeysAreProvisionedAndRevoked : Obligations.SessionKeysAreProvisionedAndRevoked := by
  unfold Obligations.SessionKeysAreProvisionedAndRevoked
  intro s r
  refine ⟨fun key h hblank hempty hkey => exec_provisionSessionKey_plain h hblank hempty hkey,
    fun k role key h hblank => ⟨exec_provisionSessionKey_noSession h hblank, exec_provisionSessionKey_notOwner h hblank,
      fun x hx howner hrole hzero => exec_provisionSessionKey_wrapped h hblank hx howner hrole hzero⟩,
    fun k h => ⟨exec_revokeSessionKey_refused h, exec_revokeSessionKey_wipes h⟩, fun k i => ⟨fun x hx => ?_, fun x hx => ?_⟩,
    fun n h => congrArg Host.Outcome.next (State.mbx_answers rfl h (dif_pos n.isLt)),
    fun h => congrArg Host.Outcome.next (State.mbx_answers rfl h rfl)⟩
  · rw [State.endSlot_inst] at hx
    simpa using (Option.filter_eq_some_iff.1 hx).2
  · rw [State.endSlot_inst] at hx
    simpa using (Option.filter_eq_some_iff.1 hx).2

/-! ### Violation counters and register access (R284, R285) -/

/-- A violation counted on a claimant. -/
def Violation.add (v : Violation) (kind addr : Nat) : Violation :=
  ⟨min 0xFFFFFFFF (v.total + 1), v.kinds ||| BitVec.ofNat 8 (2 ^ kind), kind, addr⟩

theorem State.violate_viol (s : State) (who : Fin 17) (kind addr : Nat) :
    (s.violate who kind addr).mb.viol = s.mb.viol.set who (s.mb.viol[who].add kind addr) := by
  unfold State.violate
  extract_lets v total _ counted
  split
  · rw [State.event_mb]
    rfl
  · rfl

theorem Violation.add_kinds (v : Violation) {kind : Nat} (hkind : kind < 8) (addr : Nat) : (v.add kind addr).kinds.getLsbD kind = true := by
  have hbit : (BitVec.ofNat 8 (2 ^ kind)).getLsbD kind = true := by
    rw [BitVec.getLsbD_ofNat, Nat.testBit_two_pow_self, decide_eq_true hkind]
    rfl
  rw [show (v.add kind addr).kinds = v.kinds ||| BitVec.ofNat 8 (2 ^ kind) from rfl, BitVec.getLsbD_or, hbit, Bool.or_true]

/-- The fields of a register access that R285 admits. -/
theorem fmRange_none {block width count offset top : Nat} (hblock : block ≤ 3) (hwidth : width = 4 ∨ width = 8) (hcount : 1 ≤ count)
    (htop : count ≤ top) (halign : offset % width = 0) (hend : offset + count * width ≤ viewSize block) :
    fmRange block width count offset top = none := by
  have hwidth : ¬ (width ≠ 4 ∧ width ≠ 8) := by omega
  have hcount : ¬ (count = 0 ∨ top < count) := by omega
  have hplace : ¬ (offset % width ≠ 0 ∨ viewSize block < offset + count * width) := by omega
  rw [fmRange, if_neg (Nat.not_lt.2 hblock), if_neg hwidth, if_neg hcount, if_neg hplace]

section
variable {s : State} {r : Req} {block width count offset : Nat}

theorem exec_readDeviceRegisters (h : s.Taken r 0xC610 (some 8)) (hrange : fmRange block width count offset 2048 = none) :
    exec (.readDeviceRegisters r block width count offset) s =
      .next ((s.readFmAll block width offset count).2.answer r 0xC610 (okOut (.bytes (s.readFmAll block width offset count).1))) := by
  refine congrArg Host.Outcome.next (State.mbx_answers rfl h ?_)
  rw [hrange]

theorem exec_readDeviceRegisters_block (h : s.Taken r 0xC610 (some 8)) (hblock : 3 < block) :
    exec (.readDeviceRegisters r block width count offset) s = .next (s.answer r 0xC610 (rangeAns 0)) := by
  refine congrArg Host.Outcome.next (State.mbx_answers rfl h ?_)
  rw [fmRange, if_pos hblock]

theorem exec_writeDeviceRegisters {data : List Nat} (h : s.Taken r 0xC611 (some (8 + count * width)))
    (hrange : fmRange block width count offset 2047 = none) : exec (.writeDeviceRegisters r block width count offset data) s =
      .next ((s.writeFmAll block width offset (data.take count)).answer r 0xC611 okAns) := by
  refine congrArg Host.Outcome.next (State.mbx_answers rfl h ?_)
  rw [hrange]

end

/-- Settles O24: a violation by `State.violate_viol`, the commands by `State.mbx_answers` with the fields' ranges (`fmRange_none`). -/
theorem violationsAreCountedAndRead : Obligations.ViolationsAreCountedAndRead := by
  unfold Obligations.ViolationsAreCountedAndRead
  refine ⟨fun s who kind addr hkind => ?_, fun s r => ⟨fun clear h => ⟨_, congrArg Host.Outcome.next (State.mbx_answers rfl h rfl), ?_, ?_⟩,
    fun block width count offset h hblock hwidth hcount htop halign hend =>
      exec_readDeviceRegisters h (fmRange_none hblock hwidth hcount htop halign hend),
    fun block width count offset data h hblock hwidth hcount htop halign hend =>
      exec_writeDeviceRegisters h (fmRange_none hblock hwidth hcount htop halign hend),
    fun block width count offset h hblock => exec_readDeviceRegisters_block h hblock⟩⟩
  · dsimp only
    rw [State.violate_viol]
    have hwho : (s.mb.viol.set who (s.mb.viol[who].add kind addr))[who] = s.mb.viol[who].add kind addr := Vector.getElem_set_self ..
    rw [hwho]
    exact ⟨rfl, Violation.add_kinds _ hkind addr, rfl, rfl, fun o ho => Vector.getElem_set_ne _ _ fun heq => ho (Fin.ext heq.symm)⟩
  · rintro rfl
    rfl
  · rintro rfl w
    simp

end Sys2Proof.Machine
end

section
/-! PROOFS. Statements about the vendor reads (11_mailbox_and_sessions.md R281, Table 11-7): identity, reports, sets, regions and logs; power,
thermal, cache, patrol, life cycle and boot. -/

namespace Sys2Proof.Machine
open Sys2Proof.Laws

/-! ### Reads of identity, reports, sets, regions and logs -/

section
variable {s : State} {r : Req}

/-- One channel of GET_CHANNEL_STATUS. -/
theorem State.chansBytes_one (s : State) (c : Fin 64) :
    s.chansBytes ((allFin 64).filter fun d => c.val ≤ d.val ∧ d.val < c.val + 1) = s.chanBytes c := by
  have honly : ((allFin 64).filter fun d => decide (c.val ≤ d.val ∧ d.val < c.val + 1)) = [c] := by
    have hc : (fun d : Fin 64 => decide (c.val ≤ d.val ∧ d.val < c.val + 1)) = fun d => d == c := by
      funext d
      rw [Bool.eq_iff_iff, decide_eq_true_eq, beq_iff_eq, Fin.ext_iff]
      omega
    rw [hc, List.filter_beq, allFin, List.count_eq_one_of_mem (List.nodup_finRange 64) (List.mem_finRange c)]
    rfl
  rw [honly]
  exact Prod.ext (List.append_nil _) rfl

theorem exec_getChannelStatus_one {c : Fin 64} (h : s.Taken r 0xC101 (some 2)) : exec (.getChannelStatus r c.val 1) s =
    .next ((s.chanBytes c).2.answer r 0xC101 (okOut (.bytes (s.chanBytes c).1))) := by
  have hfirst : ¬ 63 < c.val := by omega
  have hcount : ¬ (1 = 0 ∨ 64 < 1 ∨ 64 < c.val + 1) := by omega
  refine congrArg Host.Outcome.next (State.mbx_answers rfl h ((if_neg hfirst).trans ((if_neg hcount).trans ?_)))
  rw [State.chansBytes_one]

theorem State.chanBytes_unpopulated {c : Fin 64} (hc : s.hw.channels ≤ c.val) : s.chanBytes c = (le 1 0xFF ++ zeros 7, s) :=
  if_neg (Nat.not_lt.2 hc)

theorem State.chanBytes_measured {c : Fin 64} {t : Int} (hc : c.val < s.hw.channels)
    (ht : maxTemp ((s.chanDies c).map fun d => (s.mediaSensor d).eff true) = some t) : s.chanBytes c =
      (le 1 s.rd.chans[c].code ++ le 1 (s.chanDies c).length ++ [(s.degByte (some t)).1] ++ zeros 1 ++
        le 4 ((lastSec s.now s.md.retries).filter fun x => x.1 = c).length, s) := by
  rw [State.chanBytes, if_pos hc, ht]
  rfl

theorem exec_getRecoveryReport {first : Nat} (h : s.Taken r 0xC110 (some 2)) (hfirst : first ≤ 4095) : exec (.getRecoveryReport r first) s =
    .next (s.answer r 0xC110 (okOut (.bytes (s.kp.report.header (s.tornFor r.inst).length first (((s.tornFor r.inst).drop first).take 1020).length ++
      (((s.tornFor r.inst).drop first).take 1020).flatMap TornRec.bytes)))) :=
  congrArg Host.Outcome.next (State.mbx_answers rfl h (if_neg (Nat.not_lt.2 hfirst)))

theorem exec_getStripeSetStatus {k : Fin 4} (h : s.Taken r 0xC120 (some 1)) (hk : k.val < s.numSets) : exec (.getStripeSetStatus r k.val) s =
    .next (s.answer r 0xC120 (okOut (.bytes (le 1 s.rd.sets[k].state.code ++ le 1 (s.outPos k).length ++
      le 2 ((s.outPos k).foldl (fun n p => n + 2 ^ p.val) 0) ++ le 1 (b2n s.rd.sets[k].auto) ++ le 1 s.rd.sets[k].prio ++
      le 1 (b2n (s.kp.eolSets.contains k)) ++ zeros 1 ++ le 4 s.fo.spare[k].usable ++ le 4 s.rd.sets[k].rebuilt ++
      le 4 s.rd.sets[k].toRebuild)))) :=
  congrArg Host.Outcome.next (State.mbx_answers rfl h ((dif_pos k.isLt).trans (if_neg (Nat.not_le.2 hk))))

theorem exec_getRegionStatus {k : Fin 256} (h : s.Taken r 0xC304 (some 1)) : exec (.getRegionStatus r k.val) s =
    .next (s.answer r 0xC304 (okOut (.bytes (le 1 s.cr.regions[k].state.code ++ le 1 (b2n s.cr.regions[k].cur) ++ zeros 6 ++
      le 8 s.cr.regions[k].base ++ le 8 s.cr.regions[k].size ++ le 8 s.cr.regions[k].w ++ le 4 s.cr.regions[k].early)))) :=
  congrArg Host.Outcome.next (State.mbx_answers rfl h (dif_pos k.isLt))

theorem exec_readPersistentLog {area first top : Nat} (h : s.Taken r 0xC600 (some 10)) (harea : area ≤ 1) (htop : 1 ≤ top ∧ top ≤ 511) :
    exec (.readPersistentLog r area first top) s =
      .next (s.answer r 0xC600 (okOut (recsOut (recsFrom (if area = 0 then s.ev.log else s.ev.first) first top)))) :=
  congrArg Host.Outcome.next (State.mbx_answers rfl h ((if_neg (Nat.not_lt.2 harea)).trans (if_neg (by omega))))

theorem exec_readHardwareRing {first top : Nat} (h : s.Taken r 0xC603 (some 10)) (htop : 1 ≤ top ∧ top ≤ 511) :
    exec (.readHardwareRing r 0 first top) s = .next (s.answer r 0xC603 (okOut (recsOut (recsFrom s.ev.ring first top)))) :=
  congrArg Host.Outcome.next (State.mbx_answers rfl h ((if_neg (not_not.2 rfl)).trans (if_neg (by omega))))

end

/-- Settles O25: each command's own answer, by `State.mbx_answers`. -/
theorem vendorReadsAnswer : Obligations.VendorReadsAnswer := by
  unfold Obligations.VendorReadsAnswer
  intro s r
  refine ⟨exec_getDeviceIdentity, fun c h hc => ?_, fun c t h hc ht => ?_, fun first h hfirst => exec_getRecoveryReport h hfirst,
    fun k h hk => exec_getStripeSetStatus h hk, fun n hr h => ?_, fun k h => exec_getRegionStatus h,
    fun area first top h harea hpos htop => exec_readPersistentLog h harea ⟨hpos, htop⟩,
    fun first top h hpos htop => exec_readHardwareRing h ⟨hpos, htop⟩⟩
  · rw [exec_getChannelStatus_one h, State.chanBytes_unpopulated hc]
  · rw [exec_getChannelStatus_one h, State.chanBytes_measured hc ht]
  · subst hr
    exact congrArg Host.Outcome.next (State.mbx_answers rfl h (if_neg (not_not.2 rfl)))

/-! ### Reads of the state -/

theorem State.degByte_draws {s u : State} {t : Option Int} {b : Byte} (h : s.degByte t = (b, u)) : ∃ n, u = { s with freeIx := n } := by
  cases t with
  | some x => exact ⟨s.freeIx, (congrArg Prod.snd h).symm⟩
  | none => exact ⟨s.freeIx + 1, (congrArg Prod.snd h).symm⟩

section
variable {s : State} {r : Req}

/-- The hottest controller sensor of a range. -/
def State.ctlTemp (s : State) (lo hi : Nat) : Option Int :=
  maxTemp ((allFin 23).map fun i => if lo ≤ i.val ∧ i.val < hi then s.th.ctl[i].eff false else none)

/-- The hottest media die. -/
def State.mediaTemp (s : State) : Option Int := maxTemp (s.mediaDies.map fun d => (s.mediaSensor d).eff true)

/-- Three temperatures, each of which may draw a free value, the flags and the bands. -/
theorem exec_getThermalStatus (h : s.Taken r 0xC504 (some 0)) {a b c : Byte} {t u v : State} (ha : s.degByte (s.ctlTemp 0 16) = (a, t))
    (hb : t.degByte s.mediaTemp = (b, u)) (hc : u.degByte (s.ctlTemp 18 23) = (c, v)) : exec (.getThermalStatus r) s =
      .next (v.answer r 0xC504 (okOut (.bytes ([a, b, c, BitVec.ofNat 8 (v.th.level + 4 * b2n (s.sensors.any fun x => x.2.2.broken))] ++
        le 4 ((allFin 4).foldl (fun n k => n + s.setBand k * 4 ^ k.val) 0))))) := by
  refine congrArg Host.Outcome.next (State.mbx_answers rfl h ?_)
  unfold State.ctlTemp at ha hc
  unfold State.mediaTemp at hb
  simp only [ha, hb, hc]

theorem State.customerGate_open {i : Inst} {offset length : Nat} {stored : Key} (huntil : s.kp.pwUntil = none) (hoff : offset < 65536)
    (hpos : 1 ≤ length) (hlen : length ≤ 16352) (hend : offset + length ≤ 65536) (given : Key) :
    s.customerGate i offset length stored given = s.customerPw i stored given := by
  have hrange : ¬ (length = 0 ∨ 16352 < length ∨ 65536 < offset + length) := by omega
  rw [State.customerGate, huntil, customerRange, if_neg (Nat.not_le.2 hoff), if_neg hrange]
  rfl

theorem State.customerPw_unset (i : Inst) (given : Key) : s.customerPw i 0 given = (none, s) := by
  rw [State.customerPw, if_pos rfl]

theorem exec_readCustomerPartition_unset {offset length : Nat} {pass : Key} (h : s.Taken r 0xC604 (some 40)) (hpw : s.kp.readPw = 0)
    (huntil : s.kp.pwUntil = none) (hoff : offset < 65536) (hpos : 1 ≤ length) (hlen : length ≤ 16352) (hend : offset + length ≤ 65536) :
    exec (.readCustomerPartition r offset length pass) s =
      .next (s.answer r 0xC604 (okOut (.bytes (Mem.readBytes s.kp.customer offset length)))) := by
  refine congrArg Host.Outcome.next (State.mbx_answers rfl h ?_)
  rw [State.customerGate_open huntil hoff hpos hlen hend, hpw, State.customerPw_unset]

end

/-- Settles O26: each command's own answer, by `State.mbx_answers`; the temperatures by `exec_getThermalStatus`. -/
theorem statusReadsAnswer : Obligations.StatusReadsAnswer := by
  unfold Obligations.StatusReadsAnswer
  intro s r
  refine ⟨fun h => congrArg Host.Outcome.next (State.mbx_answers rfl h rfl), fun h => congrArg Host.Outcome.next (State.mbx_answers rfl h rfl),
    fun h => ?_, fun h => congrArg Host.Outcome.next (State.mbx_answers rfl h rfl),
    fun h => congrArg Host.Outcome.next (State.mbx_answers rfl h rfl), fun h => congrArg Host.Outcome.next (State.mbx_answers rfl h rfl),
    fun h => congrArg Host.Outcome.next (State.mbx_answers rfl h rfl),
    fun offset length pass h hpw huntil hoff hpos hlen hend => exec_readCustomerPartition_unset h hpw huntil hoff hpos hlen hend⟩
  rcases ha : s.degByte (s.ctlTemp 0 16) with ⟨a, t⟩
  rcases hb : t.degByte s.mediaTemp with ⟨b, u⟩
  rcases hc : u.degByte (s.ctlTemp 18 23) with ⟨c, v⟩
  have hexec := exec_getThermalStatus h ha hb hc
  obtain ⟨_, rfl⟩ := State.degByte_draws ha
  obtain ⟨_, rfl⟩ := State.degByte_draws hb
  obtain ⟨_, rfl⟩ := State.degByte_draws hc
  exact ⟨_, _, hexec, by simp, rfl, rfl⟩

end Sys2Proof.Machine
end

section
/-! PROOFS. Statements about the vendor settings (11_mailbox_and_sessions.md R281, Table 11-7): quotas, limits, policies and parameters. -/

namespace Sys2Proof.Machine
open Sys2Proof.Laws

section
variable {s : State} {r : Req}

theorem exec_setGroupQuota {n : Fin 16} {quota : Nat} (h : s.Taken r 0xC200 (some 8)) : exec (.setGroupQuota r n.val quota) s =
    if quota ≤ 2 ^ 24 then .next ((s.modCw n fun c => { c with quota := quota }).answer r 0xC200 okAns)
    else .next (s.answer r 0xC200 (rangeAns 4)) := by
  split
  next hq => exact congrArg Host.Outcome.next (State.mbx_answers rfl h ((dif_pos n.isLt).trans (if_neg (Nat.not_lt.2 hq))))
  next hq => exact congrArg Host.Outcome.next (State.mbx_answers rfl h ((dif_pos n.isLt).trans (if_pos (Nat.not_le.1 hq))))

theorem exec_setEventRateLimit {code limit : Nat} (h : s.Taken r 0xC602 (some 4)) (hlimit : limit ≤ 65535) :
    exec (.setEventRateLimit r code limit) s = if codeListed code = true
      then .next (({ s with kp := { s.kp with rateLimits := tput 32 code (if limit = 0 then 32 else limit) s.kp.rateLimits } }.save
        (65536 + code)).answer r 0xC602 okAns)
      else .next (s.answer r 0xC602 (rangeAns 0)) := by
  split
  next hcode => exact congrArg Host.Outcome.next (State.mbx_answers rfl h ((if_neg (ne_false_of_eq_true hcode)).trans (if_neg (Nat.not_lt.2 hlimit))))
  next hcode => exact congrArg Host.Outcome.next (State.mbx_answers rfl h (if_pos (Bool.eq_false_of_not_eq_true hcode)))

/-- SET_CACHE_POLICY of one LD's prefetch alone. -/
theorem exec_setCachePolicy_prefetch {n : Fin 16} {flags : Byte} (h : s.Taken r 0xC700 (some 2)) (hcache : flags.getLsbD 3 = false)
    (hpf : flags.getLsbD 4 = true) : exec (.setCachePolicy r n.val flags) s = .next ((({ s with lds := .ofFn fun m : Fin 16 =>
      if n.val = 0xFF ∨ m.val = n.val then { s.lds[m] with prefetch := flags.getLsbD 2 } else s.lds[m] } : State)).answer r 0xC700 okAns) := by
  have hld : ¬ (15 < n.val ∧ n.val ≠ 0xFF) := by omega
  refine congrArg Host.Outcome.next (State.mbx_answers rfl h ?_)
  simp only [hcache, hpf, if_neg hld, Bool.false_eq_true, false_and, if_false, ne_eq, not_true_eq_false, if_true]

/-- SET_CACHE_POLICY of the cache's enable alone. -/
theorem exec_setCachePolicy_enable {ld : Nat} {flags : Byte} (h : s.Taken r 0xC700 (some 2)) (hld : ld ≤ 15 ∨ ld = 0xFF)
    (hcache : flags.getLsbD 3 = true) (hpf : flags.getLsbD 4 = false) (hcause : flags.getLsbD 0 = true → s.enableCause (flags.getLsbD 1) = 0) :
    exec (.setCachePolicy r ld flags) s = .next
      ((({ s with ca := { s.ca with en := flags.getLsbD 0 }, kp := { s.kp with cacheEn := flags.getLsbD 0 } } : State).save 46).answer
        r 0xC700 okAns) := by
  have hld : ¬ (15 < ld ∧ ld ≠ 0xFF) := by omega
  have hcause : (if True ∧ flags.getLsbD 0 = true then s.enableCause (flags.getLsbD 1) else 0) = 0 := by
    split
    next hon => exact hcause hon.2
    next => rfl
  refine congrArg Host.Outcome.next (State.mbx_answers rfl h ?_)
  simp only [hcache, hpf, if_neg hld, hcause, Bool.false_eq_true, if_false, ne_eq, not_true_eq_false, if_true]

section
variable {p : PatrolParams} (h : s.Taken r 0xC710 (some 21))
include h

theorem exec_setPatrolParameters (hfits : PatrolParams.outside p = none)
    (hbus : ([p.t0, p.t1, p.t2, p.t3].any fun m => s.passTooFast m p.busShare) = false) :
    exec (.setPatrolParameters r p.toPatrolInput p.busShare) s = .next ({ s with dr := { s.dr with params := p } }.answer r 0xC710 okAns) := by
  refine congrArg Host.Outcome.next (State.mbx_answers rfl h ?_)
  show (match PatrolParams.outside p with
    | some o => (rangeAns o, s)
    | none => if ([p.t0, p.t1, p.t2, p.t3].any fun m => s.passTooFast m p.busShare) then (badAns 0x000A, s)
      else (okAns, { s with dr := { s.dr with params := p } })) = _
  rw [hfits, hbus]
  rfl

theorem exec_setPatrolParameters_outside {o : Nat} (houtside : PatrolParams.outside p = some o) :
    exec (.setPatrolParameters r p.toPatrolInput p.busShare) s = .next (s.answer r 0xC710 (rangeAns o)) := by
  refine congrArg Host.Outcome.next (State.mbx_answers rfl h ?_)
  show (match PatrolParams.outside p with
    | some o => (rangeAns o, s)
    | none => if ([p.t0, p.t1, p.t2, p.t3].any fun m => s.passTooFast m p.busShare) then (badAns 0x000A, s)
      else (okAns, { s with dr := { s.dr with params := p } })) = _
  rw [houtside]

end

theorem exec_setRailParameters {k : Fin 12} {f l u d t n : Nat} (h : s.Taken r 0xC503 (some 12)) :
    exec (.setRailParameters r k.val f l u d t n) s = match railRange k.val f l u d t n with
      | none => .next (({ s with pw := { s.pw with rails := s.pw.rails.set k.val ⟨l, u, f, d, t⟩, retries := n } }.save (112 + k.val)).answer
          r 0xC503 okAns)
      | some p => .next (s.answer r 0xC503 (rangeAns p)) := by
  cases hrange : railRange k.val f l u d t n with
  | none =>
    refine congrArg Host.Outcome.next (State.mbx_answers rfl h ?_)
    rw [hrange]
    exact dif_pos k.isLt
  | some p =>
    refine congrArg Host.Outcome.next (State.mbx_answers rfl h ?_)
    rw [hrange]

theorem exec_setThermalParameters {grace : Nat} (h : s.Taken r 0xC505 (some 2)) : exec (.setThermalParameters r grace) s =
    if 10 ≤ grace ∧ grace ≤ 1000 then .next ({ s with th := { s.th with grace := grace } }.answer r 0xC505 okAns)
    else .next (s.answer r 0xC505 (rangeAns 0)) := by
  split
  next hfits => exact congrArg Host.Outcome.next (State.mbx_answers rfl h (if_pos hfits))
  next hfits => exact congrArg Host.Outcome.next (State.mbx_answers rfl h (if_neg hfits))

theorem exec_retireChannel {c : Fin 64} (h : s.Taken r 0xC121 (some 1)) (hc : c.val < s.hw.channels) : exec (.retireChannel r c.val) s =
    if s.mayRetire c = true then .next ((s.startDrain c).judgeMarks.answer r 0xC121 okAns) else .next (s.answer r 0xC121 (badAns 0x000A)) := by
  have hthere := Nat.not_le.2 hc
  split
  next hmay => exact congrArg Host.Outcome.next (State.mbx_answers rfl h ((dif_pos c.isLt).trans ((if_neg hthere).trans (if_pos hmay))))
  next hmay => exact congrArg Host.Outcome.next (State.mbx_answers rfl h ((dif_pos c.isLt).trans ((if_neg hthere).trans (if_neg hmay))))

theorem exec_setRebuildControl {k : Fin 4} {auto : Bool} {prio : Nat} (h : s.Taken r 0xC122 (some 3)) (hk : k.val < s.numSets) (hprio : prio ≤ 2) :
    exec (.setRebuildControl r k.val auto false prio) s =
      .next ((s.modSet k fun x => { x with auto := auto, prio := prio }).answer r 0xC122 okAns) :=
  congrArg Host.Outcome.next (State.mbx_answers rfl h ((dif_pos k.isLt).trans ((if_neg (Nat.not_le.2 hk)).trans
    ((if_neg (Nat.not_lt.2 hprio)).trans (if_neg nofun)))))

end

/-- Settles O29: each command stores its value in range, and is refused out of range. -/
theorem vendorSettingsAreStored : Obligations.VendorSettingsAreStored := by
  unfold Obligations.VendorSettingsAreStored
  intro s r
  refine ⟨fun n q h => exec_setGroupQuota h, fun code limit h hlimit => exec_setEventRateLimit h hlimit,
    fun n flags h hcache hpf => ⟨_, exec_setCachePolicy_prefetch h hcache hpf, rfl, ?_, fun m hm => ?_⟩,
    fun ld flags h hld hcache hpf hcause => ⟨_, exec_setCachePolicy_enable h hld hcache hpf hcause, rfl, rfl, rfl⟩,
    fun p h hfits hbus => exec_setPatrolParameters h hfits hbus, fun p o h houtside => exec_setPatrolParameters_outside h houtside,
    fun k f l u d t n h => exec_setRailParameters h, fun g h => exec_setThermalParameters h, fun c h hc => exec_retireChannel h hc,
    fun k auto prio h hk hprio => exec_setRebuildControl h hk hprio⟩
  · simp
  · have hne : ¬ (n.val = 0xFF ∨ m.val = n.val) := by
      have := fun heq : m.val = n.val => hm (Fin.ext heq)
      omega
    simp [hne]

end Sys2Proof.Machine
end

section
/-! PROOFS. Statements about the customer partition (16_power_and_holdup.md R402): what the MAC engine leaves of the keeper's parameters, and what the
two commands and the passwords do. -/

namespace Sys2Proof.Machine
open Sys2Proof.Laws

/-! ### Operations that leave the keeper's parameters: only records are stored -/

/-- Only records are stored: the keeper's parameters stay. -/
def State.Stores (s t : State) : Prop := ∃ parts, t.kp = { s.kp with parts := parts }

theorem State.Stores.refl (s : State) : s.Stores s := ⟨s.kp.parts, rfl⟩

theorem State.Stores.trans {s t u : State} (h : s.Stores t) (h' : t.Stores u) : s.Stores u := by
  obtain ⟨parts, h⟩ := h
  obtain ⟨parts', h'⟩ := h'
  exact ⟨parts', by rw [h', h]⟩

theorem State.Stores.of_kp {s t : State} (h : t.kp = s.kp) : s.Stores t := ⟨s.kp.parts, h⟩

theorem State.Stores.ite {s t u : State} {c : Prop} [Decidable c] (ht : s.Stores t) (hu : s.Stores u) : s.Stores (if c then t else u) := by
  split
  · exact ht
  · exact hu

section
variable (s : State) (slot : Fin 16)

theorem State.store_stores (p : Fin 6) (i z : Nat) : s.Stores (s.store p i z) := ⟨_, rfl⟩

theorem State.macCount_stores : s.Stores (s.macCount slot) := by
  unfold State.macCount
  extract_lets m _ reserved
  have hreserved : s.Stores reserved := State.Stores.ite (.refl s) ⟨_, rfl⟩
  exact hreserved.trans (.of_kp rfl)

theorem State.macReset_stores : s.Stores (s.macReset slot) := ⟨_, rfl⟩

theorem State.reseal_stores : s.Stores s.reseal := ⟨_, rfl⟩

theorem State.sealUse_stores : s.Stores s.sealUse := by
  unfold State.sealUse
  extract_lets counted
  have hcounted : s.Stores counted := s.macCount_stores 7
  exact State.Stores.ite (hcounted.trans counted.reseal_stores) hcounted

theorem State.drawKey_stores (item : Nat) : s.Stores (s.drawKey item).2 :=
  State.Stores.trans (t := s.newKey.2) (.of_kp rfl) ((State.sealUse_stores _).trans (State.store_stores _ ..))

theorem State.macReplace_stores : s.Stores (s.macReplace slot) := by
  unfold State.macReplace
  refine State.Stores.ite ?_ (State.Stores.ite ?_ (State.Stores.ite ⟨_, rfl⟩ s.reseal_stores))
  · exact (s.drawKey_stores 4).trans ⟨_, rfl⟩
  · exact (s.drawKey_stores 5).trans ⟨_, rfl⟩

theorem State.macUse_stores : s.Stores (s.macUse slot) := by
  unfold State.macUse
  extract_lets counted
  have hcounted : s.Stores counted := s.macCount_stores slot
  exact State.Stores.ite (hcounted.trans (counted.macReplace_stores slot)) hcounted

theorem State.customerStore_stores (offset length : Nat) : s.Stores (s.customerStore offset length) := by
  unfold State.customerStore
  have hfold (l : List Nat) (f : State → Nat → State) (hf : ∀ (t : State) i, t.Stores (f t i)) (t : State) : t.Stores (l.foldl f t) := by
    induction l generalizing t with
    | nil => exact .refl t
    | cons i l ih => exact (hf t i).trans (ih _)
  exact (hfold _ _ (fun t i => t.store_stores ..) s).trans (State.store_stores _ ..)

end

/-! ### The password judged, the bytes stored -/

section
variable {s : State} {r : Req} {offset length : Nat}

/-- A right password clears the count. -/
theorem State.customerPw_right {i : Inst} {stored given : Key} (hkeeper : s.keeperServes i = false) (hmac : s.macOk 5 = true) (hset : stored ≠ 0)
    (hsame : checkValue s.sec.keyCust.get given = checkValue s.sec.keyCust.get stored) :
    ∃ t, s.customerPw i stored given = (none, { t with kp := { t.kp with pwWrong := 0 } }) ∧ s.Stores t := by
  refine ⟨s.macUse 5, ?_, s.macUse_stores 5⟩
  have hcheck := State.checkOf_engine (slot := 5) (by decide) hmac s.sec.keyCust.get given
  simp only [State.customerPw, if_neg hset, hkeeper, Bool.not_false, hcheck, hsame, if_true]

/-- A wrong one counts, and is answered. -/
theorem State.customerPw_wrong {i : Inst} {stored given : Key} (hkeeper : s.keeperServes i = false) (hmac : s.macOk 5 = true) (hset : stored ≠ 0)
    (hcount : s.kp.pwWrong < 4) (hsame : checkValue s.sec.keyCust.get given ≠ checkValue s.sec.keyCust.get stored) :
    ∃ t, s.customerPw i stored given = (some (codeAns 0x0014 0), t) ∧ t.kp.customer = s.kp.customer ∧ t.kp.pwWrong = s.kp.pwWrong + 1 := by
  have hcheck := State.checkOf_engine (slot := 5) (by decide) hmac s.sec.keyCust.get given
  obtain ⟨parts, huse⟩ := s.macUse_stores 5
  have hwrong : (s.macUse 5).kp.pwWrong = s.kp.pwWrong := by rw [huse]
  refine ⟨{ s.macUse 5 with kp := { (s.macUse 5).kp with pwWrong := s.kp.pwWrong + 1 } }, ?_, by rw [huse], rfl⟩
  have hfew : s.kp.pwWrong + 1 < 5 := Nat.succ_lt_succ hcount
  simp only [State.customerPw, if_neg hset, hkeeper, Bool.not_false, hcheck, if_neg hsame, hwrong, if_pos hfew]

/-- The bytes of a write, and its records. -/
def State.writeCustomer (s : State) (offset length : Nat) (data : List Byte) : State :=
  ({ s with kp := { s.kp with customer := Mem.writeBytes s.kp.customer offset (data.take length) } } : State).customerStore offset length

theorem State.writeCustomer_kp (s : State) (offset length : Nat) (data : List Byte) : ∃ parts, (s.writeCustomer offset length data).kp =
    { s.kp with customer := Mem.writeBytes s.kp.customer offset (data.take length), parts := parts } := State.customerStore_stores _ _ _

theorem State.writeCustomer_customer (s : State) (offset : Nat) {data : List Byte} (hdata : data.length = length) :
    (s.writeCustomer offset length data).kp.customer = Mem.writeBytes s.kp.customer offset data := by
  obtain ⟨parts, hkp⟩ := s.writeCustomer_kp offset length data
  rw [hkp, ← hdata, List.take_length]

theorem exec_writeCustomerPartition {pass : Key} {data : List Byte} (h : s.Taken r 0xC605 (some (40 + length))) {t : State}
    (hgate : s.customerGate r.inst offset length s.kp.writePw pass = (none, t)) :
    exec (.writeCustomerPartition r offset length pass data) s = .next ((t.writeCustomer offset length data).answer r 0xC605 okAns) := by
  refine congrArg Host.Outcome.next (State.mbx_answers rfl h ?_)
  rw [hgate]
  rfl

theorem exec_writeCustomerPartition_refused {pass : Key} {data : List Byte} (h : s.Taken r 0xC605 (some (40 + length))) {a : Ans} {t : State}
    (hgate : s.customerGate r.inst offset length s.kp.writePw pass = (some a, t)) :
    exec (.writeCustomerPartition r offset length pass data) s = .next (t.answer r 0xC605 a) := by
  refine congrArg Host.Outcome.next (State.mbx_answers rfl h ?_)
  rw [hgate]

theorem State.customerGate_backedOff {i : Inst} {u : Nat} (huntil : s.kp.pwUntil = some u) (hnow : s.now < u) (stored given : Key) :
    s.customerGate i offset length stored given = (some (busyAns 0x000E), s) := by
  rw [State.customerGate, huntil]
  exact if_pos (decide_eq_true hnow)

theorem exec_readCustomerPartition_refused {pass : Key} (h : s.Taken r 0xC604 (some 40)) {a : Ans} {t : State}
    (hgate : s.customerGate r.inst offset length s.kp.readPw pass = (some a, t)) :
    exec (.readCustomerPartition r offset length pass) s = .next (t.answer r 0xC604 a) := by
  refine congrArg Host.Outcome.next (State.mbx_answers rfl h ?_)
  rw [hgate]

/-- Both passwords are replaced, and their records stored. -/
def State.putPasswords (s : State) (readPw writePw : Key) : State :=
  ((({ s with kp := { s.kp with readPw := readPw, writePw := writePw } } : State).save 32).store 1 32 48).store 1 33 48

theorem State.putPasswords_kp (s : State) (readPw writePw : Key) :
    ∃ parts, (s.putPasswords readPw writePw).kp = { s.kp with readPw := readPw, writePw := writePw, parts := parts } := ⟨_, rfl⟩

theorem exec_setCustomerPasswords {readPw writePw : Key} (h : s.Taken r 0xC606 (some 64)) (hkeeper : s.keeperServes r.inst = false)
    (hmac : s.macOk 5 = true) (hmac' : (s.macUse 5).macOk 5 = true) : exec (.setCustomerPasswords r readPw writePw) s =
      .next ((((s.macUse 5).macUse 5).sealUse.sealUse.putPasswords readPw writePw).answer r 0xC606 okAns) := by
  refine congrArg Host.Outcome.next (State.mbx_answers rfl h ?_)
  simp only [hkeeper, Bool.not_false, State.checkOf_engine (slot := 5) (by decide) hmac, State.checkOf_engine (slot := 5) (by decide) hmac',
    if_true]
  rfl

end

/-- Settles O30: the gate by `State.customerGate_open` and `State.customerGate_backedOff`, the password by `State.customerPw_right` and
`State.customerPw_wrong`, the bytes by the laws of byte memories. -/
theorem customerPartitionIsKept : Obligations.CustomerPartitionIsKept := by
  unfold Obligations.CustomerPartitionIsKept
  intro s r
  refine ⟨fun offset length pass data h hpw huntil hdata hoff hpos hlen hend => ?_,
    fun offset length pass data hkeeper h hpw huntil hmac hoff hpos hlen hend hcount => ⟨fun hsame hdata => ?_, fun hsame => ?_⟩,
    fun u offset length pass data huntil hnow => ⟨fun h => ?_, fun h => ?_⟩, fun a b hkeeper h hmac hmac' => ?_⟩
  · have hgate := State.customerGate_open (i := r.inst) (stored := 0) huntil hoff hpos hlen hend pass
    rw [State.customerPw_unset, ← hpw] at hgate
    have hcustomer := s.writeCustomer_customer offset hdata
    refine ⟨_, exec_writeCustomerPartition h hgate, fun i hi => ?_, fun a ha => ?_, fun hwf => ?_⟩
    · rw [hcustomer]
      exact read_writeBytes_same ..
    · rw [hcustomer]
      exact read_writeBytes_other _ _ _ _ (by rwa [hdata])
    · rw [hcustomer]
      exact writeBytes_wf _ _ _ hwf
  · obtain ⟨t, hright, _⟩ := State.customerPw_right hkeeper hmac hpw hsame
    have hgate := (State.customerGate_open huntil hoff hpos hlen hend pass).trans hright
    obtain ⟨parts, hkp⟩ := State.writeCustomer_kp { t with kp := { t.kp with pwWrong := 0 } } offset length data
    refine ⟨_, exec_writeCustomerPartition h hgate, by rw [hkp], fun i hi => ?_⟩
    rw [State.writeCustomer_customer _ offset hdata]
    exact read_writeBytes_same ..
  · obtain ⟨t, hwrong, hcustomer, hcounts⟩ := State.customerPw_wrong hkeeper hmac hpw hcount hsame
    have hgate := (State.customerGate_open huntil hoff hpos hlen hend pass).trans hwrong
    exact ⟨t, exec_writeCustomerPartition_refused h hgate, hcustomer, hcounts⟩
  · exact exec_readCustomerPartition_refused h (State.customerGate_backedOff huntil hnow ..)
  · exact exec_writeCustomerPartition_refused h (State.customerGate_backedOff huntil hnow ..)
  · obtain ⟨parts, hkp⟩ := ((s.macUse_stores 5).trans ((s.macUse 5).macUse_stores 5)).trans
      ((State.sealUse_stores _).trans (State.sealUse_stores _))
    obtain ⟨parts', hput⟩ := ((s.macUse 5).macUse 5).sealUse.sealUse.putPasswords_kp a b
    exact ⟨_, exec_setCustomerPasswords h hkeeper hmac hmac', by rw [hput], by rw [hput], by rw [hput, hkp]⟩

end Sys2Proof.Machine
end

section
/-! PROOFS. The statement about a step on an empty queue (00_scope.md Table 00-4; 12_notifications_events_counters.md R308; 08_inline_encryption.md
R198): what a tick touches, and the counter lines that it writes back. -/

namespace Sys2Proof.Machine
open Sys2Proof.Laws

/-! ### A tick -/

section
variable {s : State}

theorem State.since_now_touches (s : State) : ∃ pm nt lds rp,
    s.since s.now 1 = { s with now := s.now + 1, pm := pm, nt := nt, lds := lds, rp := rp } ∧
    rp.rx = s.rp.rx := by
  obtain ⟨now, pm, nt, lds, rp, h⟩ := s.pass_touches (1 - (s.now - s.now))
  have hnow : now = s.now + 1 := by
    have hticked := (s.ticked_win_now (1 - (s.now - s.now)) 0 0).2
    rw [Nat.sub_self] at hticked
    rw [← hticked]
    exact ((congrArg State.now h).symm.trans (by rw [Nat.sub_self]) :)
  obtain ⟨paused, hrp⟩ := s.since_rp s.now 1
  have hrx : rp = _ := (congrArg State.rp h).symm.trans hrp
  exact ⟨pm, nt, lds, rp, by rw [State.since, h, hnow], by rw [hrx]⟩

theorem State.drainWrites_of_nil (h : s.wp.rx = []) : s.drainWrites = s := by
  unfold State.drainWrites
  rw [h]
  exact congrArg (fun rx => ({ s with wp := { s.wp with rx := rx } } : State)) h.symm

theorem State.drainReads_of_nil (h : s.rp.rx = []) : s.drainReads = s := by
  unfold State.drainReads
  rw [h]
  exact congrArg (fun rx => ({ s with rp := { s.rp with rx := rx } } : State)) h.symm

theorem State.gpfEnds_touches (s : State) : ∃ lk out, s.gpfEnds = { s with lk := lk, out := out } := by
  unfold State.gpfEnds
  extract_lets _ t
  have hfold (l : List GpfWait) (u : State) : ∃ out, l.foldl (fun (t : State) g => t.emit (.gpf g.port 2)) u = { u with out := out } := by
    induction l generalizing u with
    | nil => exact ⟨u.out, rfl⟩
    | cons g l ih =>
      obtain ⟨out, h⟩ := ih (u.emit (.gpf g.port 2))
      exact ⟨out, h⟩
  obtain ⟨out, h⟩ := hfold (s.lk.gpf.filter s.gpfOver) t
  exact ⟨_, out, h⟩

/-- A tick with nothing in the receive buffers: the timebase moves on, and the dirty counter lines are bounded. -/
theorem State.tick_touches (hwrites : s.wp.rx = []) (hreads : s.rp.rx = []) : ∃ t : State, s.tick = t.boundDirty ∧
    ∃ pm nt lds rp lk out, t = { s with now := s.now + 1, pm := pm, nt := nt, lds := lds, rp := rp, lk := lk, out := out } := by
  obtain ⟨pm, nt, lds, rp, hsince, hrx⟩ := s.since_now_touches
  have hdrained : (s.since s.now 1).drainWrites.drainReads = s.since s.now 1 := by
    rw [State.drainWrites_of_nil (by rw [hsince]; exact hwrites), State.drainReads_of_nil (by rw [hsince]; exact hrx.trans hreads)]
  obtain ⟨lk, out, hgpf⟩ := (s.since s.now 1).gpfEnds_touches
  refine ⟨_, by rw [State.tick, hdrained], pm, nt, lds, rp, lk, out, ?_⟩
  rw [hgpf, hsince]

end

/-! ### Dirty counter lines written back (R198) -/

/-- Nothing changes but counters and what sequence numbers take: the timebase, the queue and the device's make-up stay. -/
def State.Counts (s t : State) : Prop := t.now = s.now ∧ t.pending = s.pending ∧ t.hw = s.hw

theorem State.Counts.trans {s t u : State} (h : s.Counts t) (h' : t.Counts u) : s.Counts u :=
  ⟨h'.1.trans h.1, h'.2.1.trans h.2.1, h'.2.2.trans h.2.2⟩

theorem State.durPage_counts (s : State) (page : Nat) : s.Counts (s.durPage page) := by
  obtain ⟨_, _, h⟩ := s.nextSeq_touches
  unfold State.durPage
  rw [h]
  exact ⟨rfl, rfl, rfl⟩

theorem State.countChild_counts (s : State) (level unit : Nat) : s.Counts (s.countChild level unit) := ⟨rfl, rfl, rfl⟩

theorem foldl_counts {α : Type} {f : State → α → State} (hf : ∀ (s : State) x, s.Counts (f s x)) (l : List α) (s : State) :
    s.Counts (l.foldl f s) := by
  induction l generalizing s with
  | nil => exact ⟨rfl, rfl, rfl⟩
  | cons x l ih => exact (hf s x).trans (ih _)

/-- The dirty lines of one level are written to the media. -/
def State.writeLevel (s : State) (k : Nat) : State :=
  (s.cr.dirty.filter fun p => p.1 = k).foldl (fun s p => s.countChild k p.2)
    { s with cr := { s.cr with dirty := s.cr.dirty.filter fun p => p.1 ≠ k } }

theorem State.writeLevel_counts (s : State) (k : Nat) : s.Counts (s.writeLevel k) :=
  State.Counts.trans (t := { s with cr := { s.cr with dirty := s.cr.dirty.filter fun p => p.1 ≠ k } }) ⟨rfl, rfl, rfl⟩
    (foldl_counts (fun s (p : Nat × Nat) => s.countChild_counts k p.2) _ _)

theorem State.writeDirty_eq (s : State) : s.writeDirty = [2, 3, 4, 5].foldl State.writeLevel
    ((s.cr.dirty.filter fun p => p.1 = 1).foldl (fun s p => s.durPage p.2) s) := rfl

theorem State.writeDirty_counts (s : State) : s.Counts s.writeDirty := by
  rw [State.writeDirty_eq]
  have hpages := foldl_counts (fun s (p : Nat × Nat) => s.durPage_counts p.2) (s.cr.dirty.filter fun p => p.1 = 1) s
  exact hpages.trans (foldl_counts State.writeLevel_counts [2, 3, 4, 5] _)

/-- No line of levels 1 to `k` is dirty. -/
def State.CleanTo (s : State) (k : Nat) : Prop := ∀ p ∈ s.cr.dirty, p.1 = 0 ∨ k < p.1

theorem State.mem_countChild {s : State} {level unit : Nat} {p : Nat × Nat} (h : p ∈ (s.countChild level unit).cr.dirty) :
    p ∈ s.cr.dirty ∨ level ≠ 5 ∧ p.1 = level + 1 := by
  unfold State.countChild at h
  dsimp only at h
  split at h
  next => exact .inl h
  next hnew =>
    rcases List.mem_cons.1 h with rfl | h
    · exact .inr ⟨fun h5 => hnew (.inl h5), rfl⟩
    · exact .inl h

/-- The pages of level 1 written, only those of the list left out stay dirty there. -/
theorem foldl_durPage_dirty (l : List (Nat × Nat)) (s : State) {p : Nat × Nat} (hp : p ∈ (l.foldl (fun s q => s.durPage q.2) s).cr.dirty)
    (hlevel : p.1 = 1) : p ∈ s.cr.dirty ∧ ∀ q ∈ l, p ≠ (1, q.2) := by
  induction l generalizing s with
  | nil => exact ⟨hp, nofun⟩
  | cons q l ih =>
    obtain ⟨hmem, hnot⟩ := ih (s.durPage q.2) hp
    have hdur : p ∈ s.cr.dirty ∧ p ≠ (1, q.2) := by
      obtain ⟨_, _, hseq⟩ := s.nextSeq_touches
      unfold State.durPage at hmem
      rw [hseq] at hmem
      rcases State.mem_countChild hmem with hmem | ⟨_, htwo⟩
      · simpa using hmem
      · omega
    exact ⟨hdur.1, List.forall_mem_cons.2 ⟨hdur.2, hnot⟩⟩

theorem State.writeLevel_cleanTo {s : State} {k : Nat} (h : s.CleanTo k) : (s.writeLevel (k + 1)).CleanTo (k + 1) := by
  have hfold (l : List (Nat × Nat)) (t : State) (ht : t.CleanTo (k + 1)) : (l.foldl (fun s p => s.countChild (k + 1) p.2) t).CleanTo (k + 1) := by
    induction l generalizing t with
    | nil => exact ht
    | cons q l ih =>
      refine ih _ fun p hp => ?_
      rcases State.mem_countChild hp with hp | ⟨_, hp⟩
      · exact ht p hp
      · omega
  refine hfold _ _ fun p hp => ?_
  obtain ⟨hp, hne⟩ := List.mem_filter.1 hp
  have hne : p.1 ≠ k + 1 := by simpa using hne
  rcases h p hp with hzero | hlt <;> omega

theorem State.writeDirty_cleanTo (s : State) : s.writeDirty.CleanTo 5 := by
  rw [State.writeDirty_eq]
  refine State.writeLevel_cleanTo (State.writeLevel_cleanTo (State.writeLevel_cleanTo (State.writeLevel_cleanTo fun p hp => ?_)))
  by_contra hlow
  have hlevel : p.1 = 1 := by omega
  obtain ⟨hmem, hnot⟩ := foldl_durPage_dirty _ s hp hlevel
  exact hnot p (List.mem_filter.2 ⟨hmem, decide_eq_true hlevel⟩) (Prod.ext hlevel rfl)

/-- Settles O2: the idle block lets a tick pass (`State.tick_touches`), and bounds the dirty counter lines (`State.writeDirty_cleanTo`). -/
theorem emptyQueueLetsATickPass : Obligations.EmptyQueueLetsATickPass := by
  unfold Obligations.EmptyQueueLetsATickPass
  intro s hpending hheld hwrites hreads
  obtain ⟨t, htick, pm, nt, lds, rp, lk, out, rfl⟩ := State.tick_touches hwrites hreads
  have hidle : s.idle = .next s.tick := by
    unfold State.idle
    rw [hheld]
    rfl
  refine ⟨_, by rw [step_nil hpending, hidle, htick], ?_⟩
  unfold State.boundDirty
  split
  next hmany =>
    obtain ⟨hnow, hpend, hhw⟩ := State.writeDirty_counts { s with now := s.now + 1, pm := pm, nt := nt, lds := lds, rp := rp, lk := lk, out := out }
    exact ⟨hnow, hpend.trans hpending, hhw, fun hfew => absurd hmany (Nat.not_lt.2 hfew), fun _ => State.writeDirty_cleanTo _⟩
  next hfew => exact ⟨rfl, hpending, rfl, fun _ => ⟨rfl, rfl, rfl⟩, fun hmany => absurd hmany hfew⟩

end Sys2Proof.Machine
end

section
/-! PROOFS. Statements about the maintenance of the line cache and the scratchpad's aliases (13_cache_and_on_chip_memory.md R317 to R324,
R328, R329). -/

namespace Sys2Proof.Machine
open Sys2Proof.Laws

/-! ### Registers of the device-wide blocks -/

section
variable {s : State} {c : Fin 17} (hreach : s.Reaches c)

include hreach in
theorem State.io_devOnly (hdev : s.devOk c = true) (i : Instr) (off : Nat) (f : State → State) :
    s.io c i (fun t => t.devOnly c off f) = f s := by
  rw [State.io_of_reaches hreach]
  exact if_pos hdev

include hreach in
theorem State.io_devOnly_refused (hdev : s.devOk c = false) (i : Instr) (off : Nat) (f : State → State) :
    s.io c i (fun t => t.devOnly c off f) = s.violate c 3 off := by
  rw [State.io_of_reaches hreach]
  exact if_neg (ne_true_of_eq_false hdev)

/-! ### Lines that leave the cache (R317) -/

theorem mem_cacheRemove {ls : List CLine} {d x : CLine} (h : x ∈ cacheRemove ls d) : x.line ≠ d.line ∧ ∃ y ∈ ls, y.line = x.line := by
  obtain ⟨y, hy, rfl⟩ := List.mem_map.1 h
  obtain ⟨hmem, hne⟩ := List.mem_filter.1 hy
  have hline : (if y.set = d.set ∧ d.age < y.age then { y with age := y.age - 1 } else y).line = y.line := by
    split
    · rfl
    · rfl
  rw [hline]
  exact ⟨of_decide_eq_true hne, y, hmem, rfl⟩

/-- What is left after a line was dropped is of other lines, which the cache held before. -/
theorem State.mem_cacheDrop {s : State} {line : Nat} {x : CLine} (h : x ∈ (s.cacheDrop line).ca.lines) :
    x.line ≠ line ∧ ∃ y ∈ s.ca.lines, y.line = x.line := by
  unfold State.cacheDrop at h
  cases hfind : s.cacheFind line with
  | some d =>
    rw [hfind] at h
    have hd : d.line = line := by simpa using List.find?_some hfind
    rw [← hd]
    exact mem_cacheRemove h
  | none =>
    rw [hfind] at h
    exact ⟨by simpa using List.find?_eq_none.1 hfind x h, x, h, rfl⟩

theorem State.cacheFind_cacheDrop (s : State) (line : Nat) : (s.cacheDrop line).cacheFind line = none :=
  List.find?_eq_none.2 fun x hx => by simpa using (State.mem_cacheDrop hx).1

/-- After every line of a list was dropped, none of them is left. -/
theorem mem_foldl_cacheDrop (l : List CLine) {s : State} {x : CLine} (h : x ∈ (l.foldl (fun s d => s.cacheDrop d.line) s).ca.lines) :
    (∀ d ∈ l, x.line ≠ d.line) ∧ ∃ y ∈ s.ca.lines, y.line = x.line := by
  induction l generalizing s with
  | nil => exact ⟨fun d hd => absurd hd List.not_mem_nil, x, h, rfl⟩
  | cons d l ih =>
    obtain ⟨hnot, y, hy, hyx⟩ := ih h
    obtain ⟨hne, z, hz, hzy⟩ := State.mem_cacheDrop hy
    exact ⟨List.forall_mem_cons.2 ⟨fun heq => hne (hyx.trans heq), hnot⟩, z, hz, hzy.trans hyx⟩

theorem foldl_cacheDrop_touches (l : List CLine) (s : State) : ∃ lines,
    l.foldl (fun s d => s.cacheDrop d.line) s = { s with ca := { s.ca with lines := lines } } := by
  induction l generalizing s with
  | nil => exact ⟨s.ca.lines, rfl⟩
  | cons d l ih =>
    have hdrop : ∃ lines, s.cacheDrop d.line = { s with ca := { s.ca with lines := lines } } := by
      unfold State.cacheDrop
      split
      · exact ⟨_, rfl⟩
      · exact ⟨s.ca.lines, rfl⟩
    obtain ⟨_, hdrop⟩ := hdrop
    obtain ⟨lines, h⟩ := ih (s.cacheDrop d.line)
    exact ⟨lines, by rw [List.foldl_cons, h, hdrop]⟩

end

/-! ### The maintenance queue (R318 to R320) -/

section
variable {s : State} {c : Fin 17} (hreach : s.Reaches c) (hdev : s.devOk c = true)
include hreach hdev

section
variable (hroom : s.opCount < 256 ∧ s.held.any maintWrite = false) (i : Instr) (op : MOp)
include hroom

theorem State.io_opAddr (a : Nat) :
    s.io c i (fun s => s.opAddr c i op a) = { s with ca := { s.ca with opq := s.ca.opq ++ [⟨op, false, a / 64, 0, 0⟩] } } :=
  (State.io_devOnly hreach hdev i 0x300008 fun s => s.maintain c i ⟨op, false, a / 64, 0, 0⟩).trans (if_pos hroom)

theorem State.io_opSw {n : Nat} (hn : n < cacheSets) (w : Fin 16) :
    s.io c i (fun s => s.opSw c i op n w.val) = { s with ca := { s.ca with opq := s.ca.opq ++ [⟨op, true, 0, n, w.val⟩] } } :=
  (State.io_devOnly hreach hdev i 0x300010 fun s => if n < cacheSets then s.maintain c i ⟨op, true, 0, n, w.val⟩ else s).trans
    ((if_pos hn).trans (if_pos hroom))

end

theorem State.io_opSw_beyond (i : Instr) (op : MOp) {n : Nat} (hn : cacheSets ≤ n) (w : Fin 16) : s.io c i (fun s => s.opSw c i op n w.val) = s :=
  (State.io_devOnly hreach hdev i 0x300010 fun s => if n < cacheSets then s.maintain c i ⟨op, true, 0, n, w.val⟩ else s).trans
    (if_neg (Nat.not_lt.2 hn))

theorem exec_cacheSync (hidle : s.opCount = 0) :
    exec (.cacheSync c 4) s = .next (({ s with ca := { s.ca with synced := 0 } }).emit (.reg c s.ca.synced)) :=
  congrArg Host.Outcome.next ((State.io_of_reaches hreach _ _).trans ((if_neg (ne_false_of_eq_true hdev)).trans ((if_pos rfl).trans (if_pos hidle))))

theorem exec_rangeStart : exec (.rangeStart c) s = .next s.rangeStart := congrArg Host.Outcome.next (State.io_devOnly hreach hdev ..)

theorem exec_rangeAbort : exec (.rangeAbort c) s = .next s.rangeStop := congrArg Host.Outcome.next (State.io_devOnly hreach hdev ..)

end

section
variable {s : State} {r : MReq} {rest : List MReq} (hq : s.ca.opq = r :: rest)
include hq

theorem State.opRun_absent (hline : s.opLine r = none) :
    s.opRun = { s with ca := { s.ca with opq := rest, synced := min 0xFFFFFFFF (s.ca.synced + 1) } } := by
  unfold State.opRun
  rw [hq]
  dsimp only
  rw [hline]
  rfl

theorem State.opRun_invalidate {l : CLine} (hline : s.opLine r = some l) (hop : r.op = .invalidate) :
    s.opRun = ({ s with ca := { s.ca with opq := rest } }.cacheDrop l.line).opDone := by
  unfold State.opRun
  rw [hq]
  dsimp only
  rw [hline]
  exact if_pos hop

theorem State.opRun_clean {l : CLine} (hline : s.opLine r = some l) (hop : r.op = .clean) (hdirty : l.dirty = true)
    (hroom : s.fo.orderQ[s.setOf (granOf l.line)].length < 4096) : s.opRun = { s with
      fo := (s.foldFirst (granOf l.line)).fo
      ca := { s.ca with opq := rest, waitClean := s.ca.waitClean ++ [(l.line, false)] } } := by
  unfold State.opRun
  rw [hq]
  dsimp only
  rw [hline, hop]
  exact (if_neg nofun).trans ((if_neg (ne_false_of_eq_true hdirty)).trans (if_neg (Nat.not_le.2 hroom)))

end

/-- The fold of a granule put first heads its set's queue. -/
theorem State.foldFirst_head (s : State) (g : Nat) :
    ((s.foldFirst g).fo.orderQ[s.setOf g]).head? = some (g, some (s.homeLane (s.setOf g) g)) := by
  rw [State.foldFirst, vmod_same]
  rfl

/-- Cleans that finish drop lines and count; the write path stays. -/
theorem State.cleansEnd_touches (s : State) : ∃ lines synced, s.cleansEnd =
    { s with ca := { s.ca with waitClean := s.ca.waitClean.filter fun p => s.folding (granOf p.1), lines := lines, synced := synced } } := by
  have hdrop (t : State) (p : Nat × Bool) : ∃ lines synced,
      (if p.2 then t.cacheDrop p.1 else t).opDone = { t with ca := { t.ca with lines := lines, synced := synced } } := by
    unfold State.cacheDrop
    split
    · split
      · exact ⟨_, _, rfl⟩
      · exact ⟨t.ca.lines, _, rfl⟩
    · exact ⟨t.ca.lines, _, rfl⟩
  have hfold (l : List (Nat × Bool)) (t : State) : ∃ lines synced,
      l.foldl (fun (s : State) p => (if p.2 then s.cacheDrop p.1 else s).opDone) t =
        { t with ca := { t.ca with lines := lines, synced := synced } } := by
    induction l generalizing t with
    | nil => exact ⟨t.ca.lines, t.ca.synced, rfl⟩
    | cons p l ih =>
      obtain ⟨_, _, hp⟩ := hdrop t p
      obtain ⟨lines, synced, hl⟩ := ih ((if p.2 then t.cacheDrop p.1 else t).opDone)
      exact ⟨lines, synced, by rw [List.foldl_cons, hl, hp]⟩
  exact hfold _ _

theorem State.cleansEnd_of_nil {s : State} (h : s.ca.waitClean = []) : s.cleansEnd = s := by
  unfold State.cleansEnd
  rw [h]
  exact congrArg (fun l => ({ s with ca := { s.ca with waitClean := l } } : State)) h.symm

/-! ### The range engine (R321) -/

theorem State.rangeStart_accepted {s : State} (hop : s.ca.rop ≠ 0) (hbusy : s.ca.rbusy = false)
    (hrange : s.ca.rall = true ∨ (s.ca.rlen ≠ 0 ∧ s.ca.rbase + s.ca.rlen ≤ s.capacity)) : s.rangeCause = 0 := by
  unfold State.rangeCause
  rw [if_neg, if_neg, if_neg]
  · rintro ⟨hall, hbeyond⟩
    rcases hrange with h | ⟨_, h⟩
    · exact absurd h (ne_true_of_eq_false hall)
    · omega
  · exact ne_true_of_eq_false hbusy
  · rintro (h | ⟨hlen, hall⟩)
    · exact hop h
    · rcases hrange with h | ⟨h, _⟩
      · exact absurd h (ne_true_of_eq_false hall)
      · exact h hlen

theorem State.rangeStart_refused {s : State} {k : Nat} (hcause : s.rangeCause = k) (hk : k ≠ 0) :
    s.rangeStart = { s with ca := { s.ca with rrej := true, rcause := k } } := by
  unfold State.rangeStart
  rw [hcause]
  exact if_neg hk

/-- A whole-cache invalidate empties the cache. -/
theorem State.rangeWalk_empties {s : State} (hop : s.ca.rop = 2) (hall : s.ca.rall = true) :
    s.rangeWalk = State.rangeEnd { s with ca := { s.ca with lines := [] } } := by
  have hmine : (s.ca.lines.filter fun (c : CLine) => s.rangeHas c.line) = s.ca.lines :=
    List.filter_eq_self.2 fun c _ => by simp [State.rangeHas, hall]
  obtain ⟨lines, hdrop⟩ := foldl_cacheDrop_touches s.ca.lines s
  have hempty : lines = [] := by
    refine List.eq_nil_iff_forall_not_mem.2 fun x hx => ?_
    have hx : x ∈ (s.ca.lines.foldl (fun s d => s.cacheDrop d.line) s).ca.lines := by rwa [hdrop]
    obtain ⟨hnot, y, hy, hyx⟩ := mem_foldl_cacheDrop s.ca.lines hx
    exact hnot y hy hyx.symm
  unfold State.rangeWalk
  rw [hmine, if_pos hop, hdrop, hempty]

/-! ### The scratchpad's aliases (R328, R329) -/

theorem State.spadStore_touches (s : State) (who : Fin 17) (off width value : Nat) : ∃ sp, s.spadStore who off width value = { s with sp := sp } := by
  unfold State.spadStore
  extract_lets stored _ clean
  split
  · exact ⟨_, rfl⟩
  · exact ⟨_, rfl⟩

/-- A word stored outside the parts that the device writes reads back. -/
theorem State.spadRead_spadStore {s : State} {who : Fin 17} {off width : Nat} (value : Nat) (hpart : devPart who off width = false) :
    (s.spadStore who off width value).spadRead who off width = value % 256 ^ width := by
  unfold State.spadStore
  extract_lets stored _ clean
  have hclean : clean.spadRead who off width = value % 256 ^ width := by
    show (vmod s.sp.banks who _)[who].readLE off width = _
    rw [vmod_same]
    exact readLE_writeLE_same _ off width value le_rfl
  split
  next hld =>
    rw [← hclean]
    show ((clean.leaseMap who).sp.banks[who]).readLE off width = _
    rw [State.leaseMap, modBank_bank]
    refine readLE_writeLE_other _ _ ?_
    have hmap : ¬ (off < 0x3BF0C ∧ 0x3BF00 < off + width) := by
      intro hmap
      simp [devPart, hld.1, hmap.1, hmap.2] at hpart
    omega
  next => exact hclean

section
variable {s : State} {c : Fin 17} {off w : Nat} (hw : w = 4 ∨ w = 8) (halign : off % w = 0) (hend : off + w ≤ 0x40000)
  (hpart : devPart c off w = false) (hres : resPart c off w = false) (hbad : s.spadBad c off w = false)
include hw halign hend hpart hres hbad

theorem State.spadAlias_stores (f : Nat → Nat) : s.spadAlias c off w f = s.spadStore c off w (f (s.spadRead c off w) % 2 ^ (8 * w)) := by
  have hfits : (w = 4 ∨ w = 8) ∧ spadFits off w = true := ⟨hw, by simp [spadFits, bankBytes, halign, hend]⟩
  exact (if_pos hfits).trans ((if_neg (ne_true_of_eq_false hpart)).trans ((if_neg (ne_true_of_eq_false hres)).trans
    (if_neg (ne_true_of_eq_false hbad))))

theorem State.spadRead_spadAlias (f : Nat → Nat) :
    (s.spadAlias c off w f).spadRead c off w = f (s.spadRead c off w) % 2 ^ (8 * w) ∧ ∃ sp, s.spadAlias c off w f = { s with sp := sp } := by
  rw [State.spadAlias_stores hw halign hend hpart hres hbad]
  refine ⟨?_, State.spadStore_touches ..⟩
  rw [State.spadRead_spadStore _ hpart, Nat.pow_mul]
  exact Nat.mod_mod ..

end

theorem State.atomic_stores {s : State} {n : Fin 16} {off w : Nat} (hw : w = 4 ∨ w = 8) (halign : off % w = 0) (hend : off + w ≤ 0x40000)
    (hbad : s.spadBad (whoOf n) off w = false) (f : Nat → Nat) :
    s.atomic n off w f = (s.spadAlias (whoOf n) off w f).emit (.reg (whoOf n) (s.spadRead (whoOf n) off w)) := by
  have hfits : (w = 4 ∨ w = 8) ∧ spadFits off w = true := ⟨hw, by simp [spadFits, bankBytes, halign, hend]⟩
  exact (if_pos hfits).trans (if_neg (ne_true_of_eq_false hbad))

/-- Settles O56: queueing by `State.io_opAddr` and `State.io_opSw`, execution by the cases of `State.opRun`, the range engine by
`State.rangeWalk_empties`, the aliases by `State.spadRead_spadAlias`. -/
theorem cacheOperationsRunInOrder : Obligations.CacheOperationsRunInOrder := by
  unfold Obligations.CacheOperationsRunInOrder
  intro s c
  refine ⟨fun hreach hdev hcount hheld => ⟨fun a => ?_, fun n w hn => ?_⟩, fun hreach hdev n w hn => ?_, fun hreach hdev => ?_,
    fun r rest hq => ⟨fun hline => ?_, fun l hline hop => ?_, fun l hline hop hdirty hroom => ?_⟩, ?_,
    fun hreach hdev hidle => exec_cacheSync hreach hdev hidle, fun hreach hdev => ⟨fun hop hbusy hrange => ?_, fun hop => ?_,
      fun hop hall hbusy => ?_, fun hbusy => ?_⟩, fun hbusy hwait hop hall => ?_,
    fun off w v hreach hw halign hend hpart hres hbad => ?_, fun n off w hreach => congrArg Host.Outcome.next (State.io_of_reaches hreach _ _)⟩
  · have hput := fun i op => State.io_opAddr hreach hdev ⟨hcount, hheld⟩ i op a
    exact ⟨congrArg Host.Outcome.next (hput ..), congrArg Host.Outcome.next (hput ..), congrArg Host.Outcome.next (hput ..)⟩
  · have hput := fun i op => State.io_opSw hreach hdev ⟨hcount, hheld⟩ i op hn w
    exact ⟨congrArg Host.Outcome.next (hput ..), congrArg Host.Outcome.next (hput ..), congrArg Host.Outcome.next (hput ..)⟩
  · have hput := fun i op => State.io_opSw_beyond hreach hdev i op hn w
    exact ⟨congrArg Host.Outcome.next (hput ..), congrArg Host.Outcome.next (hput ..), congrArg Host.Outcome.next (hput ..)⟩
  · exact ⟨congrArg Host.Outcome.next (State.io_devOnly_refused hreach hdev ..), congrArg Host.Outcome.next (State.io_devOnly_refused hreach hdev ..),
      fun a => congrArg Host.Outcome.next (State.io_devOnly_refused hreach hdev _ _ fun s => s.maintain c _ _)⟩
  · exact congrArg Host.Outcome.next (State.opRun_absent hq hline)
  · obtain ⟨lines, hdrop⟩ := foldl_cacheDrop_touches [l] { s with ca := { s.ca with opq := rest } }
    have hfind := State.cacheFind_cacheDrop { s with ca := { s.ca with opq := rest } } l.line
    refine ⟨_, congrArg Host.Outcome.next (State.opRun_invalidate hq hline hop), hfind, ?_⟩
    rw [List.foldl_cons, List.foldl_nil] at hdrop
    rw [hdrop]
    exact ⟨rfl, rfl, rfl⟩
  · exact ⟨_, congrArg Host.Outcome.next (State.opRun_clean hq hline hop hdirty hroom), State.foldFirst_head .., rfl, rfl, rfl, rfl⟩
  · obtain ⟨lines, synced, hends⟩ := s.cleansEnd_touches
    exact ⟨_, rfl, by rw [hends], by rw [hends], fun hnil => State.cleansEnd_of_nil hnil⟩
  · rw [exec_rangeStart hreach hdev, State.rangeStart, if_pos (State.rangeStart_accepted hop hbusy hrange)]
    exact ⟨_, rfl, rfl, rfl, rfl, rfl⟩
  · rw [exec_rangeStart hreach hdev, State.rangeStart_refused (if_pos (.inl hop)) (by decide)]
  · have hcause : s.rangeCause = 2 := (if_neg fun h => h.elim hop fun h => absurd hall (ne_true_of_eq_false h.2)).trans (if_pos hbusy)
    rw [exec_rangeStart hreach hdev, State.rangeStart_refused hcause (by decide)]
  · rw [exec_rangeAbort hreach hdev, State.rangeStop, if_pos hbusy]
    exact ⟨_, rfl, rfl, rfl, rfl, rfl⟩
  · have hexec : exec .rangeComplete s = .next s.rangeWalk := by
      show execRangeComplete s = _
      unfold execRangeComplete
      rw [if_neg (ne_false_of_eq_true hbusy), hwait]
    rw [hexec, State.rangeWalk_empties hop hall]
    refine ⟨_, rfl, rfl, rfl, rfl, fun hen => ?_, rfl, rfl⟩
    exact if_pos ⟨hall, .inl ⟨hen, hop⟩⟩
  · have hio := fun i f => State.io_of_reaches hreach i f
    obtain ⟨hadd, spa, hspa⟩ := State.spadRead_spadAlias hw halign hend hpart hres hbad fun x => x + v
    obtain ⟨hswap, sps, hsps⟩ := State.spadRead_spadAlias hw halign hend hpart hres hbad fun _ => v
    refine ⟨⟨_, congrArg Host.Outcome.next (hio ..), hadd, by rw [hspa], by rw [hspa]⟩,
      ⟨_, congrArg Host.Outcome.next (hio ..), hswap, by rw [hsps], by rw [hsps]⟩, fun n hn => ?_⟩
    subst hn
    have hatomic := State.atomic_stores hw halign hend hbad
    exact ⟨⟨_, congrArg Host.Outcome.next ((hio ..).trans (hatomic _)), hadd, by rw [hspa]; rfl⟩,
      ⟨_, congrArg Host.Outcome.next ((hio ..).trans (hatomic _)), hswap, by rw [hsps]; rfl⟩⟩

end Sys2Proof.Machine
end

section
/-! PROOFS. The statement about notifications (12_notifications_events_counters.md R290 to R299): a delivery to a full ring counts event 0x012, and
the counter's wrap queues a record of source 0x040. -/

namespace Sys2Proof.Machine

/-- The record that waits for delivery to LD 0. -/
def waitingRec : NRec := ⟨5, 3, 1, false, 1, 0⟩

/-- LD 0's ring is full, and the counter of its drops is about to wrap and fires source 0x040 when it does. -/
def aboutToWrap : State := { State.reset with
  nt := { Nt.init with fill := [waitingRec], q := (Vector.replicate 16 Ring.init).set 0 { Ring.init with en := true, prod := 1023 } }
  pm := { Pm.init with en := true, ovfen := 1, cfg := (Vector.replicate 64 0).set 0 0x1012, cnt := .replicate 64 (BitVec.allOnes 48) } }

/-- The delivery leaves a record of source 0x040 in the filling bank. -/
theorem deliver_aboutToWrap : ∃ t, exec (.notifDeliver none) aboutToWrap = .next t ∧ t.nt.fill.map (fun r => r.source) = [0x40] :=
  ⟨aboutToWrap.deliverNext, rfl, by decide +kernel⟩

/-- Refutes O55: the record of a full ring's drop can enter the filling bank at the delivery, which the statement says is empty afterwards. -/
theorem not_sourcesAreClaimedAndDelivered : ¬ Obligations.SourcesAreClaimedAndDelivered := by
  unfold Obligations.SourcesAreClaimedAndDelivered
  intro h
  obtain ⟨_, _, hdeliver, _⟩ := h aboutToWrap 0
  obtain ⟨t, hexec, _, _, hfill, _⟩ := hdeliver waitingRec 0 rfl rfl rfl (by decide) rfl rfl
  obtain ⟨u, hexec', hsource⟩ := deliver_aboutToWrap
  rw [hexec] at hexec'
  cases hexec'
  rw [hfill] at hsource
  cases hsource

end Sys2Proof.Machine
end

section
/-! PROOFS. The statement about attestation (14_security_and_lifecycle.md R347, R348): a request that comes in its turn is answered by its own reply,
one out of turn by an ERROR; a session command is guarded in the same way by the session's phase. -/

namespace Sys2Proof.Machine

variable {s : State} {via : Inst} {need : SpdmPhase} {f : State → State} {k : Fin 4} {at' : SpdmSess}

/-- A request in its turn. -/
theorem State.spdm_inTurn (hf : s.fwUp = true) (h : s.phase via = need) : s.spdm via need f = f s := by
  simp [State.spdm, State.spdmUp, hf, h]

/-- A request out of turn. -/
theorem State.spdm_outOfTurn (hf : s.fwUp = true) (h : s.phase via ≠ need) :
    s.spdm via need f = s.emit (.spdm via 0x7F (.fields [("error", 4)])) := by
  simp [State.spdm, State.spdmUp, hf, h, State.spdmError, State.spdmSay, spdmUnexpected]

/-- A session command in the phase it needs. -/
theorem State.spdmIn_at (hf : s.fwUp = true) (h : s.sec.spdm[k] = at') (hne : at' ≠ .free) : s.spdmIn via k at' f = f s := by
  simp only [State.spdmIn, State.spdmUp, hf, h, if_true, if_neg hne, Bool.true_eq_false, if_false]

/-- A session command in a free session. -/
theorem State.spdmIn_free (hf : s.fwUp = true) (h : s.sec.spdm[k] = .free) :
    s.spdmIn via k at' f = s.emit (.spdm via 0x7F (.fields [("error", 2)])) := by
  simp only [State.spdmIn, State.spdmUp, hf, h, if_true, Bool.true_eq_false, if_false]
  rfl

/-- An IDE key command in an established session, for a port the device has. -/
theorem State.ideKm_established {p : Fin 2} (hf : s.fwUp = true) (h : s.sec.spdm[k] = .established) (hp : s.portThere p = true) :
    s.ideKm k p f = f s := by
  rw [State.ideKm, State.spdmIn_at hf h (by decide), if_pos hp]

/-- The running image's version and security version stand in the measurements. -/
theorem codeBlock_mem {o : Option Image} {i : Image} (h : o = some i) :
    ("version", i.version.toNat) ∈ codeBlock o ∧ ("svn", i.svn) ∈ codeBlock o := by
  subst h
  simp [codeBlock]

/-- A key exchange takes a free session, if there is one. -/
theorem exec_spdmKeyExchange (hf : s.fwUp = true) (hp : s.phase via = .algorithms) :
    ((∀ k : Fin 4, s.sec.spdm[k] ≠ .free) →
      exec (.spdmKeyExchange via) s = .next (s.emit (.spdm via 0x7F (.fields [("error", 0x0A)])))) ∧
    ((∃ k : Fin 4, s.sec.spdm[k] = .free) → ∃ (t : State) (k : Fin 4), exec (.spdmKeyExchange via) s = .next t ∧ s.sec.spdm[k] = .free ∧
      t.sec = { s.sec with spdm := s.sec.spdm.set k .handshake } ∧ t.wp = s.wp ∧ t.cr = s.cr ∧ t.lds = s.lds) := by
  have hexec : exec (.spdmKeyExchange via) s = .next _ := congrArg Host.Outcome.next (State.spdm_inTurn hf hp)
  cases hfind : (allFin 4).find? (fun k => s.sec.spdm[k] = .free) with
  | none =>
    have hnone : ∀ k : Fin 4, s.sec.spdm[k] ≠ .free := fun k hk => by
      have := List.find?_eq_none.mp hfind k (List.mem_finRange k)
      exact this (decide_eq_true hk)
    refine ⟨fun _ => hexec.trans ?_, fun ⟨k, hk⟩ => absurd hk (hnone k)⟩
    simp only [hfind]
    rfl
  | some k =>
    have hk : s.sec.spdm[k] = .free := of_decide_eq_true (List.find?_some hfind :)
    refine ⟨fun h => absurd hk (h k), fun _ => ⟨_, k, hexec, hk, ?_⟩⟩
    simp only [hfind]
    exact ⟨rfl, rfl, rfl, rfl⟩

/-- The IDE key commands in an established session. -/
theorem exec_ideKm {p : Fin 2} (hf : s.fwUp = true) (h : s.sec.spdm[k] = .established) (hp : s.portThere p = true) :
    (∀ (tx : Bool) (key : Key), ∃ t : State, exec (.ideKmKeyProg k p tx key) s = .next t ∧ (t.lk.ports[p]).ide.tx = (s.lk.ports[p]).ide.tx ∧
      (t.lk.ports[p]).ide.rx = (s.lk.ports[p]).ide.rx ∧ (if tx = true then (t.lk.ports[p]).ide.pendTx else (t.lk.ports[p]).ide.pendRx) = some key ∧
      t.wp = s.wp ∧ t.cr = s.cr ∧ t.sec = s.sec) ∧
    (∃ t : State, exec (.ideKmKSetGo k p) s = .next t ∧ t.wp = s.wp ∧ t.cr = s.cr ∧ t.sec = s.sec ∧
      ∀ a b, (s.lk.ports[p]).ide.pendTx = some a → (s.lk.ports[p]).ide.pendRx = some b → (t.lk.ports[p]).ide.tx = some a ∧
        (t.lk.ports[p]).ide.rx = some b) ∧
    (∃ t : State, exec (.ideKmKSetStop k p) s = .next t ∧ (t.lk.ports[p]).ide.tx = none ∧ (t.lk.ports[p]).ide.rx = none ∧ t.wp = s.wp ∧
      t.cr = s.cr ∧ t.sec = s.sec) := by
  refine ⟨fun tx key => ⟨_, congrArg Host.Outcome.next (State.ideKm_established hf h hp), ?_⟩,
    ⟨_, congrArg Host.Outcome.next (State.ideKm_established hf h hp), ?_⟩,
    ⟨_, congrArg Host.Outcome.next (State.ideKm_established hf h hp), ?_⟩⟩
  · simp only [State.spdmSay, State.emit, Laws.modPort_port]
    cases tx <;> exact ⟨rfl, rfl, rfl, rfl, rfl, rfl⟩
  · by_cases hset : (s.lk.ports[p]).ide.pendTx.isSome ∧ (s.lk.ports[p]).ide.pendRx.isSome
    · simp only [if_pos hset, State.spdmSay, State.emit, Laws.modPort_port]
      exact ⟨rfl, rfl, rfl, fun a b ha hb => ⟨ha, hb⟩⟩
    · simp only [if_neg hset, State.spdmSay, State.emit]
      refine ⟨trivial, trivial, trivial, fun a b ha hb => absurd ⟨?_, ?_⟩ hset⟩
      · rw [ha]; rfl
      · rw [hb]; rfl
  · simp only [State.spdmSay, State.emit, Laws.modPort_port]
    exact ⟨trivial, trivial, rfl, rfl, rfl⟩

/-- Settles O52: each command is its reply when the path, or the session, stands where R347 wants it, and the ERROR otherwise. -/
theorem attestationAnswers : Obligations.AttestationAnswers := by
  unfold Obligations.AttestationAnswers
  intro s via hf bad cert
  refine ⟨?version, ?capabilities, ?algorithms, ?inTurn, ?outOfTurn, exec_spdmKeyExchange hf, ?sessions⟩
  case version => exact congrArg Host.Outcome.next (if_pos hf)
  case capabilities =>
    split
    · next hp => exact ⟨_, _, congrArg Host.Outcome.next (State.spdm_inTurn hf hp), rfl, fun _ hx => hx⟩
    · next hp => exact congrArg Host.Outcome.next (State.spdm_outOfTurn hf hp)
  case algorithms =>
    split
    · next hp => exact congrArg Host.Outcome.next (State.spdm_inTurn hf hp)
    · next hp => exact congrArg Host.Outcome.next (State.spdm_outOfTurn hf hp)
  case inTurn =>
    intro hp
    refine ⟨congrArg Host.Outcome.next (State.spdm_inTurn hf hp), congrArg Host.Outcome.next (State.spdm_inTurn hf hp),
      fun nonce => ⟨_, _, congrArg Host.Outcome.next (State.spdm_inTurn hf hp), rfl, ?_, ?_, ?_⟩,
      fun nonce => ⟨_, _, congrArg Host.Outcome.next (State.spdm_inTurn hf hp), rfl, ?_, ?_, ?_, ?_, ?_, ?_, fun i hi => ?_⟩⟩
    case refine_10 =>
      obtain ⟨hversion, hsvn⟩ := codeBlock_mem hi
      simp only [State.measurements, List.mem_append]
      exact ⟨.inl (.inl (.inr hversion)), .inl (.inl (.inr hsvn))⟩
    all_goals simp [State.measurements, cert]
  case outOfTurn =>
    intro hp
    exact ⟨congrArg Host.Outcome.next (State.spdm_outOfTurn hf hp), congrArg Host.Outcome.next (State.spdm_outOfTurn hf hp),
      congrArg Host.Outcome.next (State.spdm_outOfTurn hf hp), fun nonce => ⟨congrArg Host.Outcome.next (State.spdm_outOfTurn hf hp),
        congrArg Host.Outcome.next (State.spdm_outOfTurn hf hp)⟩⟩
  case sessions =>
    intro k
    refine ⟨fun h => congrArg Host.Outcome.next (State.spdmIn_at hf h (by decide)), fun h => ⟨?_, ?_, ?_, fun p => exec_ideKm hf h⟩, fun h => ?_⟩
    · exact congrArg Host.Outcome.next (State.spdmIn_at hf h (by decide))
    · exact congrArg Host.Outcome.next (State.spdmIn_at hf h (by decide))
    · exact congrArg Host.Outcome.next (State.spdmIn_at hf h (by decide))
    · exact ⟨congrArg Host.Outcome.next (State.spdmIn_free hf h), congrArg Host.Outcome.next (State.spdmIn_free hf h),
        congrArg Host.Outcome.next (State.spdmIn_free hf h), congrArg Host.Outcome.next (State.spdmIn_free hf h)⟩

end Sys2Proof.Machine
end

section
/-! PROOFS. What the numbering and the placing of an entry, and the close of a group, leave of the security state and of the output
(03_write_path.md R46, R54; 07_commit_groups.md R169). -/

namespace Sys2Proof.Machine
open Sys2Proof.Laws

/-! ### An entry numbered and placed -/

/-- The security state without the sequence epoch. -/
def State.seqKept (s : State) : Sec := { s.sec with seqEpoch := 0 }

section
variable (s : State)

theorem State.nextSeq_seqKept : s.nextSeq.2.seqKept = s.seqKept := by
  unfold State.nextSeq
  dsimp only
  split <;> rfl

theorem State.pick_seqKept {α : Type} (l : List α) : (s.pick l).2.seqKept = s.seqKept := by
  unfold State.pick
  split
  · rfl
  · rfl
  · rfl

theorem State.putMark_seqKept (p : Place) (base : Nat) : (s.putMark p base).seqKept = s.seqKept := s.nextSeq_seqKept

theorem State.openPair_seqKept (k : Fin 4) (running : Bool) (seq : Nat) : (s.openPair k running seq).seqKept = s.seqKept := by
  unfold State.openPair
  extract_lets room bare
  have hfirst := s.pick_seqKept (if bare.isEmpty then room else bare)
  generalize s.pick (if bare.isEmpty then room else bare) = picked at hfirst ⊢
  obtain ⟨_ | a, u⟩ := picked
  · exact hfirst
  · dsimp only at hfirst ⊢
    generalize (if (bare.filter fun p => p ≠ a).isEmpty then room.filter fun p => p ≠ a else bare.filter fun p => p ≠ a) = rest
    have hsecond := (u.pick_seqKept rest).trans hfirst
    generalize u.pick rest = picked at hsecond ⊢
    obtain ⟨b, v⟩ := picked
    dsimp only at hsecond ⊢
    split
    · exact (State.putMark_seqKept ..).trans hsecond
    · exact hsecond

theorem State.openPairsUpTo_seqKept (k : Fin 4) (seq n : Nat) : (s.openPairsUpTo k seq n).seqKept = s.seqKept := by
  induction n generalizing s with
  | zero => rfl
  | succ n ih =>
    unfold State.openPairsUpTo
    split
    · exact (ih _).trans (s.openPair_seqKept k false seq)
    · rfl

theorem State.takeSlot_seqKept (p : Pair) (seq : Nat) : (s.takeSlot p seq).2.seqKept = s.seqKept := by
  unfold State.takeSlot
  extract_lets slot base p' _ filled
  dsimp only
  split
  · exact filled.putMark_seqKept _ _
  · rfl

theorem State.slotOf_seqKept (k : Fin 4) (running : Bool) (seq : Nat) (ok : Pair → Bool) : (s.slotOf k running seq ok).2.seqKept = s.seqKept := by
  unfold State.slotOf
  extract_lets can least
  have hpick := s.pick_seqKept (can.filter fun p => s.pairBusy p = least)
  generalize s.pick (can.filter fun p => s.pairBusy p = least) = found at hpick ⊢
  obtain ⟨_ | p, u⟩ := found
  · exact hpick
  · exact (u.takeSlot_seqKept p seq).trans hpick

theorem State.allocSlot_seqKept (k : Fin 4) (seq : Nat) (ok : Pair → Bool) : (s.allocSlot k seq ok).2.seqKept = s.seqKept :=
  (State.slotOf_seqKept ..).trans (State.openPairsUpTo_seqKept ..)

theorem State.allocRun_seqKept (k : Fin 4) (seq : Nat) : (s.allocRun k seq).2.seqKept = s.seqKept := by
  unfold State.allocRun
  extract_lets closed
  split
  · exact (State.slotOf_seqKept ..).trans (closed.openPair_seqKept k true seq)
  · exact State.slotOf_seqKept ..

theorem State.allocFirst_seqKept (run : Bool) (seq : Nat) (ks : List (Fin 4)) : (s.allocFirst run seq ks).2.seqKept = s.seqKept := by
  induction ks generalizing s with
  | nil => rfl
  | cons k ks ih =>
    have htry : (if run then s.allocRun k seq else s.allocSlot k seq fun _ => true).2.seqKept = s.seqKept := by
      split
      · exact State.allocRun_seqKept ..
      · exact State.allocSlot_seqKept ..
    unfold State.allocFirst
    generalize (if run then s.allocRun k seq else s.allocSlot k seq fun _ => true) = found at htry ⊢
    obtain ⟨_ | p, u⟩ := found
    · exact (ih u).trans htry
    · exact htry

theorem State.allocMeta_seqKept (seq : Nat) (runOnly : Bool) : (s.allocMeta seq runOnly).2.seqKept = s.seqKept := by
  unfold State.allocMeta
  split
  · exact State.allocFirst_seqKept ..
  · have hhost := s.allocFirst_seqKept false seq s.setList
    generalize s.allocFirst false seq s.setList = found at hhost ⊢
    obtain ⟨_ | p, u⟩ := found
    · exact (State.allocFirst_seqKept ..).trans hhost
    · exact hhost

end

/-! ### Groups close -/

/-- The security state stays but for the sequence epoch, and what has left the device stays sent. -/
def State.SendsOn (s t : State) : Prop := t.seqKept = s.seqKept ∧ s.out <:+ t.out

section
variable {s t u : State}

theorem State.SendsOn.refl (s : State) : s.SendsOn s := ⟨rfl, List.suffix_rfl⟩

theorem State.SendsOn.trans (h : s.SendsOn t) (h' : t.SendsOn u) : s.SendsOn u := ⟨h'.1.trans h.1, h.2.trans h'.2⟩

theorem State.SendsOn.of_eq (hsec : t.seqKept = s.seqKept) (hout : t.out = s.out) : s.SendsOn t := ⟨hsec, hout ▸ List.suffix_rfl⟩

theorem State.sendsOn_foldl {α : Type} {f : State → α → State} (hf : ∀ (s : State) x, s.SendsOn (f s x)) (l : List α) (s : State) :
    s.SendsOn (l.foldl f s) := by
  induction l generalizing s with
  | nil => exact .refl s
  | cons x l ih => exact (hf s x).trans (ih _)

theorem State.kill_sendsOn (s : State) (p : Place) : s.SendsOn (s.kill p) := by
  unfold State.kill State.modEntry
  split
  · exact .of_eq rfl rfl
  · exact .of_eq rfl rfl

theorem State.tetherSend_sendsOn (s : State) (k : Fin 8) (m : LodeMsg) : s.SendsOn (s.tetherSend k m) := by
  refine ⟨?_, s.tetherSend_keeps_out k m⟩
  unfold State.tetherSend
  split
  · rfl
  · rfl

theorem State.lodeSend_sendsOn (s : State) (p : Fin 4) (k : Fin 8) (m : LodeMsg) : s.SendsOn (s.lodeSend p k m) := ⟨rfl, List.suffix_cons ..⟩

theorem State.dropTents_sendsOn (s : State) (n : Fin 16) (w : Fin 64) : s.SendsOn (s.dropTents n w) :=
  State.SendsOn.trans (State.sendsOn_foldl (fun u (x : TentRec) => u.kill_sendsOn x.place) _ s) (.of_eq rfl rfl)

theorem State.closeGroup_sendsOn (s : State) (n : Fin 16) (w : Fin 64) (code : Nat) : s.SendsOn (s.closeGroup n w code) := by
  have hdropped := s.dropTents_sendsOn n w
  unfold State.closeGroup
  extract_lets dropped
  have hnumbered := hdropped.trans (.of_eq dropped.nextSeq_seqKept dropped.nextSeq_allocs.out)
  generalize dropped.nextSeq = numbered at hnumbered ⊢
  obtain ⟨q, t⟩ := numbered
  have hplaced := hnumbered.trans (.of_eq (t.allocMeta_seqKept q false) (t.allocMeta_allocs q false).out)
  dsimp only at hplaced ⊢
  generalize t.allocMeta q false = placed at hplaced ⊢
  obtain ⟨p, u⟩ := placed
  split
  · exact hplaced.trans (State.tetherSend_sendsOn ..)
  · exact hplaced

theorem State.closeAll_sendsOn (s : State) (n : Fin 16) (code : Nat) : s.SendsOn (s.closeAll n code) := by
  refine State.sendsOn_foldl (fun t w => ?_) _ s
  split
  · exact t.closeGroup_sendsOn n w code
  · exact .refl t

theorem State.stopAdmission_sendsOn (s : State) : s.SendsOn s.stopAdmission := by
  unfold State.stopAdmission
  split
  · extract_lets reported
    exact State.SendsOn.trans (t := reported.scrubsStop) (.of_eq rfl rfl) (State.sendsOn_foldl (fun t n => t.closeAll_sendsOn n 6) _ _)
  · exact .refl s

end
end Sys2Proof.Machine
end

section
/-! PROOFS. The statement about firmware and the life cycle (14_security_and_lifecycle.md R336, R337, R349, R350; 15_lode_links_and_pools.md R373,
R374). -/

namespace Sys2Proof.Machine
open Sys2Proof.Laws

/-! ### Levels sent on the lode ports (R372) -/

section
variable (s : State)

theorem foldl_lodeSend_touches (m : State → LodeMsg) (l : List (Fin 4)) (s : State) :
    ∃ lo out, l.foldl (fun (s : State) p => s.lodeSend p 0 (m s)) s = { s with lo := lo, out := out } := by
  induction l generalizing s with
  | nil => exact ⟨s.lo, s.out, rfl⟩
  | cons p l ih =>
    obtain ⟨lo, out, h⟩ := ih (s.lodeSend p 0 (m s))
    exact ⟨lo, out, h⟩

theorem State.levelSend_touches : ∃ lo out, s.levelSend = { s with lo := lo, out := out } := foldl_lodeSend_touches (fun s => .level s.levelTable) _ s

theorem State.levelSend_mb : s.levelSend.mb = s.mb := by
  obtain ⟨_, _, h⟩ := s.levelSend_touches
  rw [h]

theorem State.levelSend_sec : s.levelSend.sec = s.sec := by
  obtain ⟨_, _, h⟩ := s.levelSend_touches
  rw [h]

theorem State.relevel_touches : ∃ lo out, s.relevel = { s with lo := lo, out := out } := by
  unfold State.relevel
  extract_lets n
  split
  · exact ⟨s.lo, s.out, rfl⟩
  · obtain ⟨lo, out, h⟩ := foldl_lodeSend_touches (fun _ => .switch n) _ { s with lo := { s.lo with proto := n } }
    exact ⟨lo, out, h⟩

theorem State.relevel_mb : s.relevel.mb = s.mb := by
  obtain ⟨_, _, h⟩ := s.relevel_touches
  rw [h]

theorem State.relevel_sec : s.relevel.sec = s.sec := by
  obtain ⟨_, _, h⟩ := s.relevel_touches
  rw [h]

theorem State.lowerProto_touches (n : Nat) : ∃ lo out, s.lowerProto n = { s with lo := lo, out := out } := by
  unfold State.lowerProto
  split
  · obtain ⟨lo, out, h⟩ := foldl_lodeSend_touches (fun _ => .switch n) _ { s with lo := { s.lo with proto := n } }
    exact ⟨lo, out, h⟩
  · exact ⟨s.lo, s.out, rfl⟩

end

/-! ### Activation (R374) -/

section
variable {s : State} {r : Req} {i : Inst} {b : Bool}

/-- The activated image runs and is preferred; the mailboxes stay as they were. -/
theorem State.activated_runs (s : State) (b : Bool) : (s.activated b).sec.runningB = b ∧ (s.activated b).sec.runImg = s.sec.img b ∧
    (s.activated b).sec.prefB = b ∧ (s.activated b).mb = s.mb := by
  unfold State.activated
  extract_lets _ started levelled v recorded
  have hstarted : started.sec.runningB = b ∧ started.sec.runImg = s.sec.img b ∧ started.sec.prefB = b ∧ started.mb = s.mb := ⟨rfl, rfl, rfl, rfl⟩
  clear_value started
  have hlevelled : levelled.sec = started.sec ∧ levelled.mb = started.mb := by
    unfold levelled
    rw [State.relevel_sec, State.relevel_mb, State.levelSend_sec, State.levelSend_mb]
    exact ⟨rfl, rfl⟩
  clear_value levelled
  have hkept : (recorded.raise 0x37 0 0).secKept = levelled.secKept := (recorded.raise_secKept ..).trans (levelled.event_secKept ..)
  have hmb : (recorded.raise 0x37 0 0).mb = levelled.mb := (State.raise_keeps State.mb ..).trans (levelled.event_mb ..)
  generalize recorded.raise 0x37 0 0 = raised at hkept hmb ⊢
  have hrunning : raised.sec.runningB = levelled.sec.runningB := (congrArg Sec.runningB hkept :)
  have himage : raised.sec.runImg = levelled.sec.runImg := (congrArg Sec.runImg hkept :)
  have hpref : raised.sec.prefB = levelled.sec.prefB := (congrArg Sec.prefB hkept :)
  rw [hrunning, himage, hpref, hmb, hlevelled.1, hlevelled.2]
  exact hstarted

/-- Whether the new code started or not, mailbox service is back and the request has its answer. -/
theorem State.answer_activation {t : State} (a : Ans) (hmb : t.mb = { s.mb with outage := false, activate := none }) :
    (t.answer r 0x0202 a).mb.outage = false ∧ (t.answer r 0x0202 a).mb.activate = none := by
  obtain ⟨_, _, h⟩ := t.answer_mb r 0x0202 a
  rw [h, hmb]
  exact ⟨rfl, rfl⟩

theorem exec_firmwareActivationComplete_started (hactivate : s.mb.activate = some (i, b)) (hdrained : s.drained i = true) : ∃ t : State,
    exec (.firmwareActivationComplete true) s = .next t ∧ t.mb.outage = false ∧ t.mb.activate = none ∧ t.sec.runningB = b ∧
    t.sec.runImg = s.sec.img b ∧ t.sec.prefB = b ∧ .mbx i 0x0202 0x0000 .none ∈ t.out := by
  have hexec : exec (.firmwareActivationComplete true) s = .next
      (({ s with mb := { s.mb with outage := false, activate := none } }.activated b).answer ⟨i, 2⟩ 0x0202 okAns) := by
    show execFirmwareActivationComplete true s = _
    simp only [execFirmwareActivationComplete, hactivate, hdrained, if_true]
  obtain ⟨hrunning, himage, hpref, hmb⟩ := State.activated_runs { s with mb := { s.mb with outage := false, activate := none } } b
  obtain ⟨houtage, hactive⟩ := State.answer_activation (r := ⟨i, 2⟩) okAns hmb
  exact ⟨_, hexec, houtage, hactive, by rw [State.answer_sec, hrunning], by rw [State.answer_sec, himage], by rw [State.answer_sec, hpref],
    State.answer_emits _ ⟨i, 2⟩ _ okAns⟩

theorem exec_firmwareActivationComplete_failed (hactivate : s.mb.activate = some (i, b)) (hdrained : s.drained i = true) : ∃ t : State,
    exec (.firmwareActivationComplete false) s = .next t ∧ t.mb.outage = false ∧ t.mb.activate = none ∧ t.sec.runImg = s.sec.runImg ∧
    .mbx i 0x0202 0x000C .none ∈ t.out := by
  have hexec : exec (.firmwareActivationComplete false) s = .next
      (({ s with mb := { s.mb with outage := false, activate := none } }.relevel).answer ⟨i, 2⟩ 0x0202 fwRolledBack) := by
    show execFirmwareActivationComplete false s = _
    simp only [execFirmwareActivationComplete, hactivate, hdrained, if_true, Bool.false_eq_true, if_false]
  obtain ⟨houtage, hactive⟩ := State.answer_activation (s := s) (r := ⟨i, 2⟩) fwRolledBack
    (State.relevel_mb { s with mb := { s.mb with outage := false, activate := none } })
  exact ⟨_, hexec, houtage, hactive, by rw [State.answer_sec, State.relevel_sec], State.answer_emits _ ⟨i, 2⟩ _ fwRolledBack⟩

theorem exec_activateFw {img : Image} (h : s.Taken r 0x0202 (some 2)) (htransfer : s.mb.transfer = none) (hrom : s.sec.romOnly = false)
    (himage : s.sec.img b = some img) (hcheck : s.sec.imageCheck (some img) = 0) (hformat : s.kp.formatLevel ≤ img.fmtLvl) : ∃ t : State,
    exec (.activateFw r 0 (if b = true then 2 else 1)) s = .next t ∧ t.mb.outage = true ∧ t.mb.activate = some (r.inst, b) ∧
    ∀ j : Fin 18, t.mb.inst[j].session = none := by
  have hexec : exec (.activateFw r 0 (if b = true then 2 else 1)) s = .next (s.activateBegin r.inst b img) := by
    refine congrArg Host.Outcome.next (State.mbxLater_later rfl h ?_)
    have hslot : ((if b = true then 2 else 1) == 2) = b := by cases b <;> rfl
    have hlisted : ¬((if b = true then 2 else 1) ≠ 1 ∧ (if b = true then 2 else 1) ≠ 2) := by cases b <;> decide
    have hgood : ¬(s.sec.imageCheck (some img) ≠ 0 ∨ img.fmtLvl < s.kp.formatLevel) := by omega
    simp only [hslot, htransfer, hrom, himage, Option.isSome_none, Bool.false_eq_true, if_false, if_neg hlisted, if_neg hgood, ne_eq,
      not_true_eq_false]
  obtain ⟨lo, out, hlower⟩ := State.lowerProto_touches
    ({ s with mb := { s.mb with outage := true, activate := some (r.inst, b) } }.endSessions) img.proto
  refine ⟨_, hexec, ?_⟩
  unfold State.activateBegin
  rw [hlower]
  refine ⟨rfl, rfl, fun j => ?_⟩
  simp only [State.endSessions, Fin.getElem_fin, Vector.getElem_map]

end

/-! ### The life cycle (R349, R350) -/

section
variable {s : State} {r : Req} {n : Nat}

/-- A running device with an accepted transition: it is pending, and the orderly power-down has begun. -/
theorem State.lcBegin_begins (s : State) (x : LifeCycle) (hrun : s.pw.st = .running) : (s.lcBegin x).sec.pendingLC = some x ∧
    (s.lcBegin x).pw.st = .poweringDown ∧ (s.lcBegin x).pw.latched = .restart ∧ s.out <:+ (s.lcBegin x).out := by
  unfold State.lcBegin
  generalize hpending : ({ s with sec := { s.sec with pendingLC := some x } }.save 34).endSessions = t
  have hrun' : t.pw.st = .running := by rw [← hpending]; exact hrun
  have hsec : t.sec.pendingLC = some x := by rw [← hpending]; rfl
  have hout : t.out = s.out := by rw [← hpending]; rfl
  obtain ⟨hkept, hsent⟩ := t.stopAdmission_sendsOn
  unfold State.powerRestart
  rw [hrun']
  exact ⟨(congrArg Sec.pendingLC hkept).trans hsec, rfl, rfl, hout ▸ hsent⟩

theorem exec_setLifeCycleState (h : s.Taken r 0xC801 (some 1)) (hn : n ≤ 4) (hpending : s.sec.pendingLC = none) :
    (s.pw.st = .running → lcStep s.sec.lc (lcOf n) = true → (lcOf n = .provisioned → (s.session r.inst).any (fun x => x.slot ≠ 0) = false) →
      ∃ t : State, exec (.setLifeCycleState r n) s = .next t ∧ t.sec.pendingLC = some (lcOf n) ∧ t.pw.st = .poweringDown ∧
        t.pw.latched = .restart ∧ .mbx r.inst 0xC801 0x0000 .none ∈ t.out) ∧
    (lcStep s.sec.lc (lcOf n) = false → exec (.setLifeCycleState r n) s = .next (s.answer r 0xC801 ⟨0x0002, 0x0004, 0, .none⟩)) := by
  have hrange : ¬4 < n := by omega
  refine ⟨fun hrun hlisted hsession => ?_, fun hunlisted => ?_⟩
  · have hslot : ¬(lcOf n = .provisioned ∧ (s.session r.inst).any (fun x => x.slot ≠ 0)) := fun ⟨hto, hany⟩ => by
      rw [hsession hto] at hany
      exact Bool.false_ne_true hany
    have hexec : exec (.setLifeCycleState r n) s = .next ((s.answer r 0xC801 okAns).lcBegin (lcOf n)) := by
      refine congrArg Host.Outcome.next (State.mbxLater_later rfl h ?_)
      simp only [if_neg hrange, hpending, Option.isSome_none, Bool.false_eq_true, if_false, hlisted, if_neg hslot, Bool.true_eq_false]
    obtain ⟨_, _, _, hanswer⟩ := State.answer_touches s r 0xC801 okAns
    obtain ⟨htarget, hdown, hlatched, hout⟩ := State.lcBegin_begins (s.answer r 0xC801 okAns) (lcOf n) (by rw [hanswer]; exact hrun)
    exact ⟨_, hexec, htarget, hdown, hlatched, hout.subset (State.answer_emits s r 0xC801 okAns)⟩
  · refine congrArg Host.Outcome.next (State.mbxLater_answers rfl h ?_)
    simp only [if_neg hrange, hpending, Option.isSome_none, Bool.false_eq_true, if_false, hunlisted, if_true]
    rfl

end

/-! ### The anti-rollback counter and the boot ROM (R336, R337) -/

/-- The fuse bits of the key indexes below one. -/
def lowKeys (k : Fin 4) : BitVec 4 := (allFin 4).foldl (fun (m : BitVec 4) x => if x.val < k.val then m ||| BitVec.ofNat 4 (2 ^ x.val) else m) 0

theorem lowKeys_getLsbD : ∀ (k j : Fin 4), j.val < k.val → (lowKeys k).getLsbD j.val = true := by
  decide

section
variable {s : State}

theorem exec_antiRollbackRaise {i : Image} {u : Nat} (hat : s.sec.raiseAt = some u) (hrun : s.sec.running = some i)
    (hsvn : s.sec.antiRollback < i.svn) (hready : s.lk.mediaReady = true) :
    ∃ t : State, exec .antiRollbackRaise s = .next t ∧ t.sec.antiRollback = i.svn ∧
    ∀ k : Fin 4, k.val < i.keyIndex.val → t.sec.revoked.getLsbD k.val = true := by
  have hsvn' : (s.advance u).sec.antiRollback < i.svn := hsvn
  have hexec : exec .antiRollbackRaise s = .next (({ s.advance u with
      sec := { s.sec with raiseAt := none, antiRollback := i.svn, revoked := s.sec.revoked ||| lowKeys i.keyIndex } }).saveCounter 1) := by
    show execAntiRollbackRaise s = _
    unfold execAntiRollbackRaise
    simp only [hat, hrun, hready, if_true]
    exact if_pos hsvn'
  refine ⟨_, hexec, rfl, fun k hk => ?_⟩
  show (s.sec.revoked ||| lowKeys i.keyIndex).getLsbD k.val = true
  rw [BitVec.getLsbD_or, lowKeys_getLsbD i.keyIndex k hk, Bool.or_true]

/-- The firmware starts from the image it was told. -/
theorem State.fwStart_runs (s : State) (b : Bool) : (s.fwStart b).sec.runningB = b ∧ (s.fwStart b).sec.runImg = s.sec.img b ∧
    (s.fwStart b).bt.phase = .dieUp := by
  unfold State.fwStart
  dsimp only [State.newKey, State.draw]
  refine ⟨(foldl_keeps (fun t : State => t.sec.runningB) (fun t p => ?_) _ _).trans rfl,
    (foldl_keeps (fun t : State => t.sec.runImg) (fun t p => ?_) _ _).trans rfl,
    (foldl_keeps (fun t : State => t.bt.phase) (fun t p => ?_) _ _).trans rfl⟩
  all_goals split <;> rfl

theorem exec_bootRomImageCheck (hup : s.pw.dieUp = true) (hphase : s.bt.phase = .off) (hrom : s.sec.romOnly = false)
    (hcheck : s.sec.imageCheck (s.sec.img s.sec.prefB) = 0) : ∃ t : State, exec .bootRomImageCheck s = .next t ∧
    t.sec.runningB = s.sec.prefB ∧ t.sec.runImg = s.sec.img s.sec.prefB ∧ t.bt.phase = .dieUp := by
  have hexec : exec .bootRomImageCheck s = .next (({ s with sec := { s.sec with refA := 0, refB := 0 } } : State).fwStart s.sec.prefB) := by
    show execBootRomImageCheck s = _
    unfold execBootRomImageCheck
    simp only [hup, hphase, hrom, hcheck, and_self, if_true, ite_self]
  obtain ⟨hrunning, himage, hdone⟩ := State.fwStart_runs ({ s with sec := { s.sec with refA := 0, refB := 0 } } : State) s.sec.prefB
  exact ⟨_, hexec, hrunning, himage, hdone⟩

end

/-- Settles O34: each command's next state, from what an activation, a power-down and a start leave. -/
theorem firmwareAndLifeCycleMove : Obligations.FirmwareAndLifeCycleMove := by
  unfold Obligations.FirmwareAndLifeCycleMove
  intro s r
  refine ⟨?transfer, ?preference, fun b i h => exec_activateFw h, fun i b => exec_firmwareActivationComplete_started,
    fun i b => exec_firmwareActivationComplete_failed, fun n h => exec_setLifeCycleState h, fun i u => exec_antiRollbackRaise, exec_bootRomImageCheck⟩
  case transfer =>
    intro slot i h hnone hslot
    have hlisted : ¬(slot ≠ 1 ∧ slot ≠ 2) := by omega
    have hstore : s.storeImage slot i = if i.fmtLvl < s.kp.formatLevel then (fwVerification, s) else (okAns, s.putImage slot i) := if_neg hlisted
    split
    · next hlow => exact congrArg Host.Outcome.next (State.mbx_answers rfl h (by simp only [hnone, hstore, if_pos hlow]; rfl))
    · next hlow => exact congrArg Host.Outcome.next (State.mbx_answers rfl h (by simp only [hnone, hstore, if_neg hlow]; rfl))
  case preference =>
    intro n h hn
    exact congrArg Host.Outcome.next (State.mbx_answers rfl h (if_neg (by omega)))

end Sys2Proof.Machine
end

section
/-! PROOFS. The statement about tamper inputs, the seal of the roots, and the keys of a port's stream and of a lode port
(14_security_and_lifecycle.md R340, R352 to R355; 08_inline_encryption.md R199, R213, R214). -/

namespace Sys2Proof.Machine
open Sys2Proof.Laws

/-! ### An event leaves the keeper's last record of a session -/

section
variable (s : State)

theorem State.evBlock_endRec : s.evBlock.kp.endRec = s.kp.endRec := by
  unfold State.evBlock
  split <;> rfl

theorem State.logRepeat_endRec : s.logRepeat.kp.endRec = s.kp.endRec := by
  unfold State.logRepeat
  split
  · split <;> rfl
  · rfl

theorem State.logAppend_endRec (r : EventRec) : (s.logAppend r).kp.endRec = s.kp.endRec := by
  unfold State.logAppend
  extract_lets filled _ first _ marked _ spent
  have hfirst : first.kp.endRec = s.kp.endRec := by unfold first; split <;> rfl
  have hspent : spent.kp.endRec = first.kp.endRec := by unfold spent; split <;> rfl
  split
  · exact hfirst
  · exact hspent.trans hfirst

theorem State.pmCount_endRec (ev : Nat) (g : PmTag) : (s.pmCount ev g).kp.endRec = s.kp.endRec := by
  obtain ⟨_, _, h⟩ := s.pmCount_touches ev g
  rw [h]

theorem State.forward_endRec (e : EventRec) : (s.forward e).kp.endRec = s.kp.endRec := by
  obtain ⟨_, _, h⟩ := s.forward_touches e
  rw [h]

theorem State.raise_endRec (n : Fin 256) (e d : Nat) : (s.raise n e d).kp.endRec = s.kp.endRec :=
  State.raise_keeps (fun t => t.kp.endRec) ..

theorem State.keeperEvent_endRec (code sev org p0 p1 p2 p3 : Nat) : (s.keeperEvent code sev org p0 p1 p2 p3).kp.endRec = s.kp.endRec := by
  unfold State.keeperEvent
  split
  · rfl
  · extract_lets opened r counted
    have hcounted : counted.kp.endRec = s.kp.endRec := s.evBlock_endRec
    split
    · exact (counted.logAppend_endRec r).trans hcounted
    · exact hcounted

theorem State.eventStore_endRec (code sev org p0 p1 p2 p3 : Nat) : (s.eventStore code sev org p0 p1 p2 p3).kp.endRec = s.kp.endRec := by
  unfold State.eventStore
  split
  · rfl
  · extract_lets opened supp r counted inserted ringed kept noted fatal
    have hcounted : counted.kp.endRec = s.kp.endRec := (State.evBlock_endRec _).trans s.logRepeat_endRec
    have hringed : ringed.kp.endRec = s.kp.endRec := by
      unfold ringed
      split
      · exact hcounted
      · exact (State.pmCount_endRec ..).trans hcounted
    have hkept : kept.kp.endRec = s.kp.endRec := by
      unfold kept
      split
      · exact (State.logAppend_endRec ..).trans hringed
      · exact hringed
    have hnoted : noted.kp.endRec = s.kp.endRec := by
      unfold noted
      split
      · exact (State.raise_endRec ..).trans hkept
      · exact hkept
    have hfatal : fatal.kp.endRec = s.kp.endRec := by
      unfold fatal
      split
      · exact (State.raise_endRec ..).trans hnoted
      · exact hnoted
    exact (fatal.forward_endRec r).trans hfatal

theorem State.event_endRec (code sev org p0 p1 p2 p3 : Nat) : (s.event code sev org p0 p1 p2 p3).kp.endRec = s.kp.endRec := by
  unfold State.event
  split
  · exact s.keeperEvent_endRec ..
  · split
    · split
      · rfl
      · exact s.eventStore_endRec ..
    · exact s.eventStore_endRec ..

end

/-! ### Power removed leaves the sealed region keys -/

/-- The sealed keys of the regions, and the keeper's last record of a session. -/
def State.sealedSide (s : State) : Vector (SealedKey × SealedKey) 256 × EndRec := (s.cr.regions.map fun x => (x.keyA, x.keyB), s.kp.endRec)

section
variable (s : State)

theorem State.sealedSide_modRegion {k : Fin 256} {f : Region → Region} (hf : ∀ x, ((f x).keyA, (f x).keyB) = (x.keyA, x.keyB)) :
    (s.modRegion k f).sealedSide = s.sealedSide := by
  refine Prod.ext (Vector.ext fun i hi => ?_) rfl
  simp only [State.sealedSide, State.modRegion, vmod, Vector.getElem_map, Vector.getElem_set, Fin.getElem_fin]
  split
  · next h => subst h; exact hf _
  · rfl

theorem State.dropCounters_sealedSide : s.dropCounters.sealedSide = s.sealedSide := by
  refine foldl_keeps State.sealedSide (fun u l => ?_) _ s
  extract_lets b
  split <;> rfl

theorem State.rewindW_sealedSide : s.rewindW.sealedSide = s.sealedSide := by
  refine foldl_keeps State.sealedSide (fun u r => ?_) _ s
  extract_lets x d pages early
  split
  · have hearly : early.sealedSide = u.sealedSide := by
      refine foldl_keeps State.sealedSide (fun v p => ?_) pages u
      rfl
    exact (early.sealedSide_modRegion (fun x => by rfl)).trans hearly
  · rfl

theorem State.releaseFolded_sealedSide : s.releaseFolded.sealedSide = s.sealedSide := by
  refine foldl_keeps State.sealedSide (fun u c => ?_) _ s
  unfold State.modEntry
  split <;> rfl

theorem State.powerOff_sealedSide (st : PowerState) : (s.powerOff st).sealedSide = s.sealedSide := by
  have hsettled : s.dropCounters.rewindW.releaseFolded.sealedSide = s.sealedSide := by
    rw [State.releaseFolded_sealedSide, State.rewindW_sealedSide, State.dropCounters_sealedSide]
  unfold State.powerOff State.dieDown
  generalize s.dropCounters.rewindW.releaseFolded = u at hsettled ⊢
  exact hsettled

theorem State.shutdownRec_endRec (code : Nat) (h : s.kp.endRec = .run) : (s.shutdownRec code).kp.endRec = .shutdown code := by
  unfold State.shutdownRec
  rw [if_pos h]
  rfl

theorem State.shutdownRec_cr (code : Nat) : (s.shutdownRec code).cr = s.cr := by
  unfold State.shutdownRec
  split <;> rfl

theorem State.shutdownRec_pw (code : Nat) : (s.shutdownRec code).pw = s.pw := by
  unfold State.shutdownRec
  split <;> rfl

variable {s}

theorem State.keys_of_sealedSide {t : State} (h : t.sealedSide.1 = s.sealedSide.1) (k : Fin 256) :
    (t.cr.regions[k]).keyA = (s.cr.regions[k]).keyA ∧ (t.cr.regions[k]).keyB = (s.cr.regions[k]).keyB := by
  have hk : (t.cr.regions.map fun x => (x.keyA, x.keyB))[k] = (s.cr.regions.map fun x => (x.keyA, x.keyB))[k] := congrArg (·[k]) h
  simp only [Fin.getElem_fin, Vector.getElem_map, Prod.mk.injEq] at hk
  exact hk

/-- The response of a tamper input (R353): the die is off, the keeper holds, and the sealed keys stand. -/
theorem State.tamperRespond_holds (s : State) : s.tamperRespond.pw.st = .tamperHold ∧ s.tamperRespond.pw.dieUp = false ∧
    s.tamperRespond.pw.dataPath = false ∧ s.tamperRespond.pw.faultRestartAt = none ∧
    (s.kp.endRec = .run → s.tamperRespond.kp.endRec = .shutdown 5) ∧ s.tamperRespond.mb.keeperSess = none ∧
    s.tamperRespond.sealedSide.1 = s.sealedSide.1 := by
  obtain ⟨hst, hdie, hpath, _, _⟩ := s.powerOff_keeperSide .tamperHold
  have hside := s.powerOff_sealedSide .tamperHold
  unfold State.tamperRespond
  generalize s.powerOff .tamperHold = off at hst hdie hpath hside ⊢
  have hpw := off.shutdownRec_pw 5
  have hcr := off.shutdownRec_cr 5
  have hend := off.shutdownRec_endRec 5
  dsimp only
  generalize off.shutdownRec 5 = noted at hpw hcr hend ⊢
  have hoff : off.kp.endRec = s.kp.endRec := congrArg Prod.snd hside
  refine ⟨?_, ?_, ?_, rfl, fun hrun => ?_, rfl, ?_⟩
  · exact (congrArg Pw.st hpw).trans hst
  · exact (congrArg Pw.dieUp hpw).trans hdie
  · exact (congrArg Pw.dataPath hpw).trans hpath
  · exact hend (hoff.trans hrun)
  · show noted.cr.regions.map (fun x => (x.keyA, x.keyB)) = _
    rw [hcr]
    exact congrArg Prod.fst hside

/-- The state with a tamper input's report noted. -/
def State.noteTamper (s : State) (i : Fin 4) : State :=
  { s with sec := { s.sec with tamperActive := s.sec.tamperActive ||| BitVec.ofNat 4 (2 ^ i.val) } }

theorem exec_tamperInputActive_respond {i : Fin 4} (halive : s.pw.alive = true) (hmode : 1 < (s.sec.tamper[i]).mode)
    (hst : s.pw.st ≠ .tamperHold) :
    exec (.tamperInputActive i) s = .next ((s.noteTamper i).event 0x8002 3 oDev i.val 0 0 0).tamperRespond := by
  show execTamperInputActive i s = _
  unfold execTamperInputActive
  have hlive : ¬(s.pw.alive = false ∨ (s.sec.tamper[i]).mode = 0) := by
    rw [halive]
    rintro (h | h)
    · cases h
    · omega
  exact (if_neg hlive).trans ((if_neg (Nat.ne_of_gt hmode)).trans (congrArg Host.Outcome.next (if_neg hst)))

theorem exec_tamperInputActive_report {i : Fin 4} (halive : s.pw.alive = true) (hmode : (s.sec.tamper[i]).mode = 1) :
    exec (.tamperInputActive i) s = .next ((s.noteTamper i).event 0x8002 3 oDev (i.val + 0x100) 0 0 0) := by
  show execTamperInputActive i s = _
  unfold execTamperInputActive
  have hlive : ¬(s.pw.alive = false ∨ (s.sec.tamper[i]).mode = 0) := by rw [halive, hmode]; decide
  exact (if_neg hlive).trans (if_pos hmode)

end

/-! ### The roots sealed (R199) -/

/-- The security state but for the sequence epoch, the host's lines and the map: what writing counter lines leaves. -/
def State.linesSide (s : State) : Sec × Tbl IndexRec × Tbl Entry × Fo := (s.seqKept, s.wp.index, s.wp.entries, s.fo)

section
variable (s : State)

theorem State.durPage_linesSide (page : Nat) : (s.durPage page).linesSide = s.linesSide := by
  have hwp : s.nextSeq.2.wp.index = s.wp.index ∧ s.nextSeq.2.wp.entries = s.wp.entries ∧ s.nextSeq.2.fo = s.fo := by
    obtain ⟨_, _, h⟩ := s.nextSeq_touches
    rw [h]
    exact ⟨rfl, rfl, rfl⟩
  obtain ⟨hindex, hentries, hfo⟩ := hwp
  show (s.nextSeq.2.seqKept, s.nextSeq.2.wp.index, s.nextSeq.2.wp.entries, s.nextSeq.2.fo) = _
  rw [s.nextSeq_seqKept, hindex, hentries, hfo]
  rfl

theorem State.writeLevel_linesSide (k : Nat) : (s.writeLevel k).linesSide = s.linesSide :=
  (foldl_keeps State.linesSide (fun t (p : Nat × Nat) => (rfl : (t.countChild k p.2).linesSide = t.linesSide)) _ _).trans rfl

theorem State.writeDirty_linesSide : s.writeDirty.linesSide = s.linesSide := by
  rw [State.writeDirty_eq, foldl_keeps State.linesSide State.writeLevel_linesSide]
  exact foldl_keeps State.linesSide (fun t (p : Nat × Nat) => t.durPage_linesSide p.2) _ s

theorem State.sealUse_sealNumber : s.sealUse.sec.sealNumber = s.sec.sealNumber := by
  have hcount : (s.macCount 7).sec.sealNumber = s.sec.sealNumber := by rw [State.macCount_sec]
  unfold State.sealUse
  extract_lets counted
  split
  · exact hcount
  · exact hcount

variable {s}

/-- Where the engine takes the request, the roots are sealed under the next number, and the lines stay. -/
theorem State.sealRoots_seals (hmac : s.macOk 7 = true) : s.sealRoots.sec.sealNumber = (s.sec.sealNumber + 1) % 2 ^ 64 ∧
    s.sealRoots.wp.index = s.wp.index ∧ s.sealRoots.wp.entries = s.wp.entries ∧ s.sealRoots.fo.map = s.fo.map := by
  have hwritten := s.writeDirty_linesSide
  unfold State.sealRoots
  generalize s.writeDirty = written at hwritten ⊢
  have hkept : written.seqKept = s.seqKept := congrArg Prod.fst hwritten
  have hindex : written.wp.index = s.wp.index := congrArg (fun x => x.2.1) hwritten
  have hentries : written.wp.entries = s.wp.entries := congrArg (fun x => x.2.2.1) hwritten
  have hfo : written.fo = s.fo := congrArg (fun x => x.2.2.2) hwritten
  have hslots : written.sec.macSlots = s.sec.macSlots := (congrArg Sec.macSlots hkept :)
  have hkat : written.sec.katFailed = s.sec.katFailed := (congrArg Sec.katFailed hkept :)
  have hnumber : written.sec.sealNumber = s.sec.sealNumber := (congrArg Sec.sealNumber hkept :)
  have hok : written.macOk 7 = true := by rw [State.macOk, hslots, hkat]; exact hmac
  have hsealed := written.sealUse_sealNumber
  obtain ⟨kp, sec, huse⟩ := written.sealUse_touches
  simp only [hok, Bool.true_eq_false, if_false]
  refine ⟨?_, ?_, ?_, ?_⟩
  · show (written.sealUse.sec.sealNumber + 1) % 2 ^ 64 = _
    rw [hsealed, hnumber]
  · show written.sealUse.wp.index = _
    rw [huse]
    exact hindex
  · show written.sealUse.wp.entries = _
    rw [huse]
    exact hentries
  · show written.sealUse.fo.map = _
    rw [huse]
    exact congrArg Fo.map hfo

end

/-! ### The keys of a lode port (R214) -/

theorem length_le (n v : Nat) : (le n v).length = n := by simp [le]

section
variable {s : State} {p : Fin 4}

theorem State.length_portNonces (s : State) (p : Fin 4) : (s.portNonces p).length = 32 := by
  unfold State.portNonces
  dsimp only
  split
  · rw [List.length_append, length_le, length_le]
  · rw [List.length_append, length_le, length_le]

/-- The engine takes a tether's slot. -/
theorem State.macRun_tether {t : Fin 8} {key : Key} (hmac : s.macOk ⟨8 + t.val, by omega⟩ = true) :
    s.macRun ⟨8 + t.val, by omega⟩ key (s.portNonces p) =
      (some (Config.cmac key (s.portNonces p)), s.macCount ⟨8 + t.val, by omega⟩) := by
  have hmarked : MacFn.cmac.marked ⟨8 + t.val, by omega⟩ = true := decide_eq_true (Or.inr (Nat.le_add_right ..))
  refine (macRun_fits s _ key _ hmarked hmac (by rw [s.length_portNonces p]; decide)).trans (congrArg (Prod.mk _) (if_neg fun h => ?_))
  have h7 : 8 + t.val ≤ 7 := h.2.1
  omega

/-- A derivation that the engine does not refuse starts the port's message counters again. -/
theorem State.deriveKeys_restarts (hmac : ∀ t : Fin 8, s.portTether p = some t → s.macOk ⟨8 + t.val, by omega⟩ = true) :
    ((s.deriveKeys p).lo.ports[p]).msgCtr = 0 ∧ ((s.deriveKeys p).lo.ports[p]).rxCtr = 0 ∧ ((s.deriveKeys p).lo.ports[p]).keyed = true ∧
    ((s.deriveKeys p).lo.ports[p]).state = (s.lo.ports[p]).state ∧ (s.deriveKeys p).lds = s.lds ∧ (s.deriveKeys p).wp = s.wp := by
  unfold State.deriveKeys
  cases ht : s.portTether p with
  | none =>
    dsimp only
    rw [modLode_port]
    exact ⟨rfl, rfl, rfl, rfl, rfl, rfl⟩
  | some t =>
    obtain ⟨kp, sec, hcount⟩ := s.macCount_touches ⟨8 + t.val, by omega⟩
    dsimp only
    rw [State.macRun_tether (hmac t ht), hcount]
    simp only [Option.isSome_some, if_true, State.keyPort]
    rw [modLode_port]
    exact ⟨rfl, rfl, rfl, rfl, rfl, rfl⟩

end

/-- Settles O53: each input's effect, from what the response, the seal and the derivation leave. -/
theorem tamperSealAndLinkKeys : Obligations.TamperSealAndLinkKeys := by
  unfold Obligations.TamperSealAndLinkKeys
  intro s
  refine ⟨fun i halive => ⟨fun hoff => ?off, fun hreport => ?report, fun hrespond hst => ?respond⟩, fun hrun hready hmac => ?sealed,
    fun p => ⟨fun k hk => ?failed, fun hnone => ?idle⟩, fun p hup hkeyed hmac => ?rederive⟩
  case off => exact if_pos (Or.inr hoff)
  case report =>
    exact ⟨_, exec_tamperInputActive_report halive hreport, State.event_keeps State.pw .., State.event_keeps State.wp ..,
      State.event_keeps State.cr ..⟩
  case respond =>
    obtain ⟨hhold, hdie, hpath, hrestart, hend, hsess, hkeys⟩ := ((s.noteTamper i).event 0x8002 3 oDev i.val 0 0 0).tamperRespond_holds
    have hcr : ((s.noteTamper i).event 0x8002 3 oDev i.val 0 0 0).cr = s.cr := State.event_keeps State.cr ..
    have hregions : ((s.noteTamper i).event 0x8002 3 oDev i.val 0 0 0).sealedSide.1 = s.sealedSide.1 := by
      show Vector.map (fun x : Region => (x.keyA, x.keyB)) (State.cr _).regions = _
      rw [hcr]
      rfl
    refine ⟨_, exec_tamperInputActive_respond halive hrespond hst, hhold, hdie, hpath, hrestart, fun h => hend ?_, hsess,
      State.keys_of_sealedSide (hkeys.trans hregions)⟩
    rw [State.event_endRec]
    exact h
  case sealed =>
    exact ⟨_, if_pos ⟨hrun, hready⟩, State.sealRoots_seals (s := s.since (s.now - s.now % 2 ^ 34) (2 ^ 34)) hmac⟩
  case failed =>
    have hexec : exec (.ideIntegrityFailure p) s = .next _ := if_pos (by rw [hk]; rfl)
    have hport : ((s.modPort p fun x => { x with ide := { x.ide with tx := none, rx := none } }).lk.ports[p]).ide =
        { (s.lk.ports[p]).ide with tx := none, rx := none } := by rw [modPort_port]
    refine ⟨_, hexec, ?_, ?_, State.event_keeps State.wp .., State.event_keeps State.rp ..⟩
    · exact (State.event_keeps (fun t => (t.lk.ports[p]).ide.tx) ..).trans (congrArg (·.tx) hport)
    · exact (State.event_keeps (fun t => (t.lk.ports[p]).ide.rx) ..).trans (congrArg (·.rx) hport)
  case idle => exact if_neg (by rw [hnone]; exact Bool.false_ne_true)
  case rederive =>
    have hexec : exec (.lodeKeyRederive p) s = .next (s.deriveKeys p) := congrArg Host.Outcome.next (if_pos ⟨hup, hkeyed⟩)
    obtain ⟨hmsg, hrx, hkeyed', hstate, hlds, hwp⟩ := State.deriveKeys_restarts hmac
    exact ⟨_, hexec, hmsg, hrx, hkeyed', hstate.trans hup, hlds, hwp⟩

end Sys2Proof.Machine
end

section
/-! PROOFS. What the operations of the write path, of groups and of resync leave of the lode ports and the tethers (15_lode_links_and_pools.md R358,
R364, R366): message counters rise, writes are sent, dirty bits are set, and nothing else changes. -/

namespace Sys2Proof.Machine
open Sys2Proof.Laws

theorem vmod_map_of_same {α β : Type} {n : Nat} {v : Vector α n} {i : Fin n} {f : α → α} {g : α → β} (h : ∀ x, g (f x) = g x) :
    (vmod v i f).map g = v.map g := by
  refine Vector.ext fun j hj => ?_
  simp only [vmod, Vector.getElem_map, Vector.getElem_set, Fin.getElem_fin]
  split
  · next hij => subst hij; exact h _
  · rfl

/-- A port without the count of its messages. -/
def LodePort.core (x : LodePort) : LodePort := { x with msgCtr := 0 }

/-- A tether without its dirty bits and the writes sent. -/
def Tether.core (x : Tether) : Tether := { x with bitmap := [], sent := [] }

/-- The lode ports and the tethers, without what a message, a write or a dirty bit changes. -/
def State.loCore (s : State) : Lo := { s.lo with ports := s.lo.ports.map LodePort.core, tethers := s.lo.tethers.map Tether.core }

theorem State.portCore_of_loCore {s t : State} (h : t.loCore = s.loCore) (p : Fin 4) : (t.lo.ports[p]).core = (s.lo.ports[p]).core := by
  have hp : (t.lo.ports.map LodePort.core)[p] = (s.lo.ports.map LodePort.core)[p] := congrArg (fun l : Lo => l.ports[p]) h
  simpa only [Fin.getElem_fin, Vector.getElem_map] using hp

theorem State.tetherCore_of_loCore {s t : State} (h : t.loCore = s.loCore) (k : Fin 8) : (t.lo.tethers[k]).core = (s.lo.tethers[k]).core := by
  have hk : (t.lo.tethers.map Tether.core)[k] = (s.lo.tethers.map Tether.core)[k] := congrArg (fun l : Lo => l.tethers[k]) h
  simpa only [Fin.getElem_fin, Vector.getElem_map] using hk

theorem State.loCore_of_lo {s t : State} (h : t.lo = s.lo) : t.loCore = s.loCore := by
  rw [State.loCore, h]
  rfl

section
variable (s : State)

theorem State.modLode_loCore (p : Fin 4) {f : LodePort → LodePort} (hf : ∀ x, (f x).core = x.core) : (s.modLode p f).loCore = s.loCore :=
  congrArg (fun v => ({ s.lo with ports := v, tethers := s.lo.tethers.map Tether.core } : Lo)) (vmod_map_of_same hf)

theorem State.modTether_loCore (k : Fin 8) {f : Tether → Tether} (hf : ∀ x, (f x).core = x.core) : (s.modTether k f).loCore = s.loCore :=
  congrArg (fun v => ({ s.lo with ports := s.lo.ports.map LodePort.core, tethers := v } : Lo)) (vmod_map_of_same hf)

/-! ### Records, events and messages -/

theorem State.Allocs.lo {s t : State} (h : s.Allocs t) : t.lo = s.lo := by
  obtain ⟨_, _, _, _, _, _, _, rfl⟩ := h
  rfl

theorem State.event_lo (code sev org p0 p1 p2 p3 : Nat) : (s.event code sev org p0 p1 p2 p3).lo = s.lo := State.event_keeps State.lo ..

theorem State.raise_lo (n : Fin 256) (e d : Nat) : (s.raise n e d).lo = s.lo := State.raise_keeps State.lo ..

theorem State.judgeMarks_lo : s.judgeMarks.lo = s.lo := by
  obtain ⟨_, _, _, _, _, _, _, _, h⟩ := s.judgeMarks_touches
  rw [h]

theorem State.metaRec_lo (r : MetaRec) : (s.metaRec r).lo = s.lo := (s.newMeta_allocs r _).lo

theorem State.modEntry_lo (p : Place) (f : Entry → Entry) : (s.modEntry p f).lo = s.lo := by
  unfold State.modEntry
  split
  · rfl
  · rfl

theorem State.kill_lo (p : Place) : (s.kill p).lo = s.lo := s.modEntry_lo p _

theorem State.cacheDrop_lo (line : Nat) : (s.cacheDrop line).lo = s.lo := by
  obtain ⟨_, h⟩ := s.cacheDrop_touches line
  rw [h]

theorem State.poisonAdd_lo (line lines : Nat) (src : PoisonSrc) : (s.poisonAdd line lines src).lo = s.lo := by
  unfold State.poisonAdd
  split
  · rfl
  · split
    · rfl
    · rfl

theorem State.indexLine_lo (line : Nat) (p : Place) (seq : Nat) (psn : Bool) : (s.indexLine line p seq psn).lo = s.lo := by
  unfold State.indexLine
  extract_lets r
  split
  · rfl
  · split
    · rfl
    · split
      · exact State.kill_lo ..
      · exact State.kill_lo ..

theorem State.lodeSend_loCore (p : Fin 4) (k : Fin 8) (m : LodeMsg) : (s.lodeSend p k m).loCore = s.loCore := s.modLode_loCore p fun x => by rfl

theorem State.tetherSend_loCore (k : Fin 8) (m : LodeMsg) : (s.tetherSend k m).loCore = s.loCore := by
  unfold State.tetherSend
  split
  · exact State.lodeSend_loCore ..
  · rfl

theorem State.setDirtyBit_loCore (k : Fin 8) (g : Nat) : (s.setDirtyBit k g).loCore = s.loCore := by
  unfold State.setDirtyBit
  split
  · rfl
  · exact (State.loCore_of_lo (State.metaRec_lo ..)).trans (s.modTether_loCore k fun x => by rfl)

/-! ### Lines that land and stage 4 -/

theorem State.landLine_lo (ld : Fin 16) (line : Nat) (psn : Bool) (ct : Line) (tag : Tag) : (s.landLine ld line psn ct tag).lo = s.lo := by
  have hplaced := (s.nextSeq_allocs.trans (State.allocLine_allocs s.nextSeq.2 line s.nextSeq.1)).lo
  unfold State.landLine
  generalize s.nextSeq = numbered at hplaced ⊢
  obtain ⟨n, u⟩ := numbered
  dsimp only at hplaced ⊢
  generalize u.allocLine line n = placed at hplaced ⊢
  obtain ⟨_ | p, v⟩ := placed
  · exact hplaced
  · exact (State.indexLine_lo ..).trans hplaced

theorem State.durPage_lo (page : Nat) : (s.durPage page).lo = s.lo := s.nextSeq_allocs.lo

theorem State.cacheDirty_lo (line : Nat) (d : Bool) : (s.cacheDirty line d).lo = s.lo := rfl

theorem State.landDirty_lo (ld : Fin 16) (line : Nat) (psn : Bool) (ct : Line) (tag : Tag) (d : Bool) :
    ((s.landLine ld line psn ct tag).cacheDirty line d).lo = s.lo :=
  (State.cacheDirty_lo ..).trans (s.landLine_lo ..)

theorem State.reencPage_lo (page major : Nat) (posB early : Bool) : (s.reencPage page major posB early).lo = s.lo := by
  unfold State.reencPage
  extract_lets old plains blank landed
  rw [State.durPage_lo]
  refine foldl_keeps State.lo (fun u x => ?_) plains blank
  dsimp only
  rw [State.landDirty_lo]

theorem State.reencRelock_loCore (page line major : Nat) (posB early : Bool) :
    ((s.reencPage page major posB early).relock line).loCore = s.loCore := by
  have hlo := s.reencPage_lo page major posB early
  generalize s.reencPage page major posB early = t at hlo ⊢
  exact State.loCore_of_lo (t := t.relock line) hlo

theorem State.startRekey_lo (r : Fin 256) (exhausted : Bool) : (s.startRekey r exhausted).lo = s.lo := by
  unfold State.startRekey
  rw [State.raise_lo, State.event_lo, State.metaRec_lo]
  rfl

theorem State.startRekey_loCore (r : Fin 256) (exhausted : Bool) : (s.startRekey r exhausted).loCore = s.loCore :=
  State.loCore_of_lo (s.startRekey_lo r exhausted)

theorem State.earlyPage_loCore (line : Nat) : (s.earlyPage line).loCore = s.loCore := by
  unfold State.earlyPage
  extract_lets r
  have hlo := s.reencPage_lo (pageOf line) 0 (!s.cr.regions[r].cur) true
  generalize s.reencPage (pageOf line) 0 (!s.cr.regions[r].cur) true = t at hlo ⊢
  exact State.loCore_of_lo (t := (t.modRegion r _).relock line) hlo

theorem State.event_loCore (code sev org p0 p1 p2 p3 : Nat) : (s.event code sev org p0 p1 p2 p3).loCore = s.loCore :=
  State.loCore_of_lo (s.event_lo ..)

theorem State.alone_loCore (k : Fin 8) (w : Write) : (s.alone k w).loCore = s.loCore := by
  unfold State.alone
  extract_lets x
  split
  · exact State.setDirtyBit_loCore ..
  · rfl

/-- A write passed to stage 5, mirrored where its tether mirrors. -/
theorem State.mirrorSend_loCore (k : Fin 8) (m : LodeMsg) (x : Nat × Nat) :
    ((s.tetherSend k m).modTether k fun y => { y with sent := y.sent ++ [x] }).loCore = s.loCore :=
  (State.modTether_loCore _ k fun y => by rfl).trans (s.tetherSend_loCore k m)

theorem State.encryptPsn_loCore (w : Write) : (s.encryptPsn w).loCore = s.loCore := by
  unfold State.encryptPsn
  extract_lets clear
  split
  · split
    · exact State.mirrorSend_loCore ..
    · exact State.alone_loCore ..
  · rfl

theorem State.encrypt_loCore (w : Write) : (s.encrypt w).loCore = s.loCore := by
  unfold State.encrypt
  extract_lets posB bumped
  have hissued : (if w.win.isSome = true then (s.seqNonce w.line w.seq posB, s) else (bumped.blockNonce w.line, bumped)).2.loCore = s.loCore := by
    split
    · rfl
    · rfl
  generalize (if w.win.isSome = true then (s.seqNonce w.line w.seq posB, s) else (bumped.blockNonce w.line, bumped)) = issued at hissued ⊢
  obtain ⟨n, u⟩ := issued
  dsimp only at hissued ⊢
  rw [← hissued]
  split
  · split
    · exact State.mirrorSend_loCore ..
    · exact State.alone_loCore ..
  · rfl

theorem State.encryptAny_loCore (w : Write) : (s.encryptAny w).loCore = s.loCore := by
  unfold State.encryptAny
  split
  · exact s.encryptPsn_loCore w
  · exact s.encrypt_loCore w

theorem State.stage4_loCore (w : Write) : (s.stage4 w).loCore = s.loCore := by
  unfold State.stage4
  extract_lets stay page b r
  have hstay : ∀ u : State, (stay u).loCore = u.loCore := fun _ => rfl
  split
  · rw [State.encryptAny_loCore]
  split
  · rw [hstay]
  split
  · rw [State.encrypt_loCore]
  split
  · rw [hstay]
  split
  · rw [State.encrypt_loCore, State.reencRelock_loCore]
  split
  · rw [State.encrypt_loCore, State.earlyPage_loCore, State.startRekey_loCore]
  split
  · rw [hstay, State.event_loCore]
    rfl
  · rw [State.encrypt_loCore, State.earlyPage_loCore]

theorem State.runEnc_loCore : s.runEnc.loCore = s.loCore := (foldl_keeps State.loCore (fun t w => t.stage4_loCore w) _ _).trans rfl

theorem State.wantPilot_lo (b : BlockKey) : (s.wantPilot b).lo = s.lo := by
  unfold State.wantPilot
  extract_lets x
  split
  · rfl
  · obtain ⟨_, _, h⟩ := (s.modDrBlk b fun x => { x with pend := true }).pmCount_touches 0x00A
      ⟨none, some (chanOf b.seg.set b.pos).val, some b.seg.set.val⟩
    rw [h]
    rfl

theorem State.startWrite_loCore (w : Write) : (s.startWrite w).loCore = s.loCore := by
  unfold State.startWrite
  split
  · exact s.stage4_loCore w
  · extract_lets piloted
    show piloted.loCore = _
    unfold piloted
    split
    · exact State.loCore_of_lo (State.wantPilot_lo ..)
    · rfl

theorem State.releaseLock_loCore (line : Nat) : (s.releaseLock line).loCore = s.loCore := by
  unfold State.releaseLock
  split
  · rfl
  · split
    · rfl
    · exact (State.startWrite_loCore ..).trans rfl

/-! ### Groups -/

theorem State.commitLost_lo (q : Nat) (t : TentRec) : (s.commitLost q t).lo = s.lo := by
  have hnumbered := (s.kill t.place).nextSeq_allocs.lo
  unfold State.commitLost
  extract_lets killed
  generalize killed.nextSeq = numbered at hnumbered ⊢
  obtain ⟨n, u⟩ := numbered
  have hplaced := (u.allocLine_allocs t.line n).lo
  dsimp only at hnumbered ⊢
  generalize u.allocLine t.line n = placed at hplaced ⊢
  rw [State.kill_lo] at hnumbered
  obtain ⟨_ | p, v⟩ := placed
  · exact hplaced.trans hnumbered
  · dsimp only at hplaced ⊢
    exact (State.poisonAdd_lo ..).trans ((State.indexLine_lo ..).trans (hplaced.trans hnumbered))

theorem State.commitLine_loCore (q : Nat) (t : TentRec) : (s.commitLine q t).loCore = s.loCore := by
  unfold State.commitLine
  split
  · extract_lets dropped left placed shown
    have hdropped : dropped.lo = s.lo := s.cacheDrop_lo t.line
    have hleft : left.lo = s.lo := by
      unfold left
      split
      · exact (State.kill_lo ..).trans hdropped
      · exact hdropped
    have hplaced : placed.lo = s.lo := (State.modEntry_lo ..).trans hleft
    have hshown : shown.lo = s.lo := by
      unfold shown
      split
      · exact (State.commitLost_lo ..).trans hdropped
      · split
        · exact (State.poisonAdd_lo ..).trans hplaced
        · exact hplaced
    split
    · split
      · exact (State.setDirtyBit_loCore ..).trans (State.loCore_of_lo hshown)
      · exact State.loCore_of_lo hshown
    · exact State.loCore_of_lo hshown
  · exact State.loCore_of_lo (s.kill_lo _)

theorem State.dropTents_lo (n : Fin 16) (w : Fin 64) : (s.dropTents n w).lo = s.lo :=
  (foldl_keeps State.lo (fun u (x : TentRec) => u.kill_lo x.place) _ s :)

theorem State.closeGroup_loCore (n : Fin 16) (w : Fin 64) (code : Nat) : (s.closeGroup n w code).loCore = s.loCore := by
  have hplaced := (((s.dropTents n w).nextSeq_allocs.trans (State.allocMeta_allocs _ (s.dropTents n w).nextSeq.1 false)).lo).trans
    (s.dropTents_lo n w)
  unfold State.closeGroup
  extract_lets dropped
  generalize dropped.nextSeq = numbered at hplaced ⊢
  obtain ⟨q, t⟩ := numbered
  dsimp only at hplaced ⊢
  generalize t.allocMeta q false = placed at hplaced ⊢
  obtain ⟨p, u⟩ := placed
  dsimp only at hplaced ⊢
  split
  · exact (State.tetherSend_loCore ..).trans (State.loCore_of_lo hplaced)
  · exact State.loCore_of_lo hplaced

theorem State.issueCommit_loCore (n : Fin 16) (w : Fin 64) : (s.issueCommit n w).loCore = s.loCore := by
  have hplaced := (s.nextSeq_allocs.trans (State.allocMeta_allocs s.nextSeq.2 s.nextSeq.1 false)).lo
  unfold State.issueCommit
  extract_lets v
  split
  · dsimp only
    split
    · exact (State.tetherSend_loCore ..).trans (State.loCore_of_lo hplaced)
    · exact State.loCore_of_lo hplaced
  · rfl

theorem State.doorbell_loCore (n : Fin 16) (w : Fin 64) (whole : Bool) (value : Nat) : (s.doorbell n w whole value).loCore = s.loCore := by
  unfold State.doorbell
  extract_lets c
  split
  · unfold State.dbAccept
    extract_lets v count
    split
    · exact State.closeGroup_loCore ..
    · split
      · split
        · exact State.closeGroup_loCore ..
        · exact State.issueCommit_loCore ..
      · split
        · rfl
        · rfl
  · rfl

theorem State.outcomeDurable_loCore (n : Fin 16) (w : Fin 64) (flush : Bool) : (s.outcomeDurable n w flush).loCore = s.loCore := by
  unfold State.outcomeDurable
  extract_lets v code before recorded posted kept notified
  have hnotified : notified.loCore = s.loCore := by
    unfold notified
    split
    · exact State.loCore_of_lo (State.raise_lo ..)
    · rfl
  split
  · exact (State.doorbell_loCore ..).trans hnotified
  · exact hnotified

theorem State.commitNow_loCore (n : Fin 16) (w : Fin 64) (flush : Bool) : (s.commitNow n w flush).loCore = s.loCore := by
  unfold State.commitNow
  extract_lets applied told
  have happlied : applied.loCore = s.loCore := foldl_keeps State.loCore (fun u (t : TentRec) => u.commitLine_loCore (s.win n w).recSeq t) _ s
  have htold : told.loCore = s.loCore := by
    unfold told
    split
    · exact (State.tetherSend_loCore ..).trans happlied
    · exact happlied
  exact (State.outcomeDurable_loCore ..).trans htold

theorem State.tryCommit_loCore (n : Fin 16) (w : Fin 64) (flush : Bool) : (s.tryCommit n w flush).loCore = s.loCore := by
  unfold State.tryCommit
  extract_lets v
  split
  · exact s.commitNow_loCore n w flush
  · rfl

/-! ### Verified writes, and a partner waived -/

theorem State.toIndex_lo : s.toIndex.lo = s.lo := by
  refine (foldl_keeps State.lo (fun u w => ?_) _ _).trans rfl
  split <;> rfl

theorem State.waivePartner_loCore (k : Fin 8) : (s.waivePartner k).loCore = s.loCore := by
  unfold State.waivePartner
  extract_lets ack _ acked indexed
  have hindexed : indexed.loCore = s.loCore := (State.loCore_of_lo (State.toIndex_lo _)).trans (acked.modTether_loCore k fun x => by rfl)
  refine (foldl_keeps State.loCore (fun u n => foldl_keeps State.loCore (fun u w => ?_) _ _) _ _).trans hindexed
  split
  · exact State.tryCommit_loCore ..
  · rfl

end
end Sys2Proof.Machine
end

section
/-! PROOFS. The statement about pool commands (15_lode_links_and_pools.md R359, R360, R366, R369, R370, R373), and what an absence, a removal and a
failover leave of a tether. -/

namespace Sys2Proof.Machine
open Sys2Proof.Laws

/-! ### A tether's state, its locks given up, its partner waived -/

section
variable (s : State) (k : Fin 8)

theorem State.tetherTo_tether (x : TetherState) : (s.tetherTo k x).lo.tethers[k] = { s.lo.tethers[k] with state := x } := by
  unfold State.tetherTo
  split
  · next h => subst h; rfl
  · exact (congrArg (fun l : Lo => l.tethers[k]) (State.raise_lo ..)).trans (modTether_tether ..)

theorem State.core_of_modTether {f : Tether → Tether} : ((s.modTether k f).lo.tethers[k]).core = (f s.lo.tethers[k]).core := by
  rw [modTether_tether]

theorem State.judgeMarks_tether : s.judgeMarks.lo.tethers[k] = s.lo.tethers[k] :=
  congrArg (fun l : Lo => l.tethers[k]) s.judgeMarks_lo

theorem State.tetherSend_tethers (m : LodeMsg) : (s.tetherSend k m).lo.tethers = s.lo.tethers := by
  unfold State.tetherSend
  split <;> rfl

/-- The resync that stops gives up what it waited for; the rest of the tether stays. -/
theorem State.resyncStop_core : ((s.resyncStop k).lo.tethers[k]).core = { (s.lo.tethers[k]).core with rs := [], unsent := [] } := by
  unfold State.resyncStop
  extract_lets lines stopped
  have hstopped : (stopped.lo.tethers[k]).core = { (s.lo.tethers[k]).core with rs := [], unsent := [] } := by
    unfold stopped
    rw [State.core_of_modTether]
    rfl
  have hreleased := foldl_keeps State.loCore (fun u (l : Nat × Nat) => u.releaseLock_loCore l.2) lines stopped
  exact (State.tetherCore_of_loCore ((State.runEnc_loCore _).trans hreleased) k).trans hstopped

theorem foldl_setDirtyBit_loCore {α : Type} (g : State → α → Nat) (l : List α) (s : State) :
    (l.foldl (fun (s : State) x => s.setDirtyBit k (g s x)) s).loCore = s.loCore :=
  foldl_keeps State.loCore (fun u x => u.setDirtyBit_loCore k (g u x)) l s

/-- An end that was pairing, syncing or in sync is absent, and its resync has stopped. -/
theorem State.declareAbsent_core {s : State} {k : Fin 8}
    (h : (s.lo.tethers[k]).state = .pairing ∨ (s.lo.tethers[k]).state = .syncing ∨ (s.lo.tethers[k]).state = .inSync) :
    ((s.declareAbsent k).lo.tethers[k]).core = { (s.lo.tethers[k]).core with state := .absent, rs := [], unsent := [] } := by
  unfold State.declareAbsent
  extract_lets x late marked
  have hopen : ¬(x.state ≠ .pairing ∧ x.state ≠ .syncing ∧ x.state ≠ .inSync) := fun ⟨hp, hs, hi⟩ => by
    rcases h with h | h | h
    · exact hp h
    · exact hs h
    · exact hi h
  have hmarked : (marked.lo.tethers[k]).core = (s.lo.tethers[k]).core :=
    State.tetherCore_of_loCore (foldl_setDirtyBit_loCore k (fun s (w : Write) => s.tetherGran k w.line) late s) k
  have hleft : ((marked.tetherTo k .absent).lo.tethers[k]).core = { (marked.lo.tethers[k]).core with state := .absent } :=
     congrArg Tether.core (marked.tetherTo_tether k .absent)
  rw [if_neg hopen, State.tetherCore_of_loCore (State.waivePartner_loCore _ k) k, State.resyncStop_core, hleft, hmarked]

theorem State.portsIdle_tethers : s.portsIdle.lo.tethers = s.lo.tethers := by
  unfold State.portsIdle
  refine foldl_keeps (fun t : State => t.lo.tethers) (fun t p => ?_) _ s
  split
  · rfl
  · rfl

theorem foldl_lodeSend_tethers (m : State → LodeMsg) (l : List (Fin 4)) (s : State) :
    (l.foldl (fun (s : State) p => s.lodeSend p 0 (m s)) s).lo.tethers = s.lo.tethers :=
  foldl_keeps (fun t : State => t.lo.tethers) (fun _ _ => by rfl) l s

theorem State.levelSend_tethers : s.levelSend.lo.tethers = s.lo.tethers := foldl_lodeSend_tethers (fun s => .level s.levelTable) _ s

theorem State.relevel_tethers : s.relevel.lo.tethers = s.lo.tethers := by
  unfold State.relevel
  extract_lets n
  split
  · rfl
  · exact foldl_lodeSend_tethers (fun _ => .switch n) _ _

theorem State.freeTether_init : (s.freeTether k).lo.tethers[k] = Tether.init := by
  simp only [State.freeTether, Fin.getElem_fin, Vector.getElem_set_self]

/-- The last part of a removal: the tether is free, its partner's levels forgotten, its slot's count and the ports left over. -/
def State.retireTether (s : State) (k : Fin 8) (partner : Nat) : State :=
  let t := (s.freeTether k).forgetLevels partner
  let t := { t with sec := { t.sec with macSlots := vmod t.sec.macSlots ⟨8 + k.val, by omega⟩ fun m => { m with uses := 0, reserved := 0 } } }
  (t.saveTether k).portsIdle

theorem State.retireTether_init (partner : Nat) : (s.retireTether k partner).lo.tethers[k] = Tether.init := by
  have hfreed := s.freeTether_init k
  unfold State.retireTether
  generalize s.freeTether k = t at hfreed ⊢
  extract_lets forgot _ counted
  exact (congrArg (fun v : Vector Tether 8 => v[k]) (counted.saveTether k).portsIdle_tethers).trans hfreed

theorem State.removeTether_eq {s : State} {k : Fin 8} (tell : Bool) (h : (s.lo.tethers[k]).state ≠ .free) :
    s.removeTether k tell =
      (((if tell then s.tetherSend k .removed else s).resyncStop k).waivePartner k).retireTether k (s.lo.tethers[k]).partner :=
  if_neg h

/-- A removed tether is as never configured. -/
theorem State.removeTether_init {s : State} {k : Fin 8} (tell : Bool) (h : (s.lo.tethers[k]).state ≠ .free) :
    (s.removeTether k tell).lo.tethers[k] = Tether.init := by
  rw [State.removeTether_eq tell h]
  exact State.retireTether_init ..

end

/-! ### Configure Tether (R360) -/

section
variable (s : State)

theorem State.macUse_session_lo (slot : Fin 4) : (s.macUse (macOfSlot slot)).lo = s.lo := by
  obtain ⟨_, _, h⟩ := s.macUse_sessionSlot slot
  rw [h]

theorem State.unwrap_lo (slot : Fin 4) (w : BitVec 320) : (s.unwrap slot w).2.lo = s.lo := by
  unfold State.unwrap
  extract_lets m
  split
  · rfl
  · split
    · exact s.macUse_session_lo slot
    · rfl

theorem State.sealUse_lo : s.sealUse.lo = s.lo := by
  obtain ⟨_, _, h⟩ := s.sealUse_touches
  rw [h]

/-- An accepted tether is pairing, with what it was configured with. -/
theorem State.newTether_tether (k : Fin 8) (region partner : Nat) (ports : BitVec 4) (key : Key) :
    (s.newTether k region partner ports key).lo.tethers[k] =
      { Tether.init with state := .pairing, region := region, partner := partner, ports := ports, key := ⟨some key, true⟩ } := by
  unfold State.newTether
  extract_lets sealed _ base placed saved
  have hplaced : placed.lo.tethers[k] = { Tether.init with region := region, partner := partner, ports := ports, key := ⟨some key, true⟩ } := by
    simp only [placed, base, Fin.getElem_fin, Vector.getElem_set_self]
  clear_value placed
  have hsaved : saved.lo.tethers[k] = (placed.tetherTo k .pairing).lo.tethers[k] := rfl
  have hsent := foldl_keeps (fun t : State => t.lo.tethers[k]) (f := fun (s : State) p =>
    if ports.getLsbD p.val ∧ s.lo.ports[p].partner = partner then s.helloSend p else s) (fun t p => by split <;> rfl) saved.upPorts saved
  exact hsent.trans (hsaved.trans ((placed.tetherTo_tether k .pairing).trans (congrArg (fun x : Tether => { x with state := .pairing }) hplaced)))

end

section
variable {s : State} {r : Req}

theorem exec_configureTether {t : Fin 8} {region partner ports : Nat} {key : BitVec 320} {x : Session} (h : s.Taken r 0xC402 (some 48))
    (hregion : region ≤ 255) (hpartner : partner < 2 ^ 14) (hports : ports ≤ 15) (hallowed : s.tetherRefused t region partner ports = false)
    (hsession : s.session r.inst = some x) :
    match (s.unwrap x.slot key).1 with
    | some k => (∀ u : Fin 8, s.lo.tethers[u].state ≠ .free → s.lo.tethers[u].partner = partner → s.lo.tethers[u].key.get = k) → ∃ v : State,
      exec (.configureTether r t.val region partner ports key) s = .next (v.answer r 0xC402 okAns) ∧ let y := v.lo.tethers[t]
      y.state = .pairing ∧ y.region = region ∧ y.partner = partner ∧ y.ports = BitVec.ofNat 4 ports ∧ y.key = ⟨some k, true⟩ ∧ y.epoch = 0
    | none => ∃ (v : State) (z : Nat), exec (.configureTether r t.val region partner ports key) s = .next (v.answer r 0xC402 ⟨0x0002, z, 0, .none⟩) ∧
      v.lo = s.lo := by
  have hregion' : ¬255 < region := by omega
  have hpartner' : ¬2 ^ 14 ≤ partner := by omega
  have hports' : ¬15 < ports := by omega
  have hlo := s.unwrap_lo x.slot key
  cases hkey : s.unwrap x.slot key with
  | mk found v =>
    rw [hkey] at hlo
    cases found with
    | none =>
      have hans : ∃ z, v.unwrapAns x.slot = ⟨0x0002, z, 0, .none⟩ := by
        unfold State.unwrapAns
        split
        · exact ⟨_, rfl⟩
        · split
          · exact ⟨_, rfl⟩
          · exact ⟨_, rfl⟩
      obtain ⟨z, hz⟩ := hans
      refine ⟨v, z, congrArg Host.Outcome.next (State.mbx_answers rfl h ?_), hlo⟩
      simp only [t.isLt, dite_true, if_neg hregion', if_neg hpartner', if_neg hports', hallowed, Bool.false_eq_true, if_false, hsession, hkey, hz]
    | some k =>
      intro hsame
      have hclash : ¬((allFin 8).any fun u => v.lo.tethers[u].state ≠ .free && v.lo.tethers[u].partner == partner &&
          v.lo.tethers[u].key.get ≠ k) = true := by
        rw [hlo]
        intro hany
        obtain ⟨u, _, hu⟩ := List.any_eq_true.1 hany
        simp only [Bool.and_eq_true, decide_eq_true_eq, beq_iff_eq] at hu
        exact hu.2 (hsame u hu.1.1 hu.1.2)
      refine ⟨v.newTether t region partner (BitVec.ofNat 4 ports) k, congrArg Host.Outcome.next (State.mbx_answers rfl h ?_), ?_⟩
      · simp only [t.isLt, dite_true, if_neg hregion', if_neg hpartner', if_neg hports', hallowed, Bool.false_eq_true, if_false, hsession, hkey,
          if_neg hclash]
      · rw [State.newTether_tether]
        exact ⟨rfl, rfl, rfl, rfl, rfl, rfl⟩

/-! ### Removal, absence and failover (R366, R369, R370) -/

theorem exec_removeTether {t : Fin 8} (h : s.Taken r 0xC403 (some 1)) :
    (s.lo.tethers[t].state = .free → exec (.removeTether r t.val) s = .next (s.answer r 0xC403 ⟨0x0002, 0x000A, 0, .none⟩)) ∧
    (s.lo.tethers[t].state ≠ .free → ∃ v : State, exec (.removeTether r t.val) s = .next (v.answer r 0xC403 okAns) ∧
      v.lo.tethers[t] = Tether.init) := by
  refine ⟨fun hfree => congrArg Host.Outcome.next (State.mbx_answers rfl h ((dif_pos t.isLt).trans (if_pos hfree))), fun hused =>
    ⟨_, congrArg Host.Outcome.next (State.mbx_answers rfl h ((dif_pos t.isLt).trans (if_neg hused))), ?_⟩⟩
  rw [State.relevel_tethers]
  exact State.removeTether_init true hused

theorem exec_declarePartnerAbsent {t : Fin 8} (h : s.Taken r 0xC404 (some 1)) :
    (s.lo.tethers[t].state = .free → exec (.declarePartnerAbsent r t.val) s = .next (s.answer r 0xC404 ⟨0x0002, 0x000A, 0, .none⟩)) ∧
    ((s.lo.tethers[t].state = .pairing ∨ s.lo.tethers[t].state = .syncing ∨ s.lo.tethers[t].state = .inSync) → ∃ v : State,
      exec (.declarePartnerAbsent r t.val) s = .next (v.answer r 0xC404 okAns) ∧ v.lo.tethers[t].state = .absent) := by
  refine ⟨fun hfree => congrArg Host.Outcome.next (State.mbx_answers rfl h ((dif_pos t.isLt).trans (if_pos hfree))), fun hopen => ?_⟩
  have hused : ¬s.lo.tethers[t].state = .free := by
    rcases hopen with h | h | h <;> rw [h] <;> decide
  exact ⟨_, congrArg Host.Outcome.next (State.mbx_answers rfl h ((dif_pos t.isLt).trans (if_neg hused))),
    (congrArg Tether.state (State.declareAbsent_core hopen) :)⟩

end

section
variable (s : State)

theorem State.replicaCommit_loCore (n : Fin 16) (w : Fin 64) : (s.replicaCommit n w).loCore = s.loCore :=
  (foldl_keeps State.loCore (fun u (t : TentRec) => u.commitLine_loCore (s.win n w).recSeq t) _ s :)

theorem State.failoverWin_loCore (n : Fin 16) (w : Fin 64) : (s.failoverWin n w).loCore = s.loCore := by
  unfold State.failoverWin
  extract_lets noted v mine g
  split
  · exact (noted.replicaCommit_loCore n w).trans rfl
  · split
    · rfl
    · exact State.loCore_of_lo ((modWin_lo ..).trans ((State.metaRec_lo ..).trans ((noted.dropTents_lo n w).trans (modWin_lo ..))))

theorem State.dropMirrored_epoch (k : Fin 8) (wins : List (Fin 64)) :
    ((s.dropMirrored k wins).lo.tethers[k]).epoch = (s.lo.tethers[k]).epoch := by
  unfold State.dropMirrored
  extract_lets mine left
  have hleft : left.lo.tethers[k] = { s.lo.tethers[k] with rxq := (s.lo.tethers[k]).rxq.filter fun w => !mine w } := modTether_tether ..
  exact (congrArg Tether.epoch hleft :)

theorem State.failoverWins_epoch (n : Fin 16) (k : Fin 8) (l : List (Fin 64)) :
    ((l.foldl (fun (s : State) w => s.failoverWin n w) s).lo.tethers[k]).epoch = (s.lo.tethers[k]).epoch :=
  (congrArg Tether.epoch (State.tetherCore_of_loCore (foldl_keeps State.loCore (fun u w => u.failoverWin_loCore n w) l s) k) :)

/-- The replica that becomes the primary is absent, of the next epoch. -/
theorem State.becomePrimary_core (k : Fin 8) : ((s.becomePrimary k).lo.tethers[k]).replica = false ∧
    ((s.becomePrimary k).lo.tethers[k]).epoch = (s.lo.tethers[k]).epoch + 1 ∧ ((s.becomePrimary k).lo.tethers[k]).state = .absent := by
  unfold State.becomePrimary
  generalize allFin 64 = wins
  extract_lets raised n dropped applied rep _ reported settled changed
  have hraised : raised.lo.tethers[k] = { s.lo.tethers[k] with epoch := (s.lo.tethers[k]).epoch + 1 } := modTether_tether ..
  have hdropped : (dropped.lo.tethers[k]).epoch = (raised.lo.tethers[k]).epoch := raised.dropMirrored_epoch k wins
  have happlied : (applied.lo.tethers[k]).epoch = (dropped.lo.tethers[k]).epoch := dropped.failoverWins_epoch n k wins
  have hchanged : changed.lo.tethers[k] = { applied.lo.tethers[k] with replica := false, bitmap := [], recs := [], part := false } :=
    modTether_tether ..
  clear_value changed
  have habsent : ((changed.tetherTo k .absent).saveTether k).judgeMarks.lo.tethers[k] = { changed.lo.tethers[k] with state := .absent } := by
    exact (State.judgeMarks_tether ..).trans (State.tetherTo_tether ..)
  rw [habsent, hchanged]
  refine ⟨rfl, ?_, rfl⟩
  show (applied.lo.tethers[k]).epoch = _
  rw [happlied, hdropped, hraised]

theorem State.becomeReplica_replica (k : Fin 8) : ((s.becomeReplica k).lo.tethers[k]).replica = true := by
  unfold State.becomeReplica
  extract_lets changed
  rw [State.tetherSend_tethers]
  exact congrArg Tether.replica (modTether_tether (s.resyncStop k) k _)

end

section
variable {s : State} {r : Req}

theorem exec_failover {t : Fin 8} (h : s.Taken r 0xC405 (some 2)) : let x := s.lo.tethers[t]
    (x.state = .free → ∀ role, role ≤ 1 → exec (.failover r t.val role) s = .next (s.answer r 0xC405 ⟨0x0002, 0x000A, 0, .none⟩)) ∧
    (x.state ≠ .free → x.replica = true → x.state ≠ .syncing → x.part = false → (x.state = .absent ∨ x.partnerReplica = true) → ∃ v : State,
      exec (.failover r t.val 0) s = .next (v.answer r 0xC405 okAns) ∧ v.lo.tethers[t].replica = false ∧ v.lo.tethers[t].epoch = x.epoch + 1 ∧
      v.lo.tethers[t].state = .absent) ∧
    (x.state ≠ .free → x.replica = false → ∃ v : State, exec (.failover r t.val 1) s = .next (v.answer r 0xC405 okAns) ∧
      v.lo.tethers[t].replica = true) := by
  intro x
  refine ⟨fun hfree role hrole => ?_, fun hused hreplica hstate hpart hpartner => ?_, fun hused hprimary => ?_⟩
  · exact congrArg Host.Outcome.next (State.mbx_answers rfl h ((dif_pos t.isLt).trans ((if_neg (by omega)).trans (if_pos hfree))))
  · have hexec : exec (.failover r t.val 0) s = .next ((s.becomePrimary t).answer r 0xC405 okAns) :=
      congrArg Host.Outcome.next (State.mbx_answers rfl h ((dif_pos t.isLt).trans ((if_neg (by omega)).trans ((if_neg hused).trans
        ((if_pos rfl).trans (if_pos ⟨hreplica, hstate, hpart, hpartner⟩))))))
    exact ⟨_, hexec, s.becomePrimary_core t⟩
  · have hreplica : ¬s.lo.tethers[t].replica = true := fun h => Bool.false_ne_true (hprimary.symm.trans h)
    have hexec : exec (.failover r t.val 1) s = .next ((s.becomeReplica t).answer r 0xC405 okAns) :=
      congrArg Host.Outcome.next (State.mbx_answers rfl h ((dif_pos t.isLt).trans ((if_neg (by omega)).trans ((if_neg hused).trans
        ((if_neg Nat.one_ne_zero).trans (if_neg hreplica))))))
    exact ⟨_, hexec, s.becomeReplica_replica t⟩

theorem exec_raiseFormatLevel {n : Nat} (h : s.Taken r 0xC406 (some 2)) :
    (n ≤ s.kp.formatLevel → exec (.raiseFormatLevel r n) s = .next (s.answer r 0xC406 ⟨0x0002, 0x000C, 0, .none⟩)) ∧
    (s.kp.formatLevel < n → s.lo.levels.any (fun m => decide (m.fmt < n)) = false → (∃ i, s.sec.running = some i ∧ n ≤ i.fmtLvl) →
      (∃ i, s.sec.imgA = some i ∧ n ≤ i.fmtLvl) → (∃ i, s.sec.imgB = some i ∧ n ≤ i.fmtLvl) →
      exec (.raiseFormatLevel r n) s = .next (({ s with kp := { s.kp with formatLevel := n } }.save 38).answer r 0xC406 okAns)) := by
  refine ⟨fun hlow => congrArg Host.Outcome.next (State.mbx_answers rfl h (if_pos hlow)), fun habove hmembers hrun ha hb => ?_⟩
  obtain ⟨i, hi, hin⟩ := hrun
  obtain ⟨a, ha, han⟩ := ha
  obtain ⟨b, hb, hbn⟩ := hb
  refine congrArg Host.Outcome.next (State.mbx_answers rfl h ((if_neg (by omega)).trans ((if_neg ?_).trans (if_pos ?_))))
  · rw [hmembers]
    decide
  · simp only [hi, ha, hb, Option.any_some, hin, han, hbn, decide_true, Bool.and_self]

end

/-- Settles O33: each command's next state, from what a removal, an absence and a failover leave of the tether. -/
theorem tethersAreConfiguredAndMoved : Obligations.TethersAreConfiguredAndMoved := by
  unfold Obligations.TethersAreConfiguredAndMoved
  intro s r bad
  refine ⟨?identity, fun t region partner ports key x => exec_configureTether, fun t => exec_removeTether, fun t => exec_declarePartnerAbsent,
    fun t => exec_failover, fun n => exec_raiseFormatLevel⟩
  case identity =>
    intro p m h hm
    have hrange : ¬2 ^ 14 ≤ m := by omega
    split
    · next hany => exact congrArg Host.Outcome.next (State.mbx_answers rfl h ((if_neg hrange).trans (if_pos hany)))
    · next hany => exact congrArg Host.Outcome.next (State.mbx_answers rfl h ((if_neg hrange).trans (if_neg hany)))

end Sys2Proof.Machine
end

section
/-! PROOFS. The statement about the lode ports (15_lode_links_and_pools.md R357 to R359, R372): training, greeting, a message that passes or fails its
tag, silence, and the levels. -/

namespace Sys2Proof.Machine
open Sys2Proof.Laws

/-! ### A protected message (R214, R358) -/

section
variable {s : State} {h : LodeHdr} {f : State → State}

/-- The port has heard its partner. -/
def State.heard (s : State) (p : Fin 4) : State := s.modLode p fun x => { x with rxCtr := x.rxCtr + 1, lastRx := s.now }

theorem State.lodeRecv_passes (hup : (s.lo.ports[h.port]).state = .up) (hkeyed : (s.lo.ports[h.port]).keyed = true) (htag : h.tagOk = true) :
    s.lodeRecv h f = f (s.heard h.port) := by
  unfold State.lodeRecv
  extract_lets x
  have hopen : ¬(x.state ≠ .up ∨ x.keyed = false) := by
    rintro (hs | hk)
    · exact hs hup
    · exact Bool.false_ne_true (hk.symm.trans hkeyed)
  have htag' : ¬h.tagOk = false := by rw [htag]; decide
  exact (if_neg hopen).trans (if_neg htag')

theorem State.lodeRecv_fails (hup : (s.lo.ports[h.port]).state = .up) (hkeyed : (s.lo.ports[h.port]).keyed = true) (htag : h.tagOk = false) :
    s.lodeRecv h f = s.tagFail h.port := by
  unfold State.lodeRecv
  extract_lets x
  have hopen : ¬(x.state ≠ .up ∨ x.keyed = false) := by
    rintro (hs | hk)
    · exact hs hup
    · exact Bool.false_ne_true (hk.symm.trans hkeyed)
  exact (if_neg hopen).trans (if_pos htag)

theorem State.heard_tethers (s : State) (p : Fin 4) : (s.heard p).lo.tethers = s.lo.tethers := rfl

/-- A failed tag takes the port down with its keys gone, and leaves the tethers and the lines. -/
theorem State.tagFail_down (s : State) (p : Fin 4) : ((s.tagFail p).lo.ports[p]) =
      { s.lo.ports[p] with state := .down, keyed := false, txKey := 0, rxKey := 0 } ∧
    (s.tagFail p).wp = s.wp ∧ (s.tagFail p).lo.tethers = s.lo.tethers := by
  unfold State.tagFail State.lodeDown
  have hlo := s.event_lo 0x6004 2 (oUnit 2 p.val) (lo32 s.lo.ports[p].rxCtr) 0 0 0
  have hwp := s.event_wp 0x6004 2 (oUnit 2 p.val) (lo32 s.lo.ports[p].rxCtr) 0 0 0
  generalize s.event 0x6004 2 (oUnit 2 p.val) (lo32 s.lo.ports[p].rxCtr) 0 0 0 = t at hlo hwp ⊢
  refine ⟨(modLode_port ..).trans ?_, hwp, (congrArg Lo.tethers hlo :)⟩
  rw [congrArg (fun l : Lo => l.ports[p]) hlo]

end

/-! ### Pairing leaves the ports as they are but for their message counts -/

/-- The ports without their message counts. -/
def State.portsCore (s : State) : Vector LodePort 4 := s.lo.ports.map LodePort.core

section
variable (s : State) (k : Fin 8)

theorem State.portsCore_of_loCore {s t : State} (h : t.loCore = s.loCore) : t.portsCore = s.portsCore := congrArg Lo.ports h

theorem State.portsCore_of_lo {s t : State} (h : t.lo = s.lo) : t.portsCore = s.portsCore := State.portsCore_of_loCore (State.loCore_of_lo h)

theorem State.modTether_portsCore (f : Tether → Tether) : (s.modTether k f).portsCore = s.portsCore := rfl

theorem State.saveTether_portsCore : (s.saveTether k).portsCore = s.portsCore := rfl

theorem State.tetherTo_portsCore (x : TetherState) : (s.tetherTo k x).portsCore = s.portsCore := by
  unfold State.tetherTo
  split
  · rfl
  · exact (State.portsCore_of_lo (State.raise_lo ..)).trans (s.modTether_portsCore k _)

theorem State.tetherSend_portsCore (m : LodeMsg) : (s.tetherSend k m).portsCore = s.portsCore := State.portsCore_of_loCore (s.tetherSend_loCore k m)

theorem State.sendRs_portsCore (line : Nat) : (s.sendRs k line).portsCore = s.portsCore := by
  unfold State.sendRs
  split
  · rfl
  · have hnumbered := State.portsCore_of_lo s.nextSeq_allocs.lo
    generalize s.nextSeq = numbered at hnumbered ⊢
    obtain ⟨q, t⟩ := numbered
    dsimp only at hnumbered ⊢
    exact (State.tetherSend_portsCore ..).trans hnumbered

theorem State.startGran_portsCore (g : Nat) : (s.startGran k g).portsCore = s.portsCore := by
  unfold State.startGran
  extract_lets placed n
  have hplaced : placed.portsCore = s.portsCore := s.modTether_portsCore k _
  split
  · exact (State.tetherSend_portsCore ..).trans hplaced
  · split
    · exact (State.tetherSend_portsCore ..).trans hplaced
    · exact (foldl_keeps State.portsCore (fun u l => u.sendRs_portsCore k l) _ _).trans hplaced

theorem State.resyncDone_portsCore : (s.resyncDone k).portsCore = s.portsCore := by
  unfold State.resyncDone
  rw [State.saveTether_portsCore, State.tetherTo_portsCore, State.modTether_portsCore]

theorem State.resyncStart_portsCore (all : Bool) : (s.resyncStart k all).portsCore = s.portsCore := by
  unfold State.resyncStart
  extract_lets started
  have hstarted : started.portsCore = s.portsCore := (State.modTether_portsCore ..).trans (State.tetherTo_portsCore ..)
  split
  · exact (State.startGran_portsCore ..).trans hstarted
  · exact (State.resyncDone_portsCore ..).trans hstarted

theorem State.sendBitmap_portsCore : (s.sendBitmap k).portsCore = s.portsCore :=
  foldl_keeps State.portsCore (fun u _ => u.tetherSend_portsCore k _) _ s

theorem State.asPrimary_portsCore (all : Bool) : (s.asPrimary k all).portsCore = s.portsCore := by
  unfold State.asPrimary
  extract_lets changed
  have hchanged : changed.portsCore = s.portsCore := s.modTether_portsCore k _
  split
  · exact (State.resyncStart_portsCore ..).trans hchanged
  · exact (State.tetherTo_portsCore ..).trans hchanged

theorem State.asReplica_portsCore (epoch : Nat) (full sends : Bool) : (s.asReplica k epoch full sends).portsCore = s.portsCore := by
  unfold State.asReplica
  extract_lets changed sent x
  have hsent : sent.portsCore = s.portsCore := by
    unfold sent
    split
    · exact (State.sendBitmap_portsCore ..).trans (s.modTether_portsCore k _)
    · exact s.modTether_portsCore k _
  split
  · exact ((State.tetherTo_portsCore ..).trans (State.modTether_portsCore ..)).trans hsent
  · exact (State.tetherTo_portsCore ..).trans hsent

theorem State.pair_portsCore (e : TetherEntry) : (s.pair k e).portsCore = s.portsCore := by
  unfold State.pair
  extract_lets met x
  have hmet : met.portsCore = s.portsCore := s.modTether_portsCore k _
  split
  · exact (State.tetherTo_portsCore ..).trans hmet
  · exact (State.asPrimary_portsCore ..).trans hmet
  · exact (State.asReplica_portsCore ..).trans hmet
  · split
    · exact (State.asReplica_portsCore ..).trans hmet
    · exact (State.asPrimary_portsCore ..).trans hmet

theorem State.pairAll_portsCore (l : List (Fin 8 × TetherEntry)) : (s.pairAll l).portsCore = s.portsCore := by
  unfold State.pairAll
  induction l generalizing s with
  | nil => rfl
  | cons x l ih => exact (ih _).trans (s.pair_portsCore x.1 x.2)

theorem State.port_of_portsCore {s t : State} (h : t.portsCore = s.portsCore) (p : Fin 4) : (t.lo.ports[p]).core = (s.lo.ports[p]).core := by
  have hp : t.portsCore[p] = s.portsCore[p] := congrArg (fun v : Vector LodePort 4 => v[p]) h
  simpa only [State.portsCore, Fin.getElem_fin, Vector.getElem_map] using hp

end

/-! ### The port comes up, or its first tag fails (R357, R361) -/

section
variable {s : State} {p : Fin 4} {m : HelloMsg}

/-- A derivation leaves the port's state, its partner and its failed tags, and keys it where the engine takes the request. -/
theorem State.deriveKeys_keyed (hmac : ∀ k : Fin 8, s.macOk ⟨8 + k.val, by omega⟩ = true) :
    ((s.deriveKeys p).lo.ports[p]).keyed = true ∧ ((s.deriveKeys p).lo.ports[p]).state = (s.lo.ports[p]).state ∧
    ((s.deriveKeys p).lo.ports[p]).partner = (s.lo.ports[p]).partner ∧
    ((s.deriveKeys p).lo.ports[p]).firstTagFails = (s.lo.ports[p]).firstTagFails := by
  unfold State.deriveKeys
  cases s.portTether p with
  | none =>
    dsimp only
    rw [modLode_port]
    exact ⟨rfl, rfl, rfl, rfl⟩
  | some k =>
    obtain ⟨kp, sec, hcount⟩ := s.macCount_touches ⟨8 + k.val, by omega⟩
    dsimp only
    rw [State.macRun_tether (hmac k), hcount]
    simp only [Option.isSome_some, if_true, State.keyPort]
    rw [modLode_port]
    exact ⟨rfl, rfl, rfl, rfl⟩

theorem State.bringUp_up (hmac : ∀ k : Fin 8, s.macOk ⟨8 + k.val, by omega⟩ = true) :
    ((s.bringUp p m).lo.ports[p]).state = .up ∧ ((s.bringUp p m).lo.ports[p]).partner = m.member ∧ ((s.bringUp p m).lo.ports[p]).keyed = true ∧
    ((s.bringUp p m).lo.ports[p]).firstTagFails = 0 := by
  unfold State.bringUp
  extract_lets named keyed greeted
  have hnamed : (named.lo.ports[p]).state = .up ∧ (named.lo.ports[p]).partner = m.member ∧ (named.lo.ports[p]).firstTagFails = 0 := by
    rw [show named.lo.ports[p] = _ from modLode_port ..]
    exact ⟨rfl, rfl, rfl⟩
  obtain ⟨hkeyed, hstate, hpartner, hfails⟩ := State.deriveKeys_keyed (s := named) (p := p) hmac
  have hcore : ((greeted.pairAll (greeted.deciding p m)).lo.ports[p]).core = (keyed.lo.ports[p]).core :=
    (State.port_of_portsCore (greeted.pairAll_portsCore _) p).trans (State.portCore_of_loCore (State.lodeSend_loCore ..) p)
  generalize greeted.pairAll (greeted.deciding p m) = t at hcore ⊢
  have hstate' : (t.lo.ports[p]).state = (keyed.lo.ports[p]).state := (congrArg LodePort.state hcore :)
  have hpartner' : (t.lo.ports[p]).partner = (keyed.lo.ports[p]).partner := (congrArg LodePort.partner hcore :)
  have hkeyed' : (t.lo.ports[p]).keyed = (keyed.lo.ports[p]).keyed := (congrArg LodePort.keyed hcore :)
  have hfails' : (t.lo.ports[p]).firstTagFails = (keyed.lo.ports[p]).firstTagFails := (congrArg LodePort.firstTagFails hcore :)
  exact ⟨hstate'.trans (hstate.trans hnamed.1), hpartner'.trans (hpartner.trans hnamed.2.1), hkeyed'.trans hkeyed,
    hfails'.trans (hfails.trans hnamed.2.2)⟩

theorem State.bringUpFails_port (s : State) (p : Fin 4) : ((s.bringUpFails p).lo.ports[p]).keyed = false ∧
    ((s.bringUpFails p).lo.ports[p]).state = (if 3 ≤ (s.lo.ports[p]).firstTagFails + 1 then .discovery else .down) ∧
    ((s.bringUpFails p).lo.ports[p]).stuck = decide (3 ≤ (s.lo.ports[p]).firstTagFails + 1) ∧ (s.bringUpFails p).wp = s.wp := by
  obtain ⟨hport, hwp, _⟩ := s.tagFail_down p
  unfold State.bringUpFails
  extract_lets n failed
  rw [modLode_port, show failed.lo.ports[p] = _ from hport]
  exact ⟨rfl, rfl, rfl, hwp⟩

theorem exec_hello {h : LodeHdr} (hstate : (s.lo.ports[h.port]).state = .discovery) :
    ((s.kp.poolId = 0 ∨ m.pool ≠ s.kp.poolId ∨ m.member = s.kp.memberId.toNat) → exec (.hello h m) s = .next s) ∧
    (s.kp.poolId ≠ 0 → m.pool = s.kp.poolId → m.member ≠ s.kp.memberId.toNat → (∃ k : Fin 8, (s.meets h.port k m).isSome = true) →
      (m.keysMatch = true → (∀ k : Fin 8, s.macOk ⟨8 + k.val, by omega⟩ = true) → ∃ t : State, exec (.hello h m) s = .next t ∧
        (t.lo.ports[h.port]).state = .up ∧ (t.lo.ports[h.port]).partner = m.member ∧ (t.lo.ports[h.port]).keyed = true ∧
        (t.lo.ports[h.port]).firstTagFails = 0) ∧
      (m.keysMatch = false → (s.lo.ports[h.port]).stuck = false → ∃ t : State, exec (.hello h m) s = .next t ∧ (t.lo.ports[h.port]).keyed = false ∧
        (t.lo.ports[h.port]).state = (if 3 ≤ (s.lo.ports[h.port]).firstTagFails + 1 then .discovery else .down) ∧
        (t.lo.ports[h.port]).stuck = decide (3 ≤ (s.lo.ports[h.port]).firstTagFails + 1) ∧ t.wp = s.wp)) := by
  refine ⟨fun hother => ?_, fun hpool hsame hmember hmeets => ⟨fun hkeys hmac => ?_, fun hkeys hstuck => ?_⟩⟩
  · refine (if_pos hstate).trans (if_neg fun hall => ?_)
    rcases hother with h0 | h1 | h2
    · exact hall.1.1 h0
    · exact h1 hall.1.2.1
    · exact hall.1.2.2 h2
  · obtain ⟨k, hk⟩ := hmeets
    have hany : (allFin 8).any (fun t => (s.meets h.port t m).isSome) = true := List.any_eq_true.2 ⟨k, List.mem_finRange k, hk⟩
    have hexec : exec (.hello h m) s = .next (s.bringUp h.port m) :=
      (if_pos hstate).trans ((if_pos ⟨⟨hpool, hsame, hmember⟩, hany, .inr hkeys⟩).trans (if_pos hkeys))
    exact ⟨_, hexec, State.bringUp_up hmac⟩
  · obtain ⟨k, hk⟩ := hmeets
    have hany : (allFin 8).any (fun t => (s.meets h.port t m).isSome) = true := List.any_eq_true.2 ⟨k, List.mem_finRange k, hk⟩
    have hkeys' : ¬m.keysMatch = true := by rw [hkeys]; decide
    have hexec : exec (.hello h m) s = .next (s.bringUpFails h.port) :=
      (if_pos hstate).trans ((if_pos ⟨⟨hpool, hsame, hmember⟩, hany, .inl hstuck⟩).trans (if_neg hkeys'))
    exact ⟨_, hexec, s.bringUpFails_port h.port⟩

end

/-! ### Levels (R372) -/

section
variable (s : State)

/-- The level in use follows the table. -/
theorem State.relevel_proto : s.relevel.lo.proto = s.protoInUse := by
  unfold State.relevel
  extract_lets n _ changed
  split
  · next h => exact h.symm
  · exact (foldl_keeps (fun t : State => t.lo.proto) (fun _ _ => by rfl) changed.upPorts changed).trans rfl

theorem State.levelled_levels : s.levelSend.relevel.lo.levels = s.lo.levels := by
  have hsend (m : State → LodeMsg) (l : List (Fin 4)) (t : State) :
      (l.foldl (fun (s : State) p => s.lodeSend p 0 (m s)) t).lo.levels = t.lo.levels :=
    foldl_keeps (fun t : State => t.lo.levels) (fun _ _ => by rfl) l t
  have hlevel : s.levelSend.lo.levels = s.lo.levels := hsend (fun s => .level s.levelTable) _ s
  generalize s.levelSend = t at hlevel ⊢
  rw [← hlevel]
  unfold State.relevel
  extract_lets n _ changed
  split
  · rfl
  · exact (hsend (fun _ => .switch n) changed.upPorts changed).trans rfl

theorem State.levelSend_wp : s.levelSend.wp = s.wp := by
  obtain ⟨_, _, h⟩ := s.levelSend_touches
  rw [h]

theorem State.relevel_wp : s.relevel.wp = s.wp := by
  obtain ⟨_, _, h⟩ := s.relevel_touches
  rw [h]

theorem State.protoInUse_congr {s t : State} (hlevels : t.lo.levels = s.lo.levels) (hsec : t.sec = s.sec) : t.protoInUse = s.protoInUse := by
  rw [State.protoInUse, State.topProto, hlevels, hsec]
  rfl

variable {s}

/-- A LEVEL that passes its tag. -/
theorem exec_level {h : LodeHdr} (hup : (s.lo.ports[h.port]).state = .up) (hkeyed : (s.lo.ports[h.port]).keyed = true) (htag : h.tagOk = true)
    (l : List MemberLevel) : let es := (l.take 8).filter fun m => m.member ≠ s.kp.memberId.toNat && decide (m.member < 2 ^ 14)
    ∃ t : State, exec (.level h l) s = .next t ∧ t.lo.levels = es.foldl putLevel s.lo.levels ∧ t.lo.tethers = s.lo.tethers ∧ t.wp = s.wp ∧
      t.lo.proto = (if t.lo.levels = s.lo.levels then s.lo.proto else t.protoInUse) := by
  intro es
  have hexec : exec (.level h l) s = .next _ := congrArg Host.Outcome.next (State.lodeRecv_passes hup hkeyed htag)
  by_cases hnew : es.foldl putLevel s.lo.levels = s.lo.levels
  · have hsame : exec (.level h l) s = .next (s.heard h.port) := hexec.trans (congrArg Host.Outcome.next (if_pos hnew))
    exact ⟨_, hsame, hnew.symm, rfl, rfl, (if_pos rfl).symm⟩
  · have hchanged : exec (.level h l) s = .next (({ s.heard h.port with
        lo := { (s.heard h.port).lo with levels := es.foldl putLevel s.lo.levels } } : State).levelSend.relevel) :=
      hexec.trans (congrArg Host.Outcome.next (if_neg hnew))
    generalize hput : ({ s.heard h.port with lo := { (s.heard h.port).lo with levels := es.foldl putLevel s.lo.levels } } : State) = u at hchanged
    have hlevels : u.levelSend.relevel.lo.levels = es.foldl putLevel s.lo.levels := by
      rw [State.levelled_levels, ← hput]
    refine ⟨_, hchanged, hlevels, ?_, ?_, ?_⟩
    · rw [State.relevel_tethers, State.levelSend_tethers, ← hput]
      rfl
    · rw [State.relevel_wp, State.levelSend_wp, ← hput]
      rfl
    · rw [if_neg (by rw [hlevels]; exact hnew), State.relevel_proto]
      refine (State.protoInUse_congr ?_ ?_).symm
      · obtain ⟨_, _, h⟩ := u.levelSend_touches
        have hsend : u.levelSend.lo.levels = u.lo.levels :=
          foldl_keeps (fun t : State => t.lo.levels) (f := fun (s : State) p => s.lodeSend p 0 (.level s.levelTable)) (fun _ _ => by rfl) u.upPorts u
        rw [State.levelled_levels, hsend]
      · rw [State.relevel_sec]

end

/-- Settles O57: a message that passes its tag acts, one that fails it takes the port down; pairing leaves the ports. -/
theorem lodePortsComeUpAndDown : Obligations.LodePortsComeUpAndDown := by
  unfold Obligations.LodePortsComeUpAndDown
  intro s
  refine ⟨fun p n hfw hdown => ⟨fun hlanes => ?trained, ?untrained⟩, fun p => ?repeated, fun p hup => ⟨?keepalive, ?silence⟩,
    fun k p habsent hfind => ?retry, fun h m => exec_hello, fun h hup hkeyed => ⟨fun htag => ?passes, fun htag => ?fails, ?unlisted,
      fun htag => exec_level hup hkeyed htag, fun htag n => ?switched⟩, fun h ty hty => ?listed⟩
  case trained =>
    have hexec : exec (.lodeTrainingResult p true n) s = .next _ := if_pos ⟨hfw, hdown, rfl, hlanes⟩
    refine ⟨_, hexec, ?_, ?_, ?_, rfl, rfl, rfl⟩
    all_goals
      dsimp only [State.helloSend, State.emit]
      rw [modLode_port]
  case untrained => exact if_neg fun h => Bool.false_ne_true h.2.2.1
  case repeated => rfl
  case keepalive =>
    have hexec : exec (.keepaliveSend p) s = .next (s.lodeSend p 0 .keepalive) := congrArg Host.Outcome.next (if_pos hup)
    exact ⟨_, hexec, rfl, congrArg LodePort.msgCtr (modLode_port ..), rfl⟩
  case silence =>
    have hexec : exec (.lodeSilenceTimeout p) s = .next ((s.since s.lo.ports[p].lastRx (msTicks 1)).lodeDown p) := if_pos hup
    refine ⟨_, hexec, ?_, ?_, rfl, rfl⟩
    · exact congrArg LodePort.state (modLode_port ..)
    · exact congrArg LodePort.keyed (modLode_port ..)
  case retry =>
    show execAbsentRetry k s = _
    unfold execAbsentRetry
    simp only [hfind, habsent, if_true]
    rfl
  case passes => exact ⟨_, congrArg Host.Outcome.next (State.lodeRecv_passes hup hkeyed htag), rfl⟩
  case fails =>
    obtain ⟨hport, hwp, htethers⟩ := s.tagFail_down h.port
    have hfails : ∀ f, Host.Outcome.next (φ := Fault) (ρ := Refusal) (s.lodeRecv h f) = .next (s.tagFail h.port) :=
      fun f => congrArg Host.Outcome.next (State.lodeRecv_fails hup hkeyed htag)
    exact ⟨s.tagFail h.port, congrArg LodePort.state hport, congrArg LodePort.keyed hport, hwp, htethers, hfails _, fun _ => hfails _,
      fun _ => hfails _, fun _ _ _ _ => hfails _, fun _ => hfails _, fun _ _ => hfails _, hfails _⟩
  case unlisted =>
    obtain ⟨hport, hwp, htethers⟩ := s.tagFail_down h.port
    have hexec : exec (.unknownLodeMessageType h 0x99) s = .next (s.tagFail h.port) :=
      congrArg Host.Outcome.next (State.lodeRecv_fails (h := { h with tagOk := false }) (f := fun s => s) hup hkeyed rfl)
    exact ⟨_, hexec, congrArg LodePort.state hport, congrArg LodePort.keyed hport, hwp⟩
  case switched =>
    have hexec : exec (.switch h n) s = .next ((s.heard h.port).modLode h.port fun x => { x with level := n }) :=
      congrArg Host.Outcome.next (State.lodeRecv_passes hup hkeyed htag)
    exact ⟨_, hexec, congrArg LodePort.level (modLode_port ..), rfl, rfl⟩
  case listed =>
    show execUnknownLodeMessageType h ty s = _
    unfold execUnknownLodeMessageType
    rcases hty with hty | hty
    · simp only [hty]
      rfl
    · simp only [hty]
      rfl

end Sys2Proof.Machine
end

section
/-! PROOFS. The statement about the messages of a tether (15_lode_links_and_pools.md R361, R364, R366 to R369; 07_commit_groups.md R181, R183): lines
and groups mirrored at the replica, confirmations at the primary, absence, marks and resync. -/

namespace Sys2Proof.Machine
open Sys2Proof.Laws

/-! ### A message of a tether -/

theorem State.tetherRecv_takes {s : State} {h : LodeHdr} {f : State → State} (hup : (s.lo.ports[h.port]).state = .up)
    (hkeyed : (s.lo.ports[h.port]).keyed = true) (htag : h.tagOk = true) (htakes : s.tetherTakes h = true) :
    s.tetherRecv h f = f (s.heard h.port) := by
  have hport : (s.heard h.port).lo.ports[h.port] = { s.lo.ports[h.port] with rxCtr := (s.lo.ports[h.port]).rxCtr + 1, lastRx := s.now } :=
    modLode_port ..
  have hpartner : ((s.heard h.port).lo.ports[h.port]).partner = (s.lo.ports[h.port]).partner := (congrArg LodePort.partner hport :)
  have hsame : (s.heard h.port).tetherTakes h = true := by
    rw [State.tetherTakes, hpartner]
    exact htakes
  exact (State.lodeRecv_passes hup hkeyed htag).trans (if_pos hsame)

/-- An end that takes messages is pairing, syncing or in sync. -/
theorem State.open_of_takes {s : State} {h : LodeHdr} (htakes : s.tetherTakes h = true) : (s.lo.tethers[h.tether]).state = .pairing ∨
    (s.lo.tethers[h.tether]).state = .syncing ∨ (s.lo.tethers[h.tether]).state = .inSync := by
  simp only [State.tetherTakes, Bool.and_eq_true, decide_eq_true_eq] at htakes
  obtain ⟨⟨⟨⟨hfree, habsent⟩, hrefused⟩, -⟩, -⟩ := htakes
  cases hstate : (s.lo.tethers[h.tether]).state with
  | free => exact absurd hstate hfree
  | pairing => exact .inl rfl
  | syncing => exact .inr (.inl rfl)
  | inSync => exact .inr (.inr rfl)
  | absent => exact absurd hstate habsent
  | refused => exact absurd hstate hrefused

/-! ### Mirrored lines (R364, R368) -/

section
variable {s : State} {k : Fin 8}

/-- A line within the region enters the receive queue with the next sequence number. -/
theorem State.mirror_queues {off : Nat} {win : Option (Fin 64)} {psn : Bool} {data : Line} {src : WSrc} (hreplica : (s.lo.tethers[k]).replica = true)
    (hroom : (s.lo.tethers[k]).rxq.length < 256) (hsize : off * 64 < (s.cr.regions[regIx (s.lo.tethers[k]).region]).size) :
    (s.mirror k off win psn data src).lo.tethers[k] = { s.lo.tethers[k] with rxq := (s.lo.tethers[k]).rxq ++
      [newWrite ((s.wp.seq + 1) % 2 ^ 48) (s.tetherLd k) (s.tetherLine k off) win (BitVec.allOnes 64) data psn src] } ∧
    (s.mirror k off win psn data src).wp.index = s.wp.index := by
  have hin : ¬((s.lo.tethers[k]).replica = false ∨ 256 ≤ (s.lo.tethers[k]).rxq.length ∨
      (s.cr.regions[regIx (s.lo.tethers[k]).region]).size ≤ off * 64) := by
    rw [hreplica]
    rintro (h | h | h)
    · cases h
    · omega
    · omega
  unfold State.mirror
  extract_lets x
  rw [if_neg hin]
  obtain ⟨sec, kp, hnumbered⟩ := s.nextSeq_touches
  have hseq : s.nextSeq.1 = (s.wp.seq + 1) % 2 ^ 48 := rfl
  generalize s.nextSeq = numbered at hnumbered hseq ⊢
  obtain ⟨q, t⟩ := numbered
  dsimp only at hnumbered hseq ⊢
  subst hnumbered hseq
  exact ⟨modTether_tether .., rfl⟩

/-- A tether whose resync has reached it. -/
def Tether.reached (x : Tether) : Tether := if x.state = .inSync then { x with part := true, state := .syncing } else x

theorem Tether.reached_state (x : Tether) : x.reached.state = (if x.state = .inSync then .syncing else x.state) := by
  unfold Tether.reached
  split <;> rfl

theorem Tether.reached_of_state (x : Tether) : ∃ part state, x.reached = { x with part := part, state := state } := by
  unfold Tether.reached
  split
  · exact ⟨_, _, rfl⟩
  · exact ⟨x.part, x.state, rfl⟩

theorem State.resyncSeen_touches (s : State) (k : Fin 8) :
    ∃ nt kp lo, s.resyncSeen k = { s with nt := nt, kp := kp, lo := lo } ∧ lo.tethers[k] = (s.lo.tethers[k]).reached := by
  unfold State.resyncSeen Tether.reached
  split
  next h =>
    have htether := (s.modTether k fun x => { x with part := true }).tetherTo_tether k .syncing
    rw [modTether_tether] at htether
    unfold State.tetherTo at htether ⊢
    split
    next =>
      rw [if_pos (by assumption)] at htether
      exact ⟨_, _, _, rfl, htether⟩
    next =>
      rw [if_neg (by assumption)] at htether
      obtain ⟨nt, hraise⟩ := ((s.modTether k fun x => { x with part := true }).modTether k fun y => { y with state := .syncing }).raise_touches
        0x36 0 0
      rw [hraise] at htether ⊢
      exact ⟨_, _, _, rfl, htether⟩
  next h => exact ⟨s.nt, s.kp, s.lo, rfl, rfl⟩

end

/-- What a resync that reaches the replica leaves. -/
theorem State.resyncSeen_keeps (s : State) (k : Fin 8) : (s.resyncSeen k).lo.tethers[k] = (s.lo.tethers[k]).reached ∧
    (s.resyncSeen k).tetherLd k = s.tetherLd k ∧ (∀ off, (s.resyncSeen k).tetherLine k off = s.tetherLine k off) ∧
    (∀ g, (s.resyncSeen k).granAt k g = s.granAt k g) ∧ (s.resyncSeen k).tetherGrans k = s.tetherGrans k ∧
    (s.resyncSeen k).wp = s.wp ∧ (s.resyncSeen k).cr = s.cr := by
  obtain ⟨nt, kp, lo, hseen, hreached⟩ := s.resyncSeen_touches k
  obtain ⟨_, _, hsame⟩ := (s.lo.tethers[k]).reached_of_state
  have hregion : (lo.tethers[k]).region = (s.lo.tethers[k]).region := (congrArg Tether.region (hreached.trans hsame) :)
  rw [hseen]
  refine ⟨hreached, ?_, fun off => ?_, fun g => ?_, ?_, rfl, rfl⟩
  · show ({ s with nt := nt, kp := kp, lo := lo } : State).regionLd (regIx (lo.tethers[k]).region) = _
    rw [hregion]
    rfl
  · exact congrArg (fun r => (s.cr.regions[regIx r]).base / 64 + off) hregion
  · exact congrArg (fun r => (s.cr.regions[regIx r]).base / 16384 + g) hregion
  · exact congrArg (fun r => (s.cr.regions[regIx r]).size / 16384) hregion

/-! ### A granule poisoned (R107, R130) -/

theorem State.poisonAdd_mapEnt (s : State) (line lines : Nat) (src : PoisonSrc) (g : Nat) : (s.poisonAdd line lines src).mapEnt g = s.mapEnt g := by
  rw [State.mapEnt, State.poisonAdd_fo]
  rfl

theorem State.journal_mapEnt (s : State) (r : MetaRec) (g : Nat) : (s.journal r).mapEnt g = s.mapEnt g := by
  obtain ⟨_, hfo⟩ := s.journal_fo r
  rw [State.mapEnt, hfo]
  rfl

theorem State.poisonGranule_mapEnt (s : State) (g : Nat) (src : PoisonSrc) : ((s.poisonGranule g src).mapEnt g).state = .poisoned := by
  unfold State.poisonGranule
  extract_lets m killed cleared journalled
  clear_value cleared
  have hset : journalled.mapEnt g = ⟨.poisoned, 0, 0, m.heat, false⟩ :=
    (State.journal_mapEnt ..).trans ((State.setMap_mapEnt ..).trans (if_pos rfl))
  rw [State.poisonAdd_mapEnt, hset]

theorem State.judgeMarks_mapEnt (s : State) (g : Nat) : s.judgeMarks.mapEnt g = s.mapEnt g := by
  rw [State.mapEnt, State.judgeMarks_fo]
  rfl

/-! ### Groups at the replica (R181) -/

section
variable (s : State) (n : Fin 16) (w : Fin 64)

theorem State.judgeMarks_win : s.judgeMarks.win n w = s.win n w := by
  obtain ⟨_, _, hld⟩ := s.judgeMarks_notifies n
  exact (congrArg (fun l : LD => l.wins[w]) hld :)

theorem State.judgeMarks_tents : s.judgeMarks.wp.tents = s.wp.tents := by rw [State.judgeMarks_wp]

/-- The group is committed, and none of its lines is tentative any more. -/
theorem State.replicaCommit_commits : (s.replicaCommit n w).win n w =
      { s.win n w with state := .committed, outcome := 1, recIssued := false, durGseq := (s.win n w).gseq, durOutcome := 1,
                       durCount := (s.win n w).arrived } ∧
    ∀ y ∈ (s.replicaCommit n w).wp.tents, ¬(y.ld = n ∧ y.win = w) := by
  unfold State.replicaCommit
  extract_lets v mine moved _ recorded
  have hhost : moved.hostSide = s.hostSide := foldl_keeps State.hostSide (fun u (t : TentRec) => u.commitLine_hostSide v.recSeq t) mine s
  clear_value moved
  refine ⟨?_, fun y hy => not_mem_tents_filter hy⟩
  rw [modWin_win, show recorded.win n w = s.win n w from State.win_of_hostSide hhost n w]

/-- Mirrored writes that come to nothing leave the windows and the tentative lines. -/
theorem State.dropMirrored_keeps (k : Fin 8) (wins : List (Fin 64)) : (s.dropMirrored k wins).lds = s.lds ∧
    (s.dropMirrored k wins).wp.tents = s.wp.tents := ⟨rfl, rfl⟩

/-- The partner's commit record is programmed, and waits for its copies. -/
def State.takeCommit (s : State) (h : LodeHdr) (win : Fin 64) (gseq first last count : Nat) : State :=
  let (q, s) := s.nextSeq
  let (p, s) := s.allocMeta q false
  let s := s.modWin (s.tetherLd h.tether) win fun v =>
    { v with state := .committing, gseq := gseq, first := first, last := last, count := count, arrived := count, recIssued := true, recSeq := q,
             recPlace := p, recLocal := false, recPartner := false }
  s.modTether h.tether fun x => { x with recs := (x.recs.filter fun r => r.1 ≠ win) ++ [(win, h.seq)] }

theorem State.Allocs.tetherLd {s t : State} (h : s.Allocs t) (k : Fin 8) : t.tetherLd k = s.tetherLd k := by
  obtain ⟨_, _, _, _, _, _, _, rfl⟩ := h
  rfl

theorem State.takeCommit_takes (h : LodeHdr) (gs a b c : Nat) : let t := s.takeCommit h w gs a b c
    (t.win (s.tetherLd h.tether) w).recIssued = true ∧ (t.win (s.tetherLd h.tether) w).gseq = gs ∧ (t.win (s.tetherLd h.tether) w).count = c ∧
    (t.win (s.tetherLd h.tether) w).state = .committing ∧ (w, h.seq) ∈ (t.lo.tethers[h.tether]).recs := by
  intro t
  have hld := (s.nextSeq_allocs.trans (State.allocMeta_allocs s.nextSeq.2 s.nextSeq.1 false)).tetherLd h.tether
  unfold t State.takeCommit
  generalize s.nextSeq = numbered at hld ⊢
  obtain ⟨q, u⟩ := numbered
  dsimp only at hld ⊢
  generalize u.allocMeta q false = placed at hld ⊢
  obtain ⟨p, v⟩ := placed
  dsimp only at hld ⊢
  rw [hld]
  have hwin := modWin_win v (s.tetherLd h.tether) w fun v =>
    { v with state := .committing, gseq := gs, first := a, last := b, count := c, arrived := c, recIssued := true, recSeq := q,
             recPlace := p, recLocal := false, recPartner := false }
  refine ⟨?_, ?_, ?_, ?_, ?_⟩
  · exact (congrArg Win.recIssued hwin :)
  · exact (congrArg Win.gseq hwin :)
  · exact (congrArg Win.count hwin :)
  · exact (congrArg Win.state hwin :)
  · rw [modTether_tether]
    exact List.mem_append_right _ List.mem_cons_self

/-- The window of a group that its partner has discarded. -/
def Win.abandoned (v : Win) (outcome gseq : Nat) : Win :=
  { v with state := if outcome = 3 then .timedOut else .aborted, outcome := outcome, gseq := gseq, recIssued := false }

theorem State.abandon_win (k : Fin 8) (a gs : Nat) :
    let t := (((s.dropMirrored k [w]).dropTents n w).modWin n w fun v => v.abandoned a gs).judgeMarks
    t.win n w = (s.win n w).abandoned a gs ∧ ∀ y ∈ t.wp.tents, ¬(y.ld = n ∧ y.win = w) := by
  intro t
  have hdropped := (s.dropMirrored k [w]).dropTents_dropped n w
  have hwin : ((s.dropMirrored k [w]).dropTents n w).win n w = s.win n w :=
    (State.win_of_hostSide hdropped.host n w).trans (congrArg (fun v : Vector LD 16 => (v[n]).wins[w]) (s.dropMirrored_keeps k [w]).1)
  refine ⟨?_, fun y hy => hdropped.tents y ?_⟩
  · rw [State.judgeMarks_win, modWin_win, hwin]
  · rw [State.judgeMarks_tents] at hy
    exact hy

end

/-! ### A commit record, and the confirmations at the primary (R68, R181, R183) -/

section
variable (s : State) (k : Fin 8)

/-- A write of a number goes on: the partner has confirmed it. -/
def State.confirmWrite (q : Nat) (w : Write) : Write := if w.seq = q ∧ s.awaits k w then { w with partnerAck := true } else w

theorem State.toIndex_allocQ : s.toIndex.wp.allocQ = s.wp.allocQ := by
  unfold State.toIndex
  refine (foldl_keeps (fun t : State => t.wp.allocQ) (fun u w => ?_) _ _).trans rfl
  split <;> rfl

theorem State.toIndex_lds : s.toIndex.lds = s.lds := by
  unfold State.toIndex
  refine (foldl_keeps State.lds (fun u w => ?_) _ _).trans rfl
  split <;> rfl

variable {s k}

/-- The number of a resync line is no longer waited for once it is confirmed. -/
theorem State.confirm_resync {q l : Nat} (h : (q, l) ∈ (s.lo.tethers[k]).rs) : ∀ z ∈ ((s.confirm k q).lo.tethers[k]).rs, z.1 ≠ q := by
  unfold State.confirm
  cases hfind : (s.lo.tethers[k]).rs.find? fun x => x.1 == q with
  | none => exact absurd (beq_self_eq_true q) (List.find?_eq_none.1 hfind _ h)
  | some x =>
    dsimp only
    intro z hz
    have hcore := State.tetherCore_of_loCore ((State.runEnc_loCore _).trans (State.releaseLock_loCore
      (s.modTether k fun y => { y with rs := y.rs.filter fun z => z.1 ≠ q }) x.2)) k
    rw [modTether_tether] at hcore
    have hkept : z ∈ (s.lo.tethers[k]).rs.filter fun z => z.1 ≠ q := (congrArg (fun x : Tether => z ∈ x.rs) hcore).mp hz
    exact of_decide_eq_true (List.mem_filter.1 hkept).2

/-- The write of a number is confirmed, before the index takes it. -/
def State.confirmAcked (s : State) (k : Fin 8) (q : Nat) : State :=
  let t := s.modTether k fun y => { y with sent := y.sent.filter fun z => z.1 ≠ q }
  { t with wp := { t.wp with progs := t.wp.progs.map (s.confirmWrite k q), allocQ := t.wp.allocQ.map (s.confirmWrite k q) } }

/-- A window's commit record of a number is confirmed. -/
def State.confirmRec (k : Fin 8) (q : Nat) (n : Fin 16) (s : State) (w : Fin 64) : State :=
  if (s.win n w).recIssued ∧ (s.win n w).recSeq = q ∧ (s.win n w).teth = some k then
    (s.modWin n w fun v => { v with recPartner := true }).tryCommit n w false
  else s

theorem State.confirm_of_none {q : Nat} (h : (s.lo.tethers[k]).rs.find? (fun x => x.1 == q) = none) : s.confirm k q =
    (allFin 16).foldl (fun (s : State) n => (allFin 64).foldl (State.confirmRec k q n) s) (s.confirmAcked k q).toIndex := by
  unfold State.confirm
  rw [h]
  rfl

/-- A write's number leaves the list of those sent, and the write goes on, where no window waits for a commit record. -/
theorem State.confirm_write {q : Nat} (hrs : ∀ z ∈ (s.lo.tethers[k]).rs, z.1 ≠ q) (hwin : ∀ (m : Fin 16) (w : Fin 64), (s.win m w).teth ≠ some k) :
    ((s.confirm k q).lo.tethers[k]).sent = (s.lo.tethers[k]).sent.filter (fun z => z.1 ≠ q) ∧
    (s.confirm k q).wp.allocQ = s.wp.allocQ.map (s.confirmWrite k q) := by
  have hfind : (s.lo.tethers[k]).rs.find? (fun x => x.1 == q) = none := List.find?_eq_none.2 fun z hz hq => hrs z hz (beq_iff_eq.1 hq)
  have hconfirm := State.confirm_of_none hfind
  generalize hacked : (s.confirmAcked k q).toIndex = u at hconfirm
  have hlds : u.lds = s.lds := by
    rw [← hacked]
    exact State.toIndex_lds _
  have hidle (n : Fin 16) (w : Fin 64) : State.confirmRec k q n u w = u := if_neg fun h =>
    hwin n w ((congrArg (fun v : Vector LD 16 => ((v[n]).wins[w]).teth) hlds).symm.trans h.2.2)
  rw [hconfirm, List.foldl_fixed' (fun n => List.foldl_fixed' (hidle n) _), ← hacked]
  refine ⟨?_, State.toIndex_allocQ _⟩
  have htether : (s.confirmAcked k q).toIndex.lo.tethers[k] = (s.confirmAcked k q).lo.tethers[k] :=
    congrArg (fun l : Lo => l.tethers[k]) (State.toIndex_lo _)
  rw [htether]
  exact congrArg Tether.sent (modTether_tether s k fun y => { y with sent := y.sent.filter fun z => z.1 ≠ q })

/-- A dirty bit stands once it is set, and those set before stand. -/
theorem State.setDirtyBit_bitmap (g : Nat) : g ∈ ((s.setDirtyBit k g).lo.tethers[k]).bitmap ∧
    ∀ i ∈ (s.lo.tethers[k]).bitmap, i ∈ ((s.setDirtyBit k g).lo.tethers[k]).bitmap := by
  unfold State.setDirtyBit
  split
  next h => exact ⟨List.contains_iff_mem.1 h, fun i hi => hi⟩
  next h =>
    have hbits : (((s.modTether k fun x => { x with bitmap := x.bitmap ++ [g] }).metaRec (.bitmap k g)).lo.tethers[k]).bitmap =
        (s.lo.tethers[k]).bitmap ++ [g] :=
      congrArg Tether.bitmap ((congrArg (fun l : Lo => l.tethers[k]) (State.metaRec_lo ..)).trans (modTether_tether s k _))
    rw [hbits]
    exact ⟨List.mem_append_right _ List.mem_cons_self, fun i hi => List.mem_append_left _ hi⟩

theorem foldl_setDirtyBit_bitmap {gs : List Nat} {i : Nat} (h : i ∈ gs ∨ i ∈ (s.lo.tethers[k]).bitmap) :
    i ∈ ((gs.foldl (fun (s : State) g => s.setDirtyBit k g) s).lo.tethers[k]).bitmap := by
  induction gs generalizing s with
  | nil => exact h.resolve_left List.not_mem_nil
  | cons g gs ih =>
    obtain ⟨hset, hkept⟩ := State.setDirtyBit_bitmap (s := s) (k := k) g
    refine ih ?_
    rcases h with h | h
    · rcases List.mem_cons.1 h with rfl | h
      · exact .inr hset
      · exact .inl h
    · exact .inr (hkept i h)

end

/-! ### The marks of confirmation (R367) -/

section
variable {s : State}

/-- The mark of one tether. -/
def State.markConfirmed (s : State) (t : Fin 8) : State :=
  if (s.lo.tethers[t]).state = .free ∨ (s.lo.tethers[t]).replica then s
  else (s.modTether t fun y => { y with confirmed := (((s.lo.tethers[t]).sent.map (·.1)).min?).getD s.wp.seq }).metaRec
    (.confirmed t ((((s.lo.tethers[t]).sent.map (·.1)).min?).getD s.wp.seq))

theorem State.markConfirmed_other {t j : Fin 8} (h : t ≠ j) : (s.markConfirmed t).lo.tethers[j] = s.lo.tethers[j] := by
  unfold State.markConfirmed
  split
  · rfl
  · refine (congrArg (fun l : Lo => l.tethers[j]) (State.metaRec_lo ..)).trans ?_
    exact (vmod_get ..).trans (if_neg h)

theorem State.markConfirmed_same {t : Fin 8} {m : Nat} (hstate : (s.lo.tethers[t]).state ≠ .free) (hprimary : (s.lo.tethers[t]).replica = false)
    (hmin : ((s.lo.tethers[t]).sent.map (·.1)).min? = some m) : (s.markConfirmed t).lo.tethers[t] = { s.lo.tethers[t] with confirmed := m } := by
  have hmarks : ¬((s.lo.tethers[t]).state = .free ∨ (s.lo.tethers[t]).replica = true) := by
    rw [hprimary]
    rintro (h | h)
    · exact hstate h
    · cases h
  unfold State.markConfirmed
  rw [if_neg hmarks, hmin]
  exact (congrArg (fun l : Lo => l.tethers[t]) (State.metaRec_lo ..)).trans (modTether_tether ..)

theorem foldl_markConfirmed {j : Fin 8} {m : Nat} {l : List (Fin 8)} (hstate : (s.lo.tethers[j]).state ≠ .free)
    (hprimary : (s.lo.tethers[j]).replica = false) (hmin : ((s.lo.tethers[j]).sent.map (·.1)).min? = some m)
    (h : j ∈ l ∨ (s.lo.tethers[j]).confirmed = m) : ((l.foldl State.markConfirmed s).lo.tethers[j]).confirmed = m := by
  induction l generalizing s with
  | nil => exact h.resolve_left List.not_mem_nil
  | cons t l ih =>
    rw [List.foldl_cons]
    by_cases htj : t = j
    · subst htj
      have hsame := State.markConfirmed_same hstate hprimary hmin
      refine ih ?_ ?_ ?_ (.inr ?_)
      all_goals rw [hsame]
      · exact hstate
      · exact hprimary
      · exact hmin
    · have hother := State.markConfirmed_other (s := s) htj
      refine ih ?_ ?_ ?_ ?_
      all_goals rw [hother]
      · exact hstate
      · exact hprimary
      · exact hmin
      · exact h.imp_left fun hj => (List.mem_cons.1 hj).resolve_left (Ne.symm htj)

end

/-! ### Resync ends (R368) -/

section
variable {s : State} {k : Fin 8}

theorem State.resyncDone_tether (s : State) (k : Fin 8) : (s.resyncDone k).lo.tethers[k] =
    { s.lo.tethers[k] with full := false, part := false, walkAll := false, bitmap := [], state := .inSync } := by
  have htether := (s.modTether k fun x => { x with full := false, part := false, walkAll := false, bitmap := [] }).tetherTo_tether k .inSync
  rw [modTether_tether] at htether
  exact htether

/-- With the last dirty bit done, the primary's resync is complete. -/
theorem State.granDone_last (hall : (s.lo.tethers[k]).walkAll = false) (hbits : (s.lo.tethers[k]).bitmap = [(s.lo.tethers[k]).pos]) :
    ∃ u : State, s.granDone k = u.resyncDone k := by
  unfold State.granDone
  extract_lets g cleared
  have hcleared : (cleared.lo.tethers[k]).walkAll = false ∧ (cleared.lo.tethers[k]).bitmap = [] := by
    have hin : ((s.lo.tethers[k]).bitmap.contains g) = true := by rw [hbits]; simp [g]
    have htether : cleared.lo.tethers[k] = { s.lo.tethers[k] with bitmap := (s.lo.tethers[k]).bitmap.filter (· ≠ g) } := by
      unfold cleared
      rw [if_pos hin]
      exact (congrArg (fun l : Lo => l.tethers[k]) (State.metaRec_lo ..)).trans (modTether_tether ..)
    rw [htether]
    refine ⟨hall, ?_⟩
    show (s.lo.tethers[k]).bitmap.filter (· ≠ g) = []
    rw [hbits]
    simp [g]
  have hnext : cleared.nextGran k (g + 1) = none := by
    unfold State.nextGran
    extract_lets x
    rw [show x.walkAll = false from hcleared.1, show x.bitmap = [] from hcleared.2]
    rfl
  rw [hnext]
  exact ⟨cleared, rfl⟩

theorem exec_resyncGranule (hstate : (s.lo.tethers[k]).state = .syncing) (hdone : (s.lo.tethers[k]).replica = true ∨
    ((s.lo.tethers[k]).unsent = [] ∧ (s.lo.tethers[k]).rs = [] ∧ (s.lo.tethers[k]).walkAll = false ∧
      (s.lo.tethers[k]).bitmap = [(s.lo.tethers[k]).pos])) :
    ∃ u : State, exec (.resyncGranule k) s = .next (u.resyncDone k) := by
  by_cases hreplica : (s.lo.tethers[k]).replica = true
  · exact ⟨s, (if_neg (not_not.2 hstate)).trans (if_pos hreplica)⟩
  · obtain ⟨hunsent, hrs, hall, hbits⟩ := hdone.resolve_left hreplica
    obtain ⟨u, hu⟩ := State.granDone_last hall hbits
    exact ⟨u, (if_neg (not_not.2 hstate)).trans ((if_neg hreplica).trans ((if_neg (not_not.2 hunsent)).trans ((if_neg (not_not.2 hrs)).trans
      (congrArg Host.Outcome.next hu))))⟩

end

/-! ### Each message, for an end that takes it -/

section
variable {s : State} {h : LodeHdr} (hrecv : ∀ f, s.tetherRecv h f = f (s.heard h.port))
include hrecv

theorem exec_twrite {off : Nat} {w : Option (Fin 64)} {psn : Bool} {d : Line} (hreplica : (s.lo.tethers[h.tether]).replica = true)
    (hroom : (s.lo.tethers[h.tether]).rxq.length < 256) (hsize : off * 64 < (s.cr.regions[regIx (s.lo.tethers[h.tether]).region]).size) :
    ∃ t : State, exec (.twrite h off w psn d) s = .next t ∧ (t.lo.tethers[h.tether]).rxq = (s.lo.tethers[h.tether]).rxq ++
      [newWrite ((s.wp.seq + 1) % 2 ^ 48) (s.tetherLd h.tether) (s.tetherLine h.tether off) w (BitVec.allOnes 64) d psn (.partner h.tether h.seq)] ∧
      t.wp.index = s.wp.index := by
  have hexec : exec (.twrite h off w psn d) s = .next ((s.heard h.port).mirror h.tether off w psn d (.partner h.tether h.seq)) :=
    congrArg Host.Outcome.next (hrecv _)
  obtain ⟨htether, hindex⟩ := State.mirror_queues (s := s.heard h.port) (win := w) (psn := psn) (data := d) (src := .partner h.tether h.seq)
    hreplica hroom hsize
  exact ⟨_, hexec, congrArg Tether.rxq htether, hindex⟩

theorem exec_rsline {off : Nat} {psn : Bool} {d : Line} (hreplica : (s.lo.tethers[h.tether]).replica = true)
    (hroom : (s.lo.tethers[h.tether]).rxq.length < 256) (hsize : off * 64 < (s.cr.regions[regIx (s.lo.tethers[h.tether]).region]).size) :
    ∃ t : State, exec (.rsline h off psn d) s = .next t ∧ (t.lo.tethers[h.tether]).rxq = (s.lo.tethers[h.tether]).rxq ++
      [newWrite ((s.wp.seq + 1) % 2 ^ 48) (s.tetherLd h.tether) (s.tetherLine h.tether off) none (BitVec.allOnes 64) d psn (.resync h.tether h.seq)] ∧
      t.wp.index = s.wp.index ∧
      (t.lo.tethers[h.tether]).state = (if (s.lo.tethers[h.tether]).state = .inSync then .syncing else (s.lo.tethers[h.tether]).state) := by
  have hexec : exec (.rsline h off psn d) s =
      .next (((s.heard h.port).resyncSeen h.tether).mirror h.tether off none psn d (.resync h.tether h.seq)) :=
    congrArg Host.Outcome.next ((hrecv _).trans (if_pos hreplica))
  obtain ⟨hreached, hld, hline, -, -, hwp, hcr⟩ := (s.heard h.port).resyncSeen_keeps h.tether
  generalize (s.heard h.port).resyncSeen h.tether = v at hexec hreached hld hline hwp hcr
  obtain ⟨part, state, hsame⟩ := (s.lo.tethers[h.tether]).reached_of_state
  have htether : v.lo.tethers[h.tether] = { s.lo.tethers[h.tether] with part := part, state := state } := hreached.trans hsame
  have hrxq : (v.lo.tethers[h.tether]).rxq = (s.lo.tethers[h.tether]).rxq := (congrArg Tether.rxq htether :)
  have hregion : (v.lo.tethers[h.tether]).region = (s.lo.tethers[h.tether]).region := (congrArg Tether.region htether :)
  have hseq : v.wp.seq = s.wp.seq := congrArg Wp.seq hwp
  obtain ⟨hqueued, hindex⟩ := State.mirror_queues (s := v) (k := h.tether) (off := off) (win := none) (psn := psn) (data := d)
    (src := .resync h.tether h.seq) ((congrArg Tether.replica htether :).trans hreplica) (hrxq.symm ▸ hroom) 
    ((congrArg₂ (fun (cr : Cr) r => off * 64 < (cr.regions[regIx r]).size) hcr hregion).mpr hsize)
  refine ⟨_, hexec, ?_, hindex.trans (congrArg Wp.index hwp), ?_⟩
  · rw [hqueued]
    show (v.lo.tethers[h.tether]).rxq ++ _ = _
    rw [hrxq, hseq, hld, hline]
    rfl
  · rw [hqueued]
    exact (congrArg Tether.state hreached).trans (Tether.reached_state _)

theorem exec_rsmark {g : Nat} (hreplica : (s.lo.tethers[h.tether]).replica = true) (hg : g < s.tetherGrans h.tether) :
    ∃ t : State, exec (.rsmark h g true) s = .next t ∧ (t.mapEnt (s.granAt h.tether g)).state = .poisoned := by
  have hin : ¬((s.lo.tethers[h.tether]).replica = false ∨ s.tetherGrans h.tether ≤ g) := by
    rw [hreplica]
    rintro (h | h)
    · cases h
    · omega
  have hexec : exec (.rsmark h g true) s = .next (((s.heard h.port).resyncSeen h.tether).poisonGranule
      (((s.heard h.port).resyncSeen h.tether).granAt h.tether g) .external).judgeMarks :=
    congrArg Host.Outcome.next ((hrecv _).trans (if_neg hin))
  obtain ⟨-, -, -, hgran, -⟩ := (s.heard h.port).resyncSeen_keeps h.tether
  have hat : ((s.heard h.port).resyncSeen h.tether).granAt h.tether g = s.granAt h.tether g := hgran g
  rw [hat] at hexec
  refine ⟨_, hexec, ?_⟩
  rw [State.judgeMarks_mapEnt]
  exact State.poisonGranule_mapEnt ..

theorem exec_tcommit {w : Fin 64} {gs a b c : Nat} (hreplica : (s.lo.tethers[h.tether]).replica = true) :
    ∃ t : State, exec (.tcommit h w gs a b c) s = .next t ∧ (t.win (s.tetherLd h.tether) w).recIssued = true ∧
      (t.win (s.tetherLd h.tether) w).gseq = gs ∧ (t.win (s.tetherLd h.tether) w).count = c ∧ (t.win (s.tetherLd h.tether) w).state = .committing ∧
      (w, h.seq) ∈ (t.lo.tethers[h.tether]).recs := by
  have hexec : exec (.tcommit h w gs a b c) s = .next ((s.heard h.port).takeCommit h w gs a b c) :=
    congrArg Host.Outcome.next ((hrecv _).trans (if_pos hreplica))
  exact ⟨_, hexec, (s.heard h.port).takeCommit_takes w h gs a b c⟩

theorem exec_tpoint {w : Fin 64} {gs : Nat} (hreplica : (s.lo.tethers[h.tether]).replica = true)
    (hissued : (s.win (s.tetherLd h.tether) w).recIssued = true) (hgseq : (s.win (s.tetherLd h.tether) w).gseq = gs) :
    ∃ t : State, exec (.tpoint h w gs) s = .next t ∧ (t.win (s.tetherLd h.tether) w).state = .committed ∧
      (t.win (s.tetherLd h.tether) w).durGseq = gs ∧ (t.win (s.tetherLd h.tether) w).outcome = 1 ∧
      ∀ y ∈ t.wp.tents, ¬(y.ld = s.tetherLd h.tether ∧ y.win = w) := by
  have hexec : exec (.tpoint h w gs) s = .next ((s.heard h.port).replicaCommit (s.tetherLd h.tether) w).judgeMarks :=
    congrArg Host.Outcome.next ((hrecv _).trans (if_pos ⟨hreplica, hissued, hgseq⟩))
  obtain ⟨hwin, htents⟩ := (s.heard h.port).replicaCommit_commits (s.tetherLd h.tether) w
  refine ⟨_, hexec, ?_, ?_, ?_, ?_⟩
  · rw [State.judgeMarks_win, hwin]
  · rw [State.judgeMarks_win, hwin]
    exact hgseq
  · rw [State.judgeMarks_win, hwin]
  · rw [State.judgeMarks_tents]
    exact htents

theorem exec_tabort {w : Fin 64} {gs a : Nat} (hreplica : (s.lo.tethers[h.tether]).replica = true) :
    ∃ t : State, exec (.tabort h w a gs) s = .next t ∧
      (t.win (s.tetherLd h.tether) w).state = (if a = 3 then .timedOut else .aborted) ∧ (t.win (s.tetherLd h.tether) w).outcome = a ∧
      (t.win (s.tetherLd h.tether) w).gseq = gs ∧ ∀ y ∈ t.wp.tents, ¬(y.ld = s.tetherLd h.tether ∧ y.win = w) := by
  obtain ⟨hwin, htents⟩ := (s.heard h.port).abandon_win (s.tetherLd h.tether) w h.tether a gs
  refine ⟨_, congrArg Host.Outcome.next ((hrecv _).trans (if_pos hreplica)), ?_, ?_, ?_, htents⟩
  · exact congrArg Win.state hwin
  · exact congrArg Win.outcome hwin
  · exact congrArg Win.gseq hwin

theorem exec_tquery (w : Fin 64) (gs : Nat) : ∃ t : State, exec (.tquery h w gs) s = .next t ∧
    t.out = .lode h.port h.tether (.tqans w (s.holdsCommit (s.tetherLd h.tether) w gs) gs) :: s.out ∧ t.wp = s.wp := by
  have hexec : exec (.tquery h w gs) s = .next ((s.heard h.port).lodeSend h.port h.tether
      (.tqans w (s.holdsCommit (s.tetherLd h.tether) w gs) gs)) := congrArg Host.Outcome.next (hrecv _)
  exact ⟨_, hexec, rfl, rfl⟩

theorem exec_tqans_no (w : Fin 64) (gs : Nat) : ∃ t : State, exec (.tqans h w false gs) s = .next t ∧ t.wp = s.wp ∧ t.lds = s.lds := by
  have hexec : exec (.tqans h w false gs) s = .next (s.heard h.port) :=
    congrArg Host.Outcome.next ((hrecv _).trans (if_neg fun hyes => Bool.false_ne_true hyes.1))
  exact ⟨_, hexec, rfl, rfl⟩

theorem exec_tqans_yes {w : Fin 64} {gs : Nat} (hissued : (s.win (s.tetherLd h.tether) w).recIssued = true)
    (hgseq : (s.win (s.tetherLd h.tether) w).gseq = gs) (hlocal : (s.win (s.tetherLd h.tether) w).recLocal = false) : ∃ t : State,
    exec (.tqans h w true gs) s = .next t ∧ (t.win (s.tetherLd h.tether) w).recPartner = true ∧ t.wp = s.wp := by
  have hwin : ((s.heard h.port).modWin (s.tetherLd h.tether) w fun v => { v with recPartner := true }).win (s.tetherLd h.tether) w =
      { s.win (s.tetherLd h.tether) w with recPartner := true } := modWin_win ..
  have hheld : ((s.heard h.port).modWin (s.tetherLd h.tether) w fun v => { v with recPartner := true }).tryCommit (s.tetherLd h.tether) w false =
      (s.heard h.port).modWin (s.tetherLd h.tether) w fun v => { v with recPartner := true } := by
    refine if_neg fun hcommits => ?_
    rw [hwin] at hcommits
    exact Bool.false_ne_true (hlocal.symm.trans hcommits.2.2.1)
  have hexec : exec (.tqans h w true gs) s = .next ((s.heard h.port).modWin (s.tetherLd h.tether) w fun v => { v with recPartner := true }) :=
    congrArg Host.Outcome.next ((hrecv _).trans ((if_pos ⟨rfl, hissued, hgseq⟩).trans hheld))
  exact ⟨_, hexec, congrArg Win.recPartner hwin, rfl⟩

theorem exec_tconf (q : Nat) : exec (.tconf h [q]) s = .next ((s.heard h.port).confirm h.tether q) := congrArg Host.Outcome.next (hrecv _)

theorem exec_bitmap {f : Nat} {l : List Bool} (hprimary : (s.lo.tethers[h.tether]).replica = false)
    (hstate : (s.lo.tethers[h.tether]).state ≠ .inSync) : ∃ t : State, exec (.bitmap h f l) s = .next t ∧
    ∀ i, i < 960 → l[i]? = some true → f + i < s.tetherGrans h.tether → f + i ∈ (t.lo.tethers[h.tether]).bitmap := by
  have hprimary' : ¬(s.lo.tethers[h.tether]).replica = true := by rw [hprimary]; decide
  have hexec : exec (.bitmap h f l) s = .next _ := congrArg Host.Outcome.next ((hrecv _).trans (if_neg hprimary'))
  refine ⟨_, hexec, fun i hi hbit hg => ?_⟩
  extract_lets gs marked
  have hcore : (marked.lo.tethers[h.tether]).core = (s.lo.tethers[h.tether]).core :=
    State.tetherCore_of_loCore (foldl_setDirtyBit_loCore h.tether (fun _ g => g) gs (s.heard h.port)) h.tether
  have hsame : ¬((marked.lo.tethers[h.tether]).state = .inSync ∧ gs ≠ []) := fun hsync =>
    hstate ((congrArg Tether.state hcore :).symm.trans hsync.1)
  rw [if_neg hsame]
  refine foldl_setDirtyBit_bitmap (.inl (List.mem_filterMap.2 ⟨i, ?_, ?_⟩))
  · obtain ⟨hlen, -⟩ := List.getElem?_eq_some_iff.1 hbit
    exact List.mem_range.2 (Nat.lt_min.2 ⟨hi, hlen⟩)
  · exact if_pos ⟨by rw [List.getD_eq_getElem?_getD, hbit]; rfl, hg⟩

theorem exec_role (r : Bool) (e : Nat) : ∃ t : State, exec (.role h r e) s = .next t ∧ t.wp = s.wp ∧
    (t.lo.tethers[h.tether]).partnerReplica =
      if (s.lo.tethers[h.tether]).epoch ≤ e then r else (s.lo.tethers[h.tether]).partnerReplica := by
  have hexec : exec (.role h r e) s = .next ((s.heard h.port).modTether h.tether fun x =>
      { x with partnerReplica := if x.epoch ≤ e then r else x.partnerReplica }) := congrArg Host.Outcome.next (hrecv _)
  exact ⟨_, hexec, rfl, congrArg Tether.partnerReplica (modTether_tether ..)⟩

theorem exec_removed (hopen : (s.lo.tethers[h.tether]).state = .pairing ∨ (s.lo.tethers[h.tether]).state = .syncing ∨
    (s.lo.tethers[h.tether]).state = .inSync) : ∃ t : State, exec (.removed h) s = .next t ∧ (t.lo.tethers[h.tether]).state = .absent ∧
    (t.lo.tethers[h.tether]).removed = true := by
  have hexec : exec (.removed h) s =
      .next (((s.heard h.port).declareAbsent h.tether).modTether h.tether fun x => { x with removed := true }).portsIdle :=
    congrArg Host.Outcome.next (hrecv _)
  have hcore := State.declareAbsent_core (s := s.heard h.port) (k := h.tether) hopen
  generalize (s.heard h.port).declareAbsent h.tether = u at hexec hcore
  have htether : (u.modTether h.tether fun x => { x with removed := true }).portsIdle.lo.tethers[h.tether] =
      { u.lo.tethers[h.tether] with removed := true } :=
    (congrArg (fun v : Vector Tether 8 => v[h.tether]) (State.portsIdle_tethers _)).trans (modTether_tether ..)
  refine ⟨_, hexec, ?_, ?_⟩
  · rw [htether]
    exact (congrArg Tether.state hcore :)
  · rw [htether]

end

/-! ### Absence (R366) -/

theorem exec_partnerAbsentTimeout {s : State} {k : Fin 8}
    (hopen : (s.lo.tethers[k]).state = .pairing ∨ (s.lo.tethers[k]).state = .syncing ∨ (s.lo.tethers[k]).state = .inSync)
    (hwaits : (s.lo.tethers[k]).sent ≠ [] ∨ s.recWaits k = true ∨ s.tetherPort k = none) : ∃ t : State,
    exec (.partnerAbsentTimeout k) s = .next t ∧ (t.lo.tethers[k]).state = .absent := by
  have habsent (t0 : Nat) : (((s.since t0 (msTicks 20)).declareAbsent k).lo.tethers[k]).state = .absent :=
    (congrArg Tether.state (State.declareAbsent_core (s := s.since t0 (msTicks 20)) (k := k) hopen) :)
  show ∃ t : State, execPartnerAbsentTimeout k s = .next t ∧ _
  unfold execPartnerAbsentTimeout
  cases holdest : s.oldestSent k with
  | some t0 => exact ⟨_, rfl, habsent t0⟩
  | none =>
    have hsent : (s.lo.tethers[k]).sent = [] := List.map_eq_nil_iff.1 (List.min?_eq_none_iff.1 holdest)
    refine ⟨_, if_pos ((hwaits.resolve_left (not_not.2 hsent)).imp_right fun hport => ?_), habsent s.now⟩
    rw [hport]
    rfl

/-- Settles O58: each message's next state, from what mirroring, a commit, a confirmation, an absence and resync leave. -/
theorem tethersMirrorAndResync : Obligations.TethersMirrorAndResync := by
  unfold Obligations.TethersMirrorAndResync
  intro s h k x n
  refine ⟨fun hup hkeyed htag htakes => ?taken, exec_partnerAbsentTimeout, ?marked, fun hstate => if_pos hstate, fun hstate hdone => ?resynced,
    fun hstate hprimary hunsent hrs => ?waits⟩
  case taken =>
    have hrecv : ∀ f, s.tetherRecv h f = f (s.heard h.port) := fun f => State.tetherRecv_takes hup hkeyed htag htakes
    refine ⟨fun off w psn d hreplica hroom hsize => ⟨exec_twrite hrecv hreplica hroom hsize, exec_rsline hrecv hreplica hroom hsize⟩,
      fun g => exec_rsmark hrecv,
      fun w gs a b c hreplica => ⟨exec_tcommit hrecv hreplica, exec_tpoint hrecv hreplica, exec_tabort hrecv hreplica⟩,
      fun w gs => ⟨exec_tquery hrecv w gs, exec_tqans_no hrecv w gs, exec_tqans_yes hrecv⟩,
      fun q => ⟨fun l hl => ⟨_, exec_tconf hrecv q, State.confirm_resync (s := s.heard h.port) hl⟩,
        fun hnone hwin => ⟨_, exec_tconf hrecv q, State.confirm_write (s := s.heard h.port) hnone hwin⟩⟩,
      fun f l => exec_bitmap hrecv, exec_role hrecv, exec_removed hrecv (State.open_of_takes htakes)⟩
  case marked =>
    have hexec : exec .confirmedMark s = .next ((allFin 8).foldl State.markConfirmed s) := rfl
    exact ⟨_, hexec, fun j hstate hprimary m hmin => foldl_markConfirmed hstate hprimary hmin (.inl (List.mem_finRange j))⟩
  case resynced =>
    obtain ⟨u, hexec⟩ := exec_resyncGranule hstate hdone
    refine ⟨_, hexec, ?_⟩
    rw [State.resyncDone_tether]
    exact ⟨rfl, rfl, rfl, rfl⟩
  case waits =>
    have hprimary' : ¬x.replica = true := by rw [hprimary]; decide
    exact (if_neg (not_not.2 hstate)).trans ((if_neg hprimary').trans ((if_neg (not_not.2 hunsent)).trans (if_pos hrs)))

end Sys2Proof.Machine
end
